-- ==== Sys2Proof/Word.lean ====
section
/-!
DEFINITION. The plainest words of the model: bytes and strings of bytes (R7, R8 of 00_scope.md).
Multi-byte integers and cryptographic values are strings of bytes; how an integer is read from
one is in Machine/Bytes.lean.
-/

namespace Sys2Proof

/-- One byte. -/
abbrev Byte := BitVec 8

/-- A string of bytes, lowest offset first. -/
abbrev Bytes := List Byte

end Sys2Proof
end

