-- ==== Sys2Proof/Syntax.lean ====
section
/-!
DEFINITION. The commands of the block: one constructor per row of spec/opcode_table.json. An operand is what comes from
outside with the command: the mailbox it arrived on, the bytes of a message, a frame or a read, a level, a measurement.
Operands that the device's own state fixes are not repeated here.
-/

namespace Sys2Proof

/-- The four mailboxes; MB3 names the virtual function (Table 1.3). -/
inductive Port where
  | mb0 | mb1 | mb2
  | mb3 (fn : Nat)
deriving DecidableEq, Repr

/-- The masters that write registers: a PCIe function, APEX, FACET, or another internal master (R9, R20, R347, R522). -/
inductive Master where
  | host (fn : Nat)
  | apex | facet | other
deriving DecidableEq, Repr

/-- The two ways in which a descriptor opcode acts (Table 4.12): its fetched descriptor is checked at stages 1 and 2, and
later its admitted item does its work at stage 3. -/
inductive ItemPhase where
  /-- channel, submission ring, and the 128 bytes fetched from the ring -/
  | fetched (c ring : Nat) (desc : Bytes)
  /-- channel, fetch number of the item, the input bytes read (none where a read failed), and the resolved input and
  output segment lists where the item uses them (none where a list read failed) -/
  | work (c seq : Nat) (input inList outList : Option Bytes)
deriving DecidableEq, Repr

/-- A host frame on a protected bus: the bytes that follow its opcode, whether its clocks make whole bytes, and what the
flash drives for each data byte that the host clocks. -/
structure HostFrame where
  /-- bytes after the opcode: address, then data to write -/
  sent : Bytes
  /-- the clock count is a whole number of bytes -/
  whole : Bool
  /-- bytes that the flash drives while the host clocks data; as many as the host clocks -/
  data : Bytes
deriving DecidableEq, Repr

/-- The main rails as the on-die monitors find them, in mV (R43, R535). -/
structure Rails where
  /-- VDD_CORE -/
  core : Nat
  /-- VDD_SD -/
  sd : Nat
  /-- VDD_PLL -/
  pll : Nat
  /-- VDD_IO -/
  io : Nat
deriving DecidableEq, Repr

/-- The rails and the time at which the last of them comes into its window (R43). -/
structure RailEntry where
  /-- the rails then -/
  rails : Rails
  /-- ns since the command before it -/
  elapsed : Nat
deriving DecidableEq, Repr

/-- A loss of main power (R43, R535). -/
structure PowerLoss where
  /-- the rails that the monitors find -/
  rails : Rails
  /-- a cell supplies VBAT -/
  cell : Bool
deriving DecidableEq, Repr

/-- What a sample of the detectors is taken with (R427, Table 13.2): the time that has passed, and the rails that the glitch detectors compare. -/
structure Sample where
  /-- ns since the command before it -/
  elapsed : Nat
  /-- VDD_CORE in mV -/
  core : Nat
  /-- VDD_IO in mV -/
  io : Nat
deriving DecidableEq, Repr

/-- The tile clock that CLK_TILE or CANARY names in a sample (Table 13.2). -/
structure TileClock where
  /-- the tile -/
  tile : Nat
  /-- its clock in kHz -/
  khz : Nat
  /-- its PLL holds its lock -/
  locked : Bool
deriving DecidableEq, Repr

/-- A periodic measurement of a histogram's subject (Tables 15.5, 15.6). -/
structure Measured where
  /-- the value that the histogram counts -/
  value : Int
  /-- vertical margin in mV, of an EYE sample -/
  mv : Nat
deriving DecidableEq, Repr

/-- A command. -/
inductive Instr where
  /-- SYS_PWRGD_RISE (R43): SYS_PWRGD rises with every main rail in its monitor window, so main power becomes good and a cold GATE starts. -/
  | sysPwrgdRise (rails : Rails) (elapsed : Nat)
  /-- SYS_PWRGD_FALL (R548): SYS_PWRGD falls; within 10 µs the flash chip selects rise, PAIR_FENCE_OUT is released and the GPIOs stop being driven. -/
  | sysPwrgdFall (rails : Rails)
  /-- MAIN_POWER_LOST (R43): Main power stays lost for more than 2 µs, and the device enters SENTINEL on the cell or goes off. -/
  | mainPowerLost (loss : PowerLoss) (partLow : Nat) (partHigh : Nat)
  /-- DEVICE_RESET (R549): DEV_RST_N is held low for at least 1 µs, and the device enters a cold GATE from the boot ROM. -/
  | deviceReset
  /-- PLATFORM_RESET_REQUEST (R49): A falling edge on PLAT_RST_REQ_N holds every HOST output within 10 µs and enters a warm GATE. -/
  | platformResetRequest
  /-- PLL_LOCK_COMPLETE (R51): The PLLs lock on the 25 MHz reference, which ends step 1 of the cold GATE. -/
  | pllLockComplete (addrSel : Bool)
  /-- OTP_SENSE_COMPLETE (R452): OTP is sensed at both margins into the shadows, the critical wires become valid and the shadow integrity check is made. -/
  | otpSenseComplete (weak : List (Nat × Nat))
  /-- ROOT_VERTEX_RECONSTRUCTED (R182): The root vertex is rebuilt from the SRAM PUF and helper data and checked against the OTP check value, with one retry. -/
  | rootVertexReconstructed (value : Bytes) (corrected : Nat)
  /-- APEX_IMAGE_VERIFIED (R473): The boot ROM finishes verifying an Apex image slot, falling back to the other slot or holding in GATE on failure. -/
  | apexImageVerified (slot0 : Bytes) (slot1 : Bytes)
  /-- FACET_IMAGE_VERIFIED (R473): Apex finishes verifying a Facet image slot, then performs step 7 of the cold GATE or holds in GATE on failure. -/
  | facetImageVerified (slot0 : Bytes) (slot1 : Bytes)
  /-- UNIT_SELFTEST_DONE (R48): A unit's start-up known-answer test ends, putting the unit in service or taking it out and updating G_SELFTEST. -/
  | unitSelftestDone (unit : Nat) (pass : Bool)
  /-- REVOLUTION_BOUNDARY (R154): Device time reaches the start of sector 0 of a revolution. -/
  | revolutionBoundary
  /-- SECTOR_START (R161): A sector begins: the owner changes, budgets accrue and dealt sectors with no work are released. -/
  | sectorStart
  /-- RELEASE_DELAY_EXPIRE (R56): A release step's DELAY ends, and its outputs are driven to their released levels. -/
  | releaseDelayExpire
  /-- RELEASE_INPUT_STABLE (R57): The awaited input has held WAIT_LVL for 100 µs, so the release step completes. -/
  | releaseInputStable
  /-- RELEASE_TIMEOUT (R58): An awaited input misses its TIMEOUT, so the release attempt fails and the unwinding starts. -/
  | releaseTimeout
  /-- RELEASE_UNWIND_STEP (R58): One released output returns to its held level, 1 ms after the previous one. -/
  | releaseUnwindStep
  /-- RELEASE_RESTART (R58): After the 1 s wait the release sequence starts again, or after the third failure it holds with G_HELD set. -/
  | releaseRestart
  /-- RECOVER_DRAIN_END (R61): On entry to RECOVER by command, every admitted item has been released or 2 s have passed, and the HOST outputs are held. -/
  | recoverDrainEnd
  /-- MB_DOORBELL (R68): A write to MB_DOORBELL.REQ_LEN rings the mailbox doorbell or sets DB_IGNORED or LEN_ERR. -/
  | mbDoorbell (p : Port) (len : Nat)
  /-- MB_RESPONSE_READY (R69): The device writes a response, sets RSP_LEN and RSP_VALID, and raises the response interrupt source. -/
  | mbResponseReady (p : Port)
  /-- MB_RSP_ACK (R71): A write of 1 to MB_RSP_ACK.ACK releases the response buffer, sends the next fragment or ends the grant. -/
  | mbRspAck (p : Port)
  /-- MB_GRANT_REQUEST (R71): A virtual function queues for the shared MB3 buffers. -/
  | mbGrantRequest (fn : Nat)
  /-- MB_GRANT_RELEASE (R71): A virtual function gives up its MB3 grant. -/
  | mbGrantRelease (fn : Nat)
  /-- GRANT_DOORBELL_TIMEOUT (R71): A granted function rings no doorbell within 10 ms and loses its grant. -/
  | grantDoorbellTimeout
  /-- FRAGMENT_ACK_TIMEOUT (R71): A response fragment stays unacknowledged for 10 ms, so the grant is lost and the response is discarded. -/
  | fragmentAckTimeout
  /-- MB1_MCTP_MESSAGE (R72): An MCTP message arrives on target M and is taken as an Orfer message or dropped. -/
  | mb1MctpMessage (msg : Bytes)
  /-- I3C_PRIVATE_WRITE (R111): A private write to target F sets the address pointer and may write offset 0x1E. -/
  | i3cPrivateWrite (data : Bytes)
  /-- I3C_PRIVATE_READ (R110): A private read of target F latches fields, returns bytes and sets RD_OVERRUN past 0x7F. -/
  | i3cPrivateRead (len : Nat)
  /-- SESSION_OPEN (R80): Opens a session at the highest supported offered version. -/
  | sessionOpen (p : Port)
  /-- SESSION_CLOSE (R82): Closes the session, its notices, its administrative session, its transaction and its pending acts. -/
  | sessionClose (p : Port)
  /-- IDENTITY_QUERY (R86): Returns register file bytes 0x00 to 0x5F. -/
  | identityQuery (p : Port)
  /-- STATE_QUERY (R86): Returns the mode word and the last 8 MODE_CHANGE notices. -/
  | stateQuery (p : Port)
  /-- NOTICE_FETCH (R85): Returns queued notice records and clears DROPPED. -/
  | noticeFetch (p : Port)
  /-- CFG_BEGIN (R100): Opens the realm's configuration transaction and starts its 10 s timer. -/
  | cfgBegin (p : Port)
  /-- CFG_SET (R99): Stages entries in a transaction, or with TXN_ID 0 sets ungrouped fields at once. -/
  | cfgSet (p : Port)
  /-- CFG_GET (R555): Reads a field's current or staged value. -/
  | cfgGet (p : Port)
  /-- CFG_COMMIT (R102): Validates the transaction and proceeds, becomes an act, or is refused. -/
  | cfgCommit (p : Port)
  /-- CFG_ROLLBACK (R107): Rolls back the open transaction. -/
  | cfgRollback (p : Port)
  /-- CFG_STATUS (R86): Reports the state of the realm's transaction. -/
  | cfgStatus (p : Port)
  /-- TXN_TIMEOUT (R101): A transaction has not reached CFG_COMMIT within 10 s and is rolled back with TXN_ROLLED_BACK. -/
  | txnTimeout (realm : Nat)
  /-- ADMIN_OPEN (R94): Requests a class B act that opens an administrative session. -/
  | adminOpen (p : Port)
  /-- ADMIN_CLOSE (R96): Closes the administrative session from its bound Orfer session. -/
  | adminClose (p : Port)
  /-- OFFICER_SIGN (R92): Counts or refuses an officer signature on a pending act. -/
  | officerSign (p : Port)
  /-- ACT_STATUS (R92): Reports the state of one of the realm's 16 most recent acts. -/
  | actStatus (p : Port)
  /-- ACT_CANCEL (R92): Cancels an act that still awaits its quorum. -/
  | actCancel (p : Port)
  /-- OFFICER_ENROL (R88): Requests an act that enrols an officer in the realm's roster. -/
  | officerEnrol (p : Port)
  /-- OFFICER_REMOVE (R113): Requests an act that removes an officer, refused if it would leave N below a quorum. -/
  | officerRemove (p : Port)
  /-- OFFICER_LIST (R86): Returns the realm's roster as a class C act. -/
  | officerList (p : Port)
  /-- SESSION_TIMEOUT (R82): A session has had no request for 120 s and closes. -/
  | sessionTimeout (id : Nat)
  /-- QUORUM_TIMEOUT (R93): An act's quorum has not assembled within 300 s, so the act is cancelled with ST_QUORUM_TIMEOUT. -/
  | quorumTimeout (realm : Nat)
  /-- ADMIN_SESSION_TIMEOUT (R96): An administrative session has had no act for 900 s and closes. -/
  | adminSessionTimeout (realm : Nat)
  /-- SQ_TAIL_DOORBELL (R124): A write to SQ_DB.TAIL records a new submission tail and issues a fetch, or is refused. -/
  | sqTailDoorbell (fn : Nat) (c : Nat) (ring : Nat) (value : Nat)
  /-- CQ_HEAD_DOORBELL (R125): A write to CQ_DB moves the completion head, returns credits and may arm the interrupt. -/
  | cqHeadDoorbell (fn : Nat) (c : Nat) (value : Nat)
  /-- FN_TIME_LO_READ (R120): A read of FN_TIME.LO returns the low word of device time and latches FN_TIME.HI. -/
  | fnTimeLoRead (fn : Nat)
  /-- REGISTER_WRITE (R9): A write to a register field with no row of its own acts by its access type. -/
  | registerWrite (who : Master) (addr : Nat) (data : Bytes)
  /-- DESCRIPTOR_UNDEFINED_OPCODE (R140): A fetched descriptor whose opcode is in no valid group or is undefined is refused at stage 1. -/
  | descriptorUndefinedOpcode (c : Nat) (ring : Nat) (desc : Bytes)
  /-- DESCRIPTOR_FETCH_FAILED (R149): A descriptor fetch fails and the ring halts. -/
  | descriptorFetchFailed (c : Nat) (ring : Nat)
  /-- KEY_BLOB_HEADER_READ (R209): A key blob's 48-byte header arrives and is checked at stage b. -/
  | keyBlobHeaderRead (c : Nat) (tag : Nat) (data : Option Bytes)
  /-- KEY_BLOB_LOADED (R209): The rest of a key blob arrives, is unwrapped and checked, and enters the key cache. -/
  | keyBlobLoaded (c : Nat) (tag : Nat) (data : Option Bytes)
  /-- ANCHOR (R175): An anchor of a channel and class is reached, and decoded items are admitted while the test passes. -/
  | anchor (c : Nat) (miss : Bool)
  /-- KEY_CHECK_INSTANT (R198): A missed key's check instant, admission plus 28,672 ns, is reached and its generation and attributes are judged. -/
  | keyCheckInstant (c : Nat)
  /-- ITEM_RELEASE (R32): An item's release time is reached, and its output and then its completion record are written. -/
  | itemRelease (c : Nat)
  /-- CQ_MOD_TIMER_EXPIRE (R141): The moderation timer of a completion ring reaches CQ_MOD_TIMER and raises the vector. -/
  | cqModTimerExpire (c : Nat)
  /-- OUTPUT_WRITE_FAILED (R150): An output write fails and the item completes with ST_DMA. -/
  | outputWriteFailed (c : Nat) (written : Nat)
  /-- COMPLETION_WRITE_FAILED (R150): A completion record write fails and the channel halts. -/
  | completionWriteFailed (c : Nat)
  /-- BUS_MASTER_ENABLE_CLEAR (R151): A function's Bus Master Enable is cleared, which stops fetches and fails writes for its channels. -/
  | busMasterEnableClear (fn : Nat)
  /-- FUNCTION_LEVEL_RESET (R152): A function-level reset stops fetching, discards outputs and resets ring state. -/
  | functionLevelReset (fn : Nat)
  /-- PCIE_LINK_DOWN (R153): The PCIe link goes down, or PERST_N falls, acting as a function-level reset of every function. -/
  | pcieLinkDown (perst : Bool)
  /-- PERST_RISE (R547): PERST_N rises, and the host tile becomes ready for link training 10 ms later. -/
  | perstRise
  /-- PCIE_LINK_TRAINED (R542): The PCIe link trains to a width and speed that sets which opcode groups are served. -/
  | pcieLinkTrained (width : Nat) (speed : Nat)
  /-- PIN_TRANSLATE (R238): Translates a PIN block between formats and keys. -/
  | pinTranslate (ph : ItemPhase)
  /-- PIN_TRANSLATE_TDUKPT (R238): Translates a PIN block under a TDES DUKPT PIN key. -/
  | pinTranslateTdukpt (ph : ItemPhase)
  /-- PIN_TRANSLATE_ADUKPT (R238): Translates a PIN block under an AES DUKPT PIN key. -/
  | pinTranslateAdukpt (ph : ItemPhase)
  /-- PIN_VERIFY_3624 (R239): Verifies a PIN by the IBM 3624 method. -/
  | pinVerify3624 (ph : ItemPhase)
  /-- PIN_VERIFY_3624_TDUKPT (R239): IBM 3624 verification with a TDES DUKPT inbound key. -/
  | pinVerify3624Tdukpt (ph : ItemPhase)
  /-- PIN_VERIFY_3624_ADUKPT (R239): IBM 3624 verification with an AES DUKPT inbound key. -/
  | pinVerify3624Adukpt (ph : ItemPhase)
  /-- PIN_VERIFY_PVV (R240): Verifies a PIN by PVV. -/
  | pinVerifyPvv (ph : ItemPhase)
  /-- PIN_VERIFY_PVV_TDUKPT (R240): PVV verification with a TDES DUKPT inbound key. -/
  | pinVerifyPvvTdukpt (ph : ItemPhase)
  /-- PIN_VERIFY_PVV_ADUKPT (R240): PVV verification with an AES DUKPT inbound key. -/
  | pinVerifyPvvAdukpt (ph : ItemPhase)
  /-- MAC_GENERATE_ALG1 (R250): Generates an ISO 9797-1 algorithm 1 MAC. -/
  | macGenerateAlg1 (ph : ItemPhase)
  /-- MAC_VERIFY_ALG1 (R252): Verifies an ISO 9797-1 algorithm 1 MAC. -/
  | macVerifyAlg1 (ph : ItemPhase)
  /-- MAC_GENERATE_ALG3 (R250): Generates a retail MAC. -/
  | macGenerateAlg3 (ph : ItemPhase)
  /-- MAC_VERIFY_ALG3 (R252): Verifies a retail MAC. -/
  | macVerifyAlg3 (ph : ItemPhase)
  /-- MAC_GENERATE_CMAC (R250): Generates an AES-CMAC. -/
  | macGenerateCmac (ph : ItemPhase)
  /-- MAC_VERIFY_CMAC (R252): Verifies an AES-CMAC. -/
  | macVerifyCmac (ph : ItemPhase)
  /-- MAC_GENERATE_ALG3_TDUKPT (R250): Generates a retail MAC under a TDES DUKPT key. -/
  | macGenerateAlg3Tdukpt (ph : ItemPhase)
  /-- MAC_VERIFY_ALG3_TDUKPT (R252): Verifies a retail MAC under a TDES DUKPT key. -/
  | macVerifyAlg3Tdukpt (ph : ItemPhase)
  /-- MAC_GENERATE_CMAC_ADUKPT (R250): Generates an AES-CMAC under an AES DUKPT key. -/
  | macGenerateCmacAdukpt (ph : ItemPhase)
  /-- MAC_VERIFY_CMAC_ADUKPT (R252): Verifies an AES-CMAC under an AES DUKPT key. -/
  | macVerifyCmacAdukpt (ph : ItemPhase)
  /-- ARQC_VERIFY (R256): Verifies a card cryptogram and optionally writes an ARPC. -/
  | arqcVerify (ph : ItemPhase)
  /-- ARQC_GENERATE (R256): Generates a card cryptogram. -/
  | arqcGenerate (ph : ItemPhase)
  /-- CVV_GENERATE (R260): Generates a card verification value. -/
  | cvvGenerate (ph : ItemPhase)
  /-- CVV_VERIFY (R260): Verifies a card verification value. -/
  | cvvVerify (ph : ItemPhase)
  /-- DUKPT_IK_DERIVE (R248): Derives a terminal's DUKPT initial key as a blob. -/
  | dukptIkDerive (ph : ItemPhase)
  /-- EMV_ICC_DERIVE (R258): Derives a card master key as a blob. -/
  | emvIccDerive (ph : ItemPhase)
  /-- DUKPT_DATA_TDES (R249): Encrypts or decrypts data under a TDES DUKPT data key. -/
  | dukptDataTdes (ph : ItemPhase)
  /-- DUKPT_DATA_AES (R249): Encrypts or decrypts data under an AES DUKPT data key. -/
  | dukptDataAes (ph : ItemPhase)
  /-- AES_ECB (R271): AES in ECB mode. -/
  | aesEcb (ph : ItemPhase)
  /-- AES_CBC_ENCRYPT (R271): AES-CBC encryption. -/
  | aesCbcEncrypt (ph : ItemPhase)
  /-- AES_CBC_DECRYPT (R271): AES-CBC decryption. -/
  | aesCbcDecrypt (ph : ItemPhase)
  /-- AES_CTR (R275): AES in CTR mode. -/
  | aesCtr (ph : ItemPhase)
  /-- AES_CFB_ENCRYPT (R271): AES-CFB128 encryption. -/
  | aesCfbEncrypt (ph : ItemPhase)
  /-- AES_CFB_DECRYPT (R271): AES-CFB128 decryption. -/
  | aesCfbDecrypt (ph : ItemPhase)
  /-- AES_OFB (R271): AES in OFB mode. -/
  | aesOfb (ph : ItemPhase)
  /-- AES_XTS (R275): XTS-AES. -/
  | aesXts (ph : ItemPhase)
  /-- AES_GCM_ENCRYPT (R271): AES-GCM encryption producing C and T. -/
  | aesGcmEncrypt (ph : ItemPhase)
  /-- AES_GCM_DECRYPT (R284): AES-GCM decryption held until the tag verifies. -/
  | aesGcmDecrypt (ph : ItemPhase)
  /-- AES_GCM_DECRYPT_RBV (R285): AES-GCM decryption releasing plaintext before the tag check and holding the final segment. -/
  | aesGcmDecryptRbv (ph : ItemPhase)
  /-- TDES_ECB (R271): TDES in ECB mode. -/
  | tdesEcb (ph : ItemPhase)
  /-- TDES_CBC_ENCRYPT (R271): TDES-CBC encryption. -/
  | tdesCbcEncrypt (ph : ItemPhase)
  /-- TDES_CBC_DECRYPT (R271): TDES-CBC decryption. -/
  | tdesCbcDecrypt (ph : ItemPhase)
  /-- SHA256 (R292): SHA-256 digest of host data. -/
  | sha256 (ph : ItemPhase)
  /-- SHA384 (R292): SHA-384 digest of host data. -/
  | sha384 (ph : ItemPhase)
  /-- SHA512 (R292): SHA-512 digest of host data. -/
  | sha512 (ph : ItemPhase)
  /-- HMAC_SHA256_GENERATE (R294): Generates an HMAC-SHA-256. -/
  | hmacSha256Generate (ph : ItemPhase)
  /-- HMAC_SHA256_VERIFY (R294): Verifies an HMAC-SHA-256. -/
  | hmacSha256Verify (ph : ItemPhase)
  /-- DIGEST_FEED_SILENCE (R291): No beat reaches a hash lane for 1 ms, so the item ends with ST_LEN_SHORT. -/
  | digestFeedSilence (c : Nat) (item : Nat) (received : Nat)
  /-- ECDSA_P256_SIGN (R312): Signs a digest with ECDSA P-256 and verifies the signature before release. -/
  | ecdsaP256Sign (ph : ItemPhase)
  /-- ECDSA_P256_VERIFY (R322): Verifies an ECDSA P-256 signature. -/
  | ecdsaP256Verify (ph : ItemPhase)
  /-- ECDSA_P384_SIGN (R312): Signs a digest with ECDSA P-384 and verifies the signature before release. -/
  | ecdsaP384Sign (ph : ItemPhase)
  /-- ECDSA_P384_VERIFY (R322): Verifies an ECDSA P-384 signature. -/
  | ecdsaP384Verify (ph : ItemPhase)
  /-- ECDH_DERIVE (R307): Performs ECDH and writes the derived key as a blob. -/
  | ecdhDerive (ph : ItemPhase)
  /-- MLKEM_ENCAPS (R307): ML-KEM-768 encapsulation producing a ciphertext and a key blob. -/
  | mlkemEncaps (ph : ItemPhase)
  /-- MLKEM_DECAPS (R307): ML-KEM-768 decapsulation with implicit rejection, producing a key blob. -/
  | mlkemDecaps (ph : ItemPhase)
  /-- RSA_SIGN (R311): Blinded, verified RSA signature generation. -/
  | rsaSign (ph : ItemPhase)
  /-- RSA_PUBLIC (R320): RSA signature verification or raw public exponentiation. -/
  | rsaPublic (ph : ItemPhase)
  /-- SLH128S_SIGN (R313): SLH-DSA-SHA2-128s signing using the top-tree table. -/
  | slh128sSign (ph : ItemPhase)
  /-- SLH128F_SIGN (R313): SLH-DSA-SHA2-128f signing using the top-tree table. -/
  | slh128fSign (ph : ItemPhase)
  /-- SLH256S_SIGN (R313): SLH-DSA-SHA2-256s signing using the top-tree table. -/
  | slh256sSign (ph : ItemPhase)
  /-- SLH128S_VERIFY (R321): SLH-DSA-SHA2-128s verification. -/
  | slh128sVerify (ph : ItemPhase)
  /-- SLH128F_VERIFY (R321): SLH-DSA-SHA2-128f verification. -/
  | slh128fVerify (ph : ItemPhase)
  /-- SLH256S_VERIFY (R321): SLH-DSA-SHA2-256s verification. -/
  | slh256sVerify (ph : ItemPhase)
  /-- SLH_TOP_TREE (R313): Computes an SLH-DSA key's top-tree table. -/
  | slhTopTree (ph : ItemPhase)
  /-- KEY_GENERATE (R214): Generates a symmetric key blob and its KCV. -/
  | keyGenerate (ph : ItemPhase)
  /-- KEY_GENERATE_PAIR (R215): Generates an asymmetric key pair blob and its public key. -/
  | keyGeneratePair (ph : ItemPhase)
  /-- KEY_REWRAP (R214): Rewraps a blob to the staged parent or to the DOMAIN slot. -/
  | keyRewrap (ph : ItemPhase)
  /-- KEY_EXPORT_KB (R217): Exports a key as an X9.143 key block. -/
  | keyExportKb (ph : ItemPhase)
  /-- KEY_IMPORT_KB (R216): Imports an X9.143 key block as a blob. -/
  | keyImportKb (ph : ItemPhase)
  /-- KEY_IMPORT_TR34 (R218): Imports a key from a TR-34 token. -/
  | keyImportTr34 (ph : ItemPhase)
  /-- KEY_EXPORT_TR34 (R218): Exports a key in a TR-34 token. -/
  | keyExportTr34 (ph : ItemPhase)
  /-- KEY_CHECK (R212): Returns a key's KCV. -/
  | keyCheck (ph : ItemPhase)
  /-- LEGACY_IMPORT (R219): Imports a TDES-encrypted key under a legacy slot as a blob. -/
  | legacyImport (ph : ItemPhase)
  /-- VAULT_STATUS (R192): Reports a channel's vault slots and staged keys. -/
  | vaultStatus (p : Port)
  /-- KEY_TRANSPORT_OPEN (R192): Creates the realm's ML-KEM transport key for the administrative session. -/
  | keyTransportOpen (p : Port)
  /-- ROOT_STAGE (R195): Requests an act that stages a generated or component root key. -/
  | rootStage (p : Port)
  /-- ROOT_SWAP (R197): Requests an act that swaps a staged key into its slot. -/
  | rootSwap (p : Port)
  /-- ROOT_UNSTAGE (R196): Requests an act that discards a staged key. -/
  | rootUnstage (p : Port)
  /-- ROOT_INVALIDATE (R189): Requests an act that raises a slot's generation. -/
  | rootInvalidate (p : Port)
  /-- ROOT_ERASE (R189): Requests an act that erases a slot. -/
  | rootErase (p : Port)
  /-- KEY_ATTEST (R220): Signs a key attestation statement for a generated, non-exportable key. -/
  | keyAttest (p : Port)
  /-- CACHE_FLUSH (R192): Evicts a channel's key cache entries. -/
  | cacheFlush (p : Port)
  /-- KEY_GENERATE_RSA (R219): Generates an RSA key pair as channel-0 work. -/
  | keyGenerateRsa (p : Port)
  /-- PEER_KEY_LOAD (R218): Requests an act that loads a peer public key blob under the DOMAIN slot. -/
  | peerKeyLoad (p : Port)
  /-- HOST_CS_FALL (R343): A host chip select falls on a bus, and any device burst on the flash side ends within 20 ns. -/
  | hostCsFall (bus : Nat) (cs : Nat)
  /-- READ (R333): Host READ frame, passed through and filtered. -/
  | spiRead (bus : Nat) (opcode : Nat) (f : HostFrame)
  /-- READ_4BYTE (R333): Host READ 4-BYTE frame. -/
  | spiRead4byte (bus : Nat) (opcode : Nat) (f : HostFrame)
  /-- FAST_READ (R333): Host FAST READ frame, re-timed and filtered. -/
  | spiFastRead (bus : Nat) (opcode : Nat) (f : HostFrame)
  /-- DUAL_OUTPUT_READ (R333): Host DUAL OUTPUT READ frame. -/
  | spiDualOutputRead (bus : Nat) (opcode : Nat) (f : HostFrame)
  /-- DUAL_IO_READ (R333): Host DUAL I/O READ frame. -/
  | spiDualIoRead (bus : Nat) (opcode : Nat) (f : HostFrame)
  /-- QUAD_OUTPUT_READ (R333): Host QUAD OUTPUT READ frame. -/
  | spiQuadOutputRead (bus : Nat) (opcode : Nat) (f : HostFrame)
  /-- QUAD_IO_READ (R333): Host QUAD I/O READ frame. -/
  | spiQuadIoRead (bus : Nat) (opcode : Nat) (f : HostFrame)
  /-- READ_ID (R334): Host READ ID frame, passed through. -/
  | spiReadId (bus : Nat) (opcode : Nat) (f : HostFrame)
  /-- READ_SFDP (R336): Host READ SFDP frame, answered from the adjusted SFDP image. -/
  | spiReadSfdp (bus : Nat) (opcode : Nat) (f : HostFrame)
  /-- READ_STATUS_1 (R339): Host READ STATUS 1, answered from the shadows. -/
  | spiReadStatus1 (bus : Nat) (opcode : Nat) (f : HostFrame)
  /-- READ_STATUS_2 (R339): Host READ STATUS 2, answered from the shadows. -/
  | spiReadStatus2 (bus : Nat) (opcode : Nat) (f : HostFrame)
  /-- READ_FLAG_STATUS (R339): Host READ FLAG STATUS, answered from the shadows. -/
  | spiReadFlagStatus (bus : Nat) (opcode : Nat) (f : HostFrame)
  /-- WRITE_ENABLE (R338): Host WRITE ENABLE frame setting shadow WEL. -/
  | spiWriteEnable (bus : Nat) (opcode : Nat) (f : HostFrame)
  /-- WRITE_DISABLE (R338): Host WRITE DISABLE frame clearing shadow WEL. -/
  | spiWriteDisable (bus : Nat) (opcode : Nat) (f : HostFrame)
  /-- PAGE_PROGRAM (R337): Host PAGE PROGRAM frame, buffered, checked and executed. -/
  | spiPageProgram (bus : Nat) (opcode : Nat) (f : HostFrame)
  /-- QUAD_PAGE_PROGRAM (R337): Host QUAD PAGE PROGRAM frame, buffered, checked and executed. -/
  | spiQuadPageProgram (bus : Nat) (opcode : Nat) (f : HostFrame)
  /-- SECTOR_ERASE (R337): Host 4 KiB SECTOR ERASE frame. -/
  | spiSectorErase (bus : Nat) (opcode : Nat) (f : HostFrame)
  /-- BLOCK_ERASE_32K (R337): Host 32 KiB BLOCK ERASE frame. -/
  | spiBlockErase32k (bus : Nat) (opcode : Nat) (f : HostFrame)
  /-- BLOCK_ERASE_64K (R337): Host 64 KiB BLOCK ERASE frame. -/
  | spiBlockErase64k (bus : Nat) (opcode : Nat) (f : HostFrame)
  /-- CHIP_ERASE (R337): Host CHIP ERASE frame. -/
  | spiChipErase (bus : Nat) (opcode : Nat) (f : HostFrame)
  /-- WRITE_STATUS_1 (R337): Host WRITE STATUS 1 frame. -/
  | spiWriteStatus1 (bus : Nat) (opcode : Nat) (f : HostFrame)
  /-- WRITE_STATUS_2 (R337): Host WRITE STATUS 2 frame. -/
  | spiWriteStatus2 (bus : Nat) (opcode : Nat) (f : HostFrame)
  /-- ENTER_4BYTE_MODE (R338): Host frame entering shadow 4-byte address mode. -/
  | spiEnter4byteMode (bus : Nat) (opcode : Nat) (f : HostFrame)
  /-- EXIT_4BYTE_MODE (R338): Host frame leaving shadow 4-byte address mode. -/
  | spiExit4byteMode (bus : Nat) (opcode : Nat) (f : HostFrame)
  /-- RESET_ENABLE (R338): Host RESET ENABLE frame. -/
  | spiResetEnable (bus : Nat) (opcode : Nat) (f : HostFrame)
  /-- RESET (R338): Host RESET frame, run after RESET ENABLE and forwarded to the flash. -/
  | spiReset (bus : Nat) (opcode : Nat) (f : HostFrame)
  /-- CLEAR_FLAG_STATUS (R339): Host CLEAR FLAG STATUS frame clearing the shadow error bits. -/
  | spiClearFlagStatus (bus : Nat) (opcode : Nat) (f : HostFrame)
  /-- DENIED_OPCODE_FRAME (R331): A host frame with an opcode of class DENY is refused. -/
  | deniedOpcodeFrame (bus : Nat) (opcode : Nat) (f : HostFrame)
  /-- MB2_READ (R344): Reads the MB2 window over bus A. -/
  | mb2Read (off : Nat) (len : Nat)
  /-- MB2_WRITE (R344): Writes the MB2 window over bus A as ascending 32-bit writes. -/
  | mb2Write (off : Nat) (data : Bytes)
  /-- FLASH_STATUS_POLL (R338): The 10 µs poll of flash status finds WIP clear and ends the operation, updating the shadows. -/
  | flashStatusPoll (bus : Nat) (cs : Nat) (sr1 : Nat) (sr2 : Nat)
  /-- FLASH_OPERATION_TIMEOUT (R338): A flash program, erase or status write exceeds its timeout and is recorded as ST_FLASH_TIMEOUT. -/
  | flashOperationTimeout (bus : Nat) (cs : Nat)
  /-- PF_WINDOW_WRITE (R346): A write to the private-flash window is gathered into a page. -/
  | pfWindowWrite (who : Master) (addr : Nat) (data : Bytes)
  /-- PF_GATHER_TIMEOUT (R346): 1 µs passes without a window write, so the gathered page is programmed. -/
  | pfGatherTimeout
  /-- PF_STALL_TIMEOUT (R346): A window access stalls for more than 10 ms, ending with a bus error and setting TIMEOUT. -/
  | pfStallTimeout
  /-- PF_ERASE_GO (R347): A write to PF_ERASE.GO starts a private-flash erase. -/
  | pfEraseGo (who : Master)
  /-- PF_ERASE_DONE (R347): A private-flash erase ends, or times out after 4 s. -/
  | pfEraseDone (pass : Bool)
  /-- PF_LOCK_WRITE (R347): APEX sets PF_LOCK.LOCK, freezing the write-protect ranges until the next cold GATE. -/
  | pfLockWrite (who : Master)
  /-- REGION_DIGEST_COMPLETE (R350): A region's digest from the flash feed completes and is compared. -/
  | regionDigestComplete (bus : Nat) (region : Nat) (digest : Bytes)
  /-- RESTORE_AREA_DONE (R356): An area restored in RECOVER is read back, retried once, or ends RECOVER. -/
  | restoreAreaDone (bus : Nat) (status : Nat)
  /-- PLAT_STATUS (R358): Reports each bus's verification and golden state. -/
  | platStatus (p : Port)
  /-- PLAT_VERIFY (R357): Starts verification of the named buses. -/
  | platVerify (p : Port)
  /-- PLAT_RESET (R49): Orfer platform reset request entering a warm GATE. -/
  | platReset (p : Port)
  /-- PLAT_RECOVER (R357): Requests an act that restores the named buses from their golden sets. -/
  | platRecover (p : Port)
  /-- PLAT_RELEASE_RETRY (R59): Retries a held release sequence. -/
  | platReleaseRetry (p : Port)
  /-- PLAT_GOLDEN_CAPTURE (R354): Requests an act that captures a bus's golden set. -/
  | platGoldenCapture (p : Port)
  /-- PLAT_SVN_ADVANCE (R351): Requests an act that raises a bus's recorded SVN. -/
  | platSvnAdvance (p : Port)
  /-- PLAT_DENIALS (R358): Returns a bus's denial counts and last denied frames. -/
  | platDenials (p : Port)
  /-- PLAT_MANIFEST_READ (R358): Returns a verified or golden manifest. -/
  | platManifestRead (p : Port)
  /-- ID_CERT_READ (R364): Reads bytes of a certificate slot. -/
  | idCertRead (p : Port)
  /-- ID_CERT_WRITE (R364): Requests an act that writes a certificate chain to slots 1 to 7. -/
  | idCertWrite (p : Port)
  /-- ATTEST_REPORT (R369): Returns a signed attestation report for the realm. -/
  | attestReport (p : Port)
  /-- GET_VERSION (R366): SPDM GET_VERSION, which also resets the connection. -/
  | spdmGetVersion (p : Port)
  /-- GET_CAPABILITIES (R367): SPDM GET_CAPABILITIES. -/
  | spdmGetCapabilities (p : Port)
  /-- NEGOTIATE_ALGORITHMS (R367): SPDM NEGOTIATE_ALGORITHMS. -/
  | spdmNegotiateAlgorithms (p : Port)
  /-- GET_DIGESTS (R367): SPDM GET_DIGESTS. -/
  | spdmGetDigests (p : Port)
  /-- GET_CERTIFICATE (R367): SPDM GET_CERTIFICATE. -/
  | spdmGetCertificate (p : Port)
  /-- CHALLENGE (R367): SPDM CHALLENGE. -/
  | spdmChallenge (p : Port)
  /-- GET_MEASUREMENTS (R368): SPDM GET_MEASUREMENTS. -/
  | spdmGetMeasurements (p : Port)
  /-- SPDM_UNSUPPORTED_REQUEST (R367): Any other SPDM request is answered with ERROR UnsupportedRequest. -/
  | spdmUnsupportedRequest (p : Port)
  /-- APEX_SIGNATURE_COMPLETE (R363): Apex finishes one queued SLH-DSA signature and starts the next. -/
  | apexSignatureComplete
  /-- DOMAIN_STATUS (R373): Reports domain membership and epoch. -/
  | domainStatus (p : Port)
  /-- DOMAIN_CARD (R373): Returns the member card, and the partner's on a paired device. -/
  | domainCard (p : Port)
  /-- DOMAIN_CREATE (R374): Requests an act that creates a key domain. -/
  | domainCreate (p : Port)
  /-- DOMAIN_JOIN_REQUEST (R375): Requests an act that opens a join ticket and outputs cards and a join report. -/
  | domainJoinRequest (p : Port)
  /-- DOMAIN_ADMIT (R375): Requests an act that admits joiners to a new roster with packages. -/
  | domainAdmit (p : Port)
  /-- DOMAIN_ACCEPT (R375): Checks and loads the domain keys at the joiner. -/
  | domainAccept (p : Port)
  /-- DOMAIN_ROSTER_UPDATE (R377): Accepts a newer roster, leaving the domain if absent from it. -/
  | domainRosterUpdate (p : Port)
  /-- DOMAIN_ROLL (R376): Requests an act that stages a new epoch and may remove members. -/
  | domainRoll (p : Port)
  /-- DOMAIN_PACKAGE_FETCH (R376): Returns a package for the staged epoch. -/
  | domainPackageFetch (p : Port)
  /-- DOMAIN_PACKAGE_LOAD (R376): Stages a rolled epoch's keys at a member. -/
  | domainPackageLoad (p : Port)
  /-- DOMAIN_ACTIVATE (R376): Swaps the staged domain keys in under an activation statement. -/
  | domainActivate (p : Port)
  /-- DOMAIN_LEAVE (R377): Requests an act that leaves the domain and erases the DOMAIN slots. -/
  | domainLeave (p : Port)
  /-- DOMAIN_REPORT (R379): Issues a domain notice reported by the host. -/
  | domainReport (p : Port)
  /-- DOMAIN_NOTICE_FETCH (R379): Returns queued outgoing domain notices. -/
  | domainNoticeFetch (p : Port)
  /-- DOMAIN_NOTICE_IN (R380): Accepts or drops incoming domain notices into the coalescing table. -/
  | domainNoticeIn (p : Port)
  /-- DOMAIN_FAULTS (R381): Returns fault summaries. -/
  | domainFaults (p : Port)
  /-- DOMAIN_RESULT_READ (R373): Reads part of an act's output. -/
  | domainResultRead (p : Port)
  /-- COALESCE_ENTRY_CLOSE (R381): A coalescing entry closes 1 s after opening, writing a summary and sending DOMAIN_FAULT. -/
  | coalesceEntryClose
  /-- JOIN_TICKET_EXPIRE (R375): A join ticket closes 3,600 s after opening. -/
  | joinTicketExpire
  /-- ACT_OUTPUT_EXPIRE (R373): An act's output is discarded 3,600 s after ACT_DONE. -/
  | actOutputExpire (realm : Nat)
  /-- LINK_TRAINED (R391): The Chord lanes complete recovery, adaptation, block lock and deskew. -/
  | linkTrained (lanes : Nat) (margins : List (Nat × Nat))
  /-- LANE_RETRAIN (R392): A Chord lane falls below its margin or loses block lock and retrains. -/
  | laneRetrain (lane : Nat)
  /-- HELLO (R393): HELLO frame checking version, role and partner and deriving session keys. -/
  | chordHello (frame : Bytes)
  /-- BEAT (R404): BEAT frame carrying MSEQ, state and channel checkpoints. -/
  | chordBeat (frame : Bytes)
  /-- ADMIT (R396): ADMIT frame adding ledger entries at the partner. -/
  | chordAdmit (frame : Bytes)
  /-- REL (R396): REL frame retiring ledger entries. -/
  | chordRel (frame : Bytes)
  /-- ACK (R397): ACK frame acknowledging frames, which lets held records be written. -/
  | chordAck (frame : Bytes)
  /-- PREPARE (R399): PREPARE frame storing a change as prepared. -/
  | chordPrepare (frame : Bytes)
  /-- READY (R399): READY frame confirming a prepared change, answered with COMMIT. -/
  | chordReady (frame : Bytes)
  /-- COMMIT (R399): COMMIT frame naming T for a prepared change. -/
  | chordCommit (frame : Bytes)
  /-- COMMIT_ACK (R399): COMMIT_ACK frame letting the originator apply at T. -/
  | chordCommitAck (frame : Bytes)
  /-- NACK (R399): NACK frame reporting a partner's failure. -/
  | chordNack (frame : Bytes)
  /-- ABORT (R399): ABORT frame discarding a prepared change. -/
  | chordAbort (frame : Bytes)
  /-- RESOLVE (R400): RESOLVE frame settling an exchange in doubt. -/
  | chordResolve (frame : Bytes)
  /-- SYNC (R413): SYNC frame carrying resynchronisation records. -/
  | chordSync (frame : Bytes)
  /-- FENCE_TEST (R407): FENCE_TEST frame reporting a fence pulse seen. -/
  | chordFenceTest (frame : Bytes)
  /-- READY_TIMEOUT (R399): No READY arrives within 5 ms of PREPARE, so ABORT is sent with ST_MIRROR_FAIL. -/
  | readyTimeout
  /-- COMMIT_WAIT_TIMEOUT (R399): No COMMIT arrives within 5 ms of READY, so the partner discards the change. -/
  | commitWaitTimeout
  /-- HEARTBEAT_WINDOW (R404): A 64,000 ns heartbeat window starts, a BEAT is sent and a missed window is counted. -/
  | heartbeatWindow
  /-- PAIR_DEADLINE (R405): A member's deadline is reached, and it samples PAIR_FENCE_IN and fences its partner if the input is low. -/
  | pairDeadline (reads : List (Nat × Bytes))
  /-- FENCE_IN_ASSERTED (R406): PAIR_FENCE_IN held high for 4 µs fences the device. -/
  | fenceInAsserted
  /-- FENCE_IN_RELEASED (R406): PAIR_FENCE_IN falls and the device leaves FENCED. -/
  | fenceInReleased
  /-- FENCE_TEST_PULSE (R407): The once-a-second 1 µs pulse is driven on PAIR_FENCE_OUT and the missed reports are checked. -/
  | fenceTestPulse
  /-- TIME_STEP (R394): Member 1, once it holds no admitted item, steps its device time to member 0's. -/
  | timeStep
  /-- RESYNC_COMPLETE (R413): Resynchronisation is applied as one commit and both members read PAIRED. -/
  | resyncComplete
  /-- PAIR_STATUS (R415): Reports the pair state. -/
  | pairStatus (p : Port)
  /-- PAIR_BIND (R388): Requests an act that binds as member 0 and outputs the pair package. -/
  | pairBind (p : Port)
  /-- PAIR_ACCEPT (R388): Requests an act that binds as member 1 from the package. -/
  | pairAccept (p : Port)
  /-- PAIR_UNBIND (R389): Requests an act that erases the LINK slot and unpairs. -/
  | pairUnbind (p : Port)
  /-- PAIR_TAKEOVER (R405): Requests an act that fences the partner at once. -/
  | pairTakeover (p : Port)
  /-- PAIR_UNFENCE (R415): Requests an act that lowers this member's PAIR_FENCE_OUT. -/
  | pairUnfence (p : Port)
  /-- PAIR_REKEY (R389): Requests an act that raises the LINK key generation on both members. -/
  | pairRekey (p : Port)
  /-- PAIR_RESULT_READ (R415): Reads part of a pair act's output. -/
  | pairResultRead (p : Port)
  /-- DETECTOR_TRIP (R427): A sample finds a detector tripped after a quiet sample and raises an alarm. -/
  | detectorTrip (ds : List Nat) (clock : TileClock) (m : Sample)
  /-- LOCKSTEP_DISAGREE (R431): The Apex lockstep cores disagree, a fatal ZEROISE fault. -/
  | lockstepDisagree
  /-- BUS_INTEGRITY_MISMATCH (R21): A bus transaction's integrity code mismatches and an ISOLATE alarm is raised. -/
  | busIntegrityMismatch (master : Nat) (target : Nat)
  /-- DETECTOR_STIMULATION_TEST (R440): At a random instant a detector is stimulated, and it fails its test if it does not trip. -/
  | detectorStimulationTest (d : Nat) (tripped : Bool) (tile : Nat)
  /-- SENTINEL_POWER_ON (R418): The Sentinel domain starts from no supply and sets its power-on flag. -/
  | sentinelPowerOn
  /-- CELL_STATE_CHANGE (R443): VBAT, the charge current or the NTC crosses a charger threshold and the charger changes state. -/
  | cellStateChange (vbat : Nat) (current : Int) (ntc : Option Int)
  /-- CHARGER_TIMER_EXPIRE (R443): PRECHARGE passes 1 h, or CC and CV pass 10 h, and the charger enters FAULT. -/
  | chargerTimerExpire
  /-- CHARGE_ESTIMATE (R445): After 10 s with no charge current following a Sentinel power loss, the remaining charge is estimated from VBAT. -/
  | chargeEstimate (vbat : Nat)
  /-- GAUGE_LEVEL_CROSS (R44): The state of charge crosses the floor or the reopening level and changes G_CELL_LOW. -/
  | gaugeLevelCross (remaining : Nat)
  /-- TAMPER_STATUS (R446): Reports detector states and evidence. -/
  | tamperStatus (p : Port)
  /-- CELL_STATUS (R446): Reports the cell and charger. -/
  | cellStatus (p : Port)
  /-- SENTINEL_LOG_READ (R446): Returns the 32 Sentinel log entries. -/
  | sentinelLogRead (p : Port)
  /-- DETECTOR_TEST (R446): Tests one detector on demand. -/
  | detectorTest (p : Port) (tripped : Bool) (tile : Nat)
  /-- ZEROISE_COMMAND (R446): Requests an act that raises ZEROISE at quorum. -/
  | zeroiseCommand (p : Port)
  /-- RTC_SET (R446): Requests an act that sets the real-time clock and RTC_VALID. -/
  | rtcSet (p : Port)
  /-- OTP_WORD_PROGRAM (R458): An OTP word program, pulsed and read back at both margins, completes or fails. -/
  | otpWordProgram (word : Nat) (bits : Nat) (low : Nat) (high : Nat)
  /-- FACTORY_BLANK_TO_TEST (R464): The factory takes BLANK to TEST over JTAG. -/
  | factoryBlankToTest
  /-- FACTORY_ENROLMENT (R464): The factory writes and locks a HELPER copy in TEST. -/
  | factoryEnrolment (copy : Nat) (data : Bytes)
  /-- FACTORY_TEST_TO_PRODUCTION (R464): The factory takes TEST to PRODUCTION. -/
  | factoryTestToProduction
  /-- FACTORY_SCRAP (R464): The factory scraps the unit to END_OF_LIFE over JTAG in BLANK or TEST. -/
  | factoryScrap
  /-- LC_STATUS (R482): Reports the lifecycle and OTP state. -/
  | lcStatus (p : Port)
  /-- OTP_READ (R482): Returns shadow words of OTP. -/
  | otpRead (p : Port)
  /-- LC_COMMISSION (R466): Requests an act that commissions the owner and installs the first roster. -/
  | lcCommission (p : Port)
  /-- LC_RECOMMISSION (R468): Requests an act that programs a RECOM step and enters a cold GATE. -/
  | lcRecommission (p : Port)
  /-- LC_SCRAP (R469): Requests an act that scraps the device to END_OF_LIFE. -/
  | lcScrap (p : Port)
  /-- DEBUG_CHALLENGE (R479): Returns a fresh debug nonce. -/
  | debugChallenge (p : Port)
  /-- DEBUG_OPEN (R480): Requests an act that zeroises and opens JTAG for a token's scope. -/
  | debugOpen (p : Port)
  /-- DEBUG_CLOSE (R480): Closes JTAG and enters a cold GATE. -/
  | debugClose (p : Port)
  /-- DEBUG_LIFETIME_EXPIRE (R480): The token's LIFETIME ends, so JTAG closes and a cold GATE starts. -/
  | debugLifetimeExpire
  /-- DEBUG_DISABLE_PERMANENT (R481): Requests an act that programs DEBUG_DISABLE. -/
  | debugDisablePermanent (p : Port)
  /-- FW_STATUS (R482): Reports the firmware slots and counters. -/
  | fwStatus (p : Port)
  /-- FW_SLOT_ERASE (R475): Starts erasing the inactive slot of a kind. -/
  | fwSlotErase (p : Port)
  /-- FW_SLOT_ERASE_DONE (R475): The slot erase ends and FW_ERASED is sent. -/
  | fwSlotEraseDone (pass : Bool)
  /-- FW_STAGE (R475): Writes the next bytes of a staged image. -/
  | fwStage (p : Port)
  /-- FW_STAGE_END (R475): Verifies the staged slot. -/
  | fwStageEnd (p : Port)
  /-- FW_ACTIVATE (R475): Requests an act that activates a slot, optionally restarting. -/
  | fwActivate (p : Port)
  /-- FW_ACTIVATE_RESTART (R475): 1 s after ACT_DONE of FW_ACTIVATE with RESTART, the device enters a cold GATE. -/
  | fwActivateRestart
  /-- FW_SVN_COMMIT (R474): Requests an act that raises the anti-rollback counters. -/
  | fwSvnCommit (p : Port)
  /-- FW_KEY_REVOKE (R476): Requests an act that revokes a boot-key slot. -/
  | fwKeyRevoke (p : Port)
  /-- PERIODIC_TRIGGER (R489): Device time reaches a multiple of a PERIODIC trigger's period. -/
  | periodicTrigger (trigger : Nat)
  /-- JOURNAL_FLUSH (R496): A flush starts within 1 ms, or 10 µs for an alarm-class record, and writes records and a seal. -/
  | journalFlush (pass : Bool)
  /-- JOURNAL_FLUSH_RETRY (R497): A failed flush is retried every 100 ms. -/
  | journalFlushRetry (pass : Bool)
  /-- RECORDER_ROOM_RETURNS (R497): Room returns in the staging buffer after drops, and trigger 15 fires with REC_LOSS. -/
  | recorderRoomReturns
  /-- HIST_SAMPLE (R492): A periodic histogram sample is counted. -/
  | histSample (hist : Nat) (x : Measured)
  /-- HIST_CHECKPOINT (R494): Every 10 s the 64 histogram blocks are checkpointed to the journal. -/
  | histCheckpoint
  /-- REC_STATUS (R500): Reports recorder status. -/
  | recStatus (p : Port)
  /-- REC_READ (R500): Returns unsigned records. -/
  | recRead (p : Port)
  /-- REC_HIST_READ (R500): Returns histogram blocks. -/
  | recHistRead (p : Port)
  /-- REC_EXPORT (R501): Requests an act that assembles a signed export. -/
  | recExport (p : Port)
  /-- REC_RESULT_READ (R500): Reads part of an export. -/
  | recResultRead (p : Port)
  /-- REC_HIST_RESET (R500): Requests an act that clears histograms. -/
  | recHistReset (p : Port)
  /-- CROSSING_TIMEOUT (R510): A crossing's peer liveness toggle is unchanged for 1,024 cycles, so the crossing times out. -/
  | crossingTimeout (src : Nat) (dst : Nat) (items : List (Nat × Nat))
  /-- LOOP_INTERVAL (R513): A 1 µs loop interval ends and V_t rises or falls by 5 mV. -/
  | loopInterval (tile : Nat) (slack : Int) (vdd : Nat)
  /-- AVS_LOWER_TIMER (R519): The demand has stayed at or below S − 15 mV for 1 ms, so S is lowered. -/
  | avsLowerTimer
  /-- AVS_FRAME_COMPLETE (R519): An AVSBus write or readback completes, with a check of the status response. -/
  | avsFrameComplete (good : Bool) (readback : Nat)
  /-- AVS_WRITE_RETRY (R519): A failed AVSBus write is repeated after 10 µs, up to three times. -/
  | avsWriteRetry
  /-- AVS_FAULT_RETRY (R519): After an AVS fault the controller tries again every 100 ms. -/
  | avsFaultRetry
  /-- RAIL_ENTERS_WINDOW (R43): With SYS_PWRGD already high, the last main rail comes into its monitor window, so main power becomes good and a cold GATE starts. -/
  | railEntersWindow (x : RailEntry)
  /-- DEVICE_RESET_RELEASE (R549): DEV_RST_N returns high after a device reset, and the boot ROM starts the cold GATE from the reset state of the balls. -/
  | deviceResetRelease
  /-- AWAITED_INPUT_CHANGE (R57): The GPIO named in WAIT_IN reaches, or leaves, WAIT_LVL, which starts or cancels the 100 µs stability count of the release step. -/
  | awaitedInputChange (level : Bool)
  /-- FLASH_SIDE_UP (R342): A port's flash side finishes its reset, SFDP read and mode entry in a GATE, and either comes up or stays down. -/
  | flashSideUp (bus : Nat) (sfdp0 : Option Bytes) (sfdp1 : Option Bytes) (octal : Bool)
  /-- MANIFEST_CHECK_COMPLETE (R350): Facet finishes reading a bus manifest and checking its format, signature and SVN, which can fail the bus before any region is hashed. -/
  | manifestCheckComplete (bus : Nat) (manifest : Option Bytes)
  /-- DETECTOR_QUIET (R427): A sample finds a tripped detector quiet again, which re-arms it so that a later trip can raise a new alarm. -/
  | detectorQuiet (d : Nat)
  /-- LIVENESS_TOGGLE_RESUMES (R510): The peer's liveness toggle changes again after a crossing timeout, and both sides return the crossing to its initial phase. -/
  | livenessToggleResumes (src : Nat) (dst : Nat)
  /-- CLOCK_STRETCH (R513): A tile's slack falls below 2 %, so its next clock edge is swallowed and counted in TILE_n.STRETCH. -/
  | clockStretch (tile : Nat)
  /-- BUS_MASTER_ENABLE_SET (R151): A function's Bus Master Enable is set again, so fetching and writes resume for its channels. -/
  | busMasterEnableSet (fn : Nat)
  /-- CHG_SUPPLY_CHANGE (R537): The CHG supply crosses 4.5 V, which stops or restarts the charge current while the charger timers keep running. -/
  | chgSupplyChange (present : Bool)
deriving DecidableEq, Repr

end Sys2Proof
end

