-- ==== Sys2Proof/Decode.lean ====
section
/-!
DEFINITION. Words that spell commands: none. No row of spec/opcode_table.json gives bits.
-/

namespace Sys2Proof

/-- The command that a word spells by the bits of the opcode table: none, since no row has bits. -/
def decodeTableWord (_nbits _w : Nat) : Option Instr := none

end Sys2Proof
end

