-- ==== Sys2Proof/Config.lean ====
section
/-!
DEFINITION. What the model leaves open: the mathematics that the manual takes from other standards (FIPS, SP 800, ISO, EMV,
X9.24, X9.143, TR-34, SPDM), the device's random bit generator, and values that the manual leaves unstated. Each is an opaque constant with no body,
so a statement about one holds for every value it could have. Log entries 1, 2 and 3 say so.
-/

namespace Sys2Proof.Config

/-- Byte number `n` that the device's random bit generator draws (R234, R310). FREE VALUE, log 2. -/
opaque randomByte : Nat → Byte

/-- A free value: number `n` of the values that the manual leaves unstated (log 3). -/
opaque freeValue : Nat → Bytes

/-- The slot address at which the vault stores a slot, scrambled under VAULT-MASK: the key, the slot's vault offset (R187; log 12). FREE VALUE. -/
opaque vaultPlace : Bytes → Nat → Nat
/-- What a context holds after a sector's work on it: the context that was restored or begun, the item's descriptor, and what came in (R261, R266, R270;
log 131). FREE VALUE. -/
opaque contextStep : Bytes → Bytes → Bytes → Bytes
/-- The 64-byte control state of a suspended item: descriptor, work left (R299; log 131). FREE VALUE. -/
opaque controlState : Bytes → Nat → Bytes
/-- What an item's engine leaves in a KiB of its operand memory while work is left: intermediates in blinded or masked form, and of an SLH-DSA signature
the secret values of the chains and leaves under way alone (R311, R324; log 9): descriptor, the order drawn, work left, KiB, what came in. FREE VALUE. -/
opaque operandWork : Bytes → Bytes → Nat → Nat → Bytes → Bytes
/-- The commands that an SFDP image describes for the entry into 8D-8D-8D mode: opcode, address, data (R342; JESD216, JESD251). -/
opaque sfdpOctalEntry : Bytes → List (Nat × Nat × Bytes)
/-- AES encryption of one block under a key of 16, 24 or 32 bytes (FIPS 197). -/
opaque aes : Bytes → Bytes → Bytes
/-- AES decryption of one block. -/
opaque aesInv : Bytes → Bytes → Bytes
/-- Single DES encryption of one 8-byte block. -/
opaque des : Bytes → Bytes → Bytes
/-- Single DES decryption of one 8-byte block. -/
opaque desInv : Bytes → Bytes → Bytes
/-- SHA-256 (FIPS 180-4). -/
opaque sha256 : Bytes → Bytes
/-- SHA-384. -/
opaque sha384 : Bytes → Bytes
/-- SHA-512. -/
opaque sha512 : Bytes → Bytes
/-- Multiplication in GF(2^128) as GCM uses it (SP 800-38D): hash subkey, block. -/
opaque ghashMul : Bytes → Bytes → Bytes
/-- The tweak of the next block of an XTS data unit (IEEE 1619). -/
opaque xtsDouble : Bytes → Bytes
/-- Doubling in GF(2^128) as CMAC and S2V use it (SP 800-38B, RFC 5297). -/
opaque cmacDouble : Bytes → Bytes

/-- The point lies on the curve, has coordinates below p and is not at infinity (R322): curve bits, X ∥ Y. -/
opaque pointValid : Nat → Bytes → Bool
/-- A multiple of a point of a curve (FIPS 186-5, SP 800-56A), X ∥ Y: curve bits, scalar, point or none for the base point, random Z of the first
projective coordinates (R311). -/
opaque pointMul : Nat → Nat → Bytes → Bytes → Bytes
/-- The point u₁ G + u₂ Q, X ∥ Y; none at infinity: curve bits, u₁, u₂, Q. -/
opaque pointAdd : Nat → Nat → Nat → Bytes → Option Bytes
/-- A generated key pair's material and public encoding (Table 6.13): ALG, KEY_BITS, random bytes. -/
opaque keyPair : Nat → Nat → Bytes → Bytes × Bytes
/-- RSA key generation (R219); none where the candidate budget runs out: KEY_BITS, random bytes. -/
opaque rsaKeyPair : Nat → Bytes → Option (Bytes × Bytes)
/-- ML-KEM-768 modulus check of an encapsulation key (FIPS 203). -/
opaque mlkemKeyValid : Bytes → Bool
/-- ML-KEM-768 encapsulation: encapsulation key, random bytes; ciphertext and K. -/
opaque mlkemEncaps : Bytes → Bytes → Bytes × Bytes
/-- ML-KEM-768 decapsulation with implicit rejection: seed, ciphertext, and the random factor and butterfly orders under which the secret vector is
held (R311); K. -/
opaque mlkemDecaps : Bytes → Bytes → Bytes → Bytes
/-- ML-KEM-768 encapsulation key of a seed. -/
opaque mlkemPublic : Bytes → Bytes
/-- PRF of FIPS 205: ALG, PK.seed, SK.seed, address (layer, tree, type, key pair, chain or height, hash or index). -/
opaque slhPrf : Nat → Bytes → Bytes → List Nat → Bytes
/-- F, H and T of FIPS 205: ALG, PK.seed, address, message. -/
opaque slhHash : Nat → Bytes → List Nat → Bytes → Bytes
/-- PRF_msg of FIPS 205: ALG, SK.prf, opt_rand, message representative. -/
opaque slhPrfMsg : Nat → Bytes → Bytes → Bytes → Bytes
/-- H_msg of FIPS 205: ALG, R, PK.seed, PK.root, message representative. -/
opaque slhHMsg : Nat → Bytes → Bytes → Bytes → Bytes → Bytes
/-- Lengths in 64-bit words of the slots in which an opcode lays out its operands (R303): opcode, KiB of its need. -/
opaque slotWords : Nat → Nat → List Nat

/-- AES DUKPT working key of X9.24-3: BDK, KSN, key type, usage (1 PIN, 2 MAC generation, 3 MAC verification, 4 data encryption, 5 data decryption). -/
opaque dukptAes : Bytes → Bytes → Nat → Nat → Bytes
/-- AES DUKPT initial key: BDK, initial key ID. -/
opaque dukptAesInitial : Bytes → Bytes → Bytes
/-- TDES DUKPT working key: BDK, KSN, variant (1 PIN, 2 MAC request, 3 MAC response, 4 data request, 5 data response). -/
opaque dukptTdes : Bytes → Bytes → Nat → Bytes
/-- TDES DUKPT initial key: BDK, initial KSN. -/
opaque dukptTdesInitial : Bytes → Bytes → Bytes
/-- The AES form of EMV card master key derivation: issuer key, Y. -/
opaque emvAesCardKey : Bytes → Bytes → Bytes
/-- The AES form of EMV common session key derivation: card key, ATC. -/
opaque emvAesSession : Bytes → Bytes → Bytes

/-- An X9.143 key block opened: KBPK, block; none where its MAC fails; else its key field: the length in bits (2 bytes), the key, padding. -/
opaque keyBlockOpen : Bytes → Bytes → Option Bytes
/-- An X9.143 key block written: KBPK, header with its optional blocks, key material, random bytes. -/
opaque keyBlockWrite : Bytes → Bytes → Bytes → Bytes → Bytes
/-- A DER private key of X9.143 as material of Table 6.13 with its ALG and KEY_BITS; none where malformed. -/
opaque derPrivateKey : Bytes → Option (Nat × Nat × Bytes)
/-- A DER public key as ALG, KEY_BITS and public-key encoding; none where malformed. -/
opaque derPublicKey : Bytes → Option (Nat × Nat × Bytes)
/-- A TR-34 one-pass token opened by the KRD: own private key, KDH public key, token; signing time and inner key block with its KBPK. -/
opaque tr34Open : Bytes → Bytes → Bytes → Option (Nat × Bytes × Bytes)
/-- A TR-34 one-pass token written by the KDH: KRD public key, KDH signing key, inner key block header, key material, random bytes. -/
opaque tr34Write : Bytes → Bytes → Bytes → Bytes → Bytes → Bytes

/-- Keystream over a vault slot's MATERIAL: VAULT-MASK key, vault offset (R187). Its form is not stated: log 12. -/
opaque vaultMask : Bytes → Nat → Bytes
/-- The check value of a root vertex, 8 bytes (R183). -/
opaque rootCheck : Bytes → Bytes
/-- The public point X ∥ Y of a private scalar: curve bits, scalar. -/
opaque ecPublic : Nat → Bytes → Bytes
/-- The subject public key of the leaf of a chain of DER X.509 certificates, root first; none where it does not parse (R364). -/
opaque certLeafKey : Bytes → Option Bytes

/-- Value of the identity binding extension of the leaf of a chain (R365): enterprise number, chain; none where it is absent. -/
opaque certBinding : Nat → Bytes → Option Bytes
/-- SHA-384 of the boot ROM (Table 11.3). -/
opaque bootRomDigest : Bytes
/-- Whether a measurement block belongs to the trusted computing base of an SPDM measurement summary (DSP0274; which do is not stated). -/
opaque inTcb : Nat → Bool

/-- The SFDP image describes the command sequence into octal DDR mode (R342). -/
opaque sfdpOctal : Bytes → Bool
/-- Opcode of the octal DDR read that an SFDP image describes (R333, R341; JESD251). -/
opaque sfdpOctalRead : Bytes → Nat
/-- A byte of the private flash that the model holds nowhere, by its offset (log 144). -/
opaque flashByte : Nat → Byte
/-- Device serial number, 16 bytes (R109: Fixed). -/
opaque serial : Bytes
/-- IANA enterprise number for MCTP type 0x7F (R109: Fixed). -/
opaque enterprise : Nat

end Sys2Proof.Config
end

