-- ==== Sys2Proof/Machine/Bytes.lean ====
section
/-!
DEFINITION. Byte strings: little-endian integers of registers, descriptors, records and Orfer headers (R7),
big-endian integers of the standards (R8), slices, padding, exclusive or, nibbles.
-/

namespace Sys2Proof.Machine

/-- The integer that a byte string spells, least significant byte first (R7). -/
def leNat : Bytes → Nat
  | [] => 0
  | b :: bs => b.toNat + 256 * leNat bs

/-- `n` bytes of the integer `v`, least significant first (R7). -/
def leBytes : Nat → Nat → Bytes
  | 0, _ => []
  | n + 1, v => BitVec.ofNat 8 v :: leBytes n (v / 256)

/-- The integer that a byte string spells, most significant byte first. -/
def beNat (bs : Bytes) : Nat := bs.foldl (fun acc b => 256 * acc + b.toNat) 0

/-- `n` bytes of the integer `v`, most significant first. -/
def beBytes (n v : Nat) : Bytes := (leBytes n v).reverse

/-- `n` zero bytes. -/
def zeros (n : Nat) : Bytes := List.replicate n 0#8

/-- `len` bytes from offset `off`, as many as there are. -/
def slice (off len : Nat) (bs : Bytes) : Bytes := (bs.drop off).take len

/-- The byte at offset `off`; 0 past the end. -/
def byteAt (bs : Bytes) (off : Nat) : Nat := (bs.getD off 0#8).toNat

/-- The little-endian integer of `len` bytes at offset `off`. -/
def field (bs : Bytes) (off len : Nat) : Nat := leNat (slice off len bs)

/-- The string cut or zero-padded on the right to `n` bytes. -/
def fit (n : Nat) (bs : Bytes) : Bytes := bs.take n ++ zeros (n - bs.length)

/-- The string zero-padded on the right to a multiple of `m` bytes. -/
def padTo (m : Nat) (bs : Bytes) : Bytes :=
  if m = 0 then bs else bs ++ zeros ((m - bs.length % m) % m)

/-- Exclusive or, as long as the shorter string. -/
def xorBytes (a b : Bytes) : Bytes := List.zipWith (· ^^^ ·) a b

/-- Whether every byte is zero. -/
def allZero (bs : Bytes) : Bool := bs.all (· == 0#8)

/-- Bytes of an ASCII text. -/
def ascii (t : String) : Bytes := t.toList.map fun c => BitVec.ofNat 8 c.toNat

/-- One byte from a number. -/
def u8 (v : Nat) : Bytes := leBytes 1 v
/-- Two bytes, little-endian. -/
def u16 (v : Nat) : Bytes := leBytes 2 v
/-- Four bytes, little-endian. -/
def u32 (v : Nat) : Bytes := leBytes 4 v
/-- Eight bytes, little-endian. -/
def u64 (v : Nat) : Bytes := leBytes 8 v

/-- Bit `n` of a number. -/
def bit (v n : Nat) : Bool := v.testBit n

/-- 1 for true, 0 for false. -/
def flag (b : Bool) : Nat := if b then 1 else 0

/-- Bit `n` of a byte string whose bit 0 is bit 0 of byte 0. -/
def bitOf (bs : Bytes) (n : Nat) : Bool := bit (byteAt bs (n / 8)) (n % 8)

/-- The string with the bytes from `off` on replaced by `new`, within its own length. -/
def overlay (bs : Bytes) (off : Nat) (new : Bytes) : Bytes :=
  bs.take off ++ (new.take (bs.length - off) ++ bs.drop (off + new.length))

/-- The nibbles of a byte string, most significant nibble first. -/
def nibbles : Bytes → List Nat
  | [] => []
  | b :: bs => (b.toNat / 16) :: (b.toNat % 16) :: nibbles bs

/-- The byte string of a list of nibbles, two to a byte; a last odd nibble is dropped. -/
def packNibbles : List Nat → Bytes
  | a :: b :: rest => BitVec.ofNat 8 (16 * a + b) :: packNibbles rest
  | _ => []

/-- The byte string cut into blocks of `n` bytes, the last one short where the length is no multiple.
`fuel` bounds the number of blocks. -/
def blocksFuel (n : Nat) : Nat → Bytes → List Bytes
  | 0, _ => []
  | _ + 1, [] => []
  | fuel + 1, bs => bs.take n :: blocksFuel n fuel (bs.drop n)

/-- The byte string cut into blocks of `n` bytes. -/
def blocks (n : Nat) (bs : Bytes) : List Bytes := blocksFuel n bs.length bs

/-- Quotient rounded up. -/
def ceilDiv (a b : Nat) : Nat := if b = 0 then 0 else (a + (b - 1)) / b

/-- Number of one bits among the low `n` bits. -/
def oneBits (n v : Nat) : Nat := ((List.range n).filter fun i => v.testBit i).length

end Sys2Proof.Machine
end

