-- ==== Sys2Proof/Machine/Crypto.lean ====
section
/-!
DEFINITION. The modes of operation and constructions that the opcodes use, over the block ciphers and digests of Config:
ECB, CBC, CTR, CFB128, OFB (SP 800-38A), XTS (SP 800-38E), GCM (SP 800-38D), CMAC (SP 800-38B), AES-SIV (RFC 5297),
HMAC (FIPS 198-1), the KDF of R184, ISO 9797-1 algorithms 1 and 3.
PRESUMED where the manual only names the standard (log 1).
-/

namespace Sys2Proof.Machine

/-! ### Block ciphers and digests with their lengths -/

/-- AES encryption of one 16-byte block. -/
def aesE (k b : Bytes) : Bytes := fit 16 (Config.aes k b)
/-- AES decryption of one 16-byte block. -/
def aesD (k b : Bytes) : Bytes := fit 16 (Config.aesInv k b)
/-- Single DES encryption of one 8-byte block. -/
def desE (k b : Bytes) : Bytes := fit 8 (Config.des k b)
/-- Single DES decryption of one 8-byte block. -/
def desD (k b : Bytes) : Bytes := fit 8 (Config.desInv k b)

/-- The three 8-byte parts of a TDES key; a 2-key TDES key uses its first part again (Table 6.13). -/
def tdesParts (k : Bytes) : Bytes × Bytes × Bytes :=
  (slice 0 8 k, slice 8 8 k, if k.length < 24 then slice 0 8 k else slice 16 8 k)

/-- TDES encryption of one block. -/
def tdesE (k b : Bytes) : Bytes :=
  let (k1, k2, k3) := tdesParts k; desE k3 (desD k2 (desE k1 b))
/-- TDES decryption of one block. -/
def tdesD (k b : Bytes) : Bytes :=
  let (k1, k2, k3) := tdesParts k; desD k1 (desE k2 (desD k3 b))

/-- SHA-256, 32 bytes. -/
def sha256 (m : Bytes) : Bytes := fit 32 (Config.sha256 m)
/-- SHA-384, 48 bytes. -/
def sha384 (m : Bytes) : Bytes := fit 48 (Config.sha384 m)
/-- SHA-512, 64 bytes. -/
def sha512 (m : Bytes) : Bytes := fit 64 (Config.sha512 m)

/-! ### Modes over any block cipher -/

/-- ECB over blocks of `n` bytes. -/
def ecb (n : Nat) (f : Bytes → Bytes) (m : Bytes) : Bytes := ((blocks n m).map f).flatten

/-- CBC encryption of a list of blocks from a chaining value. -/
def cbcEncBlocks (f : Bytes → Bytes) : Bytes → List Bytes → List Bytes
  | _, [] => []
  | v, b :: bs => let c := f (xorBytes v b); c :: cbcEncBlocks f c bs

/-- CBC decryption of a list of blocks. -/
def cbcDecBlocks (g : Bytes → Bytes) : Bytes → List Bytes → List Bytes
  | _, [] => []
  | v, c :: cs => xorBytes v (g c) :: cbcDecBlocks g c cs

/-- CBC encryption. -/
def cbcEnc (n : Nat) (f : Bytes → Bytes) (iv m : Bytes) : Bytes := (cbcEncBlocks f iv (blocks n m)).flatten
/-- CBC decryption. -/
def cbcDec (n : Nat) (g : Bytes → Bytes) (iv m : Bytes) : Bytes := (cbcDecBlocks g iv (blocks n m)).flatten

/-- CFB128 encryption of blocks, the last one of any length. -/
def cfbEncBlocks (f : Bytes → Bytes) : Bytes → List Bytes → List Bytes
  | _, [] => []
  | v, b :: bs => let c := xorBytes (f v) b; c :: cfbEncBlocks f c bs

/-- CFB128 decryption of blocks. -/
def cfbDecBlocks (f : Bytes → Bytes) : Bytes → List Bytes → List Bytes
  | _, [] => []
  | v, c :: cs => xorBytes (f v) c :: cfbDecBlocks f c cs

/-- OFB over blocks, the last one of any length. -/
def ofbBlocks (f : Bytes → Bytes) : Bytes → List Bytes → List Bytes
  | _, [] => []
  | v, b :: bs => let o := f v; xorBytes o b :: ofbBlocks f o bs

/-- The counter block after `i` increments of its low `bits` bits as a big-endian integer (R275). -/
def ctrBlock (bits : Nat) (iv : Bytes) (i : Nat) : Bytes :=
  let v := beNat iv
  let m := 2 ^ bits
  beBytes 16 (v / m * m + (v % m + i) % m)

/-- CTR over blocks from counter number `i`. -/
def ctrBlocks (f : Bytes → Bytes) (bits : Nat) (iv : Bytes) : Nat → List Bytes → List Bytes
  | _, [] => []
  | i, b :: bs => xorBytes (f (ctrBlock bits iv i)) b :: ctrBlocks f bits iv (i + 1) bs

/-- CTR. -/
def ctr (f : Bytes → Bytes) (bits : Nat) (iv m : Bytes) : Bytes := (ctrBlocks f bits iv 0 (blocks 16 m)).flatten

/-- XTS of the blocks of one data unit, from a tweak. -/
def xtsBlocks (f : Bytes → Bytes) : Bytes → List Bytes → List Bytes
  | _, [] => []
  | t, b :: bs => xorBytes (f (xorBytes b t)) t :: xtsBlocks f (fit 16 (Config.xtsDouble t)) bs

/-- XTS of data units from unit number `u` on; `tw` enciphers the unit number under the tweak key. -/
def xtsUnits (f tw : Bytes → Bytes) : Nat → List Bytes → List Bytes
  | _, [] => []
  | u, d :: ds => (xtsBlocks f (tw (leBytes 16 u)) (blocks 16 d)).flatten :: xtsUnits f tw (u + 1) ds

/-- XTS-AES over data units of `2^log2` bytes, the first unit number little-endian in `iv` (R275). -/
def xts (f tw : Bytes → Bytes) (log2 : Nat) (iv m : Bytes) : Bytes :=
  (xtsUnits f tw (leNat iv) (blocks (2 ^ log2) m)).flatten

/-! ### GCM -/

/-- GHASH of a zero-padded string under subkey `h`. -/
def ghash (h : Bytes) (m : Bytes) : Bytes :=
  (blocks 16 m).foldl (fun y b => fit 16 (Config.ghashMul h (xorBytes y (fit 16 b)))) (zeros 16)

/-- The GCM tag over AAD and ciphertext, 16 bytes (SP 800-38D). -/
def gcmTag (f : Bytes → Bytes) (iv aad c : Bytes) : Bytes :=
  let h := f (zeros 16)
  let lens := beBytes 8 (8 * aad.length) ++ beBytes 8 (8 * c.length)
  xorBytes (f (fit 12 iv ++ [0#8, 0#8, 0#8, 1#8])) (ghash h (padTo 16 aad ++ padTo 16 c ++ lens))

/-- GCM's counter mode, whose first block is J0 + 1 (R275). -/
def gcmCtr (f : Bytes → Bytes) (iv m : Bytes) : Bytes := ctr f 32 (fit 12 iv ++ [0#8, 0#8, 0#8, 2#8]) m

/-! ### MACs, SIV and the KDF -/

/-- AES-CMAC, 16 bytes (SP 800-38B). -/
def cmac (k m : Bytes) : Bytes :=
  let k1 := fit 16 (Config.cmacDouble (aesE k (zeros 16)))
  let k2 := fit 16 (Config.cmacDouble k1)
  let bs := blocks 16 m
  let body := bs.dropLast
  let last := bs.getLastD []
  let x := body.foldl (fun y b => aesE k (xorBytes y b)) (zeros 16)
  let tail := if last.length = 16 then xorBytes last k1 else xorBytes (fit 16 (last ++ [0x80#8])) k2
  aesE k (xorBytes x tail)

/-- S2V of RFC 5297 with one associated-data component. -/
def s2v (k ad p : Bytes) : Bytes :=
  let d := xorBytes (fit 16 (Config.cmacDouble (cmac k (zeros 16)))) (cmac k ad)
  if 16 ≤ p.length then
    cmac k (p.take (p.length - 16) ++ xorBytes (p.drop (p.length - 16)) d)
  else cmac k (xorBytes (fit 16 (Config.cmacDouble d)) (fit 16 (p ++ [0x80#8])))

/-- The counter block of AES-SIV: V with bits 63 and 31 cleared (RFC 5297). -/
def sivCounter (v : Bytes) : Bytes :=
  slice 0 8 v ++ [v.getD 8 0#8 &&& 0x7F#8] ++ slice 9 3 v ++ [v.getD 12 0#8 &&& 0x7F#8] ++ slice 13 3 v

/-- AES-SIV encryption: SIV and ciphertext (RFC 5297, 512-bit key). -/
def sivSeal (k ad p : Bytes) : Bytes × Bytes :=
  let v := s2v (slice 0 32 k) ad p
  (v, ctr (aesE (slice 32 32 k)) 128 (sivCounter v) p)

/-- AES-SIV decryption: the plaintext, where the SIV verifies. -/
def sivOpen (k ad v c : Bytes) : Option Bytes :=
  let p := ctr (aesE (slice 32 32 k)) 128 (sivCounter v) c
  if s2v (slice 0 32 k) ad p = v then some p else none

/-- HMAC-SHA-256 (FIPS 198-1), key zero-padded to 64 bytes (R294). -/
def hmac (k m : Bytes) : Bytes :=
  let k0 := fit 64 (if 64 < k.length then sha256 k else k)
  sha256 (xorBytes k0 (List.replicate 64 0x5C#8) ++ sha256 (xorBytes k0 (List.replicate 64 0x36#8) ++ m))

/-- The KDF of R184: `len` bytes from a key, a label and a context. -/
def kdf (key : Bytes) (label : String) (context : Bytes) (len : Nat) : Bytes :=
  (((List.range (ceilDiv len 32)).map fun i =>
    hmac key (beBytes 4 (i + 1) ++ ascii label ++ [0#8] ++ context ++ beBytes 4 (8 * len))).flatten).take len

/-- ISO 9797-1 padding: method 1 zero bytes, method 2 a one bit and zeros. -/
def macPad (method : Nat) (m : Bytes) : Bytes :=
  if method = 2 then padTo 8 (m ++ [0x80#8]) else padTo 8 (if m.isEmpty then zeros 8 else m)

/-- ISO 9797-1 algorithm 1 under TDES (Table 7.14). -/
def macAlg1 (k : Bytes) (pad : Nat) (m : Bytes) : Bytes :=
  (blocks 8 (macPad pad m)).foldl (fun y b => tdesE k (xorBytes y b)) (zeros 8)

/-- ISO 9797-1 algorithm 3, the retail MAC (Table 7.14). -/
def macAlg3 (k : Bytes) (pad : Nat) (m : Bytes) : Bytes :=
  let y := (blocks 8 (macPad pad m)).foldl (fun y b => desE (slice 0 8 k) (xorBytes y b)) (zeros 8)
  desE (slice 0 8 k) (desD (slice 8 8 k) y)

/-- The KCV of a symmetric key, left-aligned and zero-padded to 8 bytes (R194), by ALG. -/
def kcvOf (alg : Nat) (k : Bytes) : Bytes :=
  if 1 ≤ alg ∧ alg ≤ 3 then fit 8 ((cmac k (zeros 16)).take 5)
  else if alg = 0x11 ∨ alg = 0x12 then fit 8 ((tdesE k (zeros 8)).take 3)
  else if alg = 0x21 then fit 8 ((hmac k (zeros 16)).take 5)
  else zeros 8

/-- The KCV of the vault seed (R194). -/
def seedKcv (seed : Bytes) : Bytes := (sha256 (seed ++ ascii "KCV")).take 8

/-- Length in bytes of a symmetric key of an ALG (Table 6.13); 0 for the others. -/
def keyBytes (alg : Nat) : Nat :=
  if alg = 1 then 16 else if alg = 2 then 24 else if alg = 3 then 32
  else if alg = 0x11 then 16 else if alg = 0x12 then 24 else if alg = 0x21 then 32 else 0

/-- Modular power by the binary method over `n` exponent bits. -/
def powModBits (m : Nat) : Nat → Nat → Nat → Nat
  | 0, _, _ => 1 % m
  | n + 1, b, e =>
    let h := powModBits m n (b * b % m) (e / 2)
    if e % 2 = 1 then b * h % m else h

/-- `b` to the power `e`, modulo `m`, for exponents of at most 4,096 bits. -/
def powMod (b e m : Nat) : Nat := powModBits m (Nat.log2 e + 1) (b % m) e

end Sys2Proof.Machine
end

