-- ==== Sys2Proof/Machine/KeyMap.lean ====
section
/-!
DEFINITION. Sparse tables as plain data: a list of (number, value) pairs with the numbers strictly rising.
The state holds with it whatever the manual numbers sparsely: sessions, channels, functions, OTP words, log entries.
`KeyMap.wf` is the canonical form; every operation here keeps it (Laws/KeyMap.lean).
-/

namespace Sys2Proof.Machine

/-- A table from numbers to values: pairs with strictly rising numbers. -/
abbrev KeyMap (α : Type) := List (Nat × α)

/-- The value at a number, if there is one. -/
def KeyMap.find {α : Type} : KeyMap α → Nat → Option α
  | [], _ => none
  | (k, v) :: rest, n => if k = n then some v else if n < k then none else KeyMap.find rest n

/-- The value at a number, or the default of the table's kind. -/
def KeyMap.get {α : Type} (m : KeyMap α) (d : α) (n : Nat) : α := (KeyMap.find m n).getD d

/-- The table with the value at a number set. -/
def KeyMap.put {α : Type} : KeyMap α → Nat → α → KeyMap α
  | [], n, v => [(n, v)]
  | (k, w) :: rest, n, v =>
    if k = n then (n, v) :: rest
    else if n < k then (n, v) :: (k, w) :: rest
    else (k, w) :: KeyMap.put rest n v

/-- The table without the value at a number. -/
def KeyMap.del {α : Type} (m : KeyMap α) (n : Nat) : KeyMap α := m.filter fun p => p.1 != n

/-- A table of words whose unlisted numbers read 0, with the word at a number set: a word of 0 is not listed, so that equal contents are equal
data. -/
def KeyMap.set (m : KeyMap Nat) (n v : Nat) : KeyMap Nat := if v = 0 then KeyMap.del m n else KeyMap.put m n v

/-- The table with the value at a number changed, from a default where there is none. -/
def KeyMap.upd {α : Type} (m : KeyMap α) (d : α) (n : Nat) (f : α → α) : KeyMap α :=
  KeyMap.put m n (f (KeyMap.get m d n))

/-- Every value changed. -/
def KeyMap.mapVals {α β : Type} (m : KeyMap α) (f : Nat → α → β) : KeyMap β := m.map fun p => (p.1, f p.1 p.2)

/-- The entries whose number and value pass a test. -/
def KeyMap.keep {α : Type} (m : KeyMap α) (f : Nat → α → Bool) : KeyMap α := m.filter fun p => f p.1 p.2

/-- The numbers of the table. -/
def KeyMap.keys {α : Type} (m : KeyMap α) : List Nat := m.map (·.1)

/-- The canonical form: numbers strictly rising. -/
def KeyMap.wf {α : Type} : KeyMap α → Bool
  | [] => true
  | [_] => true
  | (k, _) :: (k', v') :: rest => decide (k < k') && KeyMap.wf ((k', v') :: rest)

end Sys2Proof.Machine
end

