-- ==== Sys2Proof/Machine/TypesKeys.lean ====
section
/-!
DEFINITION. The kinds of state of chapters 06, 08 and 09: vault, staged keys, generation record, key cache,
hold pages, digest feeds and the operand memory's slot directory.
-/

namespace Sys2Proof.Machine

/-- One vault slot of 64 bytes (Table 6.4, R186). The vault holds it with MATERIAL masked; State.slot shows it without the mask (R187). -/
structure Slot where
  /-- MATERIAL, 32 bytes (R186, R187, 06; reset zero) -/
  material : List (BitVec 8)
  /-- STATE, 8 bits (R186, 06; reset 0x00 empty) -/
  state : Nat
  /-- KIND, 8 bits (R186, 06; reset 0) -/
  kind : Nat
  /-- ALG, 16 bits (R186, 06; reset 0) -/
  alg : Nat
  /-- GEN, 32 bits (R186, 06; reset 0) -/
  gen : Nat
  /-- KCV, 8 bytes (R186, 06; reset zero) -/
  kcv : List (BitVec 8)
  /-- SLOT_MAC, 16 bytes (R186, 06; reset zero) -/
  mac : List (BitVec 8)
  /-- slot address at which it lies, scrambled under VAULT-MASK (R187, 06; reset 0 where empty) -/
  place : Nat
deriving DecidableEq, Repr

/-- A staged key in the staging area of the key cache (R196, R205). -/
structure Staged where
  /-- slot it is staged for, 0 to 3 -/
  slot : Nat
  /-- ALG -/
  alg : Nat
  /-- GEN the slot takes at the swap -/
  gen : Nat
  /-- KCV, 8 bytes -/
  kcv : List (BitVec 8)
  /-- key material -/
  material : List (BitVec 8)
deriving DecidableEq, Repr

/-- Why a resident entry is no longer good (R210). -/
inductive Revocation where
  | none | revoked | erased
deriving DecidableEq, Repr

/-- One key of the key cache (R205 to R210). -/
structure CacheEntry where
  /-- lowest entry index it takes (R208) -/
  index : Nat
  /-- entries it takes (R205) -/
  size : Nat
  /-- header, 48 bytes (Table 6.10) -/
  header : List (BitVec 8)
  /-- attributes, 32 bytes (Table 6.11) -/
  attrs : List (BitVec 8)
  /-- material, unwrapped -/
  material : List (BitVec 8)
  /-- vault seed generation it was loaded under (R210) -/
  seedGen : Nat
  /-- items that pin it (R208) -/
  pins : Nat
  /-- time of the latest admission, or of the load (R208) -/
  age : Nat
  /-- revocation mark (R210) -/
  revoked : Revocation
deriving DecidableEq, Repr

/-- A blob load in progress (R209). -/
structure Load where
  /-- header read and passed stage b, 48 bytes -/
  header : Option (List (BitVec 8))
  /-- entries reserved for it (R208; log 37) -/
  size : Nat
  /-- entries of them for which room has been made: those that its key takes at least, and all of them once the header has told its size (R208; log 37) -/
  room : Nat
  /-- the blob, read whole, while its region has no room for its key (R208; log 37) -/
  blob : Option (List (BitVec 8))
deriving DecidableEq, Repr

/-- Key storage (06). -/
structure KeyState where
  /-- vault, 1,024 slots by 4 × channel + slot; unlisted is empty (R185, 06; reset empty) -/
  vault : KeyMap Slot
  /-- staged keys by channel (R196, 06; reset none) -/
  staged : KeyMap Staged
  /-- generation record: highest GEN by slot, and by seed generation for storage slots (R190, 06; reset empty) -/
  record : KeyMap Nat
  /-- the record passed its seal when the vault was opened (R190, R353, 06; reset true) -/
  recordOk : Bool
  /-- key cache by channel × 2^64 + tag (R205, R207, 06; reset empty) -/
  cache : KeyMap CacheEntry
  /-- loads in progress, by channel × 2^64 + tag (R209, 06; reset none) -/
  loads : KeyMap Load
  /-- least CREATED of the next blob (R204, 06; reset 0) -/
  created : Nat
  /-- loads since the cold GATE, by channel (Table 15.5, 15; reset 0) -/
  loadCount : KeyMap Nat
deriving DecidableEq, Repr

/-- A digest feed of the digest engine for channel-0 work (R288, R291). -/
structure Feed where
  /-- bytes declared -/
  declared : Nat
  /-- bytes received -/
  received : Nat
  /-- time of the last beat -/
  lastBeat : Nat
  /-- end status: 0 running or complete -/
  status : Nat
  /-- lane work left, in CE (R288, R298) -/
  work : Nat
  /-- lane work of the whole feed, in CE (R429) -/
  whole : Nat
deriving DecidableEq, Repr

/-- An entry of the channel context store: the item whose context it holds, and 128 bytes (R261, R267). -/
structure ContextEntry where
  /-- channel of the item -/
  chan : Nat
  /-- number of the item -/
  seq : Nat
  /-- the saved context, 128 bytes -/
  bytes : List (BitVec 8)
deriving DecidableEq, Repr

/-- Cipher and digest stores (08). -/
structure CipherState where
  /-- CH_HOLD_PAGES in force, by channel (R280, R281, 08; reset none) -/
  holdPages : KeyMap Nat
  /-- a placement waits from this time on (R281, 08; reset none) -/
  holdWait : Option Nat
  /-- placement of each partition: pages by channel × 16 + buffer (R281, 08; reset none) -/
  placement : KeyMap Nat
  /-- hold pages reserved by items: the channel, by 16 × buffer + page (R282, 08; reset none) -/
  pagesUsed : KeyMap Nat
  /-- contents of the 256 hold pages of 4 KiB; unlisted zero (R263, R282, R283, 08; reset zero) -/
  pageData : KeyMap (List (BitVec 8))
  /-- context registers of cores 0 to 15, the one in use and the idle one, 128 bytes each; unlisted zero (R263, R266, 08; reset DESIGN CHOICE zero, log 131) -/
  regs : KeyMap (List (BitVec 8) × List (BitVec 8))
  /-- channel context store, 4,096 entries of 128 bytes; unlisted empty (R267, 08; reset empty) -/
  store : KeyMap ContextEntry
  /-- context store allotment by channel, entries (R267, 08; reset none) -/
  contexts : KeyMap Nat
  /-- digest feeds of channel 0: flash by bus 0 and 1, Facet memory 2 (R288, 08; reset none) -/
  feeds : KeyMap Feed
deriving DecidableEq, Repr

/-- One slot directory entry (Table 9.2, R303). -/
structure DirEntry where
  /-- START, 16 bits (R303, 09; reset 0) -/
  start : Nat
  /-- LEN, 9 bits (R303, 09; reset 0) -/
  len : Nat
  /-- IN_USE (R303, 09; reset 0) -/
  inUse : Bool
  /-- OWNER, 8 bits (R303, 09; reset 0) -/
  owner : Nat
deriving DecidableEq, Repr

/-- Operand memory of the public-key engine (09). -/
structure OperandState where
  /-- CH_OPMEM in force in KiB, by channel (R301, R302, 09; reset none) -/
  layout : KeyMap Nat
  /-- a layout waits from this time on (R302, 09; reset none) -/
  layoutWait : Option Nat
  /-- slot directory, 2,048 entries (R303, 09; reset all 0) -/
  dir : KeyMap DirEntry
  /-- contents of the operand memory, 512 KiB, by KiB; unlisted zero (R301, R304, R305, R324, 09; reset cleared) -/
  mem : KeyMap (List (BitVec 8))
deriving DecidableEq, Repr

end Sys2Proof.Machine
end

