-- ==== Sys2Proof/Machine/Types.lean ====
section
/-!
DEFINITION. The kinds of state of chapters 02 to 05: operating modes, cold start, release sequence, pins, mailboxes,
sessions, acts, transactions, PCIe functions, rings, items and the sector wheel.
Every docstring names the rule, the file and the reset value; INVENTORY.md lists them.
-/

namespace Sys2Proof.Machine

/-- The operating mode of Table 2.1; `off` is the unpowered state of Table 2.3. -/
inductive Mode where
  | off | sentinel | gate | watch | serve | steward | recover | quarantine
deriving DecidableEq, Repr

/-- BASE of the mode word (Table 2.1): nothing outside STEWARD, else the service state beneath the session. -/
inductive Base where
  | none | watch | serve
deriving DecidableEq, Repr

/-- The service gates, bits [14:8] of the mode word (Table 2.1); true holds service closed. -/
structure Gates where
  /-- G_NO_VAULT, 1 bit (R35, R188, 02; reset 1) -/
  noVault : Bool
  /-- G_NO_CHANNEL, 1 bit (R35, R188, 02; reset 1) -/
  noChannel : Bool
  /-- G_CELL_LOW, 1 bit (R35, R44, R45, 02; reset 1) -/
  cellLow : Bool
  /-- G_FENCED, 1 bit (R35, 02; reset 1) -/
  fenced : Bool
  /-- G_LIFECYCLE, 1 bit (R35, R42, 02; reset 1) -/
  lifecycle : Bool
  /-- G_SELFTEST, 1 bit (R35, R47, 02; reset 1) -/
  selftest : Bool
  /-- G_HELD, 1 bit (R35, 02; reset 1) -/
  held : Bool
deriving DecidableEq, Repr

/-- Mode, gates and causes (R35 to R41, 02). -/
structure ModeState where
  /-- MODE, 4 bits (Table 2.1, R35, 02; reset GATE) -/
  mode : Mode
  /-- BASE, 4 bits (Table 2.1, R39, 02; reset 0x0) -/
  base : Base
  /-- service gates, 7 bits (Table 2.1, R35, 02; reset all 1, from 0x0000_7F02) -/
  gates : Gates
  /-- CAUSE, 4 bits (Table 2.1, Table 2.4, 02; reset 0) -/
  cause : Nat
  /-- every cause that was present at the last mode change, the one acted on first (R41, 02; reset none) -/
  causes : List Nat
  /-- last 8 notices of kind MODE_CHANGE, 16 bytes each (R86, 03; reset none) -/
  history : List (Nat × Nat)
deriving DecidableEq, Repr

/-- The start-up result of one unit (R47, R48). -/
inductive UnitStatus where
  | untested | inService | outOfService
deriving DecidableEq, Repr

/-- The cold start (Table 2.5, R51 to R54, 02). -/
structure BootState where
  /-- step of the cold GATE in progress, 1 to 10; 0 when none is (Table 2.5, 02; reset 1) -/
  step : Nat
  /-- DEV_RST_N is low and holds the boot ROM (R549, 17; reset false) -/
  inReset : Bool
  /-- Apex firmware runs (R22, R51, 01; reset false) -/
  apex : Bool
  /-- Facet firmware runs (R51, R558, 02; reset false) -/
  facet : Bool
  /-- the boot ROM or Apex holds the device in GATE for good: BLANK, END_OF_LIFE or an unverified image (R42, R54, 02; reset false) -/
  stopped : Bool
  /-- the shadow integrity check failed at this start (R53, R452, 02; reset false) -/
  shadowFailed : Bool
  /-- the restrictive defaults of Table 14.4 are in force since step 3: the shadows failed, or the QUARANTINE marker was set (R53, R454, 02; reset false) -/
  restricted : Bool
  /-- this start leads to QUARANTINE without opening the vault (R53, 02; reset false) -/
  toQuarantine : Bool
  /-- first reconstruction attempt of the root vertex failed (R183, 06; reset false) -/
  vertexRetry : Bool
  /-- the root vertex is held in the Apex tile (R182, 06; reset false) -/
  vertex : Bool
  /-- the root vertex, 256 bits (R182, 06; reset none: rebuilt at step 4 of every cold GATE) -/
  vertexValue : List (BitVec 8)
  /-- the vault has been opened in this start (R51, R187, 02; reset false) -/
  vaultOpen : Bool
  /-- start-up result of each unit: cores 0 to 15, hash tiles 16 to 23, multipliers 24 to 39, NTT 40, sequencers 41 to 44 (R47, R48, 02; reset untested) -/
  units : KeyMap UnitStatus
  /-- the self-tests of step 7 run (R47, 02; reset false) -/
  testing : Bool
  /-- device time at which step 4 ended (R404, 12; reset 0) -/
  vertexAt : Nat
  /-- bits that the root vertex's code corrected (R182, R488, 06; reset 0) -/
  corrected : Nat
  /-- bits corrected by each reconstruction of this start, the newest first (R183, R492, 06; reset none) -/
  reconstructed : List Nat
deriving DecidableEq, Repr

/-- Where the release sequence stands (R56 to R59). -/
inductive ReleasePhase where
  /-- not started -/
  | idle
  /-- waiting for NEEDS and DELAY of the step, until the given time -/
  | delay (until_ : Nat)
  /-- outputs driven, waiting for WAIT_IN; stable since the first time if any, fails at the second -/
  | input (since : Option Nat) (limit : Nat)
  /-- returning released outputs, next at the given time -/
  | unwind (next : Nat)
  /-- waiting 1 s before the next attempt -/
  | restart (until_ : Nat)
  /-- failed three times, or verification failed: held with G_HELD -/
  | held
  /-- complete -/
  | complete
deriving DecidableEq, Repr

/-- The platform release sequence and the GPIO pins (R49 to R60, 02). -/
structure ReleaseState where
  /-- phase of the release sequence (R56 to R59, 02; reset not started) -/
  phase : ReleasePhase
  /-- step in progress, 0 to 15; RELEASE_STEP of the register file is the steps completed (R109, 03; reset 0) -/
  step : Nat
  /-- failed attempts (R58, R59, 02; reset 0) -/
  attempts : Nat
  /-- outputs driven to their released level, latest first (R58, 02; reset none) -/
  released : List Nat
  /-- GPIO_CFG in force, 24 bytes (R66, 02; reset all 0) -/
  gpioCfg : List (BitVec 8)
  /-- REL_COUNT in force (R66, 02; reset 1) -/
  count : Nat
  /-- REL_STEPS in force, 192 bytes (R66, 02; reset step 0 with WAIT_IN 31) -/
  steps : List (BitVec 8)
  /-- GPIOs that the device drives; the others are high-impedance (R50, 02; reset none) -/
  driven : KeyMap Bool
  /-- levels at the GPIO input balls, bit per GPIO (R57, 02; reset DESIGN CHOICE 0, log 4) -/
  inputs : Nat
deriving DecidableEq, Repr

/-- RECOVER in progress (R61, R355, 02 and 10). -/
structure RecoverState where
  /-- drain before RECOVER by command: limit of 2 s (R61, 02; reset none) -/
  drain : Option Nat
  /-- buses being restored, bit 0 bus A (R36, R355, 10; reset none) -/
  buses : Nat
  /-- buses named by a recovery command that waits for its drain (R357, 10; reset none) -/
  wanted : Nat
deriving DecidableEq, Repr

/-! ### Mailboxes and Orfer (03) -/

/-- The fields of an Orfer request that its handling needs (Table 3.2). -/
structure Request where
  /-- mailbox it arrived on -/
  port : Port
  /-- OPCODE, 16 bits -/
  opcode : Nat
  /-- SEQ, 16 bits -/
  seq : Nat
  /-- SESSION, 32 bits -/
  session : Nat
  /-- REALM, 16 bits -/
  realm : Nat
  /-- version of its response: the session's negotiated version as the request arrived, 1.0 without a session (R76) -/
  version : Nat × Nat
  /-- FRAG of the last fragment -/
  frag : Nat
  /-- the whole payload, fragments joined (R77) -/
  payload : List (BitVec 8)
deriving DecidableEq, Repr

/-- A response formed and not yet written to its mailbox (R69, R76). -/
structure Reply where
  /-- mailbox it answers on -/
  port : Port
  /-- negotiated version, major and minor (R76) -/
  version : Nat × Nat
  /-- OPCODE echoed -/
  opcode : Nat
  /-- SEQ echoed -/
  seq : Nat
  /-- SESSION echoed -/
  session : Nat
  /-- REALM echoed -/
  realm : Nat
  /-- STATUS -/
  status : Nat
  /-- FRAG of the next fragment to write -/
  frag : Nat
  /-- the response is fragmented under R77: FRAG counts from 0 -/
  fragmented : Bool
  /-- FLAGS [2] REPLAY -/
  replay : Bool
  /-- DEVICE_TIME at which it was formed -/
  time : Nat
  /-- payload bytes still to send -/
  payload : List (BitVec 8)
deriving DecidableEq, Repr

/-- One notice record, 16 bytes (R85). -/
structure Notice where
  /-- kind (u16) -/
  kind : Nat
  /-- status (u16) -/
  status : Nat
  /-- argument (u32) -/
  arg : Nat
  /-- device time (u64) -/
  time : Nat
deriving DecidableEq, Repr

/-- The buffers and status of one mailbox: MB0, MB1, MB2 and the shared MB3 (Table 3.1, R68 to R71). -/
structure Mailbox where
  /-- MB_STATUS.BUSY (R67, 03; reset 0) -/
  busy : Bool
  /-- MB_STATUS.RSP_VALID (R67, 03; reset 0) -/
  rspValid : Bool
  /-- MB_STATUS.RSP_LEN, 13 bits (R67, 03; reset 0) -/
  rspLen : Nat
  /-- request buffer, 4 KiB (R67, 03; reset DESIGN CHOICE empty, reading 0, log 5) -/
  request : List (BitVec 8)
  /-- response buffer, 4 KiB (R67, 03; reset DESIGN CHOICE empty, reading 0, log 5) -/
  response : List (BitVec 8)
  /-- requests accepted and not yet executed, first come first (R69, 03; reset none) -/
  inFlight : List Request
  /-- responses formed and waiting for the response buffer (R69, 03; reset none) -/
  formed : List Reply
  /-- the response in the buffer, with what follows it (R71, R77, 03; reset none) -/
  sending : Option Reply
  /-- MB3: function that holds the buffers (R71, 03; reset none) -/
  holder : Option Nat
  /-- MB3: functions queued for the buffers (R71, 03; reset none) -/
  queue : List Nat
  /-- MB3: limit of 10 ms for the first doorbell of a grant (R71, 03; reset none) -/
  grantLimit : Option Nat
  /-- MB3: limit of 10 ms for the ACK of a fragment (R71, 03; reset none) -/
  fragLimit : Option Nat
deriving DecidableEq, Repr

/-- The per-function part of a mailbox window (Table 3.1, offsets 0x014 and 0x020 to 0x02C). -/
structure Window where
  /-- MB_STATUS.DB_IGNORED (R67, 03; reset 0) -/
  dbIgnored : Bool
  /-- MB_STATUS.LEN_ERR (R67, 03; reset 0) -/
  lenErr : Bool
  /-- MB_INT_EN.SRC, 4 bits (R67, 03; reset 0) -/
  intEn : BitVec 4
  /-- MB_INT_STAT.SRC, 4 bits (R67, 03; reset 0) -/
  intStat : BitVec 4
  /-- MB_INT_VEC.VECTOR, 6 bits (R67, 03; reset 0) -/
  intVec : BitVec 6
  /-- MB_NOTICE.DROPPED, 8 bits (R67, 03; reset 0) -/
  dropped : Nat
deriving DecidableEq, Repr

/-- A message of several fragments still arriving (R77, R78). -/
structure PartialMsg where
  /-- OPCODE of every fragment -/
  opcode : Nat
  /-- SEQ of every fragment -/
  seq : Nat
  /-- REALM of every fragment -/
  realm : Nat
  /-- next FRAG expected -/
  next : Nat
  /-- payload so far -/
  payload : List (BitVec 8)
deriving DecidableEq, Repr

/-- One SPDM connection (R366, 11). -/
structure SpdmConn where
  /-- 0 nothing, 1 version done, 2 capabilities done, 3 algorithms negotiated (R366, 11; reset 0) -/
  stage : Nat
  /-- transcript of the version, capabilities and algorithms messages (R367, 11; reset empty) -/
  vca : List (BitVec 8)
  /-- transcript of the certificate messages (R367, 11; reset empty) -/
  transcript : List (BitVec 8)
  /-- measurement messages since the last signature (R368, 11; reset empty) -/
  measured : List (BitVec 8)
deriving DecidableEq, Repr

/-- One Orfer session (R79 to R85, 03). -/
structure Session where
  /-- mailbox it lives on (R79, 03) -/
  port : Port
  /-- REALM of the SESSION_OPEN that opened it: the realm whose notices it gets (R83, R101, 03; log 21) -/
  realm : Nat
  /-- negotiated version (R80, 03) -/
  version : Nat × Nat
  /-- `last` of R84, 16 bits -/
  last : Nat
  /-- `seen` of R84, 1,024 bits -/
  seen : BitVec 1024
  /-- a request has been accepted since the session opened (R84) -/
  accepted : Bool
  /-- response to `last`, once formed (R84) -/
  lastReply : Option Reply
  /-- ports on which a replay of `last` waits for that response (R84) -/
  replays : Nat
  /-- queued notices, at most 64 (R85) -/
  notices : List Notice
  /-- the 120 s without a request end here (R82) -/
  deadline : Nat
  /-- message still arriving (R77) -/
  partialMsg : Option PartialMsg
  /-- SPDM connection of the session (R366, 11) -/
  spdm : SpdmConn
  /-- debug nonce handed to the session, and its age limit (R479, 14) -/
  debugNonce : Option (List (BitVec 8) × Nat)
deriving DecidableEq, Repr

/-- An officer of a realm's roster (03, "Officers and dual control"). -/
structure Officer where
  /-- role: 1 Security Officer, 2 Operator, 3 Auditor -/
  role : Nat
  /-- algorithm: 1 ECDSA P-384, 2 SLH-DSA-SHA2-128f -/
  alg : Nat
  /-- public key -/
  key : List (BitVec 8)
deriving DecidableEq, Repr

/-- State of an act as ACT_STATUS reports it (Table 3.13). -/
inductive ActState where
  | awaiting | assembled | done | cancelled
deriving DecidableEq, Repr

/-- An administrative act (R88 to R93, R557). -/
structure Act where
  /-- ACT_ID (R90) -/
  id : Nat
  /-- opcode of the request -/
  opcode : Nat
  /-- realm of the act -/
  realm : Nat
  /-- class: 0x0A, 0x0B or 0x0C -/
  cls : Nat
  /-- realm that it acts on: another than its own only for a tenant realm's first roster (03, "Officers and dual control") -/
  target : Nat
  /-- session that requested it -/
  session : Nat
  /-- mailbox of the request -/
  port : Port
  /-- request payload -/
  payload : List (BitVec 8)
  /-- the commit's transaction, for CFG_COMMIT -/
  txn : Option Nat
  /-- NONCE, 16 bytes -/
  nonce : List (BitVec 8)
  /-- ACT_DIGEST, 48 bytes -/
  digest : List (BitVec 8)
  /-- officers counted -/
  signed : List Nat
  /-- ST_OFFICER_AUTH results so far (R92) -/
  refused : Nat
  /-- the 300 s end here (R93) -/
  deadline : Nat
  /-- state -/
  state : ActState
  /-- status with which it ended -/
  ended : Nat
deriving DecidableEq, Repr

/-- State of a transaction (CFG_STATUS of Table 3.13). -/
inductive TxnState where
  | opened | validated | act | boundary
deriving DecidableEq, Repr

/-- A configuration transaction (R99 to R107). -/
structure Txn where
  /-- TXN_ID -/
  id : Nat
  /-- owning session -/
  session : Nat
  /-- staged entries after replacement, by FIELD and INSTANCE -/
  entries : KeyMap (List (BitVec 8))
  /-- state -/
  state : TxnState
  /-- the 10 s end here, while the timer runs -/
  timer : Option Nat
  /-- request to answer at the boundary, for a commit with no act -/
  waiting : Option Request
deriving DecidableEq, Repr

/-- An administrative session (R94 to R96). -/
structure Admin where
  /-- Orfer session it is bound to -/
  session : Nat
  /-- ACT_ID of its ADMIN_OPEN -/
  act : Nat
  /-- channels under administration, 256 bits -/
  channels : BitVec 256
  /-- the 900 s end here -/
  deadline : Nat
deriving DecidableEq, Repr

/-- What the device keeps for one realm (03). -/
structure Realm where
  /-- roster: officers by index 0 to 11 (R88, 03; reset none) -/
  roster : KeyMap Officer
  /-- the 16 most recent acts, latest first, the pending one among them (R92, 03; reset none) -/
  acts : List Act
  /-- open transaction (R100, 03; reset none) -/
  txn : Option Txn
  /-- administrative session (R94, 03; reset none) -/
  admin : Option Admin
  /-- ML-KEM transport key pair of the administrative session (R192, 06; reset none) -/
  transport : Option (List (BitVec 8) × List (BitVec 8))
deriving DecidableEq, Repr

/-- Mailbox-wide Orfer state (03). -/
structure Orfer where
  /-- MB0 (R67, 03; reset as Table 3.1) -/
  mb0 : Mailbox
  /-- MB1, whose messages travel over MCTP (R72, 03; reset idle) -/
  mb1 : Mailbox
  /-- MB2 (R67, R344, 03; reset as Table 3.1) -/
  mb2 : Mailbox
  /-- MB3, shared by the virtual functions (R71, 03; reset as Table 3.1) -/
  mb3 : Mailbox
  /-- MB2's interrupt and error registers (R67, 03; reset as Table 3.1) -/
  mb2Window : Window
  /-- notices of MB1's sessions dropped on overflow, saturating at 255, as NOTICE_FETCH reports them (R85, 03; reset 0) -/
  mb1Dropped : Nat
  /-- sessionless messages of several fragments still arriving, by mailbox 0 to 2, or 256 + function on MB3 (R77, R79, 03; reset none) -/
  loose : KeyMap PartialMsg
  /-- open sessions by identifier (R80, 03; reset none) -/
  sessions : KeyMap Session
  /-- next session identifier (R80, 03; reset DESIGN CHOICE 1, log 6) -/
  nextSession : Nat
  /-- realms 0 to 255 (03; reset no roster, no act, no transaction) -/
  realms : KeyMap Realm
  /-- next ACT_ID (R90, 03; reset 1) -/
  nextAct : Nat
  /-- next TXN_ID (R100, 03; reset DESIGN CHOICE 1, log 6) -/
  nextTxn : Nat
  /-- configuration store: value by FIELD × 65,536 + INSTANCE; an unlisted field holds its reset value (R97, 03; reset nothing listed) -/
  cfg : KeyMap (List (BitVec 8))
deriving DecidableEq, Repr

/-- The I3C register file's own state (R109 to R111, 03). -/
structure I3cState where
  /-- address pointer (R109, 03; reset DESIGN CHOICE 0, log 7) -/
  pointer : Nat
  /-- RD_OVERRUN (R109, 03; reset 0) -/
  rdOverrun : Bool
  /-- WR_IGNORED (R109, 03; reset 0) -/
  wrIgnored : Bool
  /-- SMBus or I²C fallback in use (R73, 03; reset DESIGN CHOICE false, log 7) -/
  fallback : Bool
  /-- DIE_TEMP, 16 bits (R109, 03; reset 0) -/
  dieTemp : Nat
  /-- VCORE, 16 bits (R109, 03; reset 0) -/
  vcore : Nat
  /-- POWER, 16 bits (R109, 03; reset 0) -/
  power : Nat
deriving DecidableEq, Repr

/-! ### PCIe functions, rings, items and the wheel (04, 05) -/

/-- One PCIe function: registers and settings (Table 4.5, R114, R151, R277, 04). -/
structure FnState where
  /-- mailbox window registers of the function (R67, 03; reset as Table 3.1) -/
  window : Window
  /-- FN_ERR_VEC.VECTOR, 6 bits (R120, 04; reset 0) -/
  errVec : BitVec 6
  /-- FN_ERR_EN.EN (R120, 04; reset 0) -/
  errEn : Bool
  /-- FN_ERR_STAT.ANY (R120, 04; reset 0) -/
  errAny : Bool
  /-- FN_TIME.HI as latched, 32 bits (R120, 04; reset 0) -/
  timeHi : Nat
  /-- Bus Master Enable (R151, 04; reset PRESUMED 0, the PCIe reset value, log 8) -/
  busMaster : Bool
  /-- Max Payload Size in bytes (R114, R277, 04; reset PRESUMED 128, log 8) -/
  mps : Nat
  /-- Max Read Request Size in bytes (R114, R277, 04; reset PRESUMED 512, log 8) -/
  mrrs : Nat
  /-- MSI-X table as 32-bit words (R120, 04; reset PRESUMED 0, log 8) -/
  msix : KeyMap Nat
  /-- MSI-X pending bit array, bit per vector (R120, 04; reset PRESUMED 0, log 8) -/
  pba : Nat
deriving DecidableEq, Repr

/-- The PCIe link and host tile (R541, R542, R547, 04 and 17). -/
structure PcieState where
  /-- link is up (R542, 17; reset down) -/
  up : Bool
  /-- negotiated width in lanes (R542, 17; reset 0, no link) -/
  width : Nat
  /-- negotiated speed in GT/s (R542, 17; reset 0, no link) -/
  speed : Nat
  /-- PERST_N level (R547, 17; reset low) -/
  perst : Bool
  /-- host tile ready for training from this time (R547, 17; reset none) -/
  readyAt : Option Nat
  /-- NumVFs (Table 4.2, 04; reset 0) -/
  numVFs : Nat
  /-- functions 0 to 127 (04; reset as Table 4.5) -/
  fns : KeyMap FnState
deriving DecidableEq, Repr

/-- A channel binding in force (R115, 04). -/
structure Binding where
  /-- CH_FUNCTION in force (R115, 04; reset 0) -/
  function : Nat
  /-- CH_ISOLATED in force (R115, 04; reset 1) -/
  isolated : Bool
  /-- CH_RING_COUNT in force (R115, 04; reset 0, unbound) -/
  rings : Nat
deriving DecidableEq, Repr

/-- A submission ring in force (Table 4.6, R123, 04). -/
structure Sq where
  /-- SQ_BASE, 64 bits (R122, 04; reset 0, absent) -/
  base : Nat
  /-- SQ_SIZE_LOG2, 4 bits (R122, 04; reset 0) -/
  sizeLog2 : Nat
  /-- SQ_FORMAT, 2 bits (R122, 04; reset 0) -/
  format : Nat
  /-- SQn.HEAD, 16 bits (R122, 04; reset 0) -/
  head : Nat
  /-- SQn.TAIL, 16 bits (R122, 04; reset 0) -/
  tail : Nat
  /-- CH_STATE.SQ_HALTED bit (R122, 04; reset 0) -/
  halted : Bool
  /-- CH_ERR.SQ_DB bit (R122, 04; reset 0) -/
  errDb : Bool
  /-- CH_ERR.SQ_FETCH bit (R122, 04; reset 0) -/
  errFetch : Bool
deriving DecidableEq, Repr

/-- A completion ring in force (Table 4.6, R126, R141, 04). -/
structure Cq where
  /-- CQ_BASE, 64 bits (R122, 04; reset 0, absent) -/
  base : Nat
  /-- CQ_SIZE_LOG2, 4 bits (R122, 04; reset 0) -/
  sizeLog2 : Nat
  /-- CQ_VECTOR, 6 bits (R122, 04; reset 0) -/
  vector : Nat
  /-- CH_CQ.WRITE_IDX, 16 bits (R122, 04; reset 0) -/
  writeIdx : Nat
  /-- CH_CQ.PHASE (R122, 04; reset 1) -/
  phase : Bool
  /-- CH_CQ.HEAD, 16 bits (R122, 04; reset 0) -/
  head : Nat
  /-- CH_CQ.ARMED (R122, 04; reset 0) -/
  armed : Bool
  /-- pending records since the last interrupt (R141, 04; reset 0) -/
  pendingCount : Nat
  /-- moderation timer: the time it started (R141, 04; reset stopped) -/
  timer : Option Nat
  /-- CQ_MOD_COUNT in force (R143, 04; reset 1) -/
  modCount : Nat
  /-- CQ_MOD_TIMER in force, µs (R143, 04; reset 64) -/
  modTimer : Nat
  /-- CH_ERR.CQ_DB (R122, 04; reset 0) -/
  errDb : Bool
  /-- CH_ERR.CQ_WRITE (R122, 04; reset 0) -/
  errWrite : Bool
  /-- a pending record's descriptor had IRQ_NOW set (R141, 04; reset false) -/
  irqNow : Bool
deriving DecidableEq, Repr

/-- The class that decides an item's latency (R140, R207). -/
inductive ItemClass where
  | refused | hit | miss
deriving DecidableEq, Repr

/-- What kind of engine an item's planned work uses (R165, R298). -/
inductive Engine where
  | none | core | lane | mont | ntt | array
deriving DecidableEq, Repr

/-- Equal pieces of an item's work, of which a sector carries at most one (R229, R265, R279). -/
structure Run where
  /-- pieces still to start -/
  count : Nat
  /-- cycles, or CE, of one piece -/
  size : Nat
  /-- share of a core that its stream takes, in 42nds: 42 alone, 6 as one of 7 chained AES streams, 7 as one of 6 chained TDES streams (R265) -/
  share : Nat
  /-- it is counted as a whole engine in its sector, as the base sectors are (R279) -/
  whole : Bool
  /-- key expansion or key load that such a piece pays where the item resumes with it, and that its size does not hold (R266) -/
  key : Nat
deriving DecidableEq, Repr

/-- Planned work of an item (R176, R265 to R269, R279, R298, R299, R317). -/
structure Demand where
  /-- engine -/
  engine : Engine
  /-- pieces still to start, in order -/
  runs : List Run
  /-- what is left of the piece in hand, with its share and whether it counts as a whole engine; 0 where none is in hand -/
  hand : Nat × Nat × Bool
  /-- pieces completed -/
  taken : Nat
  /-- work that runs beside the pieces: an RSA signature's second CRT half, the hash array's work off the critical path (R298, R315) -/
  side : Nat
  /-- key expansion or key load that a piece resumed in its middle pays again (R266) -/
  key : Nat
  /-- drain to a suspension point and 4 cycles, that a preemption within a sector costs (R268, R269, R299) -/
  drain : Nat
  /-- the derivation of R307, 4 CE, and the blob wrap, 160 cycles of a core, are still to come in the last work sector (R319) -/
  wrap : Bool
  /-- sectors of commit after the work and the output (R317) -/
  tail : Nat
  /-- input bytes left on the link (R277) -/
  linkIn : Nat
  /-- output bytes left on the link (R277) -/
  linkOut : Nat
  /-- output bytes that a completed piece makes ready to go; 0 where all of it is ready only when the work ends (R249, R271) -/
  step : Nat
  /-- the output goes in sectors after those of the work (R279, R316, R317) -/
  after : Bool
  /-- output bytes ready to go -/
  ready : Nat
  /-- output bytes that it may send in one sector (R277, R279) -/
  pace : Nat
  /-- cycles, or CE, of a block: an engine stops only at the end of one (R268, R299) -/
  block : Nat
  /-- work on it has begun -/
  begun : Bool
  /-- what a verification's layers spare, in CE, each with the work left, at its worst case, when the layer's digits become known (R321) -/
  spare : List (Nat × Nat)
deriving DecidableEq, Repr

/-- The outcome of an item's execution, held until its release (R32). -/
structure Result where
  /-- STATUS -/
  status : Nat
  /-- output bytes to write at release -/
  out : List (BitVec 8)
  /-- output segments (address and length) it goes to -/
  segments : List (Nat × Nat)
  /-- OUT_WRITTEN -/
  written : Nat
  /-- DETAIL -/
  detail : Nat
  /-- PROVISIONAL flag -/
  provisional : Bool
deriving DecidableEq, Repr

/-- One key reference of an item (R207, R198). -/
structure KeyRef where
  /-- tag -/
  tag : Nat
  /-- IOVA of the blob -/
  iova : Nat
  /-- the key was resident at decode -/
  hit : Bool
  /-- failure of its load or of its key check; 0 while none -/
  status : Nat
deriving DecidableEq, Repr

/-- An item: a fetched descriptor on its way to its record (R140, R175). -/
structure Item where
  /-- number of the fetch within the channel -/
  seq : Nat
  /-- submission ring 0 to 3 -/
  ring : Nat
  /-- slot of the descriptor -/
  slot : Nat
  /-- SQ_FORMAT of the ring it was fetched from -/
  format : Nat
  /-- the 128 descriptor bytes -/
  desc : List (BitVec 8)
  /-- device time at which stages 1 and 2 were complete -/
  decodedAt : Nat
  /-- class -/
  cls : ItemClass
  /-- status fixed so far: stage 1 or key check; 0 while none -/
  status : Nat
  /-- cost in ps (R168) -/
  cost : Nat
  /-- service-set sectors of its plan that are still to come: the work count w at first (R166, R171, R318) -/
  w : Nat
  /-- planned work -/
  demand : Demand
  /-- hold pages reserved, by 16 × buffer + page; all lie in the buffer of its home core (R282) -/
  pages : List Nat
  /-- operand memory reserved, by KiB of the memory (R304) -/
  opmem : List Nat
  /-- context store entries (R267) -/
  contexts : Nat
  /-- first work sector, absolute number -/
  sigma : Nat
  /-- release time -/
  release : Nat
  /-- the key check instant has passed -/
  judged : Bool
  /-- key check instant -/
  checkAt : Nat
  /-- CH_DECTAB in force at admission, 16 bytes (R241) -/
  dectab : List (BitVec 8)
  /-- key references, in order (R211) -/
  refs : List KeyRef
  /-- staged key seen at the key check, with whether it is the vault seed: the target of a KEY_REWRAP (R214, R222) -/
  staged : Option (Bool × Staged)
  /-- a KEY_REWRAP's staged keys as they stood at its admission: its channel's, and channel 0's (R214, R222) -/
  stagedAt : KeyMap Staged
  /-- KEY_PARENT_REVOKED -/
  parentRevoked : Bool
  /-- time at which its work ended; its decode time until then (R492) -/
  doneAt : Nat
  /-- outcome of stage 3 -/
  result : Option Result
  /-- output bytes already written to host memory before the release (R285, R316) -/
  sent : Nat
  /-- sectors of its plan that were still to come when the plan made at its admission let its output begin (R316) -/
  outW : Nat
  /-- bytes drawn for the order in which its leaves and chains go to lanes (R311) -/
  order : List (BitVec 8)
  /-- its record is written by the partner or not at all: no output, no record (R61, R150, R152) -/
  silent : Bool
deriving DecidableEq, Repr

/-- A tenant channel (04, 05). -/
structure Channel where
  /-- binding in force (R115, 04; reset unbound) -/
  binding : Binding
  /-- submission rings 0 to 3 in force (R122, 04; reset absent) -/
  sqs : KeyMap Sq
  /-- completion ring in force (R122, 04; reset absent) -/
  cq : Cq
  /-- CH_CREDIT.USED, 16 bits (R122, 04; reset 0) -/
  used : Nat
  /-- CH_STATE.HALTED (R122, 04; reset 0) -/
  halted : Bool
  /-- a committed completion ring group waits for the drain from this time on (R128, 04; reset none) -/
  cqWait : Option Nat
  /-- a committed binding waits for the drain from this time on (R129, 04; reset none) -/
  bindWait : Option Nat
  /-- ring whose next descriptor is being read (R138, R147, 04; reset none) -/
  fetching : Option Nat
  /-- the read in flight belongs to a ring that a commit has replaced: what it brings is dropped (R127, R147, 04; reset false) -/
  stale : Bool
  /-- items fetched and not yet admitted (R175, 05; reset none) -/
  decoded : List Item
  /-- items admitted and not yet released, in order of admission (R175, 05; reset none) -/
  admitted : List Item
  /-- records held back for the partner, with their items (R32, R397, 12; reset none) -/
  heldRecords : List Item
  /-- number of the next fetch; the model's own counter (log 10; reset DESIGN CHOICE 0) -/
  nextSeq : Nat
  /-- budget in ps, may be below zero (R167, R170, 05; reset DESIGN CHOICE 0 until the cold GATE sets it to its cap, log 11) -/
  budget : Int
  /-- CH_LEN_LIMIT in force, entries by opcode; unlisted 0xFFFF_FFFF (R158, R179, 05; reset all 0xFFFF_FFFF) -/
  lenLimit : KeyMap Nat
deriving DecidableEq, Repr

/-- A change of the map, of pool membership or of length limits on its way to its effective boundary (R179). -/
structure MapChange where
  /-- effective boundary E (R179, 05) -/
  boundary : Nat
  /-- channels that change at E (R179, 05) -/
  changing : List Nat
  /-- the stored sector map takes effect (R155, R179, 05) -/
  map : Bool
  /-- channels whose binding the commit changed: 1 where the channel becomes or stays a pool member (R159, 05) -/
  members : KeyMap Nat
  /-- length limits by channel (R158, 05) -/
  limits : KeyMap (KeyMap Nat)
deriving DecidableEq, Repr

/-- The sector wheel (05). -/
structure Wheel where
  /-- sector map in force: owner by sector; unlisted is the pool (R155, 05; reset all pool) -/
  map : KeyMap Nat
  /-- pool members in dealing order: channel 0, then bound non-isolated channels (R159, R179, 05; reset channel 0 only) -/
  members : List Nat
  /-- changes that wait for their effective boundaries, oldest first (R158, R179, 05; reset none) -/
  waiting : List MapChange
  /-- pool budget in ps (R167, 05; reset DESIGN CHOICE 0, log 11) -/
  pool : Nat
  /-- the current sector is released (R161, 05; reset false) -/
  released : Bool
  /-- next revolution to start (R154, 05; reset 1) -/
  revolution : Nat
  /-- next sector to start, absolute number (R154, 05; reset 1) -/
  sector : Nat
  /-- channels paused under administration, as the last boundary found them (R37, R61, R163, 02 and 05; reset none) -/
  paused : List Nat
deriving DecidableEq, Repr

end Sys2Proof.Machine
end

