-- ==== Sys2Proof/Machine/TypesIdent.lean ====
section
/-!
DEFINITION. The kinds of state of chapter 11: identity keys, certificate slots, signature queue, act outputs, key domain,
domain notices and the coalescing table.
-/

namespace Sys2Proof.Machine

/-- A signature that waits for Apex or is being made (R363): what is signed and what follows. -/
structure SigJob where
  /-- 1 attestation report, 2 key attestation, 3 an act's output (R363) -/
  kind : Nat
  /-- request to answer, for kinds 1 and 2 -/
  request : Option Request
  /-- realm and ACT_ID, for kind 3 -/
  act : Nat × Nat
  /-- bytes to be signed -/
  body : List (BitVec 8)
  /-- bytes of the output that are not signed: the body of an export (R501) -/
  rest : List (BitVec 8)
  /-- hash-array work left, in CE, as channel-0 work (R162, R363, Table 9.7) -/
  work : Nat
  /-- hash-array work of the whole, in CE (R429) -/
  whole : Nat
deriving DecidableEq, Repr

/-- A key domain's state at a member (R370). -/
structure Domain where
  /-- DOMAIN_ID, 16 bytes -/
  id : List (BitVec 8)
  /-- accepted roster, whole (R372) -/
  roster : List (BitVec 8)
  /-- current epoch statement (R372) -/
  statement : List (BitVec 8)
  /-- SHA-256 of the authority public key -/
  authDigest : List (BitVec 8)
  /-- own MEMBER_INDEX -/
  index : Nat
  /-- one more than the highest MEMBER_INDEX that the rosters accepted so far have used (R375) -/
  used : Nat
deriving DecidableEq, Repr

/-- A staged roll at a member (R376). -/
structure Roll where
  /-- new roster -/
  roster : List (BitVec 8)
  /-- new epoch statement -/
  statement : List (BitVec 8)
  /-- this member made the roll, so it answers DOMAIN_PACKAGE_FETCH -/
  roller : Bool
deriving DecidableEq, Repr

/-- An open entry of the coalescing table (R381). -/
structure Coalesce where
  /-- SUBJECT -/
  subject : Nat
  /-- CLASS -/
  cls : Nat
  /-- reporters counted -/
  reporters : List Nat
  /-- REPORTS -/
  reports : Nat
  /-- FIRST -/
  first : Nat
  /-- LAST -/
  last : Nat
  /-- ARG of the first notice -/
  arg : Nat
deriving DecidableEq, Repr

/-- Identity and domain state (11). -/
structure IdentState where
  /-- identity keys derived in this start (R360, 11; reset false) -/
  keys : Bool
  /-- IDENTITY key of Table 6.2, 32 bytes (R184, 11; reset none) -/
  seed : List (BitVec 8)
  /-- certificate slots 0 to 7, DER chains (R364, 11; reset empty) -/
  certs : KeyMap (List (BitVec 8))
  /-- hash-array work left, in CE, of the identity signing key's top-tree table, as channel-0 work (R361, 11; reset 0) -/
  treeWork : Nat
  /-- signature in progress first, then at most 8 waiting (R363, 11; reset none) -/
  signing : List SigJob
  /-- act outputs by realm: ACT_ID, bytes, limit of 3,600 s (R373, R415, R500, 11; reset none) -/
  outputs : KeyMap (Nat × List (BitVec 8) × Nat)
  /-- domain membership (R370, 11; reset none) -/
  domain : Option Domain
  /-- seal of the stored domain state (R370, 11; reset none) -/
  domainSeal : List (BitVec 8)
  /-- the sealed domain state failed its seal (R377, 11; reset false) -/
  sealFailed : Bool
  /-- staged roll (R376, 11; reset none) -/
  roll : Option Roll
  /-- join ticket: DOMAIN_ID, SHA-256 of AUTH_PK, limit of 3,600 s (R375, 11; reset none) -/
  ticket : Option (List (BitVec 8) × List (BitVec 8) × Nat)
  /-- next notice SEQ (R378, 11; reset 1) -/
  noticeSeq : Nat
  /-- time of the last notice issued by SUBJECT × 16 + CLASS (R379, 11; reset none) -/
  issued : KeyMap Nat
  /-- outgoing domain notices, at most 256, oldest first, 64 bytes each (R379, 11; reset none) -/
  outgoing : List (List (BitVec 8))
  /-- last SEQ accepted by reporter (R380, 11; reset none) -/
  lastSeq : KeyMap Nat
  /-- coalescing table, oldest first (R381, 11; reset empty) -/
  table : List Coalesce
  /-- ring of 64 fault summaries, 32 bytes each, oldest first (R381, 11; reset empty) -/
  summaries : List (List (BitVec 8))
  /-- notice counters: accepted, and dropped by reason 1 MAC, 2 roster, 3 clock, 4 SEQ (R373, R380, 11; reset 0) -/
  counters : KeyMap Nat
  /-- previous epoch's notice key and its limit of 600 s (R380, 11; reset none) -/
  prevKey : Option (List (BitVec 8) × Nat)
deriving DecidableEq, Repr

end Sys2Proof.Machine
end

