-- ==== Sys2Proof/Machine/TypesPair.lean ====
section
/-!
DEFINITION. The kinds of state of chapter 12: the Chord link, the pair's state, the ledger of the partner's items, the two-phase exchange, fences.
-/

namespace Sys2Proof.Machine

/-- PAIR_STATE (Table 12.9). -/
inductive PairMode where
  | unpaired | linkDown | syncing | paired | linkLost | solo | fenced | version
deriving DecidableEq, Repr

/-- One ledger entry of an item admitted by the partner (Table 12.5). -/
structure LedgerEntry where
  /-- ITEM_TAG -/
  tag : Nat
  /-- release time -/
  release : Nat
  /-- channel -/
  chan : Nat
  /-- ring -/
  ring : Nat
  /-- MISS_CLASS -/
  miss : Bool
  /-- REFUSED -/
  refused : Bool
  /-- slot -/
  slot : Nat
deriving DecidableEq, Repr

/-- Checkpoint of a channel homed on the partner, from BEAT frames (Table 12.4). -/
structure Checkpoint where
  /-- confirmed head by ring -/
  heads : KeyMap Nat
  /-- recorded tail by ring -/
  tails : KeyMap Nat
  /-- CH_CQ.WRITE_IDX -/
  writeIdx : Nat
  /-- PHASE -/
  phase : Bool
  /-- CH_CQ.HEAD -/
  head : Nat
deriving DecidableEq, Repr

/-- What a mirrored commit, act or request changes on each member (R105, R195, R197, R370, R389). -/
inductive Mirrored where
  /-- a realm's validated entries, by FIELD and INSTANCE -/
  | commit (entries : KeyMap (List (BitVec 8)))
  /-- a staged key of a channel -/
  | stage (c : Nat) (key : Staged)
  /-- ROOT_SWAP, ROOT_UNSTAGE, ROOT_INVALIDATE or ROOT_ERASE of a slot -/
  | root (op c i : Nat)
  /-- membership of a domain, with its keys by channel -/
  | join (domain : Domain) (keys : KeyMap (List (BitVec 8)))
  /-- a newer roster -/
  | roster (bytes : List (BitVec 8))
  /-- a staged roll, with its keys by channel -/
  | roll (roll : Roll) (keys : KeyMap (List (BitVec 8)))
  /-- the staged roll is activated -/
  | activate
  /-- the domain is left -/
  | leave
  /-- a new LINK key -/
  | rekey (key : List (BitVec 8))
  /-- the device is bound: its PAIR_ROLE, the partner's signed member card, the LINK key and its GEN_HINT; never mirrored (R388) -/
  | bind (role : Nat) (card key : List (BitVec 8)) (hint : Nat)
  /-- the device is unbound; never mirrored (R389) -/
  | unbind
  /-- nothing but the act's own output -/
  | nothing
deriving DecidableEq, Repr

/-- A change on its way to its boundary or through its exchange: a realm's commit, an act, or a request (R399). -/
structure Change where
  /-- realm of the commit or act -/
  realm : Nat
  /-- ACT_ID, 0 without an act -/
  act : Nat
  /-- request to answer, for a change without an act and without a transaction -/
  request : Option Request
  /-- the act's output -/
  output : List (BitVec 8)
  /-- what changes -/
  what : Mirrored
deriving DecidableEq, Repr

/-- Where an exchange stands (Table 12.6). -/
inductive ExchangePhase where
  /-- waiting for the link to leave LINK_LOST (R401) -/
  | waiting
  /-- PREPARE sent or received -/
  | prepared
  /-- COMMIT sent or received, naming T -/
  | committed
  /-- COMMIT_ACK received: applies at T -/
  | confirmed
  /-- in doubt (R400) -/
  | doubt
deriving DecidableEq, Repr

/-- One two-phase exchange (R399). -/
structure Exchange where
  /-- phase -/
  phase : ExchangePhase
  /-- the change -/
  change : Change
  /-- T, once named -/
  time : Nat
  /-- 5 ms limit of the step in progress -/
  limit : Nat
deriving DecidableEq, Repr

/-- The pair (12). -/
structure PairState where
  /-- PAIR_STATE (R415, Table 12.9, 12; reset UNPAIRED) -/
  mode : PairMode
  /-- lanes up, bit 0 and 1 (R391, 12; reset 0) -/
  lanes : Nat
  /-- eye margin by lane: mUI and mV (R392, 12; reset 0) -/
  margins : KeyMap (Nat × Nat)
  /-- HELLO done since the link came up (R393, 12; reset false) -/
  hello : Bool
  /-- negotiated minor version (R393, 12; reset 0) -/
  minor : Nat
  /-- own HELLO nonce, 32 bytes (R393, 12; reset none) -/
  nonce : List (BitVec 8)
  /-- the partner's HELLO, where it arrived before this member could send its own (R391, 12; reset none) -/
  early : List (BitVec 8)
  /-- session keys, 64 bytes (R393, 12; reset none) -/
  keys : List (BitVec 8)
  /-- last frame sequence sent (R393, 12; reset 0) -/
  txSeq : Nat
  /-- highest frame sequence up to which every one was received (Table 12.4, 12; reset 0) -/
  rxOrder : Nat
  /-- frame sequences received beyond it (R393, 12; reset none) -/
  rxAhead : List Nat
  /-- highest own frame sequence acknowledged (R397, 12; reset 0) -/
  acked : Nat
  /-- frames dropped (R393, 12; reset 0) -/
  droppedFrames : Nat
  /-- own ADMIT entries not acknowledged: frame sequence and (channel, item number) (R397, 12; reset none) -/
  admits : List (Nat × Nat × Nat)
  /-- own REL entries not acknowledged: frame sequence and channel (R397, 12; reset none) -/
  rels : List (Nat × Nat)
  /-- ledger of the partner's items, at most 32,768 (R396, 12; reset empty) -/
  ledger : List LedgerEntry
  /-- checkpoints of channels homed on the partner (R395, 12; reset none) -/
  checkpoints : KeyMap Checkpoint
  /-- changes that apply on this device alone at the next revolution boundary (R106, R197, R401, 12; reset none) -/
  changes : List Change
  /-- exchanges that this member originated, by number (R399, 12; reset none) -/
  own : KeyMap Exchange
  /-- exchanges that the partner originated, by number (R399, 12; reset none) -/
  theirs : KeyMap Exchange
  /-- the partner's fields of block 0x04, stored and never applied, by FIELD and INSTANCE (R328, 10; reset none) -/
  platform : KeyMap (List (BitVec 8))
  /-- the partner's signed member card, kept in the configuration store with PAIR_PARTNER since PAIR_BIND or PAIR_ACCEPT (R373, R388, 12; reset none) -/
  card : List (BitVec 8)
  /-- the partner's exchanges that this member applied and the partner is not known to have, by number: realm and ACT_ID (R400, 12; reset none) -/
  applied : KeyMap (Nat × Nat)
  /-- next exchange number (R399, 12; reset DESIGN CHOICE 1, log 15) -/
  nextExchange : Nat
  /-- MSEQ, 64 bits, kept sealed (R403, 12; reset DESIGN CHOICE 0, log 15) -/
  mseq : Nat
  /-- MSEQ that the partner's last HELLO or BEAT named (R393, R404, R413, 12; reset 0) -/
  theirMseq : Nat
  /-- changes applied alone since the last PAIRED state (R413, 12; reset 0) -/
  alone : Nat
  /-- next heartbeat window (R404, 12; reset 0) -/
  window : Nat
  /-- a valid BEAT arrived in the current window (R404, 12; reset false) -/
  beat : Bool
  /-- consecutive missed windows (R404, 12; reset 0) -/
  missed : Nat
  /-- deadline (R404, 12; reset none) -/
  deadline : Option Nat
  /-- PAIRED has been reached since the last cold GATE or release from a fence (R404, 12; reset false) -/
  everPaired : Bool
  /-- a cold GATE has passed on this device since it was last PAIRED, and its partner has not been told (R196, 06; reset true) -/
  fresh : Bool
  /-- PAIR_FENCE_OUT driven high (R405, 12; reset low) -/
  fenceOut : Bool
  /-- PAIR_FENCE_IN level (R406, 12; reset low) -/
  fenceIn : Bool
  /-- next fence test pulse (R407, 12; reset none) -/
  pulseAt : Option Nat
  /-- the last pulse has been reported (R407, 12; reset true) -/
  pulseSeen : Bool
  /-- pulses unreported in a row (R407, 12; reset 0) -/
  pulseMissed : Nat
  /-- the fence wire counts as faulty (R407, 12; reset false) -/
  fenceFault : Bool
  /-- last fence test: time and outcome (R415, 12; reset none) -/
  lastTest : Option (Nat × Bool)
  /-- last takeover: time and scan count (R415, 12; reset none) -/
  takeover : Option (Nat × Nat)
  /-- channels homed on the partner that this member serves after a takeover (R409, R414, 12; reset none) -/
  serving : List Nat
  /-- channels that this member serves from the next revolution boundary on (R409, R412, 12; reset none) -/
  nextServing : List Nat
  /-- channels homed on this member that the partner serves or has served, so that this one does not (R414, R416, 12; reset none) -/
  away : List Nat
  /-- channels whose home change waits for its drain, with the new home (R412, 12; reset none) -/
  handover : KeyMap Nat
  /-- member 1 waits for no admitted item before it steps its time by this much to the partner's (R394, 12; reset none) -/
  timeStep : Option Int
  /-- resynchronisation records received so far (R413, 12; reset none) -/
  sync : List (List (BitVec 8))
  /-- this member is the source of the resynchronisation in progress (R413, 12; reset none in progress) -/
  source : Option Bool
  /-- the source's state has been applied since this member was last fenced (R413, 12; reset false) -/
  synced : Bool
  /-- PAIR_FAILBACK as member 0 has it (R414, 12; reset 1) -/
  failback : Bool
  /-- the partner's last BEAT named FENCE_ME (R404, 12; reset false) -/
  fenceMe : Bool
  /-- the PCIe link has gone down since it last trained, so that BEATs carry FENCE_ME (R408, 12; reset false) -/
  pcieLost : Bool
  /-- sealed copy of the LINK slot: material, GEN, KCV (R390, 12; reset none) -/
  linkCopy : Option (List (BitVec 8) × Nat × List (BitVec 8))
  /-- seal of that copy (R390, 12; reset none) -/
  linkSeal : List (BitVec 8)
deriving DecidableEq, Repr

end Sys2Proof.Machine
end

