-- ==== Sys2Proof/Machine/TypesPlat.lean ====
section
/-!
DEFINITION. The kinds of state of chapter 10: protected buses, flash shadows, frames and operations, verification,
golden sets, the private flash port and the monotonic record.
-/

namespace Sys2Proof.Machine

/-- Shadow status of one chip select (Table 10.9, R339). -/
structure Shadow where
  /-- SR1 [0] WIP (R339, 10; reset 0) -/
  wip : Bool
  /-- SR1 [1] WEL (R339, 10; reset 0) -/
  wel : Bool
  /-- SR1 [7:2] as last read from the flash (R339, 10; reset DESIGN CHOICE 0, log 14) -/
  sr1 : Nat
  /-- SR2 as last read from the flash (R339, 10; reset DESIGN CHOICE 0, log 14) -/
  sr2 : Nat
  /-- Flag [5] ERASE_ERR (R339, 10; reset 0) -/
  eraseErr : Bool
  /-- Flag [4] PROGRAM_ERR (R339, 10; reset 0) -/
  programErr : Bool
  /-- Flag [1] PROTECT (R339, 10; reset 0) -/
  protect : Bool
  /-- Flag [0] ADDR4, shadow 4-byte mode (R339, 10; reset 0) -/
  addr4 : Bool
  /-- the previous frame of this chip select was a RESET ENABLE (R338, 10; reset false) -/
  resetEnabled : Bool
deriving DecidableEq, Repr

/-- A host frame in progress and what it keeps from its chip-select fall (R337, R359). -/
structure Frame where
  /-- chip select 0 or 1 -/
  cs : Nat
  /-- shadow WIP of the chip select when the frame began -/
  wip : Bool
  /-- the host side was open when the frame began -/
  opened : Bool
  /-- configuration fields of block 0x04 in force at the fall (R359) -/
  tables : KeyMap (List (BitVec 8))
  /-- a ZEROISE has come while it lasts, so that a buffered frame is discarded (R359) -/
  zeroised : Bool
deriving DecidableEq, Repr

/-- A flash operation that the device has issued (R338, R356). -/
structure FlashOp where
  /-- class of the frame: 6 program, 7 erase, 8 chip erase, 9 status write; 0 restoration (R338, R356) -/
  cls : Nat
  /-- flash timeout -/
  deadline : Nat
deriving DecidableEq, Repr

/-- One denied frame of PLAT_DENIALS (R358). -/
structure Denial where
  /-- opcode -/
  opcode : Nat
  /-- chip select -/
  cs : Nat
  /-- mode set: 0 BOOT, 1 RUN, 2 RECOVER -/
  modeSet : Nat
  /-- address -/
  addr : Nat
  /-- device time -/
  time : Nat
deriving DecidableEq, Repr

/-- An area under restoration in RECOVER (R356). -/
structure Restore where
  /-- areas still to restore: region numbers of the golden manifest, 32 for the manifest area -/
  areas : List Nat
  /-- the current area has failed once -/
  failedOnce : Bool
deriving DecidableEq, Repr

/-- One protected bus (10). -/
structure Bus where
  /-- host side open (R327, 10; reset closed) -/
  opened : Bool
  /-- flash side up (R342, 10; reset down) -/
  flashUp : Bool
  /-- dirty since its last verification (R327, 10; reset false) -/
  dirty : Bool
  /-- PLAT_A or PLAT_B: 0 pending, 1 passed, 2 failed, 3 restored (R350, 10; reset 0) -/
  plat : Nat
  /-- restored at least once since the cold GATE, so a pass reads 3 (R350, 10; reset false) -/
  restored : Bool
  /-- a verification runs: 0 none, 1 of a GATE, 2 of PLAT_VERIFY (R350, R357, 10; reset 0) -/
  verifying : Nat
  /-- manifest being verified or last verified (R350, 10; reset none) -/
  manifest : Option (List (BitVec 8))
  /-- the manifest of the running verification is well formed and signed: steps 1 and 2 of Table 10.15 (R350, R357, 10; reset false) -/
  manifestOk : Bool
  /-- manifest that passed in the current GATE (R351, R354, 10; reset none) -/
  gateManifest : Option (List (BitVec 8))
  /-- the bus has passed in the current GATE (R354, 10; reset false) -/
  passed : Bool
  /-- regions whose digest is still to be compared (R350, 10; reset none) -/
  toCheck : List Nat
  /-- failing-region bitmap, 32 bits (R358, 10; reset 0) -/
  failing : Nat
  /-- last status (R358, 10; reset 0) -/
  last : Nat
  /-- RECOVER entries since the cold GATE (R356, 10; reset 0) -/
  recovers : Nat
  /-- restoration in progress (R356, 10; reset none) -/
  restoring : Option Restore
  /-- shadows of chip selects 0 and 1 (R339, 10; reset as Table 10.9) -/
  cs0 : Shadow
  /-- shadow of chip select 1 (R339, 10; reset as Table 10.9) -/
  cs1 : Shadow
  /-- frame in progress (R343, R359, 10; reset none) -/
  frame : Option Frame
  /-- flash operations issued and not ended, by chip select (R338, 10; reset none) -/
  ops : KeyMap FlashOp
  /-- chip selects whose RESET waits for the operations in progress to end, oldest first (R338, 10; reset none) -/
  resetWait : List Nat
  /-- DENIED count (R358, 10; reset 0) -/
  denied : Nat
  /-- MALFORMED count (R358, 10; reset 0) -/
  malformed : Nat
  /-- TIMEOUT count (R358, 10; reset 0) -/
  timeouts : Nat
  /-- last 16 denied frames, latest first (R358, 10; reset none) -/
  denials : List Denial
  /-- time of the last PLAT_DENIED notice (R338, 10; reset none) -/
  noticeAt : Option Nat
  /-- denials since the last PLAT_DENIED notice (R338, 10; reset 0) -/
  sinceNotice : Nat
  /-- first 512 bytes of SFDP as read from chip selects 0 and 1 (R336, 10; reset none) -/
  sfdp : KeyMap (List (BitVec 8))
  /-- density of each chip select from SFDP, in bytes (R337, 10; reset none) -/
  density : KeyMap Nat
  /-- BUS_TIMING in force, 8 bytes (R341, 10; reset as Table 10.7) -/
  timing : List (BitVec 8)
deriving DecidableEq, Repr

/-- A golden set (R354, R355). -/
structure Golden where
  /-- its manifest -/
  manifest : List (BitVec 8)
  /-- its directory entry is intact and its digests match its copies -/
  intact : Bool
  /-- private-flash offset of its copies: the manifest in whole sectors, then the regions (R354; log 145) -/
  place : Nat
deriving DecidableEq, Repr

/-- The erase of every byte of the private flash, step 2 of a scrap (R469). -/
structure ChipErase where
  /-- realm and ACT_ID of the scrap's act; none in the factory -/
  act : Option (Nat × Nat)
  /-- the scrap goes on after it -/
  goes : Bool
deriving DecidableEq, Repr

/-- Private flash port (Table 10.12, R345 to R347). -/
structure PrivState where
  /-- PF_STATUS.BUSY (R347, 10; reset 0) -/
  busy : Bool
  /-- PF_STATUS.TIMEOUT (R347, 10; reset 0) -/
  timeout : Bool
  /-- PF_STATUS.WP_FAULT (R347, 10; reset 0) -/
  wpFault : Bool
  /-- PF_STATUS.READY (R347, 10; reset 0) -/
  ready : Bool
  /-- PF_ERASE.ADDR, 28 bits (R347, 10; reset 0) -/
  eraseAddr : Nat
  /-- PF_ERASE.SIZE, 2 bits (R347, 10; reset 0) -/
  eraseSize : Nat
  /-- PF_WP ranges 0 to 7: BASE and LIMIT blocks and EN (R347, 10; reset 0) -/
  wp : KeyMap (Nat × Nat × Bool)
  /-- PF_LOCK.LOCK (R347, 10; reset 0) -/
  lock : Bool
  /-- page being gathered: page number and bytes by offset (R346, 10; reset none) -/
  gathered : Option (Nat × KeyMap (BitVec 8))
  /-- time of the last gathered write (R346, 10; reset 0) -/
  gatheredAt : Nat
  /-- a program is in progress and stalls every window access since this time (R346, 10; reset none) -/
  stalled : Option Nat
  /-- window writes that stall, as offset and bytes (R346, 10; reset none) -/
  waiting : List (Nat × List (BitVec 8))
  /-- time since which the first of them stalls (R346, 10; reset none) -/
  waitSince : Option Nat
  /-- the flash has let an operation of the device time out and has not answered since (R352, R354, R359, 10; reset false) -/
  failing : Bool
  /-- golden capture in progress: bus and ACT_ID (R354, 10; reset none) -/
  capturing : Option (Nat × Nat)
  /-- density that SFDP reports, in bytes (R346, 10; reset 0 until the port is up) -/
  density : Nat
  /-- read cache: 64-byte line numbers held (R346, 10; reset none) -/
  cache : List Nat
  /-- golden sets by bus (R354, 10; reset none) -/
  golden : KeyMap Golden
  /-- recorded SVN by bus (R351, R352, 10; reset 0) -/
  svn : KeyMap Nat
  /-- SEQ of the last record entry written (R352, 10; reset 0) -/
  recordSeq : Nat
  /-- block in use of the record area, 0 or 1 (R352, 10; reset 0) -/
  recordBlock : Nat
  /-- entries of block 0 of the record area, 64 bytes each, at most 1,024 (Table 10.16, R352, 10; reset none) -/
  block0 : List (List (BitVec 8))
  /-- entries of block 1 (Table 10.16, R352, 10; reset none) -/
  block1 : List (List (BitVec 8))
  /-- BUS_TIMING of the private port in force (R341, 10; reset as Table 10.7) -/
  timing : List (BitVec 8)
  /-- a scrap's chip erase in progress (R469, 14; reset none) -/
  chipErase : Option ChipErase
  /-- status with which the last one ended (R483, 14; reset 0) -/
  eraseStatus : Nat
deriving DecidableEq, Repr

end Sys2Proof.Machine
end

