-- ==== Sys2Proof/Machine/TypesRec.lean ====
section
/-!
DEFINITION. The kinds of state of chapters 15 and 16: the Locus recorder with its journal and histograms, the tiles with
their adaptive loops and crossings, and the AVS controller.
-/

namespace Sys2Proof.Machine

/-- One record of the staging buffer (Table 15.1). -/
structure Rec where
  /-- RSEQ -/
  rseq : Nat
  /-- the 128 bytes -/
  bytes : List (BitVec 8)
  /-- alarm-class -/
  alarm : Bool
deriving DecidableEq, Repr

/-- One 128-byte slot of the journal in the private flash (R495). -/
structure JournalSlot where
  /-- its number, counted from 0x090_0000 (Table 15.9) -/
  addr : Nat
  /-- its bytes -/
  bytes : List (BitVec 8)
  /-- what CHAIN is formed over before this slot, where the journal writer has erased the slots before it (R495, R502; log 161) -/
  before : Option (List (BitVec 8))
deriving DecidableEq, Repr

/-- One histogram (R492, R493). -/
structure Hist where
  /-- HIST_CONFIG in force, 16 bytes -/
  config : List (BitVec 8)
  /-- bin counts by bin; unlisted 0 -/
  bins : KeyMap Nat
  /-- minimum and its device time -/
  lowest : Int × Nat
  /-- maximum and its device time -/
  highest : Int × Nat
  /-- SAMPLES -/
  samples : Nat
  /-- CLEARED -/
  cleared : Nat
deriving DecidableEq, Repr

/-- The Locus recorder (15). -/
structure RecState where
  /-- runs since Facet start (R484, 15; reset false) -/
  running : Bool
  /-- next RSEQ (R486, 15; reset 1) -/
  nextRseq : Nat
  /-- staging buffer, at most 64 records (R496, 15; reset empty) -/
  staging : List Rec
  /-- the journal's slots in the order in which they were written (R495, 15; reset empty) -/
  journal : List JournalSlot
  /-- circulating sector in use, counted from 1, and slots used in it (R495, R496, 15; reset 0 and 0) -/
  circPos : Nat × Nat
  /-- slots used in the kept area (R495, 15; reset 0) -/
  keptPos : Nat
  /-- checkpoints written (R495, 15; reset 0) -/
  checkpointPos : Nat
  /-- SECTOR_SEQ of the last sector opened (R495, 15; reset 0) -/
  sectorSeq : Nat
  /-- LAST_RSEQ of the newest seal (R495, 15; reset 0) -/
  sealed : Nat
  /-- CHAIN of the newest seal (R495, 15; reset zero) -/
  chain : List (BitVec 8)
  /-- time by which the next flush starts (R496, 15; reset none) -/
  flushBy : Option Nat
  /-- time of the next retry after a failed flush (R497, 15; reset none) -/
  retryAt : Option Nat
  /-- device time of the last flush, and its status (Table 15.11, 15; reset 0 and 0) -/
  lastFlush : Nat × Nat
  /-- records dropped since the buffer filled (R497, 15; reset 0) -/
  dropped : Nat
  /-- losses since the cold GATE (Table 15.11, 15; reset 0) -/
  losses : Nat
  /-- suppressions since the cold GATE (R489, 15; reset 0) -/
  suppressed : Nat
  /-- whole second and firings in it, by trigger (R489, 15; reset none) -/
  rate : KeyMap (Nat × Nat)
  /-- last Sentinel SEQ carried over (R499, 15; reset 0, none) -/
  carried : Nat
  /-- histograms 0 to 63 (R492, 15; reset cleared) -/
  hists : KeyMap Hist
  /-- histograms whose HIST_CONFIG takes effect at the next sample (R492, 15; reset none) -/
  histNew : List Nat
  /-- stretches that the last sample of a STRETCH histogram had counted, by histogram (R514, Table 15.6, 15; reset 0) -/
  stretchSeen : KeyMap Nat
  /-- next checkpoint of the histograms (R494, 15; reset 10 s) -/
  checkpointAt : Nat
  /-- journal records of TEST have been erased at the first cold GATE in PRODUCTION (R486, 15; reset false) -/
  production : Bool
deriving DecidableEq, Repr

/-- One tile (Table 16.1, Table 16.3). -/
structure Tile where
  /-- TILE_n.VLOCAL in mV, 10 bits (R522, 16; reset Measured: VDD_CORE − 20 mV at step 1, within R513) -/
  vlocal : Nat
  /-- TILE_n.IN_SERVICE (R522, 16; reset 1) -/
  inService : Bool
  /-- TILE_n.AT_CEILING (R522, 16; reset 0) -/
  atCeiling : Bool
  /-- TILE_n.PLL_LOCK (R522, 16; reset 0) -/
  pllLock : Bool
  /-- TILE_n.FREQ_KHZ, 32 bits (R522, 16; reset 0) -/
  freq : Nat
  /-- TILE_n.STRETCH, 32 bits (R522, 16; reset 0) -/
  stretch : Nat
  /-- TILE_n.OVER_BUDGET, 16 bits (R522, 16; reset 0) -/
  overBudget : Nat
  /-- TILE_n.CDC_TIMEOUTS, 16 bits (R522, 16; reset 0) -/
  cdcTimeouts : Nat
  /-- TILE_n.SAT (R522, 16; reset 0) -/
  sat : Bool
  /-- consecutive loop intervals with slack above 11 % throughout (R513, 16; reset 0) -/
  high : Nat
  /-- at ceiling since this time (R516, 16; reset none) -/
  ceilingSince : Option Nat
  /-- sector whose stretches are counted, and their number (R515, 16; reset 0 and 0) -/
  sector : Nat × Nat
  /-- consecutive sectors over budget (R516, 16; reset 0) -/
  overRun : Nat
  /-- last sector that went over budget (R516, 16; reset 0) -/
  lastOver : Nat
  /-- die temperature last read, in 1/16 °C as 16 bits (Table 15.5, 15; reset 0) -/
  temp : Nat
deriving DecidableEq, Repr

/-- The source side of a count crossing (R511). -/
structure CountCrossing where
  /-- accumulator of source pulses, 16 bits, saturating (R511, 16; reset 0) -/
  acc : Nat
  /-- the accumulator has saturated: SAT goes with the next value (R511, 16; reset false) -/
  sat : Bool
deriving DecidableEq, Repr

/-- A write of the AVS controller in progress (R519). -/
structure AvsWrite where
  /-- target in mV -/
  target : Nat
  /-- the readback is awaited rather than the write's status -/
  readback : Bool
  /-- repeats so far -/
  repeats : Nat
deriving DecidableEq, Repr

/-- The AVS controller (R518 to R522). -/
structure AvsState where
  /-- the controller runs (R521, 16; reset true, from step 1) -/
  running : Bool
  /-- AVS_SET.MV, S last read back, 10 bits (R522, 16; reset 0) -/
  mv : Nat
  /-- AVS_SET.DEMAND, 10 bits (R522, 16; reset 0) -/
  demand : Nat
  /-- AVS_STATUS.FAULT (R522, 16; reset 0) -/
  fault : Bool
  /-- AVS_STATUS.RETRIES, 8 bits (R522, 16; reset 0) -/
  retries : Nat
  /-- AVS_STATUS.READBACK, 16 bits (R522, 16; reset 0) -/
  readback : Nat
  /-- write in progress (R519, 16; reset none) -/
  write : Option AvsWrite
  /-- D at or below S − 15 mV since this time (R519, 16; reset none) -/
  lowSince : Option Nat
  /-- time of the last lowering write (R519, 16; reset none) -/
  loweredAt : Option Nat
  /-- next repeat of a failed write after 10 µs, or next try after a fault (R519, 16; reset none) -/
  retryAt : Option Nat
  /-- span that VCORE_GLITCH compares with after a write, and its end (R521, 16; reset none) -/
  span : Option (Nat × Nat × Nat)
  /-- VDD_CORE in mV as step 1 of the cold GATE found it: the rail that the monitors saw rise, or S in force at a reset (R520, R521, 16; reset 850) -/
  base : Nat
deriving DecidableEq, Repr

/-- Tiles and crossings (16). -/
structure TileState where
  /-- tiles 0 to 23 (R504, R522, 16; reset as Table 16.3) -/
  tiles : KeyMap Tile
  /-- crossings that have timed out and pass nothing, by 32 × source + destination (R510, 16; reset none) -/
  stuck : KeyMap Bool
  /-- count crossings that hold pulses: 0 to 23 the clock-swallow events of that tile, 24 the charge quanta, 25 the shield mismatches, 26 the
  photodiode pulses (R510, R511, 16; reset none: accumulator 0) -/
  counts : KeyMap CountCrossing
  /-- AVS controller (R518, 16) -/
  avs : AvsState
deriving DecidableEq, Repr

end Sys2Proof.Machine
end

