-- ==== Sys2Proof/Machine/TypesTamper.lean ====
section
/-!
DEFINITION. The kinds of state of chapters 13 and 14: supplies, the Sentinel domain, detectors, the Sentinel log, the
backup cell, the OTP array with its shadows and wires, the firmware slots and JTAG.
-/

namespace Sys2Proof.Machine

/-- Supplies and the input balls that say how they stand (R43, R546 to R549). -/
structure SupplyState where
  /-- SYS_PWRGD level (R43, 02; reset high: main power has just become good) -/
  pwrgd : Bool
  /-- the main rails as the monitors find them (R43, R535, 17; reset nominal of Table 17.8, VDD_CORE as R520 starts it) -/
  rails : Rails
  /-- the Sentinel domain has supply (R43, R417, 13; reset true) -/
  sentinel : Bool
  /-- I3C_ADDR_SEL as sampled at step 1 (R530, 17; reset DESIGN CHOICE low, log 4) -/
  i3cSel : Bool
  /-- FA_RESET_N, FB_RESET_N and FP_RESET_N as bits 0 to 2: 1 high (R527, R342, Table 17.4, 17; reset low) -/
  flashReset : Nat
deriving DecidableEq, Repr

/-- One Sentinel log entry (Table 13.7). -/
structure LogEntry where
  /-- STATE: 0 free, 1 pending, 2 done -/
  state : Nat
  /-- SEVERITY, 1 to 4 -/
  severity : Nat
  /-- FLAGS, 8 bits -/
  flags : Nat
  /-- DETECTORS, 32 bits -/
  detectors : Nat
  /-- RTC, seconds -/
  rtc : Nat
  /-- SUBSEC, 1/32,768 s -/
  subsec : Nat
  /-- DEVICE_TIME -/
  time : Nat
  /-- COUNT -/
  count : Nat
  /-- SEQ -/
  seq : Nat
  /-- CRC -/
  crc : Nat
deriving DecidableEq, Repr

/-- One detector (Table 13.2, R427, R442). -/
structure Detector where
  /-- the last sample found it tripped (R427, 13; reset false) -/
  tripped : Bool
  /-- its last test failed (R442, 13; reset false) -/
  failed : Bool
  /-- RTC seconds of its last alarm (Table 13.11, 13; reset 0, none) -/
  alarmAt : Nat
  /-- it has been tested (Table 3.13, 03; reset false) -/
  tested : Bool
  /-- RTC seconds of its last test (Table 13.11, 13; reset 0, none) -/
  testAt : Nat
  /-- RTC in ns until which a trip joins its last evidence event, and that event's entry SEQ (R434, 13; reset none) -/
  evidence : Option (Nat × Nat)
  /-- instant of its next stimulation test: device time in the main-power modes, RTC in ns in SENTINEL (R440, 13; reset none) -/
  testDue : Option Nat
  /-- device time of its last TAMPER_ALARM (R433, 13; reset none) -/
  noticeAt : Option Nat
deriving DecidableEq, Repr

/-- The backup cell, its charger and fuel gauge (R443 to R445). -/
structure CellState where
  /-- CELL_STATE of Table 13.9 (R443, 13; reset ABSENT 0x00) -/
  state : Nat
  /-- VBAT in mV (R443, 13; reset 0) -/
  vbat : Nat
  /-- charge current in mA (R443, 13; reset 0) -/
  current : Int
  /-- NTC temperature in 1/16 °C; none while open (R443, 13; reset none) -/
  ntc : Option Int
  /-- CHG is at least 4.5 V (R537, 17; reset false) -/
  chg : Bool
  /-- device time at which PRECHARGE, or CC and CV together, began (R443, 13; reset none) -/
  since : Option Nat
  /-- remaining charge in µAh (R444, 13; reset 0) -/
  remaining : Nat
  /-- learned capacity in µAh (R444, 13; reset CELL_CAPACITY, 0) -/
  learned : Nat
  /-- remaining charge when the present charge began, in µAh (R444, 13; reset none) -/
  startedAt : Option Nat
  /-- a Sentinel power loss awaits its estimate, or counting proceeds from an estimate: 0 no, 1 awaiting, 2 estimated (R445, 13; reset 1) -/
  estimate : Nat
  /-- CELL_WORN sent in this start (R444, 13; reset false) -/
  worn : Bool
deriving DecidableEq, Repr

/-- The Sentinel domain and the tamper response (13). -/
structure TamperState where
  /-- Sentinel power-on flag (R418, 13; reset set: the domain has just started) -/
  powerOn : Bool
  /-- Sentinel log, slots 0 to 31; unlisted is free (R436, Table 13.1, 13; reset empty) -/
  log : KeyMap LogEntry
  /-- SEQ of the next entry, 16 bits (Table 13.7, 13; reset DESIGN CHOICE 1, log 16) -/
  logSeq : Nat
  /-- real-time clock in ns: 48-bit seconds and 15-bit fraction are read from it (Table 13.1, 13; reset 0) -/
  rtc : Nat
  /-- RTC_VALID (Table 13.1, 13; reset 0) -/
  rtcValid : Bool
  /-- record anchor, 64 bits (R353, Table 13.1, 13; reset 0) -/
  anchor : Nat
  /-- severity registers of detectors 6 to 21; unlisted at its floor (R426, Table 13.1, 13; reset floors) -/
  severity : KeyMap Nat
  /-- policy latch: cell-less (R426, Table 13.1, 13; reset cell-backed) -/
  cellLess : Bool
  /-- shield and loop seeds, 8 bytes for each of 24 pairs and 4 loops (R421, Table 13.1, 13; reset empty until step 3) -/
  seeds : List (BitVec 8)
  /-- detectors 0 to 21 (R420, 13; reset quiet) -/
  detectors : KeyMap Detector
  /-- ALARM_SEV (R109, R428, 13; reset 0) -/
  alarmSev : Nat
  /-- TAMPER_STATE level (R430, 13; reset low) -/
  tamperState : Bool
  /-- nothing is admitted before this boundary (R429, 13; reset none) -/
  isolateUntil : Option Nat
  /-- the cell and its charger (R443, 13) -/
  cell : CellState
deriving DecidableEq, Repr

/-- What follows an OTP word program (R430, R437, R462, R464 to R469, R474, R476, R481). -/
inductive OtpThen where
  /-- nothing more -/
  | nothing
  /-- a further program of the Sentinel log entry with this SEQ follows -/
  | entryStep (seq : Nat)
  /-- the Sentinel log entry with this SEQ is done -/
  | entryDone (seq : Nat)
  /-- an unattended power loss is counted, and step 7 goes on -/
  | unattended
  /-- the act of the realm ends -/
  | actDone
  /-- commissioning: roster and quorum are installed -/
  | commissioned
  /-- re-commissioning: the store is cleared and a cold GATE starts -/
  | recommissioned
  /-- scrap: a cold GATE starts -/
  | scrapped
  /-- the PRODUCTION word is set -/
  | production
deriving DecidableEq, Repr

/-- One word program that waits, or the one in progress (R458). -/
structure OtpJob where
  /-- word number; the first word of a thermometer -/
  word : Nat
  /-- bits to set; 0 for a step of a thermometer, whose bit its value names when it is programmed (R451) -/
  bits : Nat
  /-- words of the thermometer; 0 for a word program -/
  steps : Nat
  /-- realm and ACT_ID of the act it belongs to -/
  act : Option (Nat × Nat)
  /-- what follows -/
  next : OtpThen
deriving DecidableEq, Repr

/-- OTP (14). -/
structure OtpState where
  /-- the array at low margin, 2,048 words of 32 bits; unlisted is 0 (R448, R452, 14; reset 0, BLANK: log 17) -/
  low : KeyMap Nat
  /-- the array at high margin (R448, R452, 14; reset 0, BLANK: log 17) -/
  high : KeyMap Nat
  /-- shadow registers (R452, R460, 14; reset 0 until step 2) -/
  shadow : KeyMap Nat
  /-- lifecycle wire: 0 BLANK to 4 END_OF_LIFE, as R461 orders them (R455, 14; reset 0) -/
  life : Nat
  /-- torn flag of the lifecycle wire (R455, 14; reset false) -/
  torn : Bool
  /-- TESTMODE_DISABLE wire (R455, 14; reset false) -/
  testDisable : Bool
  /-- DEBUG_DISABLE wire (R455, 14; reset false) -/
  debugDisable : Bool
  /-- BOOTKEY_VALID wire, 4 bits (R455, 14; reset 0) -/
  bootKeys : Nat
  /-- bits that only the low-margin read of the latest sense reported, by word (R452, R468, 14; reset none) -/
  weak : KeyMap Nat
  /-- word programs in order, the one in progress first (R458, 14; reset none) -/
  jobs : List OtpJob
  /-- device time at which the first of them came to its turn (R483, 14; reset 0) -/
  jobSince : Nat
deriving DecidableEq, Repr

/-- The firmware slots (R471 to R475). -/
structure FwState where
  /-- slot contents by 2 × KIND + slot, as far as written (R471, 14; reset none) -/
  slots : KeyMap (List (BitVec 8))
  /-- the two copies of the boot header, as far as written (R471, 14; reset none) -/
  headers : KeyMap (List (BitVec 8))
  /-- active slot by KIND, as the boot header named it at this cold GATE (R471, R475, 14; reset none) -/
  active : KeyMap Nat
  /-- running slot by KIND (R473, 14; reset none) -/
  running : KeyMap Nat
  /-- the running image by KIND: header, code and signature, as it was verified (R472, R473, 14; reset none) -/
  images : KeyMap (List (BitVec 8))
  /-- a fallback runs, by KIND (R473, 14; reset none) -/
  fallback : KeyMap Bool
  /-- slot erase in progress: KIND (R475, 14; reset none) -/
  erasing : Option Nat
  /-- cold GATE due after FW_ACTIVATE with RESTART (R475, 14; reset none) -/
  restartAt : Option Nat
deriving DecidableEq, Repr

/-- JTAG and debug authorisation (R477 to R481). -/
structure DebugState where
  /-- scope of an open debug port (R480, 14; reset none, closed) -/
  scope : Option Nat
  /-- debug-open flag of measurement block 10 (R480, 14; reset 0) -/
  flag : Bool
  /-- end of the token's LIFETIME (R480, 14; reset none) -/
  limit : Option Nat
  /-- JTAG IDCODE, 32 bits, fixed by the stepping (R551, Table 17.14, 17; reset 0x1840_0AE5) -/
  idcode : Nat
deriving DecidableEq, Repr

end Sys2Proof.Machine
end

