-- ==== Sys2Proof/Machine/Reset.lean ====
section
/-!
DEFINITION. The reset value of each part of the state: what a part holds before anything has happened to it
(the tables' Reset columns; the log names the values the manual does not give).
-/

namespace Sys2Proof.Machine

/-- A mailbox after reset (Table 3.1). -/
def Mailbox.reset : Mailbox :=
  ⟨false, false, 0, [], [], [], [], none, none, [], none, none⟩

/-- A function's window registers after reset (Table 3.1). -/
def Window.reset : Window := ⟨false, false, 0, 0, 0, 0⟩

/-- A PCIe function after reset (Table 4.5; log 8). -/
def FnState.reset : FnState := ⟨Window.reset, 0, false, false, 0, false, 128, 512, [], 0⟩

/-- An unbound channel's binding (Table 4.2). -/
def Binding.reset : Binding := ⟨0, true, 0⟩

/-- An absent submission ring (R119). -/
def Sq.reset : Sq := ⟨0, 0, 0, 0, 0, false, false, false⟩

/-- An absent completion ring (R119, Table 4.6). -/
def Cq.reset : Cq := ⟨0, 0, 0, 0, true, 0, false, 0, none, 1, 64, false, false, false⟩

/-- A channel after reset. -/
def Channel.reset : Channel :=
  ⟨Binding.reset, [], Cq.reset, 0, false, none, none, none, false, [], [], [], 0, 0, []⟩

/-- A realm with no roster, act, transaction or administrative session. -/
def Realm.reset : Realm := ⟨[], [], none, none, none⟩

/-- An SPDM connection before GET_VERSION (R366). -/
def SpdmConn.reset : SpdmConn := ⟨0, [], [], []⟩

/-- An empty vault slot. -/
def Slot.reset : Slot := ⟨[], 0, 0, 0, 0, [], [], 0⟩

/-- The mailboxes after reset. -/
def Orfer.reset : Orfer := ⟨Mailbox.reset, Mailbox.reset, Mailbox.reset, Mailbox.reset, Window.reset, 0, [], [], 1, [], 1, 1, []⟩

/-- The mode word 0x0000_7F02 (Table 3.1). -/
def ModeState.reset : ModeState := ⟨.gate, .none, ⟨true, true, true, true, true, true, true⟩, 0, [], []⟩

/-- A cold GATE about to lock its PLLs (Table 2.5). -/
def BootState.reset : BootState :=
  ⟨1, false, false, false, false, false, false, false, false, false, [], false, [], false, 0, 0, []⟩

/-- The release sequence before its configuration (Table 2.9). -/
def ReleaseState.reset : ReleaseState := ⟨.idle, 0, 0, [], [], 1, List.replicate 9 0#8 ++ [31#8] ++ List.replicate 182 0#8, [], 0⟩

/-- No recovery. -/
def RecoverState.reset : RecoverState := ⟨none, 0, 0⟩

/-- The I3C register file's own state (Table 3.10). -/
def I3cState.reset : I3cState := ⟨0, false, false, false, 0, 0, 0⟩

/-- The PCIe link and functions (Table 4.5). -/
def PcieState.reset : PcieState := ⟨false, 0, 0, false, none, 0, []⟩

/-- The wheel with every sector in the pool (Table 5.1). -/
def Wheel.reset : Wheel := ⟨[], [0], [], 0, false, 1, 1, []⟩

/-- No key anywhere. -/
def KeyState.reset : KeyState := ⟨[], [], [], true, [], [], 0, []⟩

/-- Empty hold buffers, context store and feeds. -/
def CipherState.reset : CipherState := ⟨[], none, [], [], [], [], [], [], []⟩

/-- Cleared operand memory. -/
def OperandState.reset : OperandState := ⟨[], none, [], []⟩

/-- The shadows of a chip select (Table 10.9; log 14). -/
def Shadow.reset : Shadow := ⟨false, false, 0, 0, false, false, false, false, false⟩

/-- BUS_TIMING of a protected bus (Table 10.7). -/
def busTimingReset : List (BitVec 8) := [0x01#8, 0#8, 133#8, 0#8, 6#8, 8#8, 50#8, 0#8]
/-- BUS_TIMING of the private port (Table 10.7). -/
def privTimingReset : List (BitVec 8) := [0x01#8, 0#8, 133#8, 0#8, 6#8, 0#8, 50#8, 0#8]

/-- A protected bus: closed, its flash side down, nothing verified. -/
def Bus.reset : Bus where
  opened := false
  flashUp := false
  dirty := false
  plat := 0
  restored := false
  verifying := 0
  manifest := none
  manifestOk := false
  gateManifest := none
  passed := false
  toCheck := []
  failing := 0
  last := 0
  recovers := 0
  restoring := none
  cs0 := Shadow.reset
  cs1 := Shadow.reset
  frame := none
  ops := []
  denied := 0
  malformed := 0
  timeouts := 0
  denials := []
  noticeAt := none
  sinceNotice := 0
  resetWait := []
  sfdp := []
  density := []
  timing := busTimingReset

/-- The private flash port (Table 10.12), with nothing recorded in the flash. -/
def PrivState.reset : PrivState :=
  ⟨false, false, false, false, 0, 0, [], false, none, 0, none, [], none, false, none, 0, [], [], [], 0, 0, [], [], privTimingReset, none, 0⟩

/-- No identity key, no certificate, no domain. -/
def IdentState.reset : IdentState :=
  ⟨false, [], [], 0, [], [], none, [], false, none, none, 1, [], [], [], [], [], [], none⟩

/-- An unpaired device (Table 12.9). -/
def PairState.reset : PairState where
  mode := .unpaired
  lanes := 0
  margins := []
  hello := false
  minor := 0
  nonce := []
  early := []
  keys := []
  txSeq := 0
  rxOrder := 0
  rxAhead := []
  acked := 0
  droppedFrames := 0
  admits := []
  rels := []
  ledger := []
  checkpoints := []
  changes := []
  own := []
  theirs := []
  card := []
  platform := []
  applied := []
  nextExchange := 1
  mseq := 0
  theirMseq := 0
  alone := 0
  window := 0
  beat := false
  missed := 0
  deadline := none
  everPaired := false
  fresh := true
  fenceOut := false
  fenceIn := false
  pulseAt := none
  pulseSeen := true
  pulseMissed := 0
  fenceFault := false
  lastTest := none
  takeover := none
  serving := []
  nextServing := []
  away := []
  handover := []
  timeStep := none
  sync := []
  source := none
  synced := false
  failback := true
  fenceMe := false
  pcieLost := false
  linkCopy := none
  linkSeal := []

/-- Main power just good, every rail nominal (Table 17.8; VDD_CORE as the regulator starts, R520), the Sentinel domain supplied. -/
def SupplyState.reset : SupplyState := ⟨true, ⟨850, 900, 1200, 1800⟩, true, false, 0⟩

/-- A quiet detector. -/
def Detector.reset : Detector := ⟨false, false, 0, false, 0, none, none, none⟩

/-- No cell (Table 13.9). -/
def CellState.reset : CellState := ⟨0, 0, 0, none, false, none, 0, 0, none, 1, false⟩

/-- The Sentinel domain right after it starts from no supply (Table 13.1, R418). -/
def TamperState.reset : TamperState :=
  ⟨true, [], 1, 0, false, 0, [], false, [], [], 0, false, none, CellState.reset⟩

/-- An OTP array in which nothing has been programmed (R448; log 17). -/
def OtpState.reset : OtpState := ⟨[], [], [], 0, false, false, false, 0, [], [], 0⟩

/-- No image running, no boot header valid (R471). -/
def FwState.reset : FwState := ⟨[], [], [], [], [], [], none, none⟩

/-- The JTAG IDCODE of a version: part number 0x8400, manufacturer 0x572 (R551). -/
def jtagId (version : Nat) : Nat := 2 ^ 28 * version + 2 ^ 12 * 0x8400 + 2 * 0x572 + 1

/-- JTAG not opened by a token. -/
def DebugState.reset : DebugState := ⟨none, false, none, jtagId 1⟩

/-- A cleared histogram (R492). -/
def Hist.reset : Hist := ⟨zeros 16, [], (0, 0), (0, 0), 0, 0⟩

/-- An empty journal (R486). -/
def RecState.reset : RecState where
  running := false
  nextRseq := 1
  staging := []
  journal := []
  circPos := (0, 0)
  keptPos := 0
  checkpointPos := 0
  sectorSeq := 0
  sealed := 0
  chain := zeros 32
  flushBy := none
  retryAt := none
  lastFlush := (0, 0)
  dropped := 0
  losses := 0
  suppressed := 0
  rate := []
  carried := 0
  hists := []
  histNew := []
  stretchSeen := []
  checkpointAt := 10000000000
  production := false

/-- The start-up voltage of the core regulator in mV (R520). -/
def startupMv : Nat := 850

/-- A tile at step 1 of a cold GATE: V_t starts at VDD_CORE − 20 mV (R521, Table 16.3). -/
def Tile.reset : Tile := ⟨startupMv - 20, true, false, false, 0, 0, 0, 0, false, 0, none, (0, 0), 0, 0, 0⟩

/-- The AVS controller at step 1 of a cold GATE (R521, Table 16.3). -/
def AvsState.reset : AvsState := ⟨true, 0, 0, false, 0, 0, none, none, none, none, none, startupMv⟩

/-- The tiles at step 1 of a cold GATE. -/
def TileState.reset : TileState := ⟨[], [], [], AvsState.reset⟩

end Sys2Proof.Machine
end

