-- ==== Sys2Proof/Machine/TypesOut.lean ====
section
/-!
DEFINITION. What a command makes the device send: the output side of its ports. State keeps the messages of the last
command only (log 13).
-/

namespace Sys2Proof.Machine

/-- Output balls that a command can move (17). -/
inductive Pin where
  | gpio (n : Nat)
  | fenceOut | tamperState | flashReset (bus : Nat)
deriving DecidableEq, Repr

/-- A signal ball that the device drives (Tables 17.3 to 17.6); a number names the lane, the port (0 A, 1 B, 2 private), its chip select or its line. -/
inductive Ball where
  | pcieTx (lane : Nat) | chordTx (lane : Nat) | fenceOut
  | hostIo (bus io : Nat)
  | flashSck (port : Nat) | flashCs (port cs : Nat) | flashReset (port : Nat) | flashIo (port io : Nat)
  | gpio (n : Nat) | i3cScl | i3cSda | pmbScl | pmbSda | avsClk | avsMdata
  | loopDrv (n : Nat) | tamperState | tdo
deriving DecidableEq, Repr

/-- The state of a ball (R527), and what it is while the device drives traffic or a bit stream on it. -/
inductive BallLevel where
  | z | low | high | idle | driven
deriving DecidableEq, Repr

/-- One message or signal that the device sends. -/
inductive OutMsg where
  /-- MSI-X vector of a function (R141, R144, R69) -/
  | msix (fn vec : Nat)
  /-- memory write into the address space of a function, lowest address first (R135) -/
  | write (fn addr : Nat) (data : Bytes)
  /-- memory read request of a function (R175, R209) -/
  | read (fn addr len : Nat)
  /-- MCTP message on target M (R72) -/
  | mctp (msg : Bytes)
  /-- in-band interrupt of target M (R73) -/
  | inBand
  /-- bytes returned to the reader of a register, file or frame -/
  | data (bytes : Bytes)
  /-- frame to a flash: bus 0 A, 1 B, 2 private; chip select, opcode, address of 4 bytes, data (R325, R326, R341) -/
  | flash (bus cs opcode addr : Nat) (data : Bytes)
  /-- page programs of a golden copy, WRITE ENABLE before each page: bus, chip select, opcode, first address, length (R356) -/
  | flashPages (bus cs opcode addr len : Nat)
  /-- Chord frame: type and body (12) -/
  | chord (type : Nat) (body : Bytes)
  /-- an output ball driven to a level -/
  | drive (p : Pin) (level : Bool)
  /-- an output ball no longer driven -/
  | float (p : Pin)
  /-- a ball takes the state that its supply or a reset gives it (R527, R528) -/
  | ball (b : Ball) (level : BallLevel)
  /-- AVSBus write of a voltage in mV, or its readback (16) -/
  | avs (mv : Nat) (readback : Bool)
  /-- JTAG opened (true) or closed for a scope (14) -/
  | jtag (open_ : Bool) (scope : Nat)
  /-- an access of an internal master ends with a bus error (R20, R346) -/
  | busError
  /-- the hardware zeroise line is driven (R221, 06) -/
  | zeroise
deriving DecidableEq, Repr

end Sys2Proof.Machine
end

