-- ==== Sys2Proof/Machine/State.lean ====
section
/-!
DEFINITION. The whole state of the block as plain data, its reset value, and the ways in which a step can stop.
-/

namespace Sys2Proof.Machine

/-- The state: everything the manual gives the device, and the queue of commands that wait. -/
structure State where
  /-- device time in ns (R154, R506, 05 and 16; reset 0) -/
  now : Nat
  /-- mode word (02) -/
  ms : ModeState
  /-- cold start (02) -/
  boot : BootState
  /-- platform release and GPIOs (02) -/
  rel : ReleaseState
  /-- RECOVER (02, 10) -/
  recov : RecoverState
  /-- mailboxes, sessions, realms and configuration store (03) -/
  orfer : Orfer
  /-- I3C register file (03) -/
  i3c : I3cState
  /-- PCIe link and functions (04, 17) -/
  pcie : PcieState
  /-- tenant channels 1 to 255 (04, 05) -/
  chans : KeyMap Channel
  /-- sector wheel (05) -/
  wheel : Wheel
  /-- vault, staged keys, generation record and key cache (06) -/
  keys : KeyState
  /-- hold buffers, context store and digest feeds (08) -/
  cipher : CipherState
  /-- operand memory (09) -/
  operand : OperandState
  /-- protected bus A (10) -/
  busA : Bus
  /-- protected bus B (10) -/
  busB : Bus
  /-- private flash (10) -/
  priv : PrivState
  /-- identity, signing and key domain (11) -/
  ident : IdentState
  /-- redundant pair (12) -/
  pair : PairState
  /-- supplies (02, 17) -/
  supply : SupplyState
  /-- Sentinel domain (13) -/
  tamper : TamperState
  /-- OTP (14) -/
  otp : OtpState
  /-- firmware slots (14) -/
  fw : FwState
  /-- debug (14) -/
  jtag : DebugState
  /-- Locus recorder (15) -/
  recorder : RecState
  /-- tiles and core supply (16) -/
  tiles : TileState
  /-- number of the next random byte; the model's own counter (R234, 07; reset DESIGN CHOICE 0, log 2) -/
  rng : Nat
  /-- number of the next free value; the model's own counter (reset DESIGN CHOICE 0, log 3) -/
  free : Nat
  /-- what the last command made the device send; the model's own output side (reset none, log 13) -/
  outbox : List OutMsg
  /-- commands that wait, first in first out; the model's own input side (reset none) -/
  pending : List Instr
deriving DecidableEq, Repr

/-- Faults of the block: none. Every command that the manual describes leads to a next state. -/
inductive Fault where
deriving DecidableEq, Repr

/-- Refusals of a command. -/
inductive Refusal where
  /-- raised by an arm of `exec` whose command has no meaning yet; safe: nothing is claimed of it -/
  | notModelled (mnemonic : String)
deriving DecidableEq, Repr

/-- The machine right after main power and the Sentinel domain have come up for the first time: step 1 of a cold GATE
(Table 2.5), every register at its Reset column. The log names the values that the manual does not give. -/
def State.reset : State where
  now := 0
  ms := ModeState.reset
  boot := BootState.reset
  rel := ReleaseState.reset
  recov := RecoverState.reset
  orfer := Orfer.reset
  i3c := I3cState.reset
  pcie := PcieState.reset
  chans := []
  wheel := Wheel.reset
  keys := KeyState.reset
  cipher := CipherState.reset
  operand := OperandState.reset
  busA := Bus.reset
  busB := Bus.reset
  priv := PrivState.reset
  ident := IdentState.reset
  pair := PairState.reset
  supply := SupplyState.reset
  tamper := TamperState.reset
  otp := OtpState.reset
  fw := FwState.reset
  jtag := DebugState.reset
  recorder := RecState.reset
  tiles := TileState.reset
  rng := 0
  free := 0
  outbox := []
  pending := []

end Sys2Proof.Machine
end

