-- ==== Sys2Proof/Machine/Status.lean ====
section
/-!
DEFINITION. The status codes of Table 3.11 (R112, 03_orfer_mailbox_protocol.md), each under the manual's own name.
-/

namespace Sys2Proof.Machine

/-- Success -/
abbrev ST_OK : Nat := 0x0000
/-- Digest produced over the declared length; surplus data ignored -/
abbrev ST_LEN_OVER : Nat := 0x0001
/-- Effect committed; completed by the pair partner -/
abbrev ST_OK_BY_PARTNER : Nat := 0x0002
/-- Act accepted; the outcome follows in ACT_DONE -/
abbrev ST_ACCEPTED_PENDING : Nat := 0x0003
/-- Generation or epoch at or above 0xFFFF_FF00 -/
abbrev ST_GEN_WARN : Nat := 0x0004
/-- Header inconsistent -/
abbrev ST_BAD_HEADER : Nat := 0x0101
/-- Opcode unknown in its group -/
abbrev ST_BAD_OPCODE : Nat := 0x0102
/-- Nonzero reserved field -/
abbrev ST_RESERVED : Nat := 0x0103
/-- Payload length wrong for the opcode -/
abbrev ST_BAD_LENGTH : Nat := 0x0104
/-- Version not supported or not negotiated -/
abbrev ST_VERSION : Nat := 0x0105
/-- Sequence number replayed or outside the window -/
abbrev ST_SEQ_WINDOW : Nat := 0x0106
/-- Authentication tag failed -/
abbrev ST_TAG_FAIL : Nat := 0x0107
/-- Fragment out of order or inconsistent -/
abbrev ST_FRAG_ORDER : Nat := 0x0108
/-- Unknown FIELD or INSTANCE -/
abbrev ST_BAD_FIELD : Nat := 0x0109
/-- Value or group failed validation -/
abbrev ST_BAD_VALUE : Nat := 0x010A
/-- Malformed PIN block -/
abbrev ST_PIN_BLOCK : Nat := 0x010B
/-- MAC did not verify -/
abbrev ST_MAC_FAIL : Nat := 0x010C
/-- Card cryptogram did not verify -/
abbrev ST_CRYPTOGRAM_FAIL : Nat := 0x010D
/-- Card verification value did not verify -/
abbrev ST_CVV_FAIL : Nat := 0x010E
/-- Malformed X9.143 or TR-34 structure -/
abbrev ST_KEYBLOCK_FORMAT : Nat := 0x010F
/-- Descriptor format version not supported -/
abbrev ST_DESC_VERSION : Nat := 0x0110
/-- Less data than declared -/
abbrev ST_LEN_SHORT : Nat := 0x0111
/-- PIN did not verify -/
abbrev ST_PIN_MISMATCH : Nat := 0x0112
/-- Input out of range -/
abbrev ST_RANGE : Nat := 0x0120
/-- Point not on the curve, or at infinity -/
abbrev ST_POINT_INVALID : Nat := 0x0121
/-- Signature invalid -/
abbrev ST_SIG_INVALID : Nat := 0x0122
/-- Key blob could not be read from host memory -/
abbrev ST_KEY_FETCH : Nat := 0x0201
/-- Key blob failed its SIV check -/
abbrev ST_KEY_UNWRAP : Nat := 0x0202
/-- Key algorithm or length unsuited to the operation -/
abbrev ST_KEY_TYPE : Nat := 0x0203
/-- Key or parent revoked -/
abbrev ST_KEY_REVOKED : Nat := 0x0204
/-- Attributes forbid this use -/
abbrev ST_KEY_ATTR : Nat := 0x0205
/-- Generation or epoch at 0xFFFF_FFFF -/
abbrev ST_GEN_EXHAUSTED : Nat := 0x0206
/-- Key not exportable in this form -/
abbrev ST_KEY_EXPORT : Nat := 0x0207
/-- Required channel root key absent -/
abbrev ST_VAULT_EMPTY : Nat := 0x0208
/-- Check value does not match -/
abbrev ST_KCV_MISMATCH : Nat := 0x0209
/-- DUKPT counter exhausted -/
abbrev ST_DUKPT_EXHAUSTED : Nat := 0x020A
/-- A replacement is already staged -/
abbrev ST_KEY_STAGED : Nat := 0x020B
/-- Field requires a transaction -/
abbrev ST_NEEDS_TXN : Nat := 0x0301
/-- No administrative session or quorum -/
abbrev ST_DUAL_CONTROL : Nat := 0x0302
/-- Quorum not assembled within 300 s -/
abbrev ST_QUORUM_TIMEOUT : Nat := 0x0303
/-- Officer signature or role refused -/
abbrev ST_OFFICER_AUTH : Nat := 0x0304
/-- Officer already counted -/
abbrev ST_OFFICER_DUP : Nat := 0x0305
/-- Opcode group not accepted on this mailbox -/
abbrev ST_ROUTE : Nat := 0x0306
/-- Realm not permitted -/
abbrev ST_REALM : Nat := 0x0307
/-- Realm's transaction held by another session -/
abbrev ST_TXN_BUSY : Nat := 0x0308
/-- No such open transaction -/
abbrev ST_NO_TXN : Nat := 0x0309
/-- Transaction limits exceeded -/
abbrev ST_TXN_FULL : Nat := 0x030A
/-- Request not allowed in the present state of the transaction or act -/
abbrev ST_TXN_STATE : Nat := 0x030B
/-- Unknown or closed session -/
abbrev ST_NO_SESSION : Nat := 0x030C
/-- Session limit reached -/
abbrev ST_SESSION_LIMIT : Nat := 0x030D
/-- Opcode not permitted on this channel -/
abbrev ST_CHANNEL_POLICY : Nat := 0x030E
/-- Act or administrative session already present -/
abbrev ST_ADMIN_BUSY : Nat := 0x030F
/-- Act cancelled by ACT_CANCEL before its quorum assembled -/
abbrev ST_ACT_CANCELLED : Nat := 0x0310
/-- Engine fault during the item -/
abbrev ST_ENGINE_FAULT : Nat := 0x0401
/-- Unit failed its self-test -/
abbrev ST_SELFTEST : Nat := 0x0402
/-- Bus integrity code mismatch -/
abbrev ST_INTEGRITY : Nat := 0x0403
/-- Host memory access failed -/
abbrev ST_DMA : Nat := 0x0404
/-- Crossing timed out -/
abbrev ST_CDC_TIMEOUT : Nat := 0x0405
/-- Aborted by an ISOLATE alarm -/
abbrev ST_ABORTED : Nat := 0x0406
/-- Chord link down -/
abbrev ST_PAIR_DOWN : Nat := 0x0501
/-- Not executed; safe to resubmit -/
abbrev ST_TAKEOVER_RETRY : Nat := 0x0502
/-- Partner did not confirm -/
abbrev ST_MIRROR_FAIL : Nat := 0x0503
/-- No common Chord major version -/
abbrev ST_PAIR_VERSION : Nat := 0x0504
/-- Refused while fenced -/
abbrev ST_FENCED : Nat := 0x0505
/-- Not permitted in this mode -/
abbrev ST_MODE : Nat := 0x0601
/-- Cell below the level required -/
abbrev ST_CELL_LOW : Nat := 0x0602
/-- Malformed manifest -/
abbrev ST_MANIFEST_FORMAT : Nat := 0x0701
/-- Manifest signature invalid -/
abbrev ST_MANIFEST_SIG : Nat := 0x0702
/-- Region digest mismatch -/
abbrev ST_DIGEST_MISMATCH : Nat := 0x0703
/-- Security version below the recorded one -/
abbrev ST_SVN_ROLLBACK : Nat := 0x0704
/-- No golden copy -/
abbrev ST_NO_GOLDEN : Nat := 0x0705
/-- Flash did not respond -/
abbrev ST_FLASH_TIMEOUT : Nat := 0x0706
/-- Refused by the filter tables -/
abbrev ST_FLASH_DENIED : Nat := 0x0707
/-- Release sequence input timed out -/
abbrev ST_RELEASE_TIMEOUT : Nat := 0x0708
/-- Lifecycle transition not permitted -/
abbrev ST_LIFECYCLE : Nat := 0x0801
/-- OTP programming failed -/
abbrev ST_OTP_PROGRAM : Nat := 0x0802
/-- OTP region locked -/
abbrev ST_OTP_LOCKED : Nat := 0x0803
/-- Lock refused on an incomplete region -/
abbrev ST_OTP_INCOMPLETE : Nat := 0x0804
/-- Debug token refused -/
abbrev ST_DEBUG_TOKEN : Nat := 0x0805
/-- Firmware image signature invalid -/
abbrev ST_FW_SIG : Nat := 0x0806
/-- Firmware below the anti-rollback counter -/
abbrev ST_FW_ROLLBACK : Nat := 0x0807
/-- Thermometer counter exhausted -/
abbrev ST_COUNTER_FULL : Nat := 0x0808

/-- Every code of Table 3.11; no other is issued (R13, R15). -/
def statusCodes : List Nat :=
  ([ST_OK, ST_LEN_OVER, ST_OK_BY_PARTNER, ST_ACCEPTED_PENDING, ST_GEN_WARN, ST_BAD_HEADER, ST_BAD_OPCODE, ST_RESERVED, ST_BAD_LENGTH, ST_VERSION] ++
   [ST_SEQ_WINDOW, ST_TAG_FAIL, ST_FRAG_ORDER, ST_BAD_FIELD, ST_BAD_VALUE, ST_PIN_BLOCK, ST_MAC_FAIL, ST_CRYPTOGRAM_FAIL, ST_CVV_FAIL, ST_KEYBLOCK_FORMAT] ++
   [ST_DESC_VERSION, ST_LEN_SHORT, ST_PIN_MISMATCH, ST_RANGE, ST_POINT_INVALID, ST_SIG_INVALID, ST_KEY_FETCH, ST_KEY_UNWRAP, ST_KEY_TYPE, ST_KEY_REVOKED] ++
   [ST_KEY_ATTR, ST_GEN_EXHAUSTED, ST_KEY_EXPORT, ST_VAULT_EMPTY, ST_KCV_MISMATCH, ST_DUKPT_EXHAUSTED, ST_KEY_STAGED, ST_NEEDS_TXN, ST_DUAL_CONTROL, ST_QUORUM_TIMEOUT] ++
   [ST_OFFICER_AUTH, ST_OFFICER_DUP, ST_ROUTE, ST_REALM, ST_TXN_BUSY, ST_NO_TXN, ST_TXN_FULL, ST_TXN_STATE, ST_NO_SESSION, ST_SESSION_LIMIT] ++
   [ST_CHANNEL_POLICY, ST_ADMIN_BUSY, ST_ACT_CANCELLED, ST_ENGINE_FAULT, ST_SELFTEST, ST_INTEGRITY, ST_DMA, ST_CDC_TIMEOUT, ST_ABORTED, ST_PAIR_DOWN] ++
   [ST_TAKEOVER_RETRY, ST_MIRROR_FAIL, ST_PAIR_VERSION, ST_FENCED, ST_MODE, ST_CELL_LOW, ST_MANIFEST_FORMAT, ST_MANIFEST_SIG, ST_DIGEST_MISMATCH, ST_SVN_ROLLBACK] ++
   [ST_NO_GOLDEN, ST_FLASH_TIMEOUT, ST_FLASH_DENIED, ST_RELEASE_TIMEOUT, ST_LIFECYCLE, ST_OTP_PROGRAM, ST_OTP_LOCKED, ST_OTP_INCOMPLETE, ST_DEBUG_TOKEN, ST_FW_SIG] ++
   [ST_FW_ROLLBACK, ST_COUNTER_FULL])

end Sys2Proof.Machine
end

