-- ==== Sys2Proof/Machine/Access.lean ====
section
/-!
DEFINITION. Named reads and writes of the state's tables, and the configuration store with the reset value of every
field (R97; Tables 2.9, 3.12, 4.2, 5.1, 6.14, 7.10, 8.5, 9.1, 10.2, 12.1, 13.6, 15.2).
-/

namespace Sys2Proof.Machine

/-! ### Tables of the state -/

/-- A channel. -/
def State.chan (s : State) (c : Nat) : Channel := KeyMap.get s.chans Channel.reset c
/-- A channel changed. -/
def State.updChan (s : State) (c : Nat) (f : Channel → Channel) : State :=
  { s with chans := KeyMap.put s.chans c (f (s.chan c)) }

/-- A submission ring of a channel; absent where nothing was committed. -/
def State.sq (s : State) (c r : Nat) : Sq := KeyMap.get (s.chan c).sqs Sq.reset r
/-- A submission ring changed. -/
def State.updSq (s : State) (c r : Nat) (f : Sq → Sq) : State :=
  s.updChan c fun x => { x with sqs := KeyMap.put x.sqs r (f (KeyMap.get x.sqs Sq.reset r)) }
/-- The completion ring changed. -/
def State.updCq (s : State) (c : Nat) (f : Cq → Cq) : State := s.updChan c fun x => { x with cq := f x.cq }

/-- A PCIe function. -/
def State.fn (s : State) (n : Nat) : FnState := KeyMap.get s.pcie.fns FnState.reset n
/-- A PCIe function changed. -/
def State.updFn (s : State) (n : Nat) (f : FnState → FnState) : State :=
  { s with pcie := { s.pcie with fns := KeyMap.put s.pcie.fns n (f (s.fn n)) } }

/-- A realm. -/
def State.realm (s : State) (r : Nat) : Realm := KeyMap.get s.orfer.realms Realm.reset r
/-- A realm changed. -/
def State.updRealm (s : State) (r : Nat) (f : Realm → Realm) : State :=
  { s with orfer := { s.orfer with realms := KeyMap.put s.orfer.realms r (f (s.realm r)) } }

/-- A session, where it is open. -/
def State.session (s : State) (i : Nat) : Option Session := KeyMap.find s.orfer.sessions i
/-- A session changed, where it is open. -/
def State.updSession (s : State) (i : Nat) (f : Session → Session) : State :=
  match s.session i with
  | none => s
  | some x => { s with orfer := { s.orfer with sessions := KeyMap.put s.orfer.sessions i (f x) } }

/-- A mailbox's buffers. -/
def State.mbox (s : State) : Port → Mailbox
  | .mb0 => s.orfer.mb0
  | .mb1 => s.orfer.mb1
  | .mb2 => s.orfer.mb2
  | .mb3 _ => s.orfer.mb3
/-- A mailbox's buffers changed. -/
def State.updMbox (s : State) (p : Port) (f : Mailbox → Mailbox) : State :=
  match p with
  | .mb0 => { s with orfer := { s.orfer with mb0 := f s.orfer.mb0 } }
  | .mb1 => { s with orfer := { s.orfer with mb1 := f s.orfer.mb1 } }
  | .mb2 => { s with orfer := { s.orfer with mb2 := f s.orfer.mb2 } }
  | .mb3 _ => { s with orfer := { s.orfer with mb3 := f s.orfer.mb3 } }

/-- A key of Table 6.2 (R184). -/
def State.rootKey (s : State) (label : String) : Bytes := kdf s.boot.vertexValue label [] 32

/-- Keystream over the MATERIAL of vault slot `n`, which lies at offset 64 n (R185, R187; log 12). -/
def State.vaultStream (s : State) (n : Nat) : Bytes := fit 32 (Config.vaultMask (s.rootKey "VAULT-MASK") (64 * n))
/-- SLOT_MAC of vault slot `n` with these contents (Table 6.4). -/
def State.slotMac (s : State) (n : Nat) (v : Slot) : Bytes :=
  cmac (s.rootKey "VAULT-MAC")
    (fit 32 v.material ++ u8 v.state ++ u8 v.kind ++ u16 v.alg ++ u32 v.gen ++ fit 8 v.kcv ++ u16 (64 * n))
/-- A vault slot of a channel, its mask taken off. -/
def State.slot (s : State) (c i : Nat) : Slot :=
  let v := KeyMap.get s.keys.vault Slot.reset (4 * c + i)
  { v with material := xorBytes v.material (s.vaultStream (4 * c + i)) }
/-- The slot as the vault stores it: MATERIAL masked, with its SLOT_MAC, at its scrambled address (R186, R187). -/
def State.sealedVaultSlot (s : State) (n : Nat) (v : Slot) : Slot :=
  { v with material := xorBytes (fit 32 v.material) (s.vaultStream n), mac := s.slotMac n v, place := Config.vaultPlace (s.rootKey "VAULT-MASK") (64 * n) }
/-- A vault slot written whole; an empty one is zeroed (R187). -/
def State.setSlot (s : State) (c i : Nat) (v : Slot) : State :=
  { s with keys := { s.keys with vault :=
      if v.state = 0 then KeyMap.del s.keys.vault (4 * c + i) else KeyMap.put s.keys.vault (4 * c + i) (s.sealedVaultSlot (4 * c + i) v) } }

/-- G_NO_VAULT and G_NO_CHANNEL follow the vault (R188): channel 0 slot 0 is empty; no tenant slot is active. -/
def State.vaultGates (s : State) : State :=
  let live (n : Nat) : Bool := ((KeyMap.find s.keys.vault n).map fun v => v.state == 1).getD false
  { s with ms := { s.ms with gates := { s.ms.gates with
      noVault := !live 0
      noChannel := !(s.keys.vault.any fun p => decide (4 ≤ p.1) && p.2.state == 1) } } }

/-- A status that the manual does not state, as of an alarm whose STATUS no table lists: some code of Table 3.11, a free value (R13, R15; log 3). -/
def State.freeStatus (s : State) : Nat := statusCodes.getD (leNat (Config.freeValue s.free) % statusCodes.length) 0

/-- A message sent. -/
def State.emit (s : State) (m : OutMsg) : State := { s with outbox := s.outbox ++ [m] }
/-- Messages sent in order. -/
def State.emitAll (s : State) (ms : List OutMsg) : State := { s with outbox := s.outbox ++ ms }

/-- `n` random bytes drawn, and the state with the generator advanced (R234; log 2). -/
def State.draw (s : State) (n : Nat) : Bytes × State :=
  ((List.range n).map (fun i => Config.randomByte (s.rng + i)), { s with rng := s.rng + n })

/-- `n` random bytes are used up. -/
def State.skipDraws (s : State) (n : Nat) : State := { s with rng := s.rng + n }

/-! ### Configuration fields (R97) -/

/-- GPIO_CFG (Table 2.9). -/
abbrev F_GPIO_CFG : Nat := 0x05010001
/-- REL_COUNT (Table 2.9). -/
abbrev F_REL_COUNT : Nat := 0x05010002
/-- REL_STEPS (Table 2.9). -/
abbrev F_REL_STEPS : Nat := 0x05010003
/-- QUORUM_A (Table 3.12). -/
abbrev F_QUORUM_A : Nat := 0x07010001
/-- QUORUM_B (Table 3.12). -/
abbrev F_QUORUM_B : Nat := 0x07010002
/-- QUORUM_C (Table 3.12). -/
abbrev F_QUORUM_C : Nat := 0x07010003
/-- CH_FUNCTION (Table 4.2). -/
abbrev F_CH_FUNCTION : Nat := 0x01010001
/-- CH_ISOLATED (Table 4.2). -/
abbrev F_CH_ISOLATED : Nat := 0x01010002
/-- CH_RING_COUNT (Table 4.2). -/
abbrev F_CH_RING_COUNT : Nat := 0x01010003
/-- CH_OPCODE_PERMIT (Table 4.2). -/
abbrev F_CH_OPCODE_PERMIT : Nat := 0x01000010
/-- SQ_BASE (Table 4.2). -/
abbrev F_SQ_BASE : Nat := 0x02010001
/-- SQ_SIZE_LOG2 (Table 4.2). -/
abbrev F_SQ_SIZE : Nat := 0x02010002
/-- SQ_FORMAT (Table 4.2). -/
abbrev F_SQ_FORMAT : Nat := 0x02010003
/-- CQ_BASE (Table 4.2). -/
abbrev F_CQ_BASE : Nat := 0x02020011
/-- CQ_SIZE_LOG2 (Table 4.2). -/
abbrev F_CQ_SIZE : Nat := 0x02020012
/-- CQ_VECTOR (Table 4.2). -/
abbrev F_CQ_VECTOR : Nat := 0x02020013
/-- CQ_MOD_COUNT (Table 4.2). -/
abbrev F_CQ_MOD_COUNT : Nat := 0x02000021
/-- CQ_MOD_TIMER (Table 4.2). -/
abbrev F_CQ_MOD_TIMER : Nat := 0x02000022
/-- SECTOR_MAP (Table 5.1). -/
abbrev F_SECTOR_MAP : Nat := 0x03010001
/-- CH_SECTORS (Table 5.1). -/
abbrev F_CH_SECTORS : Nat := 0x03000011
/-- CH_LAT (Table 5.1). -/
abbrev F_CH_LAT : Nat := 0x03000012
/-- CH_LEN_LIMIT (Table 5.1). -/
abbrev F_CH_LEN_LIMIT : Nat := 0x03000021
/-- KC_QUOTA (Table 6.14). -/
abbrev F_KC_QUOTA : Nat := 0x0B000001
/-- KC_GROUP (Table 6.14). -/
abbrev F_KC_GROUP : Nat := 0x0B000002
/-- CH_DECTAB (Table 7.10). -/
abbrev F_CH_DECTAB : Nat := 0x0C000001
/-- CH_HOLD_PAGES (Table 8.5). -/
abbrev F_CH_HOLD_PAGES : Nat := 0x0D000001
/-- CH_OPMEM (Table 9.1). -/
abbrev F_CH_OPMEM : Nat := 0x0E000001
/-- REG_START (Table 10.2). -/
abbrev F_REG_START : Nat := 0x04010001
/-- REG_LENGTH (Table 10.2). -/
abbrev F_REG_LENGTH : Nat := 0x04010002
/-- REG_CS (Table 10.2). -/
abbrev F_REG_CS : Nat := 0x04010003
/-- REG_PERM (Table 10.2). -/
abbrev F_REG_PERM : Nat := 0x04010004
/-- OP_CLASS (Table 10.2). -/
abbrev F_OP_CLASS : Nat := 0x04020001
/-- OP_PERM (Table 10.2). -/
abbrev F_OP_PERM : Nat := 0x04020002
/-- BUS_TIMING (Table 10.2). -/
abbrev F_BUS_TIMING : Nat := 0x04000001
/-- PERM_DEFAULT (Table 10.2). -/
abbrev F_PERM_DEFAULT : Nat := 0x04000002
/-- MANIFEST_LOC (Table 10.2). -/
abbrev F_MANIFEST_LOC : Nat := 0x04000003
/-- PLAT_KEYS (Table 10.2). -/
abbrev F_PLAT_KEYS : Nat := 0x04000004
/-- PLAT_POLICY (Table 10.2). -/
abbrev F_PLAT_POLICY : Nat := 0x04000005
/-- PAIR_PARTNER (Table 12.1). -/
abbrev F_PAIR_PARTNER : Nat := 0x09010001
/-- PAIR_ROLE (Table 12.1). -/
abbrev F_PAIR_ROLE : Nat := 0x09010002
/-- PAIR_LANE_MAP (Table 12.1). -/
abbrev F_PAIR_LANE_MAP : Nat := 0x09010003
/-- PAIR_START_WAIT (Table 12.1). -/
abbrev F_PAIR_START_WAIT : Nat := 0x09010004
/-- PAIR_FAILBACK (Table 12.1). -/
abbrev F_PAIR_FAILBACK : Nat := 0x09010005
/-- CH_HOME (Table 12.1). -/
abbrev F_CH_HOME : Nat := 0x09000001
/-- CELL_POLICY (13). -/
abbrev F_CELL_POLICY : Nat := 0x06010001
/-- CELL_FLOOR (13). -/
abbrev F_CELL_FLOOR : Nat := 0x06010002
/-- CELL_CAPACITY (13). -/
abbrev F_CELL_CAPACITY : Nat := 0x06000010
/-- CHG_CURRENT (13). -/
abbrev F_CHG_CURRENT : Nat := 0x06000011
/-- CHG_VOLTAGE (13). -/
abbrev F_CHG_VOLTAGE : Nat := 0x06000012
/-- DET_SEVERITY (13). -/
abbrev F_DET_SEVERITY : Nat := 0x0A010001
/-- TRIG_SOURCE (15). -/
abbrev F_TRIG_SOURCE : Nat := 0x08010001
/-- TRIG_SNAP (15). -/
abbrev F_TRIG_SNAP : Nat := 0x08010002
/-- HIST_CONFIG (15). -/
abbrev F_HIST_CONFIG : Nat := 0x08000001

/-- The key of a field and instance in the configuration store; their order is FIELD, then INSTANCE (R104). -/
def cfgKey (fld inst : Nat) : Nat := fld * 65536 + inst

end Sys2Proof.Machine
end

