-- ==== Sys2Proof/Machine/Cfg.lean ====
section
/-!
DEFINITION. The configuration store (R97): what each field is (owner, class, group, instances, reset value) and how it is
read. Tables 2.9, 3.8, 3.12, 4.2, 5.1, 6.14, 7.10, 8.5, 9.1, 10.2, 10.5, 12.1, 13.3, 15.2.
-/

namespace Sys2Proof.Machine

/-- What the tables say of a field. -/
structure FieldInfo where
  /-- class of its commits: 0x0A, 0x0B, or 0 for none -/
  cls : Nat
  /-- instances: 0 one only; 1 channel 1 to 255; 2 channel × 8 + ring; 3 channel × 8 + 4; 4 realm 0 to 255; 5 bus × 64 + region;
  6 bus × 256 + opcode; 7 bus 0 to 2; 8 bus 0 and 1; 9 detector 6 to 21; 10 trigger or histogram 0 to 63 -/
  insts : Nat
  /-- length of a value in bytes; 0 where it varies (TRIG_SNAP) -/
  len : Nat
  /-- owner: 0 the device realm, 1 the realm of the channel in the INSTANCE, 2 the realm that the INSTANCE numbers -/
  owner : Nat
deriving DecidableEq, Repr

/-- Every field with its row (R97). CH_SECTORS and CH_LAT are read-only and stand apart (R157). -/
def fieldTable : List (Nat × FieldInfo) :=
  [(F_GPIO_CFG, ⟨0x0B, 0, 24, 0⟩), (F_REL_COUNT, ⟨0x0B, 0, 1, 0⟩), (F_REL_STEPS, ⟨0x0B, 0, 192, 0⟩),
   (F_QUORUM_A, ⟨0x0A, 4, 1, 2⟩), (F_QUORUM_B, ⟨0x0A, 4, 1, 2⟩), (F_QUORUM_C, ⟨0x0A, 4, 1, 2⟩),
   (F_CH_FUNCTION, ⟨0x0B, 1, 1, 0⟩), (F_CH_ISOLATED, ⟨0x0B, 1, 1, 0⟩), (F_CH_RING_COUNT, ⟨0x0B, 1, 1, 0⟩),
   (F_CH_OPCODE_PERMIT, ⟨0x0B, 1, 32, 0⟩)] ++
  [(F_SQ_BASE, ⟨0, 2, 8, 1⟩), (F_SQ_SIZE, ⟨0, 2, 1, 1⟩), (F_SQ_FORMAT, ⟨0, 2, 1, 1⟩),
   (F_CQ_BASE, ⟨0, 3, 8, 1⟩), (F_CQ_SIZE, ⟨0, 3, 1, 1⟩), (F_CQ_VECTOR, ⟨0, 3, 1, 1⟩),
   (F_CQ_MOD_COUNT, ⟨0, 3, 1, 1⟩), (F_CQ_MOD_TIMER, ⟨0, 3, 2, 1⟩),
   (F_SECTOR_MAP, ⟨0x0A, 0, 4096, 0⟩), (F_CH_LEN_LIMIT, ⟨0x0B, 1, 1024, 0⟩)] ++
  [(F_KC_QUOTA, ⟨0x0B, 1, 2, 0⟩), (F_KC_GROUP, ⟨0x0B, 1, 1, 0⟩), (F_CH_DECTAB, ⟨0x0B, 1, 16, 0⟩),
   (F_CH_HOLD_PAGES, ⟨0x0B, 1, 2, 0⟩), (F_CH_OPMEM, ⟨0x0B, 1, 2, 0⟩),
   (F_REG_START, ⟨0x0B, 5, 4, 0⟩), (F_REG_LENGTH, ⟨0x0B, 5, 4, 0⟩), (F_REG_CS, ⟨0x0B, 5, 1, 0⟩),
   (F_REG_PERM, ⟨0x0B, 5, 2, 0⟩), (F_OP_CLASS, ⟨0x0B, 6, 1, 0⟩), (F_OP_PERM, ⟨0x0B, 6, 1, 0⟩)] ++
  [(F_BUS_TIMING, ⟨0x0B, 7, 8, 0⟩), (F_PERM_DEFAULT, ⟨0x0B, 8, 2, 0⟩), (F_MANIFEST_LOC, ⟨0x0B, 8, 5, 0⟩),
   (F_PLAT_KEYS, ⟨0x0B, 8, 192, 0⟩), (F_PLAT_POLICY, ⟨0x0B, 8, 1, 0⟩),
   (F_PAIR_PARTNER, ⟨0x0B, 0, 32, 0⟩), (F_PAIR_ROLE, ⟨0x0B, 0, 1, 0⟩), (F_PAIR_LANE_MAP, ⟨0x0B, 0, 1, 0⟩),
   (F_PAIR_START_WAIT, ⟨0x0B, 0, 2, 0⟩), (F_PAIR_FAILBACK, ⟨0x0B, 0, 1, 0⟩), (F_CH_HOME, ⟨0x0B, 1, 1, 0⟩)] ++
  [(F_CELL_POLICY, ⟨0x0A, 0, 1, 0⟩), (F_CELL_FLOOR, ⟨0x0A, 0, 1, 0⟩), (F_CELL_CAPACITY, ⟨0x0B, 0, 2, 0⟩),
   (F_CHG_CURRENT, ⟨0x0B, 0, 1, 0⟩), (F_CHG_VOLTAGE, ⟨0x0B, 0, 1, 0⟩), (F_DET_SEVERITY, ⟨0x0A, 9, 1, 0⟩),
   (F_TRIG_SOURCE, ⟨0x0B, 10, 8, 0⟩), (F_TRIG_SNAP, ⟨0x0B, 10, 0, 0⟩), (F_HIST_CONFIG, ⟨0x0B, 10, 16, 0⟩)]

/-- The row of a field, if there is one. -/
def fieldInfo (f : Nat) : Option FieldInfo := (fieldTable.find? fun p => p.1 == f).map (·.2)

/-- The field is CH_SECTORS or CH_LAT, which Apex sets (R157). -/
def readOnlyField (f : Nat) : Bool := f == F_CH_SECTORS || f == F_CH_LAT

/-- The field belongs to the pair settings that only the pair acts set (R384). -/
def pairActField (f : Nat) : Bool := f == F_PAIR_PARTNER || f == F_PAIR_ROLE || f == F_PAIR_LANE_MAP

/-- INSTANCE exists for a kind of instances (Table 3.8 and the field tables). -/
def instOk (kind i : Nat) : Bool :=
  match kind with
  | 0 => i == 0
  | 1 => 1 ≤ i && i ≤ 255
  | 2 => 8 ≤ i && i ≤ 2047 && i % 8 ≤ 3
  | 3 => 8 ≤ i && i ≤ 2047 && i % 8 == 4
  | 4 => i ≤ 255
  | 5 => i ≤ 127
  | 6 => i ≤ 511
  | 7 => i ≤ 2
  | 8 => i ≤ 1
  | 9 => 6 ≤ i && i ≤ 21
  | _ => i ≤ 63

/-- FIELD and INSTANCE exist. -/
def fieldExists (f i : Nat) : Bool :=
  (readOnlyField f && 1 ≤ i && i ≤ 255) ||
  match fieldInfo f with
  | some x => instOk x.insts i
  | none => false

/-- FIELD and INSTANCE may be set by CFG_SET: the read-only fields (R157), the pair settings (R384) and the severities of
privileged detectors (R425) are not. -/
def fieldSettable (f i : Nat) : Bool := fieldExists f i && !readOnlyField f && !pairActField f

/-- The realm that owns a field (R97). -/
def fieldRealm (f i : Nat) : Nat :=
  if readOnlyField f then i
  else match fieldInfo f with
    | some x => if x.owner == 1 then i / 8 else if x.owner == 2 then i else 0
    | none => 0

/-- The field lies in a coherence group (FIELD bits [23:16], R97). -/
def fieldGrouped (f : Nat) : Bool := f / 65536 % 256 != 0

/-- Class of a field: 0x0A, 0x0B or 0. -/
def fieldClass (f : Nat) : Nat := ((fieldInfo f).map (·.cls)).getD 0

/-- The group instance that an entry touches: block and group with the instance (R97, R102). -/
def groupOf (f i : Nat) : Nat × Nat := (f / 65536, i)

/-! ### Reset values -/

/-- Reset OP_CLASS of a host-facing opcode (Table 10.5); DENY for every other. -/
def opClassReset (bus op : Nat) : Nat :=
  match op with
  | 0x03 => 0x10 | 0x13 => 0x18 | 0x0B => 0x11 | 0x0C => 0x19 | 0x3B => 0x12 | 0x3C => 0x1A
  | 0xBB => 0x13 | 0xBC => 0x1B | 0x6B => 0x14 | 0x6C => 0x1C | 0xEB => 0x15 | 0xEC => 0x1D
  | 0x9F => 0x20 | 0x5A => 0x30 | 0x05 => 0x40 | 0x35 => 0x41 | 0x70 => 0x42
  | 0x06 => 0x51 | 0x04 => 0x50 | 0x02 => 0x60 | 0x12 => 0x68 | 0x32 => 0x64 | 0x34 => 0x6C
  | 0x20 => 0x70 | 0x21 => 0x78 | 0x52 => 0x71 | 0x5C => 0x79 | 0xD8 => 0x72 | 0xDC => 0x7A
  | 0x60 => 0x80 | 0xC7 => 0x80 | 0x01 => 0x90 | 0x31 => 0x92 | 0xB7 => 0xA1 | 0xE9 => 0xA0
  | 0x66 => 0xB0 | 0x99 => 0xB1 | 0x50 => 0xC0
  | 0xD1 => if bus = 0 then 0xD1 else 0
  | 0xD2 => if bus = 0 then 0xD2 else 0
  | _ => 0

/-- Reset OP_PERM of a host-facing opcode (Table 10.5): BOOT and RUN for reads, all three sets for status, write enable,
address mode, reset, flag clear and mailbox frames, none otherwise. -/
def opPermReset (bus op : Nat) : Nat :=
  let c := opClassReset bus op / 16
  if c = 0 then 0 else if c ≤ 3 then 3
  else if c = 4 ∨ c = 5 ∨ c = 0xA ∨ c = 0xB ∨ c = 0xC ∨ c = 0xD then 7 else 0

/-- The floor of a detector's severity (Table 13.2), coded as ALARM_SEV. -/
def detFloor (d : Nat) : Nat :=
  if d ≤ 5 ∨ d = 12 then 4 else if d = 20 ∨ (6 ≤ d ∧ d ≤ 11) then 1 else 3

/-- Fixed trigger of Table 15.3 is alarm-class. -/
def fixedAlarm (t : Nat) : Bool := t == 0 || t == 1 || t == 8 || t == 11 || t == 13

/-- A HIST_CONFIG value (Table 15.7). -/
def histConfig (subject arg low w : Nat) : Bytes := u16 subject ++ u16 0 ++ u32 arg ++ u32 low ++ u32 w

/-- HIST_CONFIG of the fixed histograms (Table 15.8); disabled for the others. -/
def histReset (h : Nat) : Bytes :=
  match h with
  | 0 => histConfig 4 0 0 8
  | 1 => histConfig 5 0 0 25
  | 2 => histConfig 5 1 0 25
  | 3 => histConfig 3 0 700 8
  | 4 => histConfig 2 0xFF (2 ^ 32 - 640) 80
  | 5 => histConfig 1 0x10000 0 1000
  | 6 => histConfig 1 0x20000 0 1000
  | 7 => histConfig 6 2 0 160
  | 8 => histConfig 6 14 0 80
  | 9 => histConfig 6 15 0 4
  | 10 => histConfig 7 0xFF 0 1
  | 11 => histConfig 9 0 0 100
  | _ => zeros 16

/-- Reset value of a field (the tables' Value column). -/
def cfgReset (f i : Nat) : Bytes :=
  if f = F_REL_COUNT then u8 1
  else if f = F_REL_STEPS then zeros 9 ++ u8 31 ++ zeros 182
  else if f = F_QUORUM_A ∨ f = F_QUORUM_B then u8 2
  else if f = F_QUORUM_C ∨ f = F_CH_ISOLATED ∨ f = F_CQ_MOD_COUNT then u8 1
  else if f = F_CQ_MOD_TIMER ∨ f = F_KC_QUOTA then u16 64
  else if f = F_CH_LEN_LIMIT then List.replicate 1024 0xFF#8
  else if f = F_CH_DECTAB then [0, 1, 2, 3, 4, 5, 6, 7, 8, 9, 0, 1, 2, 3, 4, 5]
  else if f = F_OP_CLASS then u8 (opClassReset (i / 256) (i % 256))
  else if f = F_OP_PERM then u8 (opPermReset (i / 256) (i % 256))
  else if f = F_BUS_TIMING then if i = 2 then privTimingReset else busTimingReset
  else if f = F_PERM_DEFAULT then u16 0x0011
  else if f = F_PAIR_START_WAIT then u16 60
  else if f = F_PAIR_FAILBACK ∨ f = F_CELL_POLICY ∨ f = F_CHG_VOLTAGE then u8 1
  else if f = F_CELL_FLOOR then u8 30
  else if f = F_CHG_CURRENT then u8 20
  else if f = F_DET_SEVERITY then u8 (detFloor i)
  else if f = F_TRIG_SOURCE then
    if i < 16 then u16 (i + 1) ++ u8 (flag (fixedAlarm i)) ++ zeros 5 else zeros 8
  else if f = F_TRIG_SNAP then
    if i = 0 ∨ i = 1 ∨ i = 8 then u32 0x01 ++ u32 0xFF02 ++ u32 0x03 ++ u32 0x0B else []
  else if f = F_HIST_CONFIG then histReset i
  else zeros (((fieldInfo f).map (·.len)).getD 0)

/-- The value of a field in a store (R97). -/
def cfgValue (store : KeyMap Bytes) (f i : Nat) : Bytes := KeyMap.get store (cfgReset f i) (cfgKey f i)

/-- The current value of a field. -/
def State.cfg (s : State) (f i : Nat) : Bytes := cfgValue s.orfer.cfg f i
/-- The current value of a field as an integer. -/
def State.cfgNat (s : State) (f i : Nat) : Nat := leNat (s.cfg f i)
/-- A field set in the store. -/
def State.setCfg (s : State) (f i : Nat) (v : Bytes) : State :=
  { s with orfer := { s.orfer with cfg := KeyMap.put s.orfer.cfg (cfgKey f i) v } }
/-- FIELD of a key of the store. -/
def keyField (k : Nat) : Nat := k / 65536
/-- INSTANCE of a key of the store. -/
def keyInst (k : Nat) : Nat := k % 65536

/-- Cell-less policy in force (R42). -/
def State.cellLess (s : State) : Bool := s.tamper.cellLess

/-- The stored M of a class in a realm (R88, R113). -/
def State.quorum (s : State) (realm cls : Nat) : Nat :=
  s.cfgNat (if cls = 0x0A then F_QUORUM_A else if cls = 0x0B then F_QUORUM_B else F_QUORUM_C) realm

end Sys2Proof.Machine
end

