-- ==== Sys2Proof/Machine/Flags.lean ====
section
/-!
DEFINITION. The words that the device reports: the mode word, status registers, state of charge, register file, lifecycle code,
Sentinel log entries. Each is computed from the state; none is stored twice.
-/

namespace Sys2Proof.Machine

/-- MODE code (Table 2.1). `off` is never reported; it reads 0, a value that is not issued. -/
def Mode.code : Mode → Nat
  | .off => 0 | .sentinel => 1 | .gate => 2 | .watch => 3 | .serve => 4 | .steward => 5 | .recover => 6 | .quarantine => 7

/-- BASE code (Table 2.1). -/
def Base.code : Base → Nat
  | .none => 0 | .watch => 3 | .serve => 4

/-- Bits [14:8] as a number. -/
def Gates.code (g : Gates) : Nat :=
  flag g.noVault + 2 * flag g.noChannel + 4 * flag g.cellLow + 8 * flag g.fenced + 16 * flag g.lifecycle
    + 32 * flag g.selftest + 64 * flag g.held

/-- Some service gate holds service closed (R35). -/
def Gates.any (g : Gates) : Bool :=
  g.noVault || g.noChannel || g.cellLow || g.fenced || g.lifecycle || g.selftest || g.held

/-- The mode word (Table 2.1). -/
def ModeState.word (m : ModeState) : Nat :=
  m.mode.code + 16 * m.base.code + 256 * m.gates.code + 65536 * m.cause

/-- The mode word. -/
def State.modeWord (s : State) : Nat := s.ms.word

/-- The device is in SERVE, or in STEWARD with BASE 0x4 (R37). -/
def State.serving (s : State) : Bool :=
  s.ms.mode == .serve || (s.ms.mode == .steward && s.ms.base == .serve)

/-- VDD_IO lies in its monitor window, which is VIO_GLITCH's too (Table 17.9). -/
def ioInWindow (mv : Nat) : Bool := decide (1620 ≤ mv ∧ mv ≤ 1980)
/-- Every main rail lies in its monitor window (Table 17.9). -/
def railsGood (r : Rails) : Bool :=
  decide (680 ≤ r.core ∧ r.core ≤ 950 ∧ 850 ≤ r.sd ∧ r.sd ≤ 950 ∧ 1140 ≤ r.pll ∧ r.pll ≤ 1260) && ioInWindow r.io
/-- Main power is good (R43). -/
def State.mainPower (s : State) : Bool := s.supply.pwrgd && railsGood s.supply.rails

/-- A real-time clock in seconds, 48 bits (Table 13.1). -/
def State.rtcSeconds (s : State) : Nat := s.tamper.rtc / 1000000000 % 2 ^ 48
/-- The fraction of the real-time clock in 1/32,768 s, 15 bits (Table 13.1). -/
def State.rtcSubsec (s : State) : Nat := s.tamper.rtc % 1000000000 * 32768 / 1000000000

/-- State of charge in % (R444). -/
def State.soc (s : State) : Nat :=
  if s.cfgNat F_CELL_CAPACITY 0 = 0 ∨ s.tamper.cell.state = 0 ∨ s.tamper.cell.learned = 0 then 0
  else 100 * s.tamper.cell.remaining / s.tamper.cell.learned

/-- The value of a thermometer of words `first` to `first + n − 1` in a table of words: one more than its highest set bit (R451). -/
def thermometer (words : KeyMap Nat) (first n : Nat) : Nat :=
  (List.range (32 * n)).foldl (fun acc i => if (KeyMap.get words 0 (first + i / 32)).testBit (i % 32) then i + 1 else acc) 0

/-- EVIDENCE (Table 14.1). -/
def State.evidence (s : State) : Nat := thermometer s.otp.shadow 0x008 16
/-- QMARK (Table 14.1). -/
def State.qmark (s : State) : Nat := thermometer s.otp.shadow 0x018 2
/-- RECOM (Table 14.1). -/
def State.recom (s : State) : Nat := thermometer s.otp.shadow 0x01A 2
/-- APEX_ARB (Table 14.1). -/
def State.apexArb (s : State) : Nat := thermometer s.otp.shadow 0x01C 4
/-- FACET_ARB (Table 14.1). -/
def State.facetArb (s : State) : Nat := thermometer s.otp.shadow 0x020 8

/-- QUARANTINE is marked in OTP (R463). -/
def State.quarantineMarked (s : State) : Bool := decide (s.recom < s.qmark)

/-- A forward word is set in the shadows (R450). -/
def State.forwardSet (s : State) (w : Nat) : Bool := KeyMap.get s.otp.shadow 0 w != 0

/-- Lifecycle code (R461). -/
def State.lifecycleCode (s : State) : Nat := s.otp.life + 1 + 128 * flag s.otp.torn
/-- BLANK. -/
def State.isBlank (s : State) : Bool := s.otp.life == 0
/-- TEST. -/
def State.isTest (s : State) : Bool := s.otp.life == 1
/-- PRODUCTION, either sub-state. -/
def State.isProduction (s : State) : Bool := s.otp.life == 2 || s.otp.life == 3
/-- PRODUCTION in sub-state OWNED. -/
def State.isOwned (s : State) : Bool := s.otp.life == 3
/-- PRODUCTION UNOWNED. -/
def State.isUnowned (s : State) : Bool := s.otp.life == 2
/-- END_OF_LIFE. -/
def State.isEndOfLife (s : State) : Bool := s.otp.life == 4

/-- PAIR_STATE code (Table 12.9). -/
def PairMode.code : PairMode → Nat
  | .unpaired => 0 | .linkDown => 1 | .syncing => 2 | .paired => 3 | .linkLost => 4 | .solo => 5 | .fenced => 6 | .version => 7

/-- Bytes of a Sentinel log entry before its CRC (Table 13.7). -/
def LogEntry.body (e : LogEntry) : Bytes :=
  u8 e.severity ++ u8 e.flags ++ u8 0 ++ u32 e.detectors ++ leBytes 6 e.rtc ++ u16 e.subsec ++ u64 e.time ++ u16 e.count
    ++ u16 e.seq ++ u16 0

/-- One step of CRC-16/CCITT-FALSE: polynomial 0x1021, most significant bit first. -/
def crc16Step (crc : Nat) (b : Byte) : Nat :=
  (List.range 8).foldl (fun c _ => if c / 32768 % 2 = 1 then (c * 2 % 65536) ^^^ 0x1021 else c * 2 % 65536) (crc ^^^ (b.toNat * 256))

/-- CRC-16/CCITT-FALSE (Table 13.7): start value 0xFFFF, no reflection, no final exclusive or. -/
def crc16 (bs : Bytes) : Nat := bs.foldl crc16Step 0xFFFF

/-- One step of CRC-32: the reflected polynomial 0xEDB88320, least significant bit first (PRESUMED: log 1). -/
def crc32Step (crc : Nat) (b : Byte) : Nat :=
  (List.range 8).foldl (fun c _ => if c % 2 = 1 then (c / 2) ^^^ 0xEDB88320 else c / 2) (crc ^^^ b.toNat)

/-- CRC-32 (R471): start value and final exclusive or 0xFFFF_FFFF (PRESUMED: log 1). -/
def crc32 (bs : Bytes) : Nat := (bs.foldl crc32Step 0xFFFFFFFF) ^^^ 0xFFFFFFFF

/-- A log entry as it is written: with the CRC of its bytes (Table 13.7). -/
def LogEntry.sealed (e : LogEntry) : LogEntry := { e with crc := crc16 e.body }
/-- The CRC holds (R437). -/
def LogEntry.crcOk (e : LogEntry) : Bool := e.crc == crc16 e.body

/-- The 32 bytes of a log entry (Table 13.7). -/
def LogEntry.bytes (e : LogEntry) : Bytes := u8 e.state ++ e.body ++ u16 e.crc

/-- The 32 entries in slot order (R446). -/
def State.sentinelLog (s : State) : Bytes :=
  (List.range 32).flatMap fun i => match KeyMap.find s.tamper.log i with
    | some e => e.bytes
    | none => zeros 32

end Sys2Proof.Machine
end

