-- ==== Sys2Proof/Machine/Operands.lean ====
section
/-!
DEFINITION. The operand forms: fields of a descriptor (Table 4.7), the opcodes of groups 0x1 to 0x7 with their key
references, parameter bytes, lengths, costs and work counts (Tables 6.16 to 6.18, 7.1 to 7.4, 8.1 to 8.3, 8.8, 9.3, 9.4, 9.8).
-/

namespace Sys2Proof.Machine

/-! ### Descriptor fields (Table 4.7) -/

/-- OPCODE. -/
def dOpcode (d : Bytes) : Nat := byteAt d 0
/-- FORMAT. -/
def dFormat (d : Bytes) : Nat := byteAt d 1
/-- FLAGS. -/
def dFlags (d : Bytes) : Nat := field d 2 2
/-- FLAGS [0] FENCE. -/
def dFence (d : Bytes) : Bool := bit (dFlags d) 0
/-- FLAGS [1] IRQ_NOW. -/
def dIrqNow (d : Bytes) : Bool := bit (dFlags d) 1
/-- FLAGS [2] IN_SGL. -/
def dInSgl (d : Bytes) : Bool := bit (dFlags d) 2
/-- FLAGS [3] OUT_SGL. -/
def dOutSgl (d : Bytes) : Bool := bit (dFlags d) 3
/-- AUX_LEN. -/
def dAux (d : Bytes) : Nat := field d 4 4
/-- ITEM_TAG. -/
def dTag (d : Bytes) : Nat := field d 8 8
/-- IN_IOVA. -/
def dInIova (d : Bytes) : Nat := field d 0x30 8
/-- IN_LEN. -/
def dInLen (d : Bytes) : Nat := field d 0x38 4
/-- OUT_LEN. -/
def dOutLen (d : Bytes) : Nat := field d 0x3C 4
/-- OUT_IOVA. -/
def dOutIova (d : Bytes) : Nat := field d 0x40 8
/-- PARAMS, 56 bytes. -/
def dParams (d : Bytes) : Bytes := fit 56 (slice 0x48 56 d)
/-- Offset of key reference 1, 2 or 3; the third lies in PARAMS of 0x76 (Table 6.17). -/
def keyOffset (i : Nat) : Nat := if i = 1 then 0x10 else if i = 2 then 0x20 else 0x48
/-- KEY_IOVA of a reference. -/
def dKeyIova (d : Bytes) (i : Nat) : Nat := field d (keyOffset i) 8
/-- KEY_TAG of a reference, as a number naming its 8 bytes. -/
def dKeyTag (d : Bytes) (i : Nat) : Nat := field d (keyOffset i + 8) 8

/-! ### The opcodes -/

/-- Descriptor opcode group in bits [7:4] (R17). -/
def opGroup (op : Nat) : Nat := op / 16 % 16

/-- The defined descriptor opcodes (R212, R223, R271, R292, R306). -/
def opDefined (op : Nat) : Bool :=
  (0x10 ≤ op && op ≤ 0x1A && op != 0x13 && op != 0x17) || (0x20 ≤ op && op ≤ 0x2D)
  || (0x30 ≤ op && op ≤ 0x33) || (0x40 ≤ op && op ≤ 0x4D) || (0x50 ≤ op && op ≤ 0x54)
  || (0x60 ≤ op && op ≤ 0x6F) || (0x70 ≤ op && op ≤ 0x78)

/-- The key references that an opcode requires (Tables 6.16, 7.1, 8.1, 8.8, 9.4). -/
def opKeys (op : Nat) : List Nat :=
  if 0x10 ≤ op ∧ op ≤ 0x1A then [1, 2]
  else if op = 0x47 ∨ op = 0x73 ∨ op = 0x75 then [1, 2]
  else if op = 0x76 then [1, 2, 3]
  else if op = 0x50 ∨ op = 0x51 ∨ op = 0x52 ∨ op = 0x70 ∨ op = 0x71 ∨ op = 0x78 then []
  else if opDefined op then [1] else []

/-- Opcodes with a TDES DUKPT key (Table 7.1). -/
def opTdesDukpt (op : Nat) : Bool :=
  op == 0x11 || op == 0x15 || op == 0x19 || op == 0x26 || op == 0x27 || op == 0x32
/-- Opcodes with an AES DUKPT key (Table 7.1). -/
def opAesDukpt (op : Nat) : Bool :=
  op == 0x12 || op == 0x16 || op == 0x1A || op == 0x28 || op == 0x29 || op == 0x33
/-- Opcodes with a DUKPT key. -/
def opDukpt (op : Nat) : Bool := opTdesDukpt op || opAesDukpt op

/-- The ranges of PARAMS (offset, length) that an opcode uses; every other byte is reserved (R12, R130). -/
def opParams (op : Nat) : List (Nat × Nat) :=
  if 0x10 ≤ op ∧ op ≤ 0x1A then
    [(0, 3), (4, 10), (0x20, 16)]
    ++ (if opAesDukpt op then [(3, 1)] else []) ++ (if opDukpt op then [(0x14, 12)] else [])
    ++ (if 0x14 ≤ op ∧ op ≤ 0x16 then [(0x0E, 6)] else []) ++ (if 0x14 ≤ op then [(0x30, 8)] else [])
  else if 0x20 ≤ op ∧ op ≤ 0x29 then
    [(0, 2)] ++ (if opDukpt op then [(2, 1), (4, 12)] else []) ++ (if opAesDukpt op then [(3, 1)] else [])
    ++ (if op % 2 = 1 then [(0x10, 16)] else [])
  else if op = 0x2A then [(0, 0x28)]
  else if op = 0x2B then [(0, 2), (3, 12), (0x10, 2)]
  else if op = 0x2C then [(0, 0x10)]
  else if op = 0x2D then [(0, 0x13)]
  else if op = 0x32 then [(0, 1), (4, 12), (0x10, 16)]
  else if op = 0x33 then [(0, 2), (4, 12), (0x10, 16)]
  else if op = 0x40 ∨ op = 0x4B then [(0, 1)]
  else if op = 0x43 ∨ op = 0x47 then [(0, 2), (0x10, 16)]
  else if op = 0x46 then [(0, 1), (0x10, 16)]
  else if op = 0x48 then [(1, 1), (0x10, 16)]
  else if op = 0x49 ∨ op = 0x4A then [(1, 1), (0x10, 32)]
  else if 0x41 ≤ op ∧ op ≤ 0x4D then [(0x10, 16)]
  else if op = 0x53 then [(0, 1)]
  else if op = 0x54 then [(0, 1), (0x10, 32)]
  else if op = 0x67 then [(0, 3)]
  else if op = 0x68 then [(0, 3), (4, 4)]
  else if 0x69 ≤ op ∧ op ≤ 0x6B then [(0, 1), (3, 1), (8, 1)]
  else if 0x6C ≤ op ∧ op ≤ 0x6E then [(0, 1), (3, 1)]
  else if op = 0x78 then [(0, 8), (8, 0x28)]
  else if op = 0x30 ∨ op = 0x31 ∨ (0x64 ≤ op ∧ op ≤ 0x66) ∨ op = 0x70 ∨ op = 0x71 ∨ op = 0x74 ∨ op = 0x75 then
    [(0, 5), (8, 0x28)]
  else if op = 0x72 then [(0, 1)]
  else if op = 0x73 then [(0, 4)]
  else if op = 0x76 then [(0, 0x11)]
  else []

/-- Every PARAMS byte outside the ranges an opcode uses is zero (Table 4.12). -/
def paramsClean (op : Nat) (p : Bytes) : Bool :=
  (List.range 56).all fun i =>
    (opParams op).any (fun r => decide (r.1 ≤ i ∧ i < r.1 + r.2)) || byteAt p i == 0

/-- The tag or MAC bytes that an opcode adds to its output (R271, R274). -/
def dArg (d : Bytes) : Nat := byteAt (dParams d) 1

/-- IN_LEN is within the opcode's limits (Tables 6.16, 7.1, 8.1, 9.4; R272, R292, R309). -/
def inLenOk (op : Nat) (d : Bytes) : Bool :=
  let n := dInLen d
  let aux := dAux d
  if op ≤ 0x1A then n == 0
  else if op ≤ 0x29 then decide (1 ≤ n ∧ n ≤ 16384)
  else if op ≤ 0x2B then decide (1 ≤ n ∧ n ≤ 128)
  else if op ≤ 0x2D then n == 0
  else if op = 0x30 then n == 8 || n == 10
  else if op = 0x31 then n == 12
  else if op = 0x32 then decide (8 ≤ n ∧ n ≤ 16384 ∧ n % 8 = 0)
  else if op = 0x33 then decide (16 ≤ n ∧ n ≤ 16384 ∧ n % 16 = 0)
  else if op ≤ 0x4D then
    decide (n ≤ 0x1000000) &&
    (if op = 0x40 ∨ op = 0x41 ∨ op = 0x42 then decide (n % 16 = 0)
     else if op = 0x47 then
       decide (dArg d < 9) || decide (16 < dArg d) || decide (n % 2 ^ (dArg d) = 0)
     else if op = 0x48 then true
     else if op = 0x49 then decide (n - aux ≤ 65536)
     else if op = 0x4A then decide (65537 ≤ n - aux)
     else if op ≤ 0x46 then decide (1 ≤ n)
     else decide (n % 8 = 0))
  else if op ≤ 0x54 then true
  else if op = 0x60 ∨ op = 0x62 then decide (20 ≤ n ∧ n ≤ 64)
  else if op = 0x61 then decide (84 ≤ n ∧ n ≤ 128)
  else if op = 0x63 then decide (116 ≤ n ∧ n ≤ 160)
  else if op = 0x64 then n == (if aux = 384 then 96 else 64)
  else if op = 0x65 ∨ op = 0x6F then n == 0
  else if op = 0x66 then n == 1088
  else if op = 0x67 then n == 32 || n == 48 || n == 64
  else if op = 0x68 then decide (aux / 8 ≤ n ∧ n ≤ 64 + aux / 8)
  else if op = 0x69 then decide (8192 ≤ n ∧ n ≤ 8192 + 4096)
  else if op = 0x6A then decide (128 ≤ n ∧ n ≤ 128 + 4096)
  else if op = 0x6B then decide (8192 ≤ n ∧ n ≤ 8192 + 4096)
  else if op = 0x6C then decide (7856 ≤ n ∧ n ≤ 7856 + 4096)
  else if op = 0x6D then decide (17088 ≤ n ∧ n ≤ 17088 + 4096)
  else if op = 0x6E then decide (29792 ≤ n ∧ n ≤ 29792 + 4096)
  else if op = 0x74 then decide (1 ≤ n ∧ n ≤ 4096)
  else if op = 0x75 then decide (1 ≤ n ∧ n ≤ 8192)
  else if op = 0x78 then n == 16 || n == 24
  else n == 0

/-- AUX_LEN is within the opcode's limits (R212, R223, R272, R292, R306). -/
def auxOk (op : Nat) (d : Bytes) : Bool :=
  let aux := dAux d
  if op = 0x48 ∨ op = 0x49 ∨ op = 0x4A then decide (aux ≤ 65536 ∧ aux ≤ dInLen d)
  else if 0x50 ≤ op ∧ op ≤ 0x54 then decide (aux ≤ 0x1000000)
  else if op = 0x64 then aux == 256 || aux == 384
  else if op = 0x67 ∨ op = 0x68 ∨ op = 0x75 ∨ op = 0x76 then aux == 2048 || aux == 3072 || aux == 4096
  else if op = 0x72 ∨ op = 0x73 then decide (160 ≤ aux ∧ aux ≤ 4096 ∧ aux % 16 = 0)
  else aux == 0

/-- The output length that the descriptor alone fixes, the least OUT_LEN (R553, Tables 7.1, 8.1, 8.8, 9.4). -/
def outNeed (op : Nat) (d : Bytes) : Nat :=
  if op ≤ 0x12 then 16
  else if op ≤ 0x1A then 0
  else if op ≤ 0x29 then (if op % 2 = 0 then 16 else 0)
  else if op ≤ 0x2C then 8
  else if op = 0x2D then 0
  else if op ≤ 0x31 then 168
  else if op ≤ 0x33 then dInLen d
  else if op = 0x48 then dInLen d - dAux d + dArg d
  else if op = 0x49 ∨ op = 0x4A then dInLen d - dAux d
  else if op ≤ 0x4D then dInLen d
  else if op = 0x50 then 32
  else if op = 0x51 then 48
  else if op = 0x52 then 64
  else if op = 0x53 then byteAt (dParams d) 0
  else if op = 0x54 then 0
  else if op = 0x60 then 64
  else if op = 0x62 then 96
  else if op = 0x64 ∨ op = 0x66 then 168
  else if op = 0x65 then 1256
  else if op = 0x67 then dAux d / 8
  else if op = 0x68 then (if byteAt (dParams d) 0 = 3 then dAux d / 8 else 0)
  else if op = 0x69 then 7856
  else if op = 0x78 then 160
  else if op = 0x6A then 17088
  else if op = 0x6B then 29792
  else if op = 0x70 then 168
  else if op = 0x77 then 8
  else 0

/-- The opcode's governing length; none for a fixed-size opcode (R172, R215, R230, R279, R319). -/
def governing (op aux inLen : Nat) : Option Nat :=
  if op = 0x20 ∨ op = 0x21 then some (inLen - 64)
  else if 0x22 ≤ op ∧ op ≤ 0x29 then some (inLen - 256)
  else if op = 0x32 ∨ op = 0x33 then some inLen
  else if 0x40 ≤ op ∧ op ≤ 0x4D then some inLen
  else if 0x50 ≤ op ∧ op ≤ 0x54 then some aux
  else if op = 0x64 then some ((aux - 256) / 8)
  else if op = 0x67 ∨ op = 0x68 ∨ op = 0x75 ∨ op = 0x76 then some ((aux - 2048) / 8)
  else if op = 0x72 ∨ op = 0x73 then some (aux - 160)
  else if op = 0x74 then some (inLen - 512)
  else none

/-- The largest governing length that the opcode itself allows (R158). -/
def governingMax (op : Nat) : Nat :=
  if op = 0x20 ∨ op = 0x21 then 16384 - 64
  else if 0x22 ≤ op ∧ op ≤ 0x29 then 16384 - 256
  else if op = 0x32 ∨ op = 0x33 then 16384
  else if op = 0x49 then 65536 + 65536
  else if 0x40 ≤ op ∧ op ≤ 0x54 then 0x1000000
  else if op = 0x64 then 16
  else if op = 0x67 ∨ op = 0x68 ∨ op = 0x75 ∨ op = 0x76 then 256
  else if op = 0x72 ∨ op = 0x73 then 4096 - 160
  else if op = 0x74 then 4096 - 512
  else 0

/-- The unit that every governing length an opcode accepts is a multiple of (R158, R212, R272, R306, Table 7.1). -/
def lengthUnit (op : Nat) : Nat :=
  if op = 0x32 ∨ op = 0x4B ∨ op = 0x4C ∨ op = 0x4D then 8
  else if op = 0x33 ∨ op = 0x40 ∨ op = 0x41 ∨ op = 0x42 ∨ op = 0x64 ∨ op = 0x72 ∨ op = 0x73 then 16
  else if op = 0x47 then 512
  else if op = 0x67 ∨ op = 0x68 ∨ op = 0x75 ∨ op = 0x76 then 128
  else 1

/-- STEP_BYTES of a length-dependent opcode; 0 for the others (Tables 6.18, 7.4, 8.3, 9.8). -/
def stepBytes (op : Nat) : Nat :=
  if op = 0x20 ∨ op = 0x21 ∨ op = 0x32 ∨ op = 0x4C then 64
  else if (0x22 ≤ op ∧ op ≤ 0x29) ∨ op = 0x33 ∨ op = 0x72 ∨ op = 0x73 then 256
  else if op = 0x40 ∨ op = 0x42 ∨ op = 0x43 ∨ op = 0x45 ∨ (0x47 ≤ op ∧ op ≤ 0x4A) then 2048
  else if op = 0x41 ∨ op = 0x44 ∨ op = 0x46 then 288
  else if op = 0x4B ∨ op = 0x4D then 512
  else if op = 0x50 ∨ op = 0x53 ∨ op = 0x54 then 1024
  else if op = 0x51 ∨ op = 0x52 ∨ op = 0x74 then 512
  else if op = 0x64 then 16
  else if op = 0x67 ∨ op = 0x68 ∨ op = 0x75 ∨ op = 0x76 then 128
  else 0

/-- w₁, the sectors of one step (Tables 6.18, 7.4, 8.3, 9.8). -/
def stepWork (op : Nat) : Nat :=
  if op = 0x49 then 2
  else if op = 0x64 then 20
  else if op = 0x67 ∨ op = 0x75 ∨ op = 0x76 then 863
  else if op = 0x68 then 46
  else if stepBytes op = 0 then 0 else 1

/-- w or w₀ before the raise of R318 (Tables 6.18, 7.4, 8.3, 9.8). -/
def baseWork (op : Nat) : Nat :=
  if op = 0x12 ∨ op = 0x16 ∨ op = 0x1A ∨ op = 0x26 ∨ op = 0x27 ∨ op = 0x33 ∨ op = 0x4A then 2
  else if op = 0x28 ∨ op = 0x29 then 3
  else if op = 0x60 then 19
  else if op = 0x61 then 11
  else if op = 0x62 then 64
  else if op = 0x63 then 37
  else if op = 0x64 then 9
  else if op = 0x65 ∨ op = 0x66 then 14
  else if op = 0x67 then 252
  else if op = 0x68 then 31
  else if op = 0x69 then 3350
  else if op = 0x6A then 184
  else if op = 0x6B then 7340
  else if op = 0x6C then 19
  else if op = 0x6D then 40
  else if op = 0x6E then 67
  else if op = 0x6F ∨ op = 0x71 then 514
  else if op = 0x75 ∨ op = 0x76 then 253
  else 1

/-- Cost in ps of one RSA_SIGN of a modulus length (Table 9.8). -/
def rsaSignCost (bits : Nat) : Nat :=
  if bits ≤ 2048 then 25000000 else if bits ≤ 3072 then 66666666 else 166666666

/-- n of R278: the bytes that a bulk or digest item is priced at. -/
def pricedBytes (op aux inLen tagLen : Nat) : Nat :=
  if 0x50 ≤ op then aux
  else if op = 0x48 then max inLen (inLen - aux + tagLen)
  else inLen

/-- Cost in ps of an item, without the miss surcharge (R168; Tables 6.18, 7.4, 9.8; R278). `alg` is PARAMS' ALG for 0x71. -/
def opCost (op aux inLen tagLen alg : Nat) : Nat :=
  let steps := match governing op aux inLen with
    | some g => ceilDiv g (stepBytes op)
    | none => 0
  if op = 0x30 ∨ op = 0x31 ∨ op = 0x70 ∨ op = 0x78 then 4000000
  else if op = 0x72 ∨ op = 0x73 ∨ op = 0x74 then 10 ^ 12 * (1 + steps) / 250000
  else if 0x40 ≤ op ∧ op ≤ 0x54 then 833333 + ceilDiv (250 * pricedBytes op aux inLen tagLen) 7
  else if op = 0x60 then 3333333
  else if op = 0x61 then 4000000
  else if op = 0x62 then 8333333
  else if op = 0x63 then 10000000
  else if op = 0x64 then (if aux ≤ 256 then 3333333 else 8333333)
  else if op = 0x65 ∨ op = 0x66 then 5000000
  else if op = 0x67 then rsaSignCost aux
  else if op = 0x68 then (if aux ≤ 2048 then 1000000 else if aux ≤ 3072 then 2222222 else 4000000)
  else if op = 0x69 then 500000000
  else if op = 0x6A then 27777777
  else if op = 0x6B then 4000000000
  else if op = 0x6C then 833333
  else if op = 0x6D then 1666666
  else if op = 0x6E then 6666666
  else if op = 0x6F then 83333333
  else if op = 0x71 then
    (if alg = 0x101 then 3333333 else if alg = 0x102 then 8333333 else if alg = 0x121 then 5000000 else 83333333)
  else if op = 0x75 ∨ op = 0x76 then rsaSignCost aux + 1000000
  else 10 ^ 12 * (1 + steps) / 1200000

/-- Opcodes whose core work is TDES alone (Tables 7.1, 8.1). -/
def opTdes (op : Nat) : Bool :=
  op == 0x20 || op == 0x21 || op == 0x22 || op == 0x23 || op == 0x26 || op == 0x27 || op == 0x2C || op == 0x2D || op == 0x32
    || op == 0x4B || op == 0x4C || op == 0x4D

/-- Cycles of a key expansion or key load (Table 7.3). -/
def keyCycles (op : Nat) : Nat := if opTdes op then 2 else 6

/-- Opcodes whose core work is AES alone (Tables 6.16, 7.1, 8.1). -/
def opAes (op : Nat) : Bool :=
  op == 0x24 || op == 0x25 || op == 0x28 || op == 0x29 || op == 0x33 || (0x40 ≤ op && op ≤ 0x4A) || op == 0x70 || op == 0x71 || op == 0x72
/-- Cycles within which a cipher core reaches a suspension point: the blocks in flight of a parallel stream, the current block of a chained one
(R265, R268). -/
def coreDrain (op : Nat) : Nat := if opAes op then 14 else 24
/-- Cycles of a block on a cipher core, at whose end work on it may stop: issued behind another in a parallel stream, alone in a chained one, a single
DES block in a retail MAC (R268, Table 7.3). -/
def coreBlock (op : Nat) : Nat :=
  if op = 0x41 ∨ op = 0x44 ∨ op = 0x46 then 14
  else if 0x40 ≤ op ∧ op ≤ 0x4A then 2
  else if op = 0x4B ∨ op = 0x4D then 4
  else if op = 0x22 ∨ op = 0x23 ∨ op = 0x26 ∨ op = 0x27 then 8
  else coreDrain op
/-- CE of a compression, at whose end a lane may stop (R268, R298). -/
def laneBlock (op : Nat) : Nat := if op = 0x51 ∨ op = 0x52 then 4 else 1
/-- Cycles within which a hash lane reaches a suspension point: one compression (R268). -/
def laneDrain (op : Nat) : Nat := if op = 0x51 ∨ op = 0x52 ∨ op = 0x6B ∨ op = 0x6E then 64 else 16
/-- Cycles within which a multiplier unit reaches a suspension point (R299). -/
def montDrain : Nat := 64
/-- Cycles within which an NTT lane reaches a suspension point (R299). -/
def nttDrain : Nat := 32
/-- What a preemption adds to its drain (R269). -/
def preemptCycles : Nat := 4

/-- Planned work on a cipher core. -/
def coreDemand (op : Nat) (runs : List Run) : Demand :=
  ⟨.core, runs, (0, 42, false), 0, 0, keyCycles op, coreDrain op + preemptCycles, false, 0, 0, 0, 0, false, 0, 7168, coreBlock op, false, []⟩
/-- Planned work on a hash lane, in CE of 16 lane cycles (R298). -/
def laneDemand (op : Nat) (runs : List Run) : Demand :=
  ⟨.lane, runs, (0, 42, false), 0, 0, 0, ceilDiv (laneDrain op + preemptCycles) 16, false, 0, 0, 0, 0, false, 0, 7168, laneBlock op, false, []⟩
/-- Planned work on the multiplier units: the critical path, and what runs beside it on a second unit (R298, Table 9.8). -/
def montDemand (path work : Nat) (wrap : Bool) : Demand :=
  ⟨.mont, [⟨1, path, 42, false, 0⟩], (0, 42, false), 0, work - path, 0, montDrain + preemptCycles, wrap, 0, 0, 0, 0, false, 0, 7168, 1, false, []⟩
/-- Planned work on the NTT unit. -/
def nttDemand (work : Nat) (wrap : Bool) : Demand :=
  ⟨.ntt, [⟨1, work, 42, false, 0⟩], (0, 42, false), 0, 0, 0, nttDrain + preemptCycles, wrap, 0, 0, 0, 0, false, 0, 7168, nttDrain, false, []⟩
/-- Planned work on the hash array, with the critical path where the manual gives one, and the sector that commits its check (R315, R317). -/
def arrayDemand (op path work : Nat) : Demand :=
  ⟨.array, if path = 0 then [] else [⟨1, path, 42, false, 0⟩], (0, 42, false), 0, work - path, 0,
    ceilDiv (laneDrain op + preemptCycles) 16, false, 1, 0, 0, 0, false, 0, 7168, 1, false, []⟩

/-- Work of SLH_TOP_TREE by ALG (Table 9.7); that of the costliest set where the set is not yet known (Table 9.8). -/
def topTreeWork (alg : Nat) : Nat := if alg = 0x131 then 292352 else if alg = 0x132 then 4568 else 293889

/-- Planned work of RSA_SIGN by modulus length: path, work (Table 9.8). -/
def rsaSignWork (bits : Nat) : Nat × Nat :=
  if bits ≤ 2048 then (72400, 142400) else if bits ≤ 3072 then (241650, 477900) else (569600, 1129600)

/-- Cycles of the base length and of one step of groups 0x1 to 0x3 (Table 7.4). -/
def payCycles (op : Nat) : Nat × Nat :=
  if op = 0x10 then (68, 0)
  else if op = 0x11 then (232, 0)
  else if op = 0x12 then (464, 0)
  else if op = 0x14 ∨ op = 0x18 then (60, 0)
  else if op = 0x15 ∨ op = 0x19 then (224, 0)
  else if op = 0x16 ∨ op = 0x1A then (456, 0)
  else if op = 0x20 ∨ op = 0x21 then (194, 192)
  else if op = 0x22 ∨ op = 0x23 then (274, 256)
  else if op = 0x24 ∨ op = 0x25 then (244, 224)
  else if op = 0x26 ∨ op = 0x27 then (446, 256)
  else if op = 0x28 ∨ op = 0x29 then (640, 224)
  else if op = 0x2A then (236, 0)
  else if op = 0x2B then (206, 0)
  else if op = 0x2C ∨ op = 0x2D then (34, 0)
  else if op = 0x32 then (200, 192)
  else if op = 0x33 then (396, 224)
  else (190, 0)

/-- Share of a core that the chained stream of a MAC or of CBC data takes, in 42nds: one of 7 AES streams or of 6 TDES streams (R265). -/
def chainShare (op : Nat) : Nat := if opTdes op then 7 else 6

/-- Pieces of the base work of groups 0x1 to 0x3: the derivation of a DUKPT working key stands before the chained stream of a MAC (R229, R265, Table 7.4). -/
def payBase (op : Nat) : List Run :=
  let n := (payCycles op).1
  if 0x20 ≤ op ∧ op ≤ 0x25 then [⟨1, n, chainShare op, false, 0⟩]
  else if op = 0x26 ∨ op = 0x27 then [⟨1, 172, 42, false, 0⟩, ⟨1, n - 172, chainShare op, false, 0⟩]
  else if op = 0x28 ∨ op = 0x29 then [⟨1, 396, 42, false, 0⟩, ⟨1, n - 396, chainShare op, false, 0⟩]
  else [⟨1, n, 42, false, 0⟩]

/-- Step of group 0x4: its cycles and the share of a core that its stream takes (R265, Table 8.3). -/
def bulkStep (op : Nat) : Nat × Nat :=
  if op = 0x41 ∨ op = 0x44 ∨ op = 0x46 then (258, 6)
  else if op = 0x4C then (194, 7)
  else if op = 0x4B ∨ op = 0x4D then (258, 42)
  else (262, 42)

/-- Planned work of an item, without its link bytes (R265, R279, R298, R315, R317; Tables 7.4, 8.3, 9.7, 9.8). In groups 0x4 and 0x5 the base
sectors, each a whole engine, follow the steps. The cipher-core cycles of group 0x7 are DEDUCED (log 104). -/
def opDemand (op aux inLen alg : Nat) : Demand :=
  let steps := match governing op aux inLen with
    | some g => ceilDiv g (stepBytes op)
    | none => 0
  if op ≤ 0x33 then coreDemand op (payBase op ++ [⟨steps, (payCycles op).2, chainShare op, false, keyCycles op⟩])
  else if op ≤ 0x4D then
    coreDemand op [⟨steps, (bulkStep op).1, (bulkStep op).2, false, 0⟩, ⟨if op = 0x4A then 2 else 1, 288, 42, true, 0⟩]
  else if op ≤ 0x54 then laneDemand op [⟨steps, 16, 42, false, 0⟩, ⟨1, 18, 42, true, 0⟩]
  else if op = 0x60 ∨ (op = 0x71 ∧ alg = 0x101) then montDemand 5400 5400 false
  else if op = 0x61 then montDemand 3100 3100 false
  else if op = 0x62 ∨ (op = 0x71 ∧ alg = 0x102) then montDemand 18300 18300 false
  else if op = 0x63 then montDemand 10540 10540 false
  else if op = 0x64 then (if aux ≤ 256 then montDemand 2430 2430 true else montDemand 8262 8262 true)
  else if op = 0x65 then nttDemand 3600 true
  else if op = 0x66 then nttDemand 4000 true
  else if op = 0x71 ∧ alg = 0x121 then nttDemand 4000 false
  else if op = 0x67 ∨ op = 0x75 ∨ op = 0x76 then montDemand (rsaSignWork aux).1 (rsaSignWork aux).2 false
  else if op = 0x68 then
    (if aux ≤ 2048 then montDemand 8800 8800 false else if aux ≤ 3072 then montDemand 19800 19800 false else montDemand 35200 35200 false)
  else if op = 0x69 then arrayDemand op 0 1927661
  else if op = 0x6A then arrayDemand op 0 103309
  else if op = 0x6B then arrayDemand op 0 4223939
  else if op = 0x6C then arrayDemand op 323 3957
  else if op = 0x6D then arrayDemand op 700 11816
  else if op = 0x6E then arrayDemand op 1178 10175
  else if op = 0x6F then arrayDemand op 0 (topTreeWork 0)
  else if op = 0x71 then arrayDemand op 0 (topTreeWork alg)
  else coreDemand op [⟨1, 160, 42, false, 0⟩, ⟨steps, 160, 42, false, keyCycles op⟩]

/-- No planned work. -/
def Demand.empty : Demand := ⟨.none, [], (0, 42, false), 0, 0, 0, 0, false, 0, 0, 0, 0, false, 0, 0, 1, false, []⟩

/-- Work that a demand still holds (R321). -/
def Demand.left (d : Demand) : Nat := d.hand.1 + d.runs.foldl (fun n r => n + r.count * r.size) 0 + d.side

/-- Output bytes that an opcode's plan counts on the link: in group 0x6 only results longer than 1 KiB, which the tail does not cover; a top-tree
table at its longest (R277, R316, R317). -/
def plannedOut (op : Nat) (d : Bytes) : Nat :=
  if op = 0x6F ∨ (op = 0x71 ∧ (opDemand op 0 0 (field (dParams d) 0 2)).engine = .array) then 8192
  else if opGroup op = 6 ∧ outNeed op d ≤ 1024 then 0
  else outNeed op d

/-- Opcodes whose output follows their steps, so that each completed step makes its bytes ready (R249, R271, R285). -/
def opStreams (op : Nat) : Bool := op == 0x32 || op == 0x33 || (0x40 ≤ op && op ≤ 0x4D && op != 0x49)

/-- The whole plan of a descriptor's item (R176, R277, R279, R290, R317). A digest reads no byte beyond AUX_LEN. -/
def plannedDemand (d : Bytes) : Demand :=
  let op := dOpcode d
  { opDemand op (dAux d) (dInLen d) (field (dParams d) 0 2) with
    linkIn := if opGroup op = 5 then min (dAux d) (dInLen d) else dInLen d
    linkOut := plannedOut op d
    step := if opStreams op then stepBytes op else 0
    after := op == 0x49 || opGroup op == 6 || op == 0x71
    pace := if op = 0x49 then 2048 else 7168 }

/-- Planned work C, sectors added by R317, and engine pace K of R318 for an opcode of group 0x6 or 0x71 at its largest; none for the others. -/
def raiseOf (op aux : Nat) : Option (Nat × Nat × Nat) :=
  let d := opDemand op aux 0 0
  let out := if op = 0x69 then 7856 else if op = 0x6A then 17088 else if op = 0x6B then 29792 else if op = 0x6F ∨ op = 0x71 then 8192 else 0
  if op = 0x75 ∨ op = 0x76 then none
  else match d.engine with
    | .mont => some (d.left, 0, 4320)
    | .ntt => some (d.left, 0, 2304)
    | .array => some (d.left, ceilDiv out 7168 + 1, 1008)
    | _ => none

/-- Operand memory of an item in KiB (Table 9.3); only items of group 0x6 reserve it (R304; log 181). -/
def opOpmem (op aux : Nat) : Nat :=
  if op = 0x60 ∨ op = 0x61 then 1
  else if op = 0x62 ∨ op = 0x63 then 2
  else if op = 0x64 then (if aux ≤ 256 then 1 else 2)
  else if op = 0x65 ∨ op = 0x66 then 6
  else if op = 0x67 then (if aux ≤ 2048 then 4 else if aux ≤ 3072 then 6 else 8)
  else if op = 0x68 then (if aux ≤ 2048 then 2 else if aux ≤ 3072 then 3 else 4)
  else if op = 0x69 then 10
  else if op = 0x6A then 18
  else if op = 0x6B then 32
  else if op = 0x6C ∨ op = 0x6D then 1
  else if op = 0x6E then 2
  else if op = 0x6F then 9
  else 0

/-- Hold pages of an item of 0x49 or 0x4A (R282). -/
def opPages (op aux inLen : Nat) : Nat :=
  if op = 0x49 then max 1 (ceilDiv (inLen - aux) 4096) else if op = 0x4A then 1 else 0

/-- Context store entries of an item (R267). -/
def opContexts (op : Nat) : Nat :=
  if op = 0x51 ∨ op = 0x52 then 2
  else if op ≤ 0x54 ∨ op = 0x70 ∨ op = 0x72 ∨ op = 0x73 ∨ op = 0x74 ∨ op = 0x77 ∨ op = 0x78 then 1 else 0

/-- Opcodes whose throughput needs the first link case of R542 and the settings of R277. -/
def opBulk (op : Nat) : Bool := opGroup op == 4 || opGroup op == 5

end Sys2Proof.Machine
end

