-- ==== Sys2Proof/Machine/Wheel.lean ====
section
/-!
DEFINITION. What Apex derives from the sector map: service sets, budgets' caps, latency tables and admission limits
(R159, R164 to R174, R278, R317 to R319).
-/

namespace Sys2Proof.Machine

/-- Length of a sector in ns (R154). -/
def sectorNs : Nat := 256
/-- Sectors of a revolution (R154). -/
def revSectors : Nat := 4096
/-- Length of a revolution in ns (R154). -/
def revNs : Nat := 1048576
/-- The hit lead and the miss lead in ns (R171). -/
def leadNs (miss : Bool) : Nat := if miss then 34560 else 5888
/-- The tail B in ns (R171). -/
def tailNs : Nat := 5120

/-- Tenant channels with CH_RING_COUNT above 0, ascending (R115). -/
def State.bound (s : State) : List Nat := (s.chans.filter fun p => p.2.binding.rings != 0).map (·.1)

/-- Owner of a sector: 0 the pool (R155). -/
def State.sectorOwner (s : State) (i : Nat) : Nat := KeyMap.get s.wheel.map 0 i

/-- Pool members in dealing order: channel 0 and the bound non-isolated channels (R159). -/
def State.poolMembers (s : State) : List Nat := s.wheel.members

/-- `n` sectors from sector `i` on: whether each lies in the pool, and whom it serves. The pool sectors, of which `k` lie before `i`, go round the
members (R155, R159). -/
def dealFrom (members : List Nat) : Nat → Nat → Nat → KeyMap Nat → List (Bool × Nat)
  | 0, _, _, _ => []
  | n + 1, i, k, map =>
    match map.dropWhile fun p => decide (p.1 < i) with
    | [] => (true, members.getD (k % members.length) 0) :: dealFrom members n (i + 1) (k + 1) []
    | (j, c) :: rest =>
      if j = i ∧ c ≠ 0 then (false, c) :: dealFrom members n (i + 1) k rest
      else (true, members.getD (k % members.length) 0) :: dealFrom members n (i + 1) (k + 1) ((j, c) :: rest)

/-- The sectors of a revolution: pool or owned, and the channel served (R155, R159 to R161). -/
def State.dealing (s : State) : List (Bool × Nat) := dealFrom s.poolMembers revSectors 0 0 s.wheel.map

/-- Whom a sector serves: its owner, or the member it is dealt to (R159 to R161). -/
def State.sectorMember (s : State) (i : Nat) : Nat := (s.dealing.getD i (true, 0)).2

/-- Numbers of the sectors that pass a test, ascending. -/
def sectorsOf (row : List (Bool × Nat)) (f : Bool × Nat → Bool) : List Nat := (row.zipIdx.filter fun p => f p.1).map (·.2)

/-- Sectors that a channel owns. -/
def State.owned (s : State) (c : Nat) : List Nat := sectorsOf s.dealing fun p => !p.1 && p.2 == c

/-- Sectors dealt to a pool member (R159). -/
def State.dealt (s : State) (c : Nat) : List Nat := sectorsOf s.dealing fun p => p.1 && p.2 == c

/-- The service set of a channel, ascending (R159). -/
def State.serviceSet (s : State) (c : Nat) : List Nat := sectorsOf s.dealing fun p => p.2 == c

/-- Beside each sector of a set, the `w`-th of the set from it on, counted on past the revolution's end (R171). -/
def countedOn (set : List Nat) (w : Nat) : List (Nat × Nat) :=
  let q := (w - 1) / set.length * revSectors
  let r := (w - 1) % set.length
  set.zip ((set.drop r).map (· + q) ++ (set.take r).map (· + q + revSectors))

/-- D_c(w) in ns (R171). -/
def dNs (set : List Nat) (w : Nat) : Nat := (countedOn set w).foldl (fun acc p => max acc ((p.2 + 1 - p.1) * sectorNs)) 0

/-- G_c in ns: the longest time between starts of neighbouring service-set sectors (R172); 0 for an empty set. -/
def gapNs (set : List Nat) : Nat := (countedOn set 2).foldl (fun acc p => max acc ((p.2 - p.1) * sectorNs)) 0

/-- CH_OPCODE_PERMIT permits an opcode (R118). -/
def State.permits (s : State) (c op : Nat) : Bool := bitOf (s.cfg F_CH_OPCODE_PERMIT c) op

/-- Opcodes that a channel may use: permitted and defined (R118). -/
def State.permitted (s : State) (c : Nat) : List Nat :=
  (List.range 128).filter fun op => s.permits c op && opDefined op

/-- CH_LEN_LIMIT in force for an opcode (R158). -/
def State.lenLimit (s : State) (c op : Nat) : Nat := KeyMap.get (s.chan c).lenLimit 0xFFFFFFFF op

/-- The largest governing length that the opcode and CH_LEN_LIMIT allow (R158). -/
def State.maxLength (s : State) (c op : Nat) : Nat :=
  let g := min (governingMax op) (s.lenLimit c op)
  g - g % lengthUnit op

/-- AUX_LEN and IN_LEN of a descriptor whose governing length is `g` (R172, R319). -/
def lengthsOf (op g : Nat) : Nat × Nat :=
  if op = 0x20 ∨ op = 0x21 then (0, g + 64)
  else if 0x22 ≤ op ∧ op ≤ 0x29 then (0, g + 256)
  else if op = 0x64 then (256 + 8 * g, 0)
  else if op = 0x67 ∨ op = 0x68 ∨ op = 0x75 ∨ op = 0x76 then (2048 + 8 * g, 0)
  else if op = 0x72 ∨ op = 0x73 then (160 + g, 0)
  else if op = 0x74 then (0, 512 + g)
  else if 0x50 ≤ op ∧ op ≤ 0x54 then (g, 0)
  else (0, g)

/-- Cost of an opcode at a governing length; at its costliest algorithm where PARAMS chooses one (R167, R215, R278). -/
def costAt (op g : Nat) : Nat :=
  let (aux, inLen) := lengthsOf op g
  if op = 0x71 then opCost op aux inLen 16 0x131 else opCost op aux inLen 16 0

/-- Budget cap CAP_PS of a channel (R167). -/
def State.capPs (s : State) (c : Nat) : Nat :=
  (s.permitted c).foldl (fun acc op => max acc (costAt op (s.maxLength c op))) 4096000

/-- The work count w or w₀ of an opcode on a channel, raised by R318. -/
def State.workBase (s : State) (c op : Nat) : Nat :=
  let g := s.maxLength c op
  match raiseOf op (lengthsOf op g).1 with
  | none => baseWork op
  | some (work, tail, k) => max (baseWork op) (ceilDiv (s.capPs c / costAt op g * work) k + tail)

/-- Steps of a governing length (R172). -/
def stepsOf (op g : Nat) : Nat := if stepBytes op = 0 then 0 else ceilDiv g (stepBytes op)

/-- Whole microseconds of R171: lead, D_c(w) and tail. -/
def latencyUs (set : List Nat) (lead w : Nat) : Nat := ceilDiv (lead + dNs set w + tailNs) 1000

/-- STEP_US of an opcode (R172). -/
def stepUs (set : List Nat) (op : Nat) : Nat := ceilDiv (stepWork op * gapNs set) 1000

/-- Release latency in ns of an opcode on a channel with a service set, at a governing length (R171, R172). -/
def State.latencyOn (s : State) (set : List Nat) (c op g : Nat) (miss : Bool) : Nat :=
  1000 * (latencyUs set (leadNs miss) (s.workBase c op) + stepsOf op g * stepUs set op)

/-- Release latency in ns of an opcode on a channel at a governing length (R171, R172). -/
def State.latencyNs (s : State) (c op g : Nat) (miss : Bool) : Nat := s.latencyOn (s.serviceSet c) c op g miss

/-- Refusal latency of a channel in ns (R171). -/
def State.refusalNs (s : State) (c : Nat) : Nat := 1000 * latencyUs (s.serviceSet c) (leadNs false) 1

/-- The longest latency of a channel in ns, hit or miss, at the largest lengths allowed (R174, R179). -/
def State.longestNs (s : State) (c : Nat) : Nat :=
  let set := s.serviceSet c
  (s.permitted c).foldl (fun acc op =>
    max acc (s.latencyOn set c op (s.maxLength c op) ((opKeys op).length != 0))) (1000 * latencyUs set (leadNs false) 1)

/-- Lowest cost among the permitted opcodes and refusal (R168, R174). -/
def State.leastCost (s : State) (c : Nat) : Nat :=
  (s.permitted c).foldl (fun acc op => min acc (costAt op 0)) 833333

/-- The admission limit (R174). -/
def State.admitLimit (s : State) (c : Nat) : Nat :=
  let set := s.serviceSet c
  if set.length = 0 then 0
  else min 32768 (2 * ceilDiv (s.capPs c + set.length * 256000 * ceilDiv (s.longestNs c) revNs) (s.leastCost c))

/-- CH_CREDIT.LIMIT (R136): 0 while the channel has no completion ring. -/
def State.creditLimit (s : State) (c : Nat) : Nat :=
  let q := (s.chan c).cq
  if q.base = 0 then 0 else min (s.admitLimit c) (2 ^ q.sizeLog2 - 1)

/-- CH_SECTORS (Table 5.2). A channel that is unbound, or has no service set, reads GAP_NS and ADMIT_LIMIT 0. -/
def State.chSectors (s : State) (c : Nat) : Bytes :=
  let bound := (s.chan c).binding.rings != 0
  u16 (s.owned c).length ++ u16 (s.dealt c).length ++ u32 (if bound then gapNs (s.serviceSet c) else 0)
    ++ u32 (s.capPs c) ++ u32 (if bound then s.admitLimit c else 0)

/-- One entry of CH_LAT (Table 5.3). -/
def State.latEntry (s : State) (c op : Nat) : Bytes :=
  let set := s.serviceSet c
  if (s.chan c).binding.rings = 0 ∨ set.length = 0 then zeros 16
  else if op = 0 then u32 (s.refusalNs c / 1000) ++ zeros 12
  else if s.permits c op && opDefined op then
    let w := s.workBase c op
    u32 (latencyUs set (leadNs false) w)
      ++ u32 (if (opKeys op).length = 0 then 0 else latencyUs set (leadNs true) w)
      ++ u32 (if stepBytes op = 0 then 0 else stepUs set op) ++ u32 (stepBytes op)
  else zeros 16

/-- CH_LAT (Table 5.3): 256 entries of 16 bytes. -/
def State.chLat (s : State) (c : Nat) : Bytes := (List.range 256).flatMap (s.latEntry c)

/-! ### Words of the channel page (Table 4.6) -/

/-- This member serves the channel: CH_HOME names it and the partner has not taken it over, or this member has (R383, R409, R414). -/
def State.homed (s : State) (c : Nat) : Bool :=
  (s.cfgNat F_CH_HOME c == s.cfgNat F_PAIR_ROLE 0 && !s.pair.away.contains c) || s.pair.serving.contains c

/-- This member holds the channel's items and writes its records: as its home, and as the old home while a handover waits (R412). -/
def State.holds (s : State) (c : Nat) : Bool :=
  match KeyMap.find s.pair.handover c with
  | some h => h != s.cfgNat F_PAIR_ROLE 0
  | none => s.homed c

/-- The device may take new items on the channel as its home: no fence stands, and no handover waits (R383, R406, R410, R412). -/
def State.homeHere (s : State) (c : Nat) : Bool :=
  !s.pair.fenceIn && (s.pair.mode == .unpaired || ((KeyMap.find s.pair.handover c).isNone && s.homed c))

/-- The channel admits items now (R37, R61, R128, R129, R150, R163, R383, R394, R429). -/
def State.admits (s : State) (c : Nat) : Bool :=
  let x := s.chan c
  s.serving && x.binding.rings != 0 && !x.halted && x.cqWait.isNone && x.bindWait.isNone
    && !s.wheel.paused.contains c && s.tamper.isolateUntil.isNone && s.recov.drain.isNone
    && s.pair.timeStep.isNone && s.homeHere c

/-- Bits of rings 0 to 3. -/
def ringBits (x : Channel) (f : Sq → Bool) : Nat :=
  (List.range 4).foldl (fun acc r => acc + 2 ^ r * flag (((KeyMap.find x.sqs r).map f).getD false)) 0

/-- CH_STATE (Table 4.6). -/
def State.chState (s : State) (c : Nat) : Nat :=
  let x := s.chan c
  flag (s.admits c) + 2 * flag (s.wheel.paused.contains c) + 4 * flag (x.cqWait.isSome || x.bindWait.isSome)
    + 8 * flag x.halted + 16 * ringBits x (·.halted)

/-- CH_CREDIT (Table 4.6). -/
def State.chCredit (s : State) (c : Nat) : Nat := s.creditLimit c + 65536 * (s.chan c).used

/-- CH_ERR (Table 4.6). -/
def State.chErr (s : State) (c : Nat) : Nat :=
  let x := s.chan c
  ringBits x (·.errDb) + 16 * flag x.cq.errDb + 32 * ringBits x (·.errFetch) + 512 * flag x.cq.errWrite

end Sys2Proof.Machine
end

