-- ==== Sys2Proof/Machine/Record.lean ====
section
/-!
DEFINITION. The Locus recorder's triggers and snapshots (R484 to R491, R496, R497), and histogram samples (R492).
-/

namespace Sys2Proof.Machine

/-- A signed value as 64 bits in two's complement. -/
def signed64 (i : Int) : Nat := (i % (2 ^ 64 : Int)).toNat
/-- A number of `n` bits as a signed value. -/
def toSigned (n v : Nat) : Int := if v < 2 ^ (n - 1) then v else (v : Int) - (2 ^ n : Int)

/-- Ceiling of V_t under a VDD_CORE in mV (R513). -/
def ceilingMv (vdd : Nat) : Nat := min 880 (vdd - 20)
/-- V_t held between 0.68 V and its ceiling (R513). -/
def clampMv (vdd v : Nat) : Nat := min (ceilingMv vdd) (max 680 v)
/-- A tile (Table 16.3); V_t starts at VDD_CORE − 20 mV (R521). -/
def State.tile (s : State) (n : Nat) : Tile :=
  KeyMap.get s.tiles.tiles { Tile.reset with vlocal := clampMv s.tiles.avs.base (s.tiles.avs.base - 20) } n
/-- A tile changed. -/
def State.updTile (s : State) (n : Nat) (f : Tile → Tile) : State :=
  { s with tiles := { s.tiles with tiles := KeyMap.put s.tiles.tiles n (f (s.tile n)) } }
/-- A detector (Table 13.2). -/
def State.det (s : State) (n : Nat) : Detector := KeyMap.get s.tamper.detectors Detector.reset n
/-- A detector changed. -/
def State.updDet (s : State) (n : Nat) (f : Detector → Detector) : State :=
  { s with tamper := { s.tamper with detectors := KeyMap.put s.tamper.detectors n (f (s.det n)) } }
/-- Bus A (0) or bus B. -/
def State.bus (s : State) (b : Nat) : Bus := if b = 0 then s.busA else s.busB
/-- Bus A (0) or bus B changed. -/
def State.updBus (s : State) (b : Nat) (f : Bus → Bus) : State :=
  if b = 0 then { s with busA := f s.busA } else { s with busB := f s.busB }

/-- Bits of detectors 0 to 21 that pass a test. -/
def State.detBits (s : State) (f : Detector → Bool) : Nat :=
  (List.range 22).foldl (fun acc d => acc + 2 ^ d * flag (f (s.det d))) 0

/-- Directory entry of an operand slot as 64 bits (Table 9.2). -/
def State.dirWord (s : State) (i : Nat) : Nat :=
  match KeyMap.find s.operand.dir i with
  | some e => e.start % 65536 + 65536 * (e.len % 512) + 2 ^ 25 * flag e.inUse + 2 ^ 32 * (e.owner % 256)
  | none => 0

/-- Cache entries of a channel that are resident. -/
def State.cacheOf (s : State) (c : Nat) : List CacheEntry :=
  (s.keys.cache.filter fun p => p.1 / 2 ^ 64 == c).map (·.2)

/-- Cache entries that keys take (R205). -/
def entriesHeld (es : List CacheEntry) : Nat := es.foldl (fun acc e => acc + e.size) 0

/-- The value that a snapshot selector reads (Table 15.5). -/
def State.snapValue (s : State) (reg inst : Nat) : Nat :=
  match reg with
  | 0x01 => s.modeWord
  | 0x02 => signed64 (toSigned 16 (if inst = 0xFF then s.i3c.dieTemp else (s.tile inst).temp))
  | 0x03 => s.i3c.vcore
  | 0x04 => (s.tile inst).freq + 2 ^ 32 * (s.tile inst).stretch
  | 0x05 => if (s.chan inst).binding.rings = 0 then 0 else s.chState inst + 2 ^ 32 * s.chCredit inst
  | 0x06 => if inst = 0 then s.wheel.pool
            else if (s.chan inst).binding.rings = 0 then 0 else signed64 (s.chan inst).budget
  | 0x07 => if (s.chan inst).binding.rings = 0 then 0 else entriesHeld (s.cacheOf inst) + 65536 * entriesHeld ((s.cacheOf inst).filter fun e => e.pins != 0)
              + 2 ^ 32 * KeyMap.get s.keys.loadCount 0 inst
  | 0x08 => s.tamper.cell.state + 256 * s.soc + 65536 * s.tamper.cell.vbat
              + 2 ^ 32 * (signed64 s.tamper.cell.current % 65536)
  | 0x09 => s.pair.mode.code + 256 * min 255 s.pair.missed + 65536 * s.pair.ledger.length + 2 ^ 32 * (s.pair.mseq % 2 ^ 32)
  | 0x0A => let m := KeyMap.get s.pair.margins (0, 0) inst
            m.1 + 65536 * m.2
  | 0x0B => s.detBits (·.tripped) + 2 ^ 32 * s.detBits (·.failed) + 2 ^ 56 * s.tamper.alarmSev
  | 0x0C => (s.bus inst).denied + 2 ^ 32 * (s.bus inst).malformed
  | 0x0D => s.dirWord inst
  | 0x0E => s.i3c.power
  | 0x0F => (s.cipher.pagesUsed.filter fun p => p.1 / 16 == inst).length
  | _ => 0

/-- The tile that drives a snapshot value (log 22). -/
def snapTile (reg inst : Nat) : Nat :=
  match reg with
  | 0x02 => if inst = 0xFF then 0 else inst
  | 0x04 => inst
  | 0x05 => 2
  | 0x06 => 2
  | 0x08 => 23
  | 0x09 => 21
  | 0x0A => if inst ≤ 1 then 21 else 20
  | 0x0B => 23
  | 0x0C => 22
  | 0x0D => 18
  | 0x0F => 14 + inst / 4
  | _ => 0

/-- The selectors of a trigger's snapshot list, as pairs of register and instance (R491). -/
def State.selectors (s : State) (t : Nat) : List (Nat × Nat) :=
  ((blocks 4 (s.cfg F_TRIG_SNAP t)).take 12).map fun b => (byteAt b 0, field b 1 2)

/-- A crossing has timed out and passes nothing (R510). -/
def State.stuck (s : State) (src dst : Nat) : Bool := (KeyMap.find s.tiles.stuck (32 * src + dst)).isSome

/-- One value of a snapshot, and whether its crossing timed out (R490). -/
def State.snap (s : State) (r : Nat × Nat) : Nat × Bool :=
  if snapTile r.1 r.2 ≠ 0 ∧ s.stuck (snapTile r.1 r.2) 0 then (2 ^ 64 - 1, true) else (s.snapValue r.1 r.2, false)

/-- The 128 bytes of a record (Table 15.1). -/
def recordBytes (rseq time rtc status trig flags mode arg : Nat) (values : List Nat) : Bytes :=
  u64 rseq ++ u64 time ++ leBytes 6 rtc ++ u16 status ++ u8 trig ++ u8 flags ++ u8 values.length ++ u8 mode ++ u32 arg
    ++ fit 96 (values.flatMap u64)

/-- A record enters the staging buffer of 64, or is dropped and counted (R484, R486, R496, R497). An event that the Sentinel domain met on the cell
has its mode, SENTINEL (Table 15.1). -/
def State.stage (s : State) (trig status arg time rtc : Nat) (inSentinel : Bool) : State :=
  if !s.recorder.running then s
  else if 64 ≤ s.recorder.staging.length then
    { s with recorder := { s.recorder with dropped := s.recorder.dropped + 1, losses := s.recorder.losses + 1 } }
  else
    let alarm := bit (byteAt (s.cfg F_TRIG_SOURCE trig) 2) 0
    let values := (s.selectors trig).map s.snap
    let flags := flag alarm + 2 * flag inSentinel + 4 * flag (values.any (·.2))
    let r : Rec := ⟨s.recorder.nextRseq,
      recordBytes s.recorder.nextRseq time rtc status trig flags
        (if inSentinel then Mode.sentinel.code else s.modeWord % 256) arg (values.map (·.1)), alarm⟩
    let due := s.now + (if alarm then 10000 else 1000000)
    { s with recorder := { s.recorder with
        staging := s.recorder.staging ++ [r]
        nextRseq := s.recorder.nextRseq + 1
        flushBy := some (match s.recorder.flushBy with | none => due | some d => min d due) } }

/-- A trigger fires at the present time (R488). -/
def State.trigger (s : State) (trig status arg : Nat) : State := s.stage trig status arg s.now s.rtcSeconds false

/-- A configurable trigger fires, within its rate (R489). -/
def State.fireRated (s : State) (trig status arg : Nat) : State :=
  let sec := s.now / 1000000000
  let seen := match KeyMap.find s.recorder.rate trig with
    | some (t, n) => if t = sec then n else 0
    | none => 0
  if seen < byteAt (s.cfg F_TRIG_SOURCE trig) 3 then
    ({ s with recorder := { s.recorder with rate := KeyMap.put s.recorder.rate trig (sec, seen + 1) } }).trigger trig status arg
  else { s with recorder := { s.recorder with suppressed := s.recorder.suppressed + 1 } }

/-- An event of a configurable source: every trigger 16 to 63 with that source whose ARG matches fires (Table 15.4). -/
def State.sourceEvent (s : State) (source : Nat) (matches_ : Nat → Bool) (status arg : Nat) : State :=
  if !s.recorder.running then s
  else (List.range 48).foldl (fun s i =>
    let v := s.cfg F_TRIG_SOURCE (16 + i)
    if field v 0 2 = source ∧ matches_ (field v 4 4) then s.fireRated (16 + i) status arg else s) s

/-! ### Histograms (R492) -/

/-- HIST_CONFIG in force of a histogram. -/
def State.hist (s : State) (h : Nat) : Hist :=
  (KeyMap.find s.recorder.hists h).getD { Hist.reset with config := histReset h }

/-- A histogram cleared, with a configuration (R492). -/
def Hist.clear (cfg : Bytes) (time : Nat) : Hist := ⟨cfg, [], (0, 0), (0, 0), 0, time⟩

/-- The bin of a sample (R492). -/
def histBin (cfg : Bytes) (v : Int) : Nat :=
  let low := toSigned 32 (field cfg 8 4)
  let w : Int := field cfg 12 4
  if w = 0 then 0 else (Min.min 31 (Max.max 0 ((v - low) / w))).toNat

/-- A sample counted (R492). -/
def Hist.count (h : Hist) (v : Int) (time : Nat) : Hist :=
  let b := histBin h.config v
  { h with
    bins := KeyMap.put h.bins b (min (2 ^ 32 - 1) (KeyMap.get h.bins 0 b + 1))
    lowest := if h.samples = 0 ∨ v < h.lowest.1 then (v, time) else h.lowest
    highest := if h.samples = 0 ∨ h.highest.1 < v then (v, time) else h.highest
    samples := h.samples + 1 }

/-- One sample of a histogram: a new configuration takes effect first; bin 0 or 31 is a HIST_EDGE event (R492, Table 15.4). -/
def State.sample (s : State) (h : Nat) (v : Int) : State :=
  if !s.recorder.running then s
  else
    let cfg := s.cfg F_HIST_CONFIG h
    let fresh := s.recorder.histNew.contains h
    let x := if fresh then Hist.clear cfg s.now else { s.hist h with config := cfg }
    if field cfg 0 2 = 0 then s
    else
      let x := x.count v s.now
      let s := { s with recorder := { s.recorder with
        hists := KeyMap.put s.recorder.hists h x, histNew := s.recorder.histNew.filter (· != h) } }
      let b := histBin cfg v
      if b = 0 ∨ b = 31 then s.sourceEvent 0x24 (· == h) 0 h else s

/-- A sample for every histogram of a subject whose ARG matches (R492). -/
def State.sampleSubject (s : State) (subject : Nat) (matches_ : Nat → Bool) (v : Int) : State :=
  (List.range 64).foldl (fun s h =>
    let cfg := s.cfg F_HIST_CONFIG h
    if field cfg 0 2 = subject ∧ matches_ (field cfg 4 4) then s.sample h v else s) s

/-- A histogram block of 192 bytes (R493). -/
def Hist.block (h : Hist) : Bytes :=
  fit 16 h.config ++ (List.range 32).flatMap (fun b => u32 (KeyMap.get h.bins 0 b))
    ++ u64 (signed64 h.lowest.1) ++ u64 h.lowest.2 ++ u64 (signed64 h.highest.1) ++ u64 h.highest.2 ++ u64 h.samples ++ u64 h.cleared

/-- A histogram read from its block (R493, R494). -/
def histOfBlock (b : Bytes) : Hist :=
  ⟨b.take 16, (List.range 32).filterMap fun i => if field b (16 + 4 * i) 4 = 0 then none else some (i, field b (16 + 4 * i) 4),
    (toSigned 64 (field b 144 8), field b 152 8), (toSigned 64 (field b 160 8), field b 168 8), field b 176 8, field b 184 8⟩

end Sys2Proof.Machine
end

