-- ==== Sys2Proof/Machine/Ops.lean ====
section
/-!
DEFINITION. The named operations that many commands share: time, interrupts, notices, responses, mode changes, endings of acts,
transactions and sessions, zeroise, alarms and the Sentinel log.
-/

namespace Sys2Proof.Machine

/-- A command's effect: the output side starts empty, a next state follows (log 13), and the queue is left alone. -/
def run (s : State) (f : State → State) : Host.Outcome State Fault Refusal :=
  .next { f { s with outbox := [] } with pending := s.pending }

/-- Device time moves to `t`, never back; the real-time clock runs with it (R154, R506, Table 13.1). -/
def State.advance (s : State) (t : Nat) : State :=
  { s with now := max s.now t, tamper := { s.tamper with rtc := s.tamper.rtc + (t - s.now) } }

/-! ### Interrupts and notices -/

/-- The function whose window a port uses; none for MB1, whose messages travel over MCTP, and MB2. -/
def portFn : Port → Option Nat
  | .mb0 => some 0
  | .mb1 => none
  | .mb2 => none
  | .mb3 f => some f

/-- Number of a mailbox (Table 3.1). -/
def portNum : Port → Nat
  | .mb0 => 0 | .mb1 => 1 | .mb2 => 2 | .mb3 _ => 3

/-- Registers at 0x014 to 0x02C of a port's window. MB1 has none but the count of dropped notices (R85). -/
def State.window (s : State) (p : Port) : Window :=
  match portFn p with
  | some f => (s.fn f).window
  | none => if p = Port.mb2 then s.orfer.mb2Window else { Window.reset with dropped := s.orfer.mb1Dropped }
/-- Registers at 0x014 to 0x02C of a port's window changed. -/
def State.updWindow (s : State) (p : Port) (f : Window → Window) : State :=
  match portFn p with
  | some n => s.updFn n fun x => { x with window := f x.window }
  | none => if p = Port.mb2 then { s with orfer := { s.orfer with mb2Window := f s.orfer.mb2Window } }
    else { s with orfer := { s.orfer with mb1Dropped := (f (s.window p)).dropped } }

/-- One 32-bit word of a function's MSI-X table; a masked entry before it is written (log 8). -/
def FnState.msixWord (x : FnState) (i : Nat) : Nat := KeyMap.get x.msix (if i % 4 = 3 then 1 else 0) i
/-- The MSI-X table masks a vector (log 8). -/
def FnState.masked (x : FnState) (vec : Nat) : Bool := bit (x.msixWord (4 * vec + 3)) 0

/-- The function's interrupt message can go out: the link is up, Bus Master Enable is 1 and the vector is not masked (R151; log 8). -/
def State.vectorOpen (s : State) (fn vec : Nat) : Bool := s.pcie.up && (s.fn fn).busMaster && !(s.fn fn).masked vec

/-- An MSI-X vector is raised: its message is written, or its pending bit set while the vector is masked; a message that the function cannot
write is lost (R120, R151; log 8). -/
def State.raiseVector (s : State) (fn vec : Nat) : State :=
  if s.vectorOpen fn vec then s.emit (.msix fn vec)
  else if (s.fn fn).masked vec then s.updFn fn fun x => { x with pba := x.pba ||| 2 ^ vec }
  else s

/-- A mailbox interrupt source is raised: its bit is pending, and the vector is raised where the bit is enabled (R69, Table 3.1).
Bits: 0 response, 1 mode change, 2 notice pending, 3 grant. On MB1 a notice raises an in-band interrupt, except on the
SMBus fallback (R73). -/
def State.raiseSource (s : State) (p : Port) (src : Nat) : State :=
  match p with
  | .mb1 => if src = 2 ∧ s.i3c.fallback = false then s.emit .inBand else s
  | _ =>
    let w := s.window p
    let s := s.updWindow p fun w => { w with intStat := w.intStat ||| BitVec.ofNat 4 (2 ^ src) }
    match portFn p with
    | some f => if w.intEn.getLsbD src then s.raiseVector f w.intVec.toNat else s
    | none => s

/-- A notice queued for one session: at most 64, the oldest dropped and counted (R85). -/
def State.push (s : State) (id : Nat) (n : Notice) : State :=
  match s.session id with
  | none => s
  | some x =>
    let full := 64 ≤ x.notices.length
    let s := s.updSession id fun x => { x with notices := (if full then x.notices.drop 1 else x.notices) ++ [n] }
    let s := if full then s.updWindow x.port fun w => { w with dropped := min 255 (w.dropped + 1) } else s
    s.raiseSource x.port 2

/-- A notice issued to the sessions that a test names, with a device time (R85; NOTICE of Table 15.4). -/
def State.notifyAt (s : State) (hears : Nat → Session → Bool) (kind status arg time : Nat) : State :=
  let ids := (s.orfer.sessions.filter fun p => hears p.1 p.2).map (·.1)
  let s := ids.foldl (fun s id => s.push id ⟨kind, status, arg, time⟩) s
  s.sourceEvent 0x25 (· == kind) status kind

/-- A notice to every session of a realm (R85; log 21). -/
def State.notify (s : State) (realm kind status arg : Nat) : State :=
  s.notifyAt (fun _ x => x.realm == realm) kind status arg s.now

/-! ### Responses -/

/-- A response formed for a request (R69, R76, R84): it waits for its mailbox's response buffer, is kept as the response to
`last`, and answers the replays that wait for it. -/
def State.answer (s : State) (q : Request) (status : Nat) (payload : Bytes) : State :=
  let many := 4064 < payload.length
  let r : Reply := ⟨q.port, q.version, q.opcode, q.seq, q.session, q.realm, status, if many then 0 else q.frag, many, false, s.now, payload⟩
  let isLast := match s.session q.session with
    | some x => x.accepted && x.last == q.seq
    | none => false
  let waiting := if isLast then ((s.session q.session).map (·.replays)).getD 0 else 0
  let s := if isLast then s.updSession q.session fun x => { x with lastReply := some r, replays := 0 } else s
  s.updMbox q.port fun m => { m with formed := m.formed ++ (r :: List.replicate waiting { r with replay := true }) }

/-- The first request in flight on a port that carries the opcode (R69). -/
def State.taken (s : State) (p : Port) (opcode : Nat) : Option Request :=
  (s.mbox p).inFlight.find? fun q => q.opcode == opcode && q.port == p

/-- That request taken for execution; the mailbox has been copied out, so BUSY is 0 (R69). -/
def State.take (s : State) (p : Port) (q : Request) : State :=
  s.updMbox p fun m => { m with inFlight := m.inFlight.erase q, busy := false }

/-- An opcode's execution: the request in flight on the port is answered with what `f` gives; without one nothing happens. -/
def serve (s : State) (p : Port) (opcode : Nat) (f : State → Request → State) : State :=
  match s.taken p opcode with
  | none => s
  | some q => f (s.take p q) q

/-! ### Modes -/

/-- The ports with a window of Table 3.1: MB0, MB2, and MB3 of every enabled virtual function. -/
def State.windows (s : State) : List Port := .mb0 :: .mb2 :: (List.range s.pcie.numVFs).map fun k => .mb3 (k + 1)

/-- MODE_CHANGE to every open session, and its record (Table 3.3, R86, trigger 2). -/
def State.announceMode (s : State) : State :=
  let w := s.modeWord
  let s := { s with ms := { s.ms with history := (s.ms.history ++ [(w, s.now)]).drop (s.ms.history.length + 1 - 8) } }
  let s := s.notifyAt (fun _ _ => true) 0x0001 0 w s.now
  let s := s.windows.foldl (fun s p => s.raiseSource p 1) s
  s.trigger 2 0 w

/-- A mode change with its cause (R35, R40, R41). -/
def State.setMode (s : State) (m : Mode) (b : Base) (cause : Nat) : State :=
  ({ s with ms := { s.ms with mode := m, base := b, cause := cause, causes := [cause] } }).announceMode

/-- Gates changed where they stand (R35). -/
def State.setGates (s : State) (f : Gates → Gates) : State := { s with ms := { s.ms with gates := f s.ms.gates } }

/-- G_CELL_LOW as the state of charge, the floor and the policy give it (R42, R44 to R46). Before Facet starts every gate keeps the 1 of
reset (Table 3.1; log 116). -/
def State.cellGate (s : State) : State :=
  let floor := s.cfgNat F_CELL_FLOOR 0
  if !s.boot.facet then s
  else s.setGates fun g => { g with
    cellLow := if s.cellLess then false else if s.soc < floor then true else if floor + 5 ≤ s.soc then false else g.cellLow }

/-! ### GPIOs (R36, R50, R58) -/

/-- GPIO `n` is configured as an output. -/
def State.isOutput (s : State) (n : Nat) : Bool := bit (byteAt s.rel.gpioCfg n) 0
/-- Output `n` is of class SERVICE. -/
def State.isService (s : State) (n : Nat) : Bool := bit (byteAt s.rel.gpioCfg n) 3
/-- Held level of an output. -/
def State.heldLevel (s : State) (n : Nat) : Bool := bit (byteAt s.rel.gpioCfg n) 1
/-- Released level of an output. -/
def State.releasedLevel (s : State) (n : Nat) : Bool := bit (byteAt s.rel.gpioCfg n) 2

/-- One GPIO driven to a level. -/
def State.drive (s : State) (n : Nat) (level : Bool) : State :=
  ({ s with rel := { s.rel with driven := KeyMap.put s.rel.driven n level } }).emit (.drive (.gpio n) level)

/-- Outputs that a test names go to their held level. -/
def State.hold (s : State) (which : Nat → Bool) : State :=
  (List.range 24).foldl (fun s n => if s.isOutput n && which n then
    ({ s with rel := { s.rel with released := s.rel.released.filter (· != n) } }).drive n (s.heldLevel n) else s) s
/-- Outputs that a test names go to their released level. -/
def State.releaseOut (s : State) (which : Nat → Bool) : State :=
  (List.range 24).foldl (fun s n => if s.isOutput n && which n then
    ({ s with rel := { s.rel with released := n :: s.rel.released.filter (· != n) } }).drive n (s.releasedLevel n) else s) s
/-- Every HOST output goes to its held level (R36, R49). -/
def State.holdHost (s : State) : State := s.hold fun n => !s.isService n
/-- Every GPIO stops being driven (R50, R548). -/
def State.floatAll (s : State) : State :=
  let out := s.rel.driven.map fun p => OutMsg.float (.gpio p.1)
  ({ s with rel := { s.rel with driven := [], released := [] } }).emitAll out

/-! ### Endings of acts, transactions and sessions -/

/-- The realm's act with an ACT_ID (R92). -/
def State.act (s : State) (realm id : Nat) : Option Act := (s.realm realm).acts.find? fun a => a.id == id
/-- The realm's act changed. -/
def State.updAct (s : State) (realm id : Nat) (f : Act → Act) : State :=
  s.updRealm realm fun r => { r with acts := r.acts.map fun a => if a.id == id then f a else a }
/-- An act of the realm that has not ended (R93). -/
def State.pendingAct (s : State) (realm : Nat) : Option Act :=
  (s.realm realm).acts.find? fun a => a.state == .awaiting || a.state == .assembled

/-- An exchange that carries a realm's commit and that the partner has not confirmed (R105, R399). -/
def Exchange.unconfirmed (e : Exchange) (realm : Nat) : Bool :=
  (e.phase == .waiting || e.phase == .prepared) && e.change.realm == realm &&
    match e.change.what with
    | .commit _ => true
    | _ => false

/-- The realm's commit is mirrored, or needs no mirroring, and waits for its boundary (R107): only then it outlives its sessions, a warm GATE
and RECOVER. -/
def State.waitsBoundary (s : State) (realm : Nat) : Bool :=
  ((s.realm realm).txn.any fun t => t.state == .boundary) && !(s.pair.own.any fun e => e.2.unconfirmed realm)

/-- The realm's transaction is rolled back; an exchange that the partner has not confirmed is given up with it, and TXN_ROLLED_BACK says so
where no response does (R101, R107). -/
def State.rollback (s : State) (realm : Nat) (tell : Bool) : State :=
  match (s.realm realm).txn with
  | none => s
  | some t =>
    let s := s.updRealm realm fun r => { r with txn := none }
    let s := { s with pair := { s.pair with own := KeyMap.keep s.pair.own fun _ e => !e.unconfirmed realm } }
    if tell then s.notify realm 0x0003 0 t.id else s

/-- An act ends with a status: ACT_DONE to its session while that is open, else to its realm's sessions; trigger 10 records it.
An act that never assembled is cancelled, and the 900 s of its administrative session start again (log 129). Its transaction, if still open, is rolled back unless it was applied (R101, R557). -/
def State.endAct (s : State) (realm id status time : Nat) : State :=
  match s.act realm id with
  | none => s
  | some a =>
    if a.state == .done || a.state == .cancelled then s else
    let s := s.updAct realm id fun a =>
      { a with state := if a.state == .awaiting then .cancelled else .done, ended := status }
    let s := if a.txn.isSome ∧ status ≠ 0 then s.rollback realm true else s
    let s := s.updRealm realm fun r => { r with admin := r.admin.map fun d => { d with deadline := s.now + 900000000000 } }
    let s := if (s.session a.session).isSome then s.notifyAt (fun i _ => i == a.session) 0x0002 status id time
      else s.notifyAt (fun _ x => x.realm == realm) 0x0002 status id time
    s.trigger 10 status id

/-- An act that awaits its quorum is cancelled with a status (R82, R96, R107). -/
def State.cancelAct (s : State) (realm status : Nat) (which : Act → Bool) : State :=
  match (s.realm realm).acts.find? fun a => a.state == .awaiting && which a with
  | some a => s.endAct realm a.id status s.now
  | none => s

/-- A transaction that has not been applied is given up before its boundary (R107): it is rolled back, a CFG_COMMIT that waits for its answer gets
the status, and its act ends with it. -/
def State.giveUp (s : State) (realm status : Nat) (tell : Bool) : State :=
  match (s.realm realm).txn with
  | none => s
  | some t =>
    let act := (s.pendingAct realm).filter fun a => a.txn == some t.id
    let s := s.rollback realm tell
    let s := match t.waiting with
      | some q => s.answer q status []
      | none => s
    match act with
    | some a => s.endAct realm a.id status s.now
    | none => s

/-- Some administrative session is open. -/
def State.anyAdmin (s : State) : Bool := s.orfer.realms.any fun p => p.2.admin.isSome

/-- A realm's administrative session closes (R96): its act that awaits a quorum is cancelled, its open transaction rolled back
unless it is mirrored or unpaired and waits for its boundary (R107; log 120), ADMIN_CLOSED sent; with the last one the device leaves STEWARD for BASE (R40, cause 9). -/
def State.closeAdmin (s : State) (realm : Nat) : State :=
  match (s.realm realm).admin with
  | none => s
  | some a =>
    let s := s.updRealm realm fun r => { r with admin := none, transport := none }
    let s := s.cancelAct realm 0x0302 fun _ => true
    let s := if s.waitsBoundary realm then s else s.giveUp realm 0x0503 true
    let s := s.notify realm 0x0004 0 a.act
    if s.ms.mode == .steward && !s.anyAdmin then
      s.setMode (if s.ms.base == .serve then .serve else .watch) .none 9
    else s

/-- Every administrative session closes: the device leaves STEWARD for a mode other than BASE (R96). -/
def State.closeAdmins (s : State) : State := s.orfer.realms.foldl (fun s p => s.closeAdmin p.1) s

/-- A session closes with its queued notices (R82): its administrative session closes first, so that a waiting act of that realm ends with
ST_DUAL_CONTROL (log 119), the transaction it owns is rolled back unless it is mirrored or unpaired and waits for its boundary (R107), and the acts it requested that await their quorum end with ST_NO_SESSION, reported to the sessions that are
still open (R557). -/
def State.closeSession (s : State) (id : Nat) : State :=
  match s.session id with
  | none => s
  | some _ =>
    let s := { s with orfer := { s.orfer with sessions := KeyMap.del s.orfer.sessions id } }
    let s := s.orfer.realms.foldl (fun s p => match (s.realm p.1).admin with
      | some a => if a.session = id then s.closeAdmin p.1 else s
      | none => s) s
    let s := s.orfer.realms.foldl (fun s p => s.cancelAct p.1 0x030C fun a => a.session == id) s
    s.orfer.realms.foldl (fun s p => match (s.realm p.1).txn with
      | some t => if t.session = id && !s.waitsBoundary p.1 then s.giveUp p.1 0x0503 true else s
      | none => s) s

/-- Transactions and their acts at the entry into a warm GATE, RECOVER or QUARANTINE (R107, R557). A commit that waits for its
boundary is kept on the way to a warm GATE and RECOVER, and discarded on the way to QUARANTINE: its response or its ACT_DONE says
ST_MODE, and no TXN_ROLLED_BACK follows (log 114). -/
def State.dropTxns (s : State) (quarantine : Bool) : State :=
  s.orfer.realms.foldl (fun s p =>
    match (s.realm p.1).txn with
    | none => s
    | some _ =>
      if s.waitsBoundary p.1 && !quarantine then s
      else s.giveUp p.1 0x0601 (!s.waitsBoundary p.1)) s

/-! ### Domain notices (R378 to R381) -/

/-- EPOCH of a roster (Table 11.5). -/
def rosterEpoch (r : Bytes) : Nat := field r 0x28 4

/-- The device's key domain, while it is a member and can read its domain state (R370, R377). -/
def State.member (s : State) : Option Domain := if s.ident.sealFailed then none else s.ident.domain

/-- The notice key of an epoch, from a DOMAIN key of channel 0 (R378). -/
def noticeKey (material : Bytes) (epoch : Nat) : Bytes := kdf (fit 32 material) "JGDN" (u32 epoch) 32

/-- Fault summary of a coalescing entry (Table 11.11). -/
def Coalesce.summary (e : Coalesce) (early : Bool) : Bytes :=
  u16 e.subject ++ u8 e.cls ++ u8 (flag early) ++ u16 e.reporters.length ++ u16 (min 0xFFFF e.reports) ++ u64 e.first ++ u64 e.last
    ++ u32 e.arg ++ zeros 4

/-- The entry opened earliest closes: its summary enters the ring of 64 and the recorder, and DOMAIN_FAULT is sent (R381, trigger 9). -/
def State.closeEntry (s : State) (early : Bool) : State :=
  match s.ident.table with
  | [] => s
  | e :: rest =>
    let ring := s.ident.summaries ++ [e.summary early]
    let s := { s with ident := { s.ident with table := rest, summaries := ring.drop (ring.length - 64) } }
    let arg := e.subject % 4096 + 4096 * e.cls + 65536 * e.reporters.length
    (s.notify 0 0x0500 0 arg).trigger 9 0 arg

/-- An accepted notice, or one of the device's own, enters the coalescing table of 512 entries (R381). -/
def State.coalesce (s : State) (reporter subject cls arg : Nat) : State :=
  if s.ident.table.any fun e => e.subject == subject && e.cls == cls then
    let upd (e : Coalesce) : Coalesce :=
      if e.subject = subject ∧ e.cls = cls then
        { e with
          reporters := if e.reporters.contains reporter then e.reporters else e.reporters ++ [reporter]
          reports := e.reports + 1, last := s.now }
      else e
    { s with ident := { s.ident with table := s.ident.table.map upd } }
  else
    let s := if 512 ≤ s.ident.table.length then s.closeEntry true else s
    { s with ident := { s.ident with table := s.ident.table ++ [⟨subject, cls, [reporter], 1, s.now, s.now, arg⟩] } }

/-- The device issues a domain notice, at most one for each (SUBJECT, CLASS) in any second; 256 wait for the host, the oldest dropped (R378, R379). -/
def State.issueNotice (s : State) (subject cls arg : Nat) : State :=
  match s.member with
  | none => s
  | some d =>
    let key := 16 * subject + cls
    let recent : Bool := match KeyMap.find s.ident.issued key with
      | some t => decide (s.now < t + 1000000000)
      | none => false
    if recent ∨ (s.slot 0 3).state ≠ 1 then s
    else
      let epoch := rosterEpoch d.roster
      let body := ascii "JGDN" ++ u8 cls ++ u8 0 ++ u16 d.index ++ u16 subject ++ u16 0 ++ u32 epoch ++ u64 s.ident.noticeSeq
        ++ u64 s.rtcSeconds ++ u32 arg ++ zeros 12
      let out := s.ident.outgoing ++ [body ++ (hmac (noticeKey (s.slot 0 3).material epoch) body).take 16]
      let s := { s with ident := { s.ident with
        noticeSeq := s.ident.noticeSeq + 1, issued := KeyMap.put s.ident.issued key s.now, outgoing := out.drop (out.length - 256) } }
      s.coalesce d.index subject cls arg

/-! ### Stores, items and units -/

/-- The hardware zeroise line clears the stores of R221: vault, key cache with its staging area, context store, hold buffers and operand memory. -/
def State.zeroiseLine (s : State) : State :=
  (({ s with
    keys := { s.keys with vault := [], staged := [], cache := [], loads := [] }
    cipher := { s.cipher with pagesUsed := [], pageData := [], store := [] }
    operand := { s.operand with mem := [] } }).vaultGates).emit .zeroise

/-- An outcome with no output (R226, Table 2.8). -/
def Result.none_ (status : Nat) : Result := ⟨status, [], [], 0, 0, false⟩

/-- Admitted items of every channel changed. -/
def State.mapAdmitted (s : State) (f : Nat → Item → Item) : State :=
  { s with chans := KeyMap.mapVals s.chans fun c x => { x with admitted := x.admitted.map (f c) } }

/-- Units of a tile: cores, hash tiles, multipliers, sequencers (R47, R504). -/
def unitsOf (tile : Nat) : List Nat :=
  if 2 ≤ tile ∧ tile ≤ 5 then [39 + tile]
  else if 6 ≤ tile ∧ tile ≤ 13 then [10 + tile]
  else if 14 ≤ tile ∧ tile ≤ 17 then (List.range 4).map (4 * (tile - 14) + ·)
  else if tile = 18 then (List.range 8).map (24 + ·)
  else if tile = 19 then (List.range 8).map (32 + ·) ++ [40]
  else []

/-- Units of a range that are out of service. -/
def State.outCount (s : State) (lo n : Nat) : Nat :=
  ((List.range n).filter fun i => KeyMap.find s.boot.units (lo + i) == some .outOfService).length

/-- A limit of R48 is passed: more than one core, hash tile or multiplier, the NTT unit, or any sequencer. -/
def State.unitLimit (s : State) : Bool :=
  decide (1 < s.outCount 0 16 ∨ 1 < s.outCount 16 8 ∨ 1 < s.outCount 24 16 ∨ 0 < s.outCount 40 1 ∨ 0 < s.outCount 41 4)

/-- A unit taken out of service (R48). Past a limit of R48, G_SELFTEST becomes 1, and service closes at the next revolution boundary. -/
def State.unitOut (s : State) (u : Nat) : State :=
  let s := { s with boot := { s.boot with units := KeyMap.put s.boot.units u .outOfService } }
  if s.unitLimit then s.setGates fun g => { g with selftest := true } else s

/-! ### Tiles and the AVS controller (R512, R519, R521) -/

/-- VDD_CORE's target in mV: S as read back, before the first readback the voltage that step 1 found (R520, R521). -/
def State.vddCore (s : State) : Nat := if s.tiles.avs.mv = 0 then s.tiles.avs.base else s.tiles.avs.mv

/-- The set points that VCORE_GLITCH compares VDD_CORE with: for 200 µs after a write the whole span from the old target to the new one (R521). -/
def State.glitchSpan (s : State) : Nat × Nat :=
  match s.tiles.avs.span with
  | some (lo, hi, t) => if s.now < t then (lo, hi) else (s.vddCore, s.vddCore)
  | none => (s.vddCore, s.vddCore)

/-- The demand D (R519). -/
def State.avsDemand (s : State) : Nat :=
  let top := (List.range 24).foldl (fun m t => if (s.tile t).inService then max m (s.tile t).vlocal else m) 0
  max 720 (min 900 (5 * ceilDiv (top + 20) 5))

/-- The frame of a write to rail 0 goes out, a repeat's too; VCORE_GLITCH compares with the whole span for 200 µs (R519, R521). -/
def State.avsSend (s : State) (target : Nat) : State :=
  let old := s.vddCore
  ({ s with tiles := { s.tiles with avs := { s.tiles.avs with
    span := some (min old target, max old target, s.now + 200000) } } }).emit (.avs target false)

/-- A write of a target to rail 0 begins (R519). -/
def State.avsWrite (s : State) (target : Nat) : State :=
  let w : AvsWrite := ⟨target, false, 0⟩
  ({ s with tiles := { s.tiles with avs := { s.tiles.avs with write := some w, retryAt := none } } }).avsSend target

/-- The demand is computed anew: a raise is written at once, and the time for a lowering starts or stops (R519). -/
def State.avsUpdate (s : State) : State :=
  let d := s.avsDemand
  let a := s.tiles.avs
  let low := if d + 15 ≤ a.mv then some (a.lowSince.getD s.now) else none
  let s := { s with tiles := { s.tiles with avs := { a with demand := d, lowSince := low } } }
  if a.running ∧ a.mv < d ∧ a.write.isNone ∧ a.retryAt.isNone then s.avsWrite d else s

/-- A tile and its units taken out of service until the next cold GATE; its V_t leaves the demand at once (R429, R516, R524). -/
def State.tileOut (s : State) (t : Nat) : State :=
  ((unitsOf t).foldl State.unitOut (s.updTile t fun x => { x with inService := false })).avsUpdate

/-- A reset of one side voids every crossing with its peers, and both restart from their initial phase: no timeout stands, and no count waits (R512). -/
def State.voidCrossings (s : State) (tiles : List Nat) : State :=
  { s with tiles := { s.tiles with
      stuck := KeyMap.keep s.tiles.stuck fun k _ => !(tiles.contains (k / 32) || tiles.contains (k % 32))
      counts := KeyMap.keep s.tiles.counts fun k _ => !tiles.contains k } }

/-- Crypto tiles: sequencers, hash, cipher and public-key tiles (R504). -/
def cryptoTile (t : Nat) : Bool := 2 ≤ t && t ≤ 19

/-- An item's work runs, or is planned, in a tile. The plan fixes the kind of engine; only held items name their core (R270; log 23). -/
def Item.inTile (x : Item) (t : Nat) : Bool :=
  match x.pages with
  | p :: _ => decide (t = 14 + p / 64)
  | [] => match x.demand.engine with
    | .none => decide (2 ≤ t ∧ t ≤ 5)
    | .core => decide (14 ≤ t ∧ t ≤ 17)
    | .lane => decide (6 ≤ t ∧ t ≤ 13)
    | .array => decide (6 ≤ t ∧ t ≤ 13)
    | .mont => decide (t = 18 ∨ t = 19)
    | .ntt => decide (t = 19)

/-- The host tile (Table 16.1). -/
abbrev hostTile : Nat := 20

/-- An item's work cannot have the transfers that it needs: to or from every tile that its plan may use, the host tile's crossing has timed out (R510; log 163). -/
def State.cutOff (s : State) (x : Item) : Bool :=
  ((List.range 24).filter fun t => cryptoTile t && x.inTile t).all fun t => s.stuck hostTile t || s.stuck t hostTile

/-! ### OTP programs -/

/-- Word programs join the queue (R458). -/
def State.programAll (s : State) (js : List OtpJob) : State :=
  { s with otp := { s.otp with jobs := s.otp.jobs ++ js, jobSince := if s.otp.jobs.isEmpty then s.now else s.otp.jobSince } }

/-- A word program joins the queue (R458). -/
def State.program (s : State) (j : OtpJob) : State := s.programAll [j]

/-- A step of a thermometer of `n` words is programmed at its turn (R451). -/
def State.programStep (s : State) (first n : Nat) (act : Option (Nat × Nat)) (next : OtpThen) : State :=
  s.program ⟨first, 0, n, act, next⟩

/-- A full word programmed to 0xFFFF_FFFF (R450). -/
def State.programWord (s : State) (w : Nat) (act : Option (Nat × Nat)) (next : OtpThen) : State :=
  s.program ⟨w, 0xFFFFFFFF, 0, act, next⟩

/-- The next bit of a thermometer, at the index that its value gives; none when all are set (R451). -/
def State.nextBit (s : State) (first n : Nat) : Option (Nat × Nat) :=
  let b := thermometer s.otp.shadow first n
  if b < 32 * n then some (first + b / 32, 2 ^ (b % 32)) else none

/-- Word and bits that a job programs at its turn: a step that the full evidence counter has no bit for gives way to the QUARANTINE marker (R439); none
where there is no bit left. -/
def State.jobBits (s : State) (j : OtpJob) : Option (Nat × Nat) :=
  if j.steps = 0 then some (j.word, j.bits)
  else match s.nextBit j.word j.steps with
    | some x => some x
    | none => if j.word = 0x008 then s.nextBit 0x018 2 else none

/-- Steps of a thermometer that wait for their turn. -/
def State.stepsWaiting (s : State) (first : Nat) : Nat := (s.otp.jobs.filter fun j => j.steps != 0 && j.word == first).length

/-- QMARK has a bit left for a further marker, beside the steps that wait and those evidence steps that give way to it (R439, R463). -/
def State.markerRoom (s : State) : Bool :=
  decide (s.qmark + s.stepsWaiting 0x018 + (s.evidence + s.stepsWaiting 0x008 - 512) < 64)

/-- A further evidence event has a bit to program: a step, or the marker in its place (R434, R439). -/
def State.evidenceRoom (s : State) : Bool := decide (s.evidence + s.stepsWaiting 0x008 < 512) || s.markerRoom

/-- Slot of the entry with a SEQ. -/
def State.logSlotOf (s : State) (seq : Nat) : Option Nat := (s.tamper.log.find? fun p => p.2.seq == seq).map (·.1)

/-- A log entry changed. -/
def State.updLog (s : State) (slot : Nat) (f : LogEntry → LogEntry) : State :=
  match KeyMap.find s.tamper.log slot with
  | some e => { s with tamper := { s.tamper with log := KeyMap.put s.tamper.log slot (f e) } }
  | none => s

/-- The entry with a SEQ is marked done (R436). -/
def State.markDone (s : State) (seq : Nat) : State :=
  match s.logSlotOf seq with
  | some slot => s.updLog slot fun e => { e with state := 2 }
  | none => s

/-- The programs that an evidence or QUARANTINE entry asks for, the last of which marks it; an entry for which no bit is left is done (R430, R436, R437,
R439). -/
def State.programEntry (s : State) (e : LogEntry) : State :=
  let ev := (bit e.flags 0 || !e.crcOk) && s.evidenceRoom
  let t := if ev then s.programStep 0x008 16 none (.entryStep e.seq) else s
  let qm := (bit e.flags 1 || !e.crcOk) && t.markerRoom
  if qm then t.programStep 0x018 2 none (.entryDone e.seq)
  else if ev then s.programStep 0x008 16 none (.entryDone e.seq)
  else s.markDone e.seq

/-! ### The Sentinel log (R434 to R439) -/

/-- The slot that a new entry takes: the lowest free one, else the done entry with the lowest SEQ; none while all are pending (R436). -/
def State.logSlot (s : State) : Option Nat :=
  match (List.range 32).find? fun i => match KeyMap.find s.tamper.log i with
    | none => true
    | some e => e.state == 0 with
  | some i => some i
  | none => ((s.tamper.log.filter fun p => p.2.state == 2).foldl (fun best p =>
      match best with
      | none => some p
      | some b => if p.2.seq < b.2.seq then some p else some b) none).map (·.1)

/-- The pending entry with the highest SEQ, by slot (R436). -/
def State.newestPending (s : State) : Option Nat :=
  ((s.tamper.log.filter fun p => p.2.state == 1).foldl (fun best p =>
      match best with
      | none => some p
      | some b => if b.2.seq < p.2.seq then some p else some b) none).map (·.1)

/-- Another event joined to an entry: bits, severity and flags raised, COUNT up (R434, R436); in PRODUCTION, which `marks` says, it is pending again where
QUARANTINE is new to it (R432). -/
def LogEntry.join (e : LogEntry) (marks : Bool) (bits sev flags : Nat) : LogEntry :=
  LogEntry.sealed { e with
    detectors := e.detectors ||| bits, severity := max e.severity sev, flags := e.flags ||| flags, count := min 0xFFFF (e.count + 1)
    state := if marks && bit flags 1 && !bit e.flags 1 then 1 else e.state }

/-- OTP may be programmed for this event: PRODUCTION, main power, the boot ROM at step 3 or later (R430, R432, R437). -/
def State.canMark (s : State) : Bool :=
  s.isProduction && s.ms.mode != .sentinel && s.ms.mode != .off && (s.boot.step == 0 || 3 ≤ s.boot.step)

/-- A further event joins the entry of a slot. One that brings QUARANTINE is marked in OTP like a new entry, and only the marker's program then marks the
entry done (R430, R434, R436, R447). Answers the entry's SEQ. -/
def State.joinLog (s : State) (slot bits sev flags : Nat) : State × Nat :=
  match KeyMap.find s.tamper.log slot with
  | some old =>
    let e := old.join s.isProduction bits sev flags
    let s := s.updLog slot fun _ => e
    if bit flags 1 ∧ ¬ bit old.flags 1 ∧ s.canMark then
      let s := if s.markerRoom then
          { s with otp := { s.otp with jobs := s.otp.jobs.map fun j => if j.next = .entryDone e.seq then { j with next := .entryStep e.seq } else j } }
        else s
      (s.programEntry (LogEntry.sealed { e with flags := 2 }), e.seq)
    else (s, e.seq)
  | none => (s, 0)

/-- The entry of an alarm event is written; evidence and marker are programmed at once in the main-power modes of PRODUCTION, at
step 3 of the next cold GATE otherwise, and never outside PRODUCTION (R432, R435 to R437). `join` names an entry that the event joins (R434).
Answers the SEQ of the entry. -/
def State.writeLog (s : State) (bits sev flags : Nat) (join : Option Nat) : State × Nat :=
  let inSen := s.ms.mode == .sentinel
  let flags := flags ||| (if inSen then 4 else 0)
  match join.bind s.logSlotOf with
  | some slot => s.joinLog slot bits sev flags
  | none =>
    let mark := decide (flags % 4 ≠ 0)
    match s.logSlot with
    | some slot =>
      let seq := s.tamper.logSeq
      let pend := mark && s.isProduction
      let e : LogEntry := ⟨if pend then 1 else 2, sev, flags, bits, s.rtcSeconds, s.rtcSubsec, if inSen then 0 else s.now, 1, seq, 0⟩
      let s := { s with tamper := { s.tamper with log := KeyMap.put s.tamper.log slot e.sealed, logSeq := (seq + 1) % 65536 } }
      (if pend ∧ s.canMark then s.programEntry e.sealed else s, seq)
    | none =>
      match s.newestPending with
      | some slot => s.joinLog slot bits sev (flags ||| 8)
      | none => (s, 0)

/-! ### Alarms (R427 to R434) -/

/-- One alarm event. -/
structure Alarm where
  /-- DETECTORS bits of Table 13.7 -/
  bits : Nat
  /-- severity 1 to 4 -/
  sev : Nat
  /-- it is an evidence event -/
  evidence : Bool
  /-- the ISOLATE scope: a tile, or none for every crypto tile -/
  tile : Option Nat
  /-- the alarms that the notices report: detector number, 0xFF for a fault source, and severity (log 93) -/
  dets : List (Nat × Nat)
  /-- units that the cause names -/
  units : List Nat
  /-- a fault source of Table 13.5, with the status and the unit or tile that trigger 1 records -/
  fault : Option (Nat × Nat)
deriving DecidableEq, Repr

/-- Work in CE of the identity key's top-tree table (R361, Table 9.7). -/
abbrev identityTreeWork : Nat := 292352

/-- Facet restarts its channel-0 work: the feeds, the identity key's top-tree table, the signature in progress (R429). -/
def State.restartZero (s : State) : State :=
  { s with
    cipher := { s.cipher with feeds := KeyMap.mapVals s.cipher.feeds fun _ x => { x with status := 0, received := 0, lastBeat := s.now, work := x.whole } }
    ident := { s.ident with
      treeWork := if s.ident.treeWork = 0 then 0 else identityTreeWork
      signing := match s.ident.signing with
        | j :: rest => { j with work := j.whole } :: rest
        | [] => [] } }

/-- The ISOLATE response (R429); channel-0 work runs in the hash tiles. What stops in a tile leaves its crossings void (R512). -/
def State.isolate (s : State) (tile : Option Nat) : State :=
  let hit (x : Item) : Bool := x.cls != .refused && x.result.all (fun r => r.status != 0x0601) &&
    match tile with
    | none => true
    | some t => x.inTile t
  let s := s.mapAdmitted fun _ x =>
    if hit x then { x with result := some { Result.none_ 0x0406 with provisional := decide (dOpcode x.desc = 0x4A) }, doneAt := s.now } else x
  let s := s.voidCrossings (match tile with
    | some t => [t]
    | none => (List.range 24).filter cryptoTile)
  match tile with
  | some t => (if 6 ≤ t ∧ t ≤ 13 then s.restartZero else s).tileOut t
  | none => { s.restartZero with tamper := { s.tamper with isolateUntil := some ((s.now / revNs + 2) * revNs) } }

/-- Every act that has not taken effect ends with ST_MODE, but for an ADMIN_OPEN that still awaits its quorum, of which R94 says that it ends so at
its quorum; of an act's OTP programs the one in progress completes, but an OWNED word whose turn has only come is not programmed, and a scrap's erase
under way is the last that it does (R447, R483, R557; log 25). -/
def State.stopActs (s : State) : State :=
  let s := s.orfer.realms.foldl (fun s p => match s.pendingAct p.1 with
    | some a => if a.opcode == 0x0301 && a.state == .awaiting then s else s.endAct p.1 a.id 0x0601 s.now
    | none => s) s
  let started (j : OtpJob) : Bool := j.word != 2 || decide (s.otp.jobSince < s.now)
  { s with
    priv := { s.priv with capturing := none, chipErase := s.priv.chipErase.map fun e => if e.act.isSome then ⟨none, false⟩ else e }
    otp := { s.otp with jobs := match s.otp.jobs with
      | [] => []
      | j :: rest => (if j.act.isNone then [j] else if started j then [{ j with act := none, next := .nothing }] else [])
          ++ rest.filter fun x => x.act.isNone } }

/-- Changes that wait for their boundary are dropped on a zeroise, the partner's among them, and so are staged keys and a staged roll; what waits without
an act is answered (R107, R196, R222). -/
def State.dropChanges (s : State) : State :=
  let s := (s.pair.changes ++ s.pair.own.map (·.2.change)).foldl (fun s c => match c.request with
    | some q => s.answer q 0x0601 []
    | none => s) s
  { s with
    keys := { s.keys with staged := [] }
    ident := { s.ident with roll := none }
    pair := { s.pair with changes := [], own := [], theirs := [] } }

/-- Entry into QUARANTINE (R36, R40, R107, Table 2.8): no output, ST_MODE at the release time; HOST outputs held, SERVICE outputs released;
administrative sessions close; transactions roll back; acts end with ST_MODE (R557; log 25); of an act's OTP programs the one in progress completes (R447, R483). -/
def State.quarantine (s : State) (cause : Nat) : State :=
  let s := s.mapAdmitted fun _ x => { x with result := some (Result.none_ 0x0601), doneAt := s.now }
  let s := s.dropTxns true
  let s := s.stopActs
  let s := { s with ms := { s.ms with mode := .quarantine, base := .none, cause := cause, causes := [cause] } }
  let s := s.closeAdmins
  let s := s.dropChanges
  let s := { s with
    recov := ⟨none, 0, 0⟩
    rel := { s.rel with phase := .complete }
    boot := { s.boot with step := 0 } }
  (s.holdHost.releaseOut fun n => s.isService n).announceMode

/-- The ZEROISE response begins: the line, then TAMPER_STATE (R430, steps 1 and 2). -/
def State.driveZeroise (s : State) : State :=
  let s := s.zeroiseLine
  ({ s with tamper := { s.tamper with tamperState := true } }).emit (.drive .tamperState true)

/-- The mode after a ZEROISE response in the main-power modes (R430, step 4, R432). In BLANK and END_OF_LIFE the device stays in GATE; in QUARANTINE
it stays there. Before Facet starts, QUARANTINE is entered at the end of step 6 (R53; log 24). -/
def State.zeroiseResponse (s : State) : State :=
  -- a buffered frame that awaits execution is discarded (R359)
  let cut (x : Bus) : Bus := { x with frame := x.frame.map fun f => { f with zeroised := true } }
  let s := { s with busA := cut s.busA, busB := cut s.busB }
  -- the sealed copy of the LINK slot goes before any request is answered in a marked QUARANTINE (R390)
  let s := if s.isProduction && s.ms.mode != .sentinel && s.ms.mode != .off then
      { s with pair := { s.pair with linkCopy := none, linkSeal := [] } } else s
  if s.isBlank || s.isEndOfLife || s.ms.mode == .sentinel || s.ms.mode == .off then s
  else if s.ms.mode == .quarantine then s.stopActs.dropChanges
  else if 1 ≤ s.boot.step ∧ ¬ s.boot.facet then { s with boot := { s.boot with toQuarantine := true } }
  else s.quarantine 1

/-- A DEGRADE response takes the units that the cause names out of service (R428, Table 13.4). -/
def State.degrade (s : State) (units : List Nat) : State := units.foldl State.unitOut s

/-- TAMPER_ALARM, at most once for each detector in a second (R433). -/
def State.tellAlarm (s : State) (n sev : Nat) : State :=
  let quiet : Bool := match (s.det n).noticeAt with
    | some t => decide (s.now < t + 1000000000)
    | none => false
  if quiet then s else (s.updDet n fun d => { d with noticeAt := some s.now }).notify 0 0x0700 0 (n + 256 * sev)

/-- An alarm event in the main-power modes (Table 13.4): records, notice, ALARM_SEV, log entry and response. -/
def State.alarmMain (s : State) (a : Alarm) (join : Option Nat) : State × Nat :=
  let s := if a.sev = 4 then s.driveZeroise else s
  let s := { s with tamper := { s.tamper with alarmSev := max s.tamper.alarmSev a.sev } }
  let s := s.trigger 0 0 a.bits
  let s := match a.fault with
    | some (st, arg) => s.trigger 1 st arg
    | none => s
  let s := a.dets.foldl (fun s d => s.tellAlarm d.1 d.2) s
  let s := if 2 ≤ a.sev then s.degrade a.units else s
  let s := if a.sev = 2 ∨ a.sev = 3 then s.issueNotice ((s.member.map (·.index)).getD 0) 3 a.sev else s
  -- the stores are cleared and the marker is written with the entry; the mode changes after it (R430)
  let flags := flag a.evidence + 2 * flag (decide (a.sev = 4))
  let (s, seq) := if 2 ≤ a.sev ∨ a.evidence then s.writeLog a.bits a.sev flags join else (s, 0)
  let s := if 3 ≤ a.sev then s.isolate a.tile else s
  (if a.sev = 4 then s.zeroiseResponse else s, seq)

/-- An alarm event in SENTINEL (Table 13.4): the vault is cleared on ZEROISE, and an entry is written for evidence and for DEGRADE and above. -/
def State.alarmSentinel (s : State) (a : Alarm) (join : Option Nat) : State × Nat :=
  let s := if a.sev = 4 then
      ({ s with keys := { s.keys with vault := [] }, tamper := { s.tamper with tamperState := true } }).emitAll
        [.zeroise, .drive .tamperState true]
    else s
  let flags := flag a.evidence + 2 * flag (decide (a.sev = 4))
  if 2 ≤ a.sev ∨ a.evidence then s.writeLog a.bits a.sev flags join else (s, 0)

/-- An alarm event (R427, R428). -/
def State.alarm (s : State) (a : Alarm) (join : Option Nat) : State × Nat :=
  if s.ms.mode = .sentinel then s.alarmSentinel a join else s.alarmMain a join

/-- A DEGRADE alarm of a fault source (Table 13.5): failed checks, unfinished work, a store that fails its integrity check. -/
def State.faultDegrade (s : State) (status arg : Nat) (units : List Nat) : State :=
  (s.alarm ⟨2 ^ 28, 2, false, none, [(0xFF, 2)], units, some (status, arg)⟩ none).1

/-- A fatal integrity fault: the ZEROISE response, with evidence and marker, and the ISOLATE response that it includes, with its scope (Table 13.4, R429, R431, R434). -/
def State.fatalFault (s : State) (bits status arg : Nat) (tile : Option Nat) : State :=
  (s.alarm ⟨bits, 4, true, tile, [(0xFF, 4)], [], some (status, arg)⟩ none).1

/-! ### Stimulation tests (R440, Table 13.8) -/

/-- The detector is armed (Table 13.2): in SENTINEL or under main power. -/
def State.armed (s : State) (d : Nat) : Bool :=
  if s.ms.mode == .off then false
  else if s.ms.mode == .sentinel then !(d == 15 || d == 16 || d == 18 || d == 19 || d == 21)
  else !(d == 4 || d == 5 || d == 17)

/-- Time by which tests are due: device time under main power, the RTC in SENTINEL; and the span within which one instant is drawn (R440). -/
def State.testClock (s : State) : Nat × Nat :=
  if s.ms.mode == .sentinel then (s.tamper.rtc, 3600000000000) else (s.now, 60000000000)

/-- The instant of a detector's next test is drawn within the next span (R440; the spans are counted from 0: log 158). -/
def State.drawTest (s : State) (d : Nat) : State :=
  let (t, span) := s.testClock
  let (r, s) := s.draw 8
  s.updDet d fun x => { x with testDue := some ((t / span + 1) * span + leNat r % span) }

/-- Detectors that are tested: those not privileged (R440). -/
abbrev testedDetectors : List Nat := (List.range 16).map (6 + ·)

/-- The instants of every armed detector's test are drawn. -/
def State.drawTests (s : State) : State :=
  testedDetectors.foldl (fun s d => if s.armed d then s.drawTest d else s.updDet d fun x => { x with testDue := none }) s

/-- Every armed detector is due for its test of step 7 (R440). -/
def State.duesNow (s : State) : State :=
  testedDetectors.foldl (fun s d => s.updDet d fun x => { x with testDue := if s.armed d then some s.now else none }) s

/-! ### The private flash and the manifests (R338, R349) -/

/-- The private flash takes what the device writes: its port is up, and it has not let an operation time out (R338, R352, R354). -/
def State.privWrites (s : State) : Bool := s.priv.ready && !s.priv.failing
/-- Region entry of a manifest, 64 bytes (Table 10.14). -/
def regionEntry (m : Bytes) (r : Nat) : Bytes := slice (128 + 64 * r) 64 m
/-- Number of regions. -/
def regionCount (m : Bytes) : Nat := byteAt m 0x0B

end Sys2Proof.Machine
end

