-- ==== Sys2Proof/Machine/Otp.lean ====
section
/-!
DEFINITION. The OTP array: regions, locks, integrity, sensing at both margins, wires, and what a word program leaves (R448 to R463).
-/

namespace Sys2Proof.Machine

/-- First word and number of words of the region with a lock field (Table 14.1). -/
def otpRegion (n : Nat) : Nat × Nat :=
  match n with
  | 0 => (0x040, 64) | 1 => (0x080, 8) | 2 => (0x088, 16) | 3 => (0x098, 16) | 4 => (0x0A8, 16) | 5 => (0x0B8, 16)
  | 6 => (0x0C8, 16) | 7 => (0x100, 36) | 8 => (0x124, 36) | 9 => (0x200, 512) | 10 => (0x400, 512)
  | _ => (0, 0)

/-- A region of class S (Table 14.1). -/
def classS (n : Nat) : Bool := n == 0 || n == 1

/-- Words that Table 14.1 lists; every other word is reserved and reads 0. -/
def otpListed (w : Nat) : Bool :=
  w ≤ 0x006 || (0x008 ≤ w && w ≤ 0x027) || (0x040 ≤ w && w ≤ 0x0D7) || (0x100 ≤ w && w ≤ 0x147)
    || (0x200 ≤ w && w ≤ 0x5FF) || (0x7F0 ≤ w && w ≤ 0x7FF)

/-- A marginal bit of the word resolves to 1 (Table 14.3): forward words, thermometers but RECOM, lock fields. -/
def resolvesOne (w : Nat) : Bool :=
  w ≤ 0x006 || (0x008 ≤ w && w ≤ 0x019) || (0x01C ≤ w && w ≤ 0x027) || 0x7F0 ≤ w

/-- The shadow of a word from its two reads (R452, R453). -/
def resolveWord (w low high : Nat) : Nat := if !otpListed w then 0 else if resolvesOne w then low ||| high else high

/-- Low-margin read of a word. -/
def State.otpLow (s : State) (w : Nat) : Nat := KeyMap.get s.otp.low 0 w
/-- High-margin read of a word: a bit that the latest sense found weak reads 0 until a sense finds it solid again (R452, R468). -/
def State.otpHigh (s : State) (w : Nat) : Nat :=
  let h := KeyMap.get s.otp.high 0 w
  h - (h &&& KeyMap.get s.otp.weak 0 w)
/-- Shadow of a word. -/
def State.otpWord (s : State) (w : Nat) : Nat := KeyMap.get s.otp.shadow 0 w
/-- Shadow of words as bytes, little-endian. -/
def State.otpBytes (s : State) (first n : Nat) : Bytes := (List.range n).flatMap fun i => u32 (s.otpWord (first + i))

/-- Marginal bits of a region. -/
def State.marginalIn (s : State) (first n : Nat) : Nat :=
  (List.range n).foldl (fun acc i => acc + oneBits 32 (s.otpLow (first + i) ^^^ s.otpHigh (first + i))) 0
/-- Marginal bits of the whole array (R457). -/
def State.marginalBits (s : State) : Nat :=
  ((s.otp.low.map (·.1)).filter otpListed).foldl (fun acc w => acc + oneBits 32 (s.otpLow w ^^^ s.otpHigh w)) 0

/-- The region is locked: its lock field has a bit that reads 1 (R449). -/
def State.locked (s : State) (n : Nat) : Bool := s.otpWord (0x7F0 + n / 4) / 2 ^ (8 * (n % 4)) % 256 != 0

/-- The integrity word of a region's words (R449). -/
def integrityWord (n : Nat) (body : Bytes) : Nat := leNat ((sha256 (u16 n ++ body)).take 4)

/-- The region's integrity word matches and no bit of it is marginal (R449). -/
def State.complete (s : State) (n : Nat) : Bool :=
  let (first, len) := otpRegion n
  s.otpWord (first + len - 1) == integrityWord n (s.otpBytes first (len - 1)) && s.marginalIn first len == 0

/-- The region is locked and passes; only then are its contents used (R449). -/
def State.passes (s : State) (n : Nat) : Bool := s.locked n && s.complete n

/-- The OWNER slot in use: the lowest that passes (R466). -/
def State.ownerSlot (s : State) : Option Nat := if s.passes 7 then some 0 else if s.passes 8 then some 1 else none
/-- Bytes of the OWNER slot in use; none where neither passes. -/
def State.ownerBytes (s : State) : Option Bytes := s.ownerSlot.map fun i => s.otpBytes (0x100 + 36 * i) 36

/-- Shadow integrity fails: a locked class S region fails, or OWNED is set and neither OWNER slot passes (R454). -/
def State.shadowFails (s : State) : Bool :=
  (s.locked 0 && !s.complete 0) || (s.locked 1 && !s.complete 1) || (s.forwardSet 2 && s.ownerSlot.isNone)

/-- The latest lifecycle word that is set: 0 none, else 1 to 4 (R461). -/
def State.lifeOf (s : State) : Nat :=
  if s.forwardSet 3 then 4 else if s.forwardSet 2 then 3 else if s.forwardSet 1 then 2 else if s.forwardSet 0 then 1 else 0

/-- A forward word is set and not every bit reads 1 at both margins (R450). -/
def State.tornWord (s : State) (w : Nat) : Bool :=
  s.forwardSet w && (s.otpLow w != 0xFFFFFFFF || s.otpHigh w != 0xFFFFFFFF)

/-- An OWNER slot passes although its lock field did not read 1 throughout: its locking was cut short (Table 14.6). -/
def State.tornLock (s : State) (n : Nat) : Bool :=
  let w := 0x7F0 + n / 4
  s.passes n && (s.otpLow w &&& s.otpHigh w) / 2 ^ (8 * (n % 4)) % 256 != 255

/-- FWKEY slot `k` is locked, passes and is not revoked (R455). -/
def State.keySlotValid (s : State) (k : Nat) : Bool :=
  s.passes (2 + k) && s.otpWord 0x006 / 2 ^ (8 * k) % 256 == 0

/-- The shadows as a sense loads them: every word resolved from its two reads (R452, R453). -/
def State.resolved (s : State) : KeyMap Nat :=
  ((s.otp.low.map (·.1)).filter otpListed).foldl (fun m w => KeyMap.set m w (resolveWord w (s.otpLow w) (s.otpHigh w))) []

/-- The dedicated wires as the sense controller drives them from the array's two reads, whatever the shadow registers hold (R455). -/
def State.driveWires (s : State) : State :=
  let a := { s with otp := { s.otp with shadow := s.resolved } }
  { s with otp := { s.otp with
      life := a.lifeOf
      torn := a.lifeOf != 0 && a.tornWord (a.lifeOf - 1)
      testDisable := a.forwardSet 4
      debugDisable := a.forwardSet 5
      bootKeys := (List.range 4).foldl (fun acc k => acc + 2 ^ k * flag (a.keySlotValid k)) 0 } }

/-- The array is read at both margins into the shadows, and the wires are driven (R452, R455). -/
def State.sense (s : State) : State := ({ s with otp := { s.otp with shadow := s.resolved } }).driveWires

/-- Bits of a word as a program leaves them: bits only rise, and a bit at high margin is one at low margin too (R448, R458). The shadow is
refreshed from the high-margin read (R460). -/
def State.pulse (s : State) (w bits low high : Nat) : State :=
  let set := high &&& low &&& bits
  let weak := KeyMap.get s.otp.weak 0 w
  let s := { s with otp := { s.otp with
      low := KeyMap.set s.otp.low w (s.otpLow w ||| (low &&& bits))
      high := KeyMap.set s.otp.high w (KeyMap.get s.otp.high 0 w ||| set)
      weak := if weak = 0 then s.otp.weak else KeyMap.set s.otp.weak w (weak - (weak &&& set)) } }
  ({ s with otp := { s.otp with shadow := if otpListed w then KeyMap.set s.otp.shadow w (s.otpHigh w) else s.otp.shadow } }).driveWires

/-- Every chosen bit of a word reads 1 at both margins (R458). -/
def State.programmed (s : State) (w bits : Nat) : Bool :=
  (s.otpLow w &&& bits) == bits && (s.otpHigh w &&& bits) == bits

/-- Jobs that program a region's data words, its integrity word and its lock field (R459). -/
def regionJobs (n : Nat) (body : Bytes) (act : Option (Nat × Nat)) (next : OtpThen) : List OtpJob :=
  let (first, len) := otpRegion n
  let data := fit (4 * (len - 1)) body
  ((List.range (len - 1)).map fun i => ⟨first + i, field data (4 * i) 4, 0, act, .nothing⟩)
    ++ [⟨first + len - 1, integrityWord n data, 0, act, .nothing⟩, ⟨0x7F0 + n / 4, 0xFF * 2 ^ (8 * (n % 4)), 0, act, next⟩]

/-- The serial number of IDENT, 16 bytes; the register file and every signed structure carry it (Table 14.1, R109). -/
def State.serial (s : State) : Bytes := if s.passes 1 then s.otpBytes 0x080 4 else fit 16 Config.serial

/-- Words that a scrap overwrites: TRIM, the HELPER copies, the OWNER slots and DBGKEY (R469). -/
def scrapWords : List Nat :=
  ((List.range 64).map (0x40 + ·)) ++ ((List.range 1024).map (0x200 + ·)) ++ ((List.range 72).map (0x100 + ·)) ++ ((List.range 16).map (0xC8 + ·))

end Sys2Proof.Machine
end

