-- ==== Sys2Proof/Machine/ItemKit.lean ====
section
/-!
DEFINITION. What the execution of an item sees and answers (stage 3 of Table 4.12), and the fields of a key blob's
header and attributes (Tables 6.10, 6.11).
-/

namespace Sys2Proof.Machine

/-- A key as an operation sees it: header (48 bytes), attributes (32 bytes), material. -/
structure KeyView where
  /-- header, Table 6.10 -/
  header : Bytes
  /-- attributes, Table 6.11 -/
  attrs : Bytes
  /-- material, Table 6.13 -/
  material : Bytes
deriving DecidableEq, Repr

/-- KIND of the header. -/
def KeyView.kind (k : KeyView) : Nat := byteAt k.header 5
/-- TOTAL_LEN of the header. -/
def KeyView.totalLen (k : KeyView) : Nat := field k.header 6 2
/-- OWNER_CHANNEL. -/
def KeyView.owner (k : KeyView) : Nat := byteAt k.header 8
/-- PARENT_SLOT. -/
def KeyView.slot (k : KeyView) : Nat := byteAt k.header 9
/-- ALG. -/
def KeyView.alg (k : KeyView) : Nat := field k.header 0xA 2
/-- KEY_BITS. -/
def KeyView.bits (k : KeyView) : Nat := field k.header 0xC 2
/-- MATERIAL_LEN. -/
def KeyView.materialLen (k : KeyView) : Nat := field k.header 0xE 2
/-- PARENT_GEN. -/
def KeyView.parentGen (k : KeyView) : Nat := field k.header 0x10 4
/-- OWN_GEN. -/
def KeyView.ownGen (k : KeyView) : Nat := field k.header 0x14 4
/-- KCV, 8 bytes. -/
def KeyView.kcv (k : KeyView) : Bytes := slice 0x20 8 k.header
/-- USAGE. -/
def KeyView.usage (k : KeyView) : Nat := byteAt k.attrs 0
/-- MODE. -/
def KeyView.mode (k : KeyView) : Nat := byteAt k.attrs 1
/-- MASTERS. -/
def KeyView.masters (k : KeyView) : Nat := byteAt k.attrs 2
/-- EXPORT. -/
def KeyView.exportAttr (k : KeyView) : Nat := byteAt k.attrs 6
/-- FLAGS. -/
def KeyView.flags (k : KeyView) : Nat := byteAt k.attrs 7
/-- PIN_FORMATS. -/
def KeyView.pinFormats (k : KeyView) : Nat := byteAt k.attrs 0xA
/-- The symmetric key's own bytes. -/
def KeyView.key (k : KeyView) : Bytes := k.material.take (keyBytes k.alg)
/-- SUPPLEMENT of a symmetric key, 32 bytes (Table 6.13). -/
def KeyView.supplement (k : KeyView) : Bytes := slice 32 32 k.material
/-- ALG is an AES one. -/
def KeyView.isAes (k : KeyView) : Bool := decide (1 ≤ k.alg ∧ k.alg ≤ 3)
/-- ALG is a TDES one. -/
def KeyView.isTdes (k : KeyView) : Bool := decide (k.alg = 0x11 ∨ k.alg = 0x12)

/-- What stage 3 of an item sees. -/
structure ExecIn where
  /-- descriptor -/
  desc : Bytes
  /-- keys of the references, in order -/
  keys : List KeyView
  /-- the input bytes read from host memory; none where the read failed -/
  input : Option Bytes
  /-- number of the first random byte it may draw -/
  rng : Nat
  /-- decimalisation table in force at admission -/
  dectab : Bytes
  /-- a free value for a result that the manual does not state -/
  free : Bytes
  /-- release time of the item -/
  release : Nat
  /-- channel of the item -/
  chan : Nat
  /-- submission ring of the item -/
  ring : Nat
  /-- slot of its descriptor -/
  slot : Nat
deriving DecidableEq, Repr

/-- What stage 3 of an item answers. -/
structure ExecOut where
  /-- STATUS -/
  status : Nat
  /-- output -/
  out : Bytes
  /-- DETAIL -/
  detail : Nat
  /-- PROVISIONAL -/
  provisional : Bool
  /-- random bytes drawn -/
  drawn : Nat
  /-- the check before release failed, so a DEGRADE alarm is raised (R312) -/
  alarm : Bool
  /-- plaintext that it keeps in its hold pages (R284, R285) -/
  held : Bytes
  /-- planned work that it does not need, in CE (R315, R321) -/
  spared : Nat
  /-- chain steps that the digits of each layer of a verification spare, in CE (R321) -/
  layers : List Nat
  /-- chains of a layer -/
  chains : Nat
  /-- bytes drawn for the order of leaves and chains (R311) -/
  order : Bytes
deriving DecidableEq, Repr

/-- An item that ends with a status and no output (R226). -/
def ExecOut.fail (st : Nat) : ExecOut := ⟨st, [], 0, false, 0, false, [], 0, [], 0, []⟩
/-- An item that succeeds with an output. -/
def ExecOut.ok (out : Bytes) : ExecOut := ⟨ST_OK, out, 0, false, 0, false, [], 0, [], 0, []⟩

/-- Key number `n` (from 0) of an item; a key with no bytes where there is none. -/
def ExecIn.key (x : ExecIn) (n : Nat) : KeyView := x.keys.getD n ⟨[], [], []⟩
/-- PARAMS. -/
def ExecIn.params (x : ExecIn) : Bytes := dParams x.desc

/-- `n` random bytes from draw number `i` on. -/
def randomBytes (i n : Nat) : Bytes := (List.range n).map fun j => Config.randomByte (i + j)

/-- The first failing check's status, in order. -/
def firstFail : List (Bool × Nat) → Option Nat
  | [] => none
  | (ok, st) :: rest => if ok then firstFail rest else some st

/-- Runs `f` on the input where every check passes and the input was read (Tables 7.6, 8.9, 9.11). -/
def checked (x : ExecIn) (checks : List (Bool × Nat)) (f : Bytes → ExecOut) : ExecOut :=
  match firstFail checks with
  | some st => .fail st
  | none =>
    if dInLen x.desc = 0 then f []
    else match x.input with
      | none => .fail ST_DMA
      | some m => f m

end Sys2Proof.Machine
end

