-- ==== Sys2Proof/Machine/Slh.lean ====
section
/-!
DEFINITION. SLH-DSA as the device computes it (R310, R313 to R315, R321): FIPS 205 over the tweakable hash functions of Config, with the top-layer tree read
from a table when signing and each WOTS chain run in two legs. What FIPS 205 itself lays down here (the parameter sets, addresses, digits, trees) is
PRESUMED from that standard, which the manual names (log 1).
-/

namespace Sys2Proof.Machine

/-- A parameter set of FIPS 205. -/
structure SlhSet where
  /-- hash length n -/
  n : Nat
  /-- layers d -/
  d : Nat
  /-- height of one XMSS tree h′ -/
  height : Nat
  /-- height of a FORS tree a -/
  a : Nat
  /-- FORS trees k -/
  k : Nat
deriving DecidableEq, Repr

/-- The sets that the device supports, by ALG: SHA2-128s, SHA2-128f, SHA2-256s (Table 9.6). -/
def slhSet (alg : Nat) : SlhSet :=
  if alg = 0x131 then ⟨16, 7, 9, 12, 14⟩ else if alg = 0x132 then ⟨16, 22, 3, 6, 33⟩ else ⟨32, 8, 8, 14, 22⟩

/-- WOTS chains of a leaf: 2 n digits of the message and 3 of the checksum. -/
def SlhSet.chains (p : SlhSet) : Nat := 2 * p.n + 3
/-- Bytes of md, of the tree index and of the leaf index in the message digest. -/
def SlhSet.digestParts (p : SlhSet) : Nat × Nat × Nat :=
  (ceilDiv (p.k * p.a) 8, ceilDiv (p.height * (p.d - 1)) 8, ceilDiv p.height 8)
/-- Length of a signature (Table 9.7). -/
def SlhSet.sigLen (p : SlhSet) : Nat := (1 + p.k * (1 + p.a) + p.d * (p.height + p.chains)) * p.n

/-- The key's parts: SK.seed, SK.prf, PK.seed, PK.root (Table 6.13). -/
structure SlhKey where
  /-- ALG -/
  alg : Nat
  /-- SK.seed -/
  skSeed : Bytes
  /-- SK.prf -/
  skPrf : Bytes
  /-- PK.seed -/
  pkSeed : Bytes
  /-- PK.root -/
  pkRoot : Bytes
deriving DecidableEq, Repr

/-- The key that private material holds. -/
def slhKey (alg : Nat) (m : Bytes) : SlhKey :=
  let n := (slhSet alg).n
  ⟨alg, slice 0 n m, slice n n m, slice (2 * n) n m, slice (3 * n) n m⟩

/-- Parameter set of a key. -/
def SlhKey.set (x : SlhKey) : SlhSet := slhSet x.alg

/-! ### Tweakable hashes with their lengths -/

/-- A secret value: the PRF of FIPS 205 at an address. -/
def SlhKey.secret (x : SlhKey) (adrs : List Nat) : Bytes := fit x.set.n (Config.slhPrf x.alg x.pkSeed x.skSeed adrs)
/-- F, H and T at an address. -/
def SlhKey.hash (x : SlhKey) (adrs : List Nat) (m : Bytes) : Bytes := fit x.set.n (Config.slhHash x.alg x.pkSeed adrs m)

/-- Chain steps `start`, `start` + 1, … of a WOTS chain: `steps` of them. -/
def SlhKey.chain (x : SlhKey) (layer tree leaf i : Nat) : Nat → Nat → Bytes → Bytes
  | _, 0, v => v
  | start, steps + 1, v => x.chain layer tree leaf i (start + 1) steps (x.hash [layer, tree, 0, leaf, i, start] v)

/-- Base-16 digits of a message and of its checksum: how far each chain goes in a signature. -/
def wotsDigits (m : Bytes) : List Nat :=
  let ds := m.flatMap fun b => [b.toNat / 16, b.toNat % 16]
  let sum := ds.foldl (fun n d => n + (15 - d)) 0
  ds ++ [sum / 256 % 16, sum / 16 % 16, sum % 16]

/-- WOTS secret value of a chain. -/
def SlhKey.wotsSecret (x : SlhKey) (layer tree leaf i : Nat) : Bytes := x.secret [layer, tree, 5, leaf, i, 0]

/-- The first legs of a leaf's chains: from each secret value to its signature value (R314). -/
def SlhKey.firstLegs (x : SlhKey) (layer tree leaf : Nat) (digits : List Nat) : List Bytes :=
  digits.zipIdx.map fun p => x.chain layer tree leaf p.2 0 p.1 (x.wotsSecret layer tree leaf p.2)

/-- The second legs: from the signature values, read back, to the chain ends (R314). -/
def SlhKey.secondLegs (x : SlhKey) (layer tree leaf : Nat) (digits : List Nat) (values : List Bytes) : List Bytes :=
  (digits.zip values).zipIdx.map fun p => x.chain layer tree leaf p.2 p.1.1 (15 - p.1.1) p.1.2

/-- The WOTS public key of chain ends. -/
def SlhKey.leafOf (x : SlhKey) (layer tree leaf : Nat) (ends : List Bytes) : Bytes := x.hash [layer, tree, 1, leaf, 0, 0] ends.flatten

/-- A leaf computed from the secret values alone. -/
def SlhKey.leaf (x : SlhKey) (layer tree i : Nat) : Bytes :=
  x.leafOf layer tree i ((List.range x.set.chains).map fun j => x.chain layer tree i j 0 15 (x.wotsSecret layer tree i j))

/-- A node of an XMSS tree over given leaves: height, index. -/
def SlhKey.node (x : SlhKey) (layer tree : Nat) (leaf : Nat → Bytes) : Nat → Nat → Bytes
  | 0, i => leaf i
  | z + 1, i => x.hash [layer, tree, 2, 0, z + 1, i] (x.node layer tree leaf z (2 * i) ++ x.node layer tree leaf z (2 * i + 1))

/-- The authentication path of a leaf. -/
def SlhKey.path (x : SlhKey) (layer tree : Nat) (leaf : Nat → Bytes) (i : Nat) : List Bytes :=
  (List.range x.set.height).map fun z => x.node layer tree leaf z ((i / 2 ^ z) ^^^ 1)

/-- The root that a leaf and an authentication path give; `adrs` addresses a node by height and index. -/
def SlhKey.climb (x : SlhKey) (adrs : Nat → Nat → List Nat) : Nat → Nat → Bytes → List Bytes → Bytes
  | _, _, v, [] => v
  | z, i, v, a :: rest =>
    x.climb adrs (z + 1) (i / 2) (x.hash (adrs (z + 1) (i / 2)) (if i % 2 = 0 then v ++ a else a ++ v)) rest

/-! ### FORS -/

/-- A node of FORS tree space: height, index over all trees. -/
def SlhKey.forsNode (x : SlhKey) (tree leaf : Nat) : Nat → Nat → Bytes
  | 0, i => x.hash [0, tree, 3, leaf, 0, i] (x.secret [0, tree, 6, leaf, 0, i])
  | z + 1, i => x.hash [0, tree, 3, leaf, z + 1, i] (x.forsNode tree leaf z (2 * i) ++ x.forsNode tree leaf z (2 * i + 1))

/-- FORS indices: base 2^a digits of md. -/
def forsIndices (p : SlhSet) (md : Bytes) : List Nat :=
  (List.range p.k).map fun i => beNat md / 2 ^ (8 * md.length - p.a * (i + 1)) % 2 ^ p.a

/-- The FORS part of a signature: secret values with their authentication paths. -/
def SlhKey.forsSign (x : SlhKey) (tree leaf : Nat) (idx : List Nat) : Bytes :=
  idx.zipIdx.flatMap fun p =>
    let i := p.2 * 2 ^ x.set.a + p.1
    x.secret [0, tree, 6, leaf, 0, i] ++ (List.range x.set.a).flatMap fun z => x.forsNode tree leaf z ((i / 2 ^ z) ^^^ 1)

/-- The FORS public key of the trees themselves. -/
def SlhKey.forsKey (x : SlhKey) (tree leaf : Nat) : Bytes :=
  x.hash [0, tree, 4, leaf, 0, 0] ((List.range x.set.k).flatMap fun i => x.forsNode tree leaf x.set.a i)

/-- The FORS public key that the emitted values and paths give (R314). -/
def SlhKey.forsKeyOf (x : SlhKey) (tree leaf : Nat) (idx : List Nat) (sig : Bytes) : Bytes :=
  let p := x.set
  x.hash [0, tree, 4, leaf, 0, 0] (idx.zipIdx.flatMap fun q =>
    let i := q.2 * 2 ^ p.a + q.1
    let part := slice (q.2 * (1 + p.a) * p.n) ((1 + p.a) * p.n) sig
    x.climb (fun z j => [0, tree, 3, leaf, z, j]) 0 i (x.hash [0, tree, 3, leaf, 0, i] (part.take p.n)) (blocks p.n (part.drop p.n)))

/-! ### The message -/

/-- The message representative: pure, or pre-hash with SHA-256 or SHA-512, with its context (R308, R310). -/
def slhMessage (scheme : Nat) (ctx m : Bytes) : Bytes :=
  let oid : Bytes := [0x06#8, 0x09#8, 0x60#8, 0x86#8, 0x48#8, 0x01#8, 0x65#8, 0x03#8, 0x04#8, 0x02#8] ++ u8 (if scheme = 1 then 1 else 3)
  u8 (flag (scheme != 0)) ++ u8 ctx.length ++ ctx ++ (if scheme = 0 then m else oid ++ m)

/-- The message digest: FORS md, tree index and leaf index. -/
def SlhKey.digest (x : SlhKey) (r m : Bytes) : Bytes × Nat × Nat :=
  let p := x.set
  let (a, b, c) := p.digestParts
  let d := fit (a + b + c) (Config.slhHMsg x.alg r x.pkSeed x.pkRoot m)
  (slice 0 a d, beNat (slice a b d) % 2 ^ (p.height * (p.d - 1)), beNat (slice (a + b) c d) % 2 ^ p.height)

/-! ### Signing (R313, R314) -/

/-- One layer of a signature: its bytes, the root that the layer gives, and whether the root recomputed from the emitted path agrees. -/
def SlhKey.layer (x : SlhKey) (j tree leaf : Nat) (table m : Bytes) : Bytes × Bytes × Bool :=
  let p := x.set
  let digits := wotsDigits m
  let values := x.firstLegs j tree leaf digits
  let mine := x.leafOf j tree leaf (x.secondLegs j tree leaf digits values)
  let top := j + 1 == p.d
  let leaves (i : Nat) : Bytes := if top then slice (p.n * i) p.n table else if i = leaf then mine else x.leaf j tree i
  let path := x.path j tree leaves leaf
  let root := if top then x.pkRoot else x.node j tree leaves p.height 0
  let again := x.climb (fun z i => [j, tree, 2, 0, z, i]) 0 leaf mine path
  (values.flatten ++ path.flatten, root, again == root && (!top || leaves leaf == mine))

/-- The layers from `j` on: their bytes, and whether every comparison agrees. -/
def SlhKey.layers (x : SlhKey) (table : Bytes) : Nat → Nat → Nat → Nat → Bytes → Bytes × Bool
  | 0, _, _, _, _ => ([], true)
  | fuel + 1, j, tree, leaf, m =>
    let l := x.layer j tree leaf table m
    let h := 2 ^ x.set.height
    let rest := x.layers table fuel (j + 1) (tree / h) (tree % h) l.2.1
    (l.1 ++ rest.1, l.2.2 && rest.2)

/-- A signature made with the top-tree table, and the outcome of its verification: H_msg and the FORS roots recomputed from what is emitted, each root
compared with the message that the layer above signed, the signing leaf with its table entry, the last root with PK.root (R313, R314). -/
def slhSignWith (alg : Nat) (material : Bytes) (scheme : Nat) (ctx m opt table : Bytes) : Bytes × Bool :=
  let x := slhKey alg material
  let p := x.set
  let msg := slhMessage scheme ctx m
  let r := fit p.n (Config.slhPrfMsg alg x.skPrf opt msg)
  let (md, tree, leaf) := x.digest r msg
  let idx := forsIndices p md
  let fors := x.forsSign tree leaf idx
  let key := x.forsKey tree leaf
  let ls := x.layers table p.d 0 tree leaf key
  let sig := r ++ fors ++ ls.1
  (sig, x.digest (sig.take p.n) msg == (md, tree, leaf) && x.forsKeyOf tree leaf idx (slice p.n fors.length sig) == key && ls.2)

/-- The top-tree table of a key: the leaves of the top layer (R313). -/
def slhTopTree (alg : Nat) (material : Bytes) : Bytes :=
  let x := slhKey alg material
  (List.range (2 ^ x.set.height)).flatMap fun i => x.leaf (x.set.d - 1) 0 i

/-- The root that a top-tree table gives (R313). -/
def slhTableRoot (alg : Nat) (pkSeed table : Bytes) : Bytes :=
  let p := slhSet alg
  let x : SlhKey := ⟨alg, [], [], pkSeed, []⟩
  x.node (p.d - 1) 0 (fun i => slice (p.n * i) p.n table) p.height 0

/-- PK.root of the seeds SK.seed ∥ SK.prf ∥ PK.seed. -/
def slhRoot (alg : Nat) (seeds : Bytes) : Bytes := slhTableRoot alg (slhKey alg seeds).pkSeed (slhTopTree alg seeds)

/-- A signature by a key whose table is at hand: the device's own keys (R361, R363). -/
def slhSign (alg : Nat) (material : Bytes) (scheme : Nat) (ctx m opt : Bytes) : Bytes :=
  (slhSignWith alg material scheme ctx m opt (slhTopTree alg material)).1

/-! ### Verification (R314, R321) -/

/-- The roots of the layers of a signature from `j` on, each the message of the layer above, with the digits of every message. -/
def SlhKey.verifyLayers (x : SlhKey) (sig : Bytes) : Nat → Nat → Nat → Nat → Bytes → Bytes × List Nat
  | 0, _, _, _, m => (m, [])
  | fuel + 1, j, tree, leaf, m =>
    let p := x.set
    let part := slice (j * (p.chains + p.height) * p.n) ((p.chains + p.height) * p.n) sig
    let digits := wotsDigits m
    let mine := x.leafOf j tree leaf (x.secondLegs j tree leaf digits (blocks p.n (part.take (p.chains * p.n))))
    let root := x.climb (fun z i => [j, tree, 2, 0, z, i]) 0 leaf mine (blocks p.n (part.drop (p.chains * p.n)))
    let h := 2 ^ p.height
    let rest := x.verifyLayers sig fuel (j + 1) (tree / h) (tree % h) root
    (rest.1, digits ++ rest.2)

/-- The final root of a signature and the digits of its layers' messages. -/
def slhRootOf (alg : Nat) (pub : Bytes) (scheme : Nat) (ctx m sig : Bytes) : Bytes × List Nat :=
  let p := slhSet alg
  let x : SlhKey := ⟨alg, [], [], slice 0 p.n pub, slice p.n p.n pub⟩
  let (md, tree, leaf) := x.digest (sig.take p.n) (slhMessage scheme ctx m)
  let fors := p.k * (1 + p.a) * p.n
  x.verifyLayers (sig.drop (p.n + fors)) p.d 0 tree leaf (x.forsKeyOf tree leaf (forsIndices p md) (slice p.n fors sig))

/-- SLH-DSA verification: ALG, PK.seed ∥ PK.root, scheme, context, message, signature (R306, R322). -/
def slhVerify (alg : Nat) (pub : Bytes) (scheme : Nat) (ctx m sig : Bytes) : Bool :=
  let p := slhSet alg
  sig.length == p.sigLen && (slhRootOf alg pub scheme ctx m sig).1 == slice p.n p.n pub

/-- The chain steps that each layer of a verification does not take: 15 for every chain are planned, and each chain takes 15 less its digit (R315, R321). -/
def slhSpared (alg : Nat) (pub : Bytes) (scheme : Nat) (ctx m sig : Bytes) : List Nat :=
  let n := (slhSet alg).chains
  let digits := (slhRootOf alg pub scheme ctx m sig).2
  (List.range (slhSet alg).d).map fun j => ((digits.drop (n * j)).take n).foldl (· + ·) 0

end Sys2Proof.Machine
end

