-- ==== Sys2Proof/Machine/Signatures.lean ====
section
/-!
DEFINITION. ECDSA, ECDH and RSA as the device computes them: on randomised representations (R311), with the check before release (R312).
The formulas of FIPS 186-5 and RFC 8017, and the orders of the curves, are PRESUMED from those standards, which the manual names (log 1).
-/

namespace Sys2Proof.Machine

/-! ### Elliptic curves -/

/-- Order of P-256. -/
def orderP256 : Nat := 0xFFFFFFFF00000000FFFFFFFFFFFFFFFFBCE6FAADA7179E84F3B9CAC2FC632551
/-- Order of P-384. -/
def orderP384 : Nat :=
  0xFFFFFFFFFFFFFFFFFFFFFFFFFFFFFFFFFFFFFFFFFFFFFFFFC7634D81F4372DDF581A0DB248B0A77AECEC196ACCC52973
/-- Order n of the curve of a bit length. -/
def curveOrder (bits : Nat) : Nat := if bits = 384 then orderP384 else orderP256

/-- A random number from 1 to `n` − 1 from random bytes. -/
def randomBelow (n : Nat) (bs : Bytes) : Nat := beNat bs % (n - 1) + 1

/-- The inverse modulo a prime, by its exponent. -/
def invPrime (n a : Nat) : Nat := powMod a (n - 2) n

/-- The digest as a number: truncated to the length of n, and reduced when not below it (R310, R322). -/
def digestNum (bits : Nat) (m : Bytes) : Nat := beNat (m.take (bits / 8)) % curveOrder bits

/-- Random bytes that one ECDSA signature draws: the secret number, r, Z and b of R311. -/
def ecdsaDraws (bits : Nat) : Nat := (bits / 8 + 8) + 8 + bits / 8 + bits / 8

/-- ECDSA signature r ∥ s by the private scalar `d`, with the random bytes from draw `i` on (R310, R311): the secret number k is used as k + r n, the
multiplication starts from a random Z, and the inverse of k is formed as (k b)⁻¹ b. -/
def ecdsaSign (bits : Nat) (d m : Bytes) (i : Nat) : Bytes :=
  let n := curveOrder bits
  let w := bits / 8
  let k := randomBelow n (randomBytes i (w + 8))
  let r64 := beNat (randomBytes (i + w + 8) 8)
  let z := randomBytes (i + w + 16) w
  let b := randomBelow n (randomBytes (i + 2 * w + 16) w)
  let r := beNat ((fit (2 * w) (Config.pointMul bits (k + r64 * n) [] z)).take w) % n
  let inv := invPrime n (k * b % n) * b % n
  let s := inv * (digestNum bits m + r * beNat d) % n
  beBytes w r ++ beBytes w s

/-- r and s lie from 1 to n − 1 (R322). -/
def ecdsaInRange (bits : Nat) (sig : Bytes) : Bool :=
  let r := beNat (sig.take (bits / 8))
  let s := beNat (sig.drop (bits / 8))
  decide (1 ≤ r ∧ r < curveOrder bits ∧ 1 ≤ s ∧ s < curveOrder bits)

/-- ECDSA verification: curve bits, public point X ∥ Y, digest, r ∥ s (R310). -/
def ecdsaVerify (bits : Nat) (pub m sig : Bytes) : Bool :=
  let n := curveOrder bits
  let w := bits / 8
  let r := beNat (sig.take w)
  let inv := invPrime n (beNat (sig.drop w))
  sig.length == 2 * w && ecdsaInRange bits sig &&
    match Config.pointAdd bits (digestNum bits m * inv % n) (r * inv % n) pub with
    | some p => beNat ((fit (2 * w) p).take w) % n == r
    | none => false

/-- Random bytes that one key agreement draws: r and Z of R311. -/
def ecdhDraws (bits : Nat) : Nat := 8 + bits / 8

/-- The point of the ECC CDH primitive: the private scalar is used as d + r n, and the multiplication starts from a random Z (R310, R311). -/
def ecdhPoint (bits : Nat) (d peer : Bytes) (i : Nat) : Bytes :=
  fit (bits / 4) (Config.pointMul bits (beNat d + beNat (randomBytes i 8) * curveOrder bits) peer (randomBytes (i + 8) (bits / 8)))

/-! ### ML-KEM -/

/-- Bytes drawn for the factor and the butterfly orders of one decapsulation (R311); how many is not stated (log 2). -/
def mlkemDraws : Nat := 32

/-- ML-KEM-768 decapsulation, its secret vector held under the random factor drawn for it (R310, R311). -/
def mlkemDecaps (seed ct : Bytes) (i : Nat) : Bytes :=
  fit 32 (Config.mlkemDecaps seed ct (randomBytes i mlkemDraws))

/-! ### RSA -/

/-- Digest of a HASH code of Table 9.5. -/
def hashOf (h : Nat) (m : Bytes) : Bytes := if h = 1 then sha256 m else if h = 2 then sha384 m else sha512 m
/-- Digest length of a HASH code of Table 9.5. -/
def hashBytes (h : Nat) : Nat := if h = 1 then 32 else if h = 2 then 48 else if h = 3 then 64 else 0

/-- MGF1 with a HASH code's digest (R310). -/
def mgf1 (h : Nat) (seed : Bytes) (n : Nat) : Bytes :=
  (((List.range (ceilDiv n (hashBytes h))).flatMap fun i => hashOf h (seed ++ beBytes 4 i))).take n

/-- DigestInfo of PKCS #1 v1.5 before the digest. -/
def digestInfo (h : Nat) : Bytes :=
  u8 0x30 ++ u8 (17 + hashBytes h) ++ [0x30#8, 0x0D#8, 0x06#8, 0x09#8, 0x60#8, 0x86#8, 0x48#8, 0x01#8, 0x65#8, 0x03#8, 0x04#8, 0x02#8] ++ u8 h
    ++ [0x05#8, 0x00#8, 0x04#8] ++ u8 (hashBytes h)

/-- The encoded message of PKCS #1 v1.5, `k` bytes. -/
def emPkcs (k h : Nat) (digest : Bytes) : Bytes :=
  let t := digestInfo h ++ digest
  [0x00#8, 0x01#8] ++ List.replicate (k - 3 - t.length) 0xFF#8 ++ [0x00#8] ++ t

/-- The top bit of a masked data block is 0: the encoded message is one bit shorter than the modulus. -/
def clearTop (b : Bytes) : Bytes := match b with
  | [] => []
  | x :: rest => (x &&& 0x7F#8) :: rest

/-- The encoded message of PSS, `k` bytes. -/
def emPss (k h : Nat) (digest salt : Bytes) : Bytes :=
  let hash := hashOf h (zeros 8 ++ digest ++ salt)
  let db := zeros (k - salt.length - digest.length - 2) ++ [0x01#8] ++ salt
  clearTop (xorBytes db (mgf1 h hash db.length)) ++ hash ++ [0xBC#8]

/-- The encoded message passes its scheme's check (R310, R322): scheme, hash, salt length, digest, encoded message. -/
def rsaEncodingOk (scheme h saltLen : Nat) (digest em : Bytes) : Bool :=
  let k := em.length
  if scheme = 1 then em == emPkcs k h digest
  else
    let n := k - hashBytes h - 1
    let hash := slice n (hashBytes h) em
    let db := clearTop (xorBytes (em.take n) (mgf1 h hash n))
    em == emPss k h digest (db.drop (n - saltLen))

/-- Extended Euclid: a coefficient of `a` modulo `m`. -/
def egcd (m : Int) : Nat → Int → Int → Int → Int → Int
  | 0, _, _, s, _ => s
  | fuel + 1, a, b, s, t => if b = 0 then s % m else egcd m fuel b (a % b) t (s - a / b * t)

/-- The inverse of `a` modulo `n`. -/
def invMod (n a : Nat) : Nat := (egcd n (3 * Nat.log2 n + 8) (a % n : Nat) n 1 0 % (n : Int)).toNat

/-- Random bytes that one RSA signature draws: r, r₁ and r₂ of R311, and the salt. -/
def rsaDraws (bits saltLen : Nat) : Nat := bits / 8 + 16 + saltLen

/-- RSA signature of an encoded message: blinded as m rᵉ, by CRT under dP + r₁ (p − 1) and dQ + r₂ (q − 1), unblinded after recombination (R311). Material
of Table 6.13; random bytes from draw `i` on. -/
def rsaPrivate (bits : Nat) (material em : Bytes) (i : Nat) : Bytes :=
  let k := bits / 8
  let half (j : Nat) : Nat := beNat (slice (k + 4 + j * (k / 2)) (k / 2) material)
  let n := beNat (slice 0 k material)
  let e := beNat (slice k 4 material)
  let p := half 0
  let q := half 1
  let r := randomBelow n (randomBytes i k)
  let m := beNat em * powMod r e n % n
  let sp := powMod m (half 2 + beNat (randomBytes (i + k) 8) * (p - 1)) p
  let sq := powMod m (half 3 + beNat (randomBytes (i + k + 8) 8) * (q - 1)) q
  let h := (half 4 * ((sp : Int) - sq) % (p : Int)).toNat
  beBytes k ((sq + h * q) * invMod n r % n)

end Sys2Proof.Machine
end

