-- ==== Sys2Proof/Machine/Identity.lean ====
section
/-!
DEFINITION. The keys that hang from the root vertex and the identity keys (R184, R360 to R362; Tables 6.2, 11.1).
-/

namespace Sys2Proof.Machine

/-- SK.seed ∥ SK.prf ∥ PK.seed of the identity signing key (Table 11.1). -/
def State.idSlhSeed (s : State) : Bytes := kdf s.ident.seed "ID-SLH" [] 48
/-- Public form of the identity signing key: PK.seed ∥ PK.root (Table 11.1). -/
def State.idPublic (s : State) : Bytes := slice 32 16 s.idSlhSeed ++ slhRoot 0x131 s.idSlhSeed
/-- Material of the identity signing key. -/
def State.idMaterial (s : State) : Bytes := s.idSlhSeed ++ slhRoot 0x131 s.idSlhSeed

/-- Private scalar of the SPDM key (Table 11.1). -/
def State.spdmScalar (s : State) : Bytes := beBytes 48 (beNat (kdf s.ident.seed "ID-P384" [] 64) % (orderP384 - 1) + 1)
/-- Public form of the SPDM key, X ∥ Y (Table 11.1). -/
def State.spdmPublic (s : State) : Bytes := fit 96 (Config.ecPublic 384 s.spdmScalar)
/-- Seed of the domain transport key, d ∥ z (Table 11.1). -/
def State.kemSeed (s : State) : Bytes := kdf s.ident.seed "ID-KEM" [] 64
/-- Encapsulation key of the domain transport key (Table 11.1). -/
def State.kemPublic (s : State) : Bytes := fit 1184 (Config.mlkemPublic s.kemSeed)

/-- ID_DIGEST; 0 without identity keys (R361, R362). -/
def State.idDigest (s : State) : Bytes := if s.ident.keys then (sha256 s.idPublic).take 16 else zeros 16

/-- SLH-DSA-SHA2-128s signature with the identity signing key, pure form, empty context (R361, R363). -/
def State.idSign (s : State) (m : Bytes) : Bytes :=
  fit 7856 (slhSign 0x131 s.idMaterial 0 [] m (randomBytes s.rng 16))

/-- Work in CE of one signature with the identity signing key (Table 9.7). -/
def signatureWork : Nat := 1927661

/-- Lane work in CE of a digest of `n` bytes, padding included; `wide` for SHA-384 and SHA-512 (R289, R298). -/
def digestWork (wide : Bool) (n : Nat) : Nat := if wide then 4 * ceilDiv (n + 17) 128 else ceilDiv (n + 9) 64

/-- A domain state as it is sealed in the configuration store (R370). -/
def Domain.bytes (d : Domain) : Bytes := fit 16 d.id ++ u32 d.roster.length ++ d.roster ++ u32 d.statement.length ++ d.statement ++ fit 32 d.authDigest ++ u16 d.index ++ u16 d.used

/-- The first signature of the queue begins: Facet memory feeds its message to the digest engine, with its length declared (R288, R363). -/
def State.startSignature (s : State) : State :=
  { s with cipher := { s.cipher with feeds := match s.ident.signing with
    | j :: _ => KeyMap.put s.cipher.feeds 2 ⟨j.body.length, 0, s.now, 0, digestWork false j.body.length, digestWork false j.body.length⟩
    | [] => KeyMap.del s.cipher.feeds 2 } }

/-- A signature joins the queue as channel-0 work. One is made at a time and at most 8 wait; `none` where the queue is full (R363). -/
def State.enqueue (s : State) (j : SigJob) : Option State :=
  if 9 ≤ s.ident.signing.length then none
  else
    let t := { s with ident := { s.ident with signing := s.ident.signing ++ [j] } }
    some (if s.ident.signing.isEmpty then t.startSignature else t)

end Sys2Proof.Machine
end

