-- ==== Sys2Proof/Machine/Journal.lean ====
section
/-!
DEFINITION. The journal of the Locus recorder as it lies in the private flash: its slots in the order in which they were written, headers and seals,
what an erase or a foreign program does to it, and how it is read back (R486, R494 to R498, R502; Tables 15.9, 15.10).
-/

namespace Sys2Proof.Machine

/-! ### Slots and areas (Table 15.9) -/

/-- First slot of the checkpoint area; slots are counted from 0x090_0000 in units of 128 bytes. -/
abbrev checkpointBase : Nat := 4096
/-- First slot of the circulating area. -/
abbrev circBase : Nat := 12288
/-- Sectors of the circulating area. -/
abbrev circSectors : Nat := 3712
/-- AREA of a slot: 1 kept, 2 checkpoint, 3 circulating. -/
def slotArea (addr : Nat) : Nat := if addr < checkpointBase then 1 else if addr < circBase then 2 else 3
/-- First slot of circulating sector `n`, counted from 1. -/
def circSlot (n : Nat) : Nat := circBase + 32 * ((n + circSectors - 1) % circSectors)

/-- A slot that is a header: the first of its sector. -/
def JournalSlot.isHeader (x : JournalSlot) : Bool := x.addr % 32 == 0
/-- A slot that is a seal: in the checkpoint area the one after 96 data slots, elsewhere one that begins with 8 zero bytes (R495). -/
def JournalSlot.isSeal (x : JournalSlot) : Bool :=
  if slotArea x.addr = 2 then (x.addr - checkpointBase) % 128 == 100 else field x.bytes 0 8 == 0
/-- A slot that is a record (R495). -/
def JournalSlot.isRecord (x : JournalSlot) : Bool := slotArea x.addr != 2 && !x.isHeader && !x.isSeal

/-- What CHAIN is formed over after a slot: its own value after a seal, else all slots since the previous seal (Table 15.10). -/
def JournalSlot.chained (x : JournalSlot) (m : Bytes) : Bytes := if x.isSeal then slice 0x18 32 x.bytes else m ++ x.bytes

/-- The journal without the `n` slots from `first` on, which the device itself erases in the normal course: what follows keeps what its CHAIN continues
from, `m` being what it is formed over so far (R502; log 161). -/
def eraseSlots (first n : Nat) (m : Bytes) (cut : Bool) : List JournalSlot → List JournalSlot
  | [] => []
  | x :: rest =>
    let m := x.before.getD m
    if first ≤ x.addr ∧ x.addr < first + n then eraseSlots first n (x.chained m) true rest
    else (if cut then { x with before := some m } else x) :: eraseSlots first n (x.chained m) false rest

/-! ### Writing (R495, R496) -/

/-- A slot closed by its HMAC under FLASH-SEAL (Table 15.10). -/
def State.sealedSlot (s : State) (b : Bytes) : Bytes := fit 96 b ++ fit 32 (hmac (s.rootKey "FLASH-SEAL") (fit 96 b))

/-- A slot is written. -/
def State.putJournal (s : State) (addr : Nat) (b : Bytes) : State :=
  { s with recorder := { s.recorder with journal := s.recorder.journal ++ [⟨addr, fit 128 b, none⟩] } }
/-- Slots are erased by the journal writer. -/
def State.eraseJournal (s : State) (first n : Nat) : State :=
  { s with recorder := { s.recorder with journal := eraseSlots first n (zeros 32) false s.recorder.journal } }

/-- A sector is opened: its header is written (Table 15.10). Answers the header's bytes. -/
def State.openAt (s : State) (addr first : Nat) : State × Bytes :=
  let n := s.recorder.sectorSeq + 1
  let h := s.sealedSlot (ascii "JGLOCUSJ" ++ u8 (slotArea addr) ++ u8 s.lifecycleCode ++ zeros 6 ++ u64 n ++ u64 first)
  (({ s with recorder := { s.recorder with sectorSeq := n } }).putJournal addr h, h)

/-- A sector is opened where the area's last one is full; the circulating area keeps two erased sectors ahead of the writer (R496). `since` is what has been
written since the previous seal. -/
def State.openSector (s : State) (keptArea : Bool) (first : Nat) (since : Bytes) : State × Bytes :=
  let r := s.recorder
  let full : Bool := if keptArea then r.keptPos % 32 == 0 else r.circPos.2 == 0 || r.circPos.2 == 32
  if !full then (s, since)
  else if keptArea then
    let h := s.openAt r.keptPos first
    ({ h.1 with recorder := { h.1.recorder with keptPos := r.keptPos + 1 } }, since ++ h.2)
  else
    let n := r.circPos.1 + 1
    let h := ((s.eraseJournal (circSlot (n + 1)) 32).eraseJournal (circSlot (n + 2)) 32).openAt (circSlot n) first
    ({ h.1 with recorder := { h.1.recorder with circPos := (n, 1) } }, since ++ h.2)

/-- One slot more is written in an area of records. -/
def State.useSlot (s : State) (keptArea : Bool) (b : Bytes) : State :=
  let r := s.recorder
  if keptArea then ({ s with recorder := { r with keptPos := r.keptPos + 1 } }).putJournal r.keptPos b
  else ({ s with recorder := { r with circPos := (r.circPos.1, r.circPos.2 + 1) } }).putJournal (circSlot r.circPos.1 + r.circPos.2) b

/-- A record of this RSEQ goes to the kept area: 1 to 1,024, while the area has a sector; its last sector used, they circulate (R495; log 160). -/
def State.goesToKept (s : State) (rseq : Nat) : Bool := decide (rseq ≤ 1024 ∧ s.recorder.keptPos < checkpointBase)

/-- One record written: records 1 to 1,024 in the kept area, the others in the circulating one (R495). -/
def State.writeRecord (acc : State × Bytes) (x : Rec) : State × Bytes :=
  let kept := acc.1.goesToKept x.rseq
  let a := acc.1.openSector kept x.rseq acc.2
  (a.1.useSlot kept x.bytes, a.2 ++ fit 128 x.bytes)

/-- The seal of what was written since the previous one, and the state that remembers it (Table 15.10). -/
def State.nextSeal (s : State) (last : Nat) (since : Bytes) : State × Bytes :=
  let chain := sha256 (s.recorder.chain ++ since)
  ({ s with recorder := { s.recorder with sealed := last, chain := chain } }, s.sealedSlot (u64 0 ++ u64 last ++ u64 s.now ++ chain))

/-- Staged records are written, then one seal (R496). -/
def State.writeJournal (s : State) (rs : List Rec) : State :=
  match rs.getLast? with
  | none => s
  | some x =>
    let a := rs.foldl State.writeRecord (s, [])
    let kept := a.1.goesToKept x.rseq
    -- the first record of a sector opened for the seal is the next one
    let b := a.1.openSector kept (x.rseq + 1) a.2
    let c := b.1.nextSeal x.rseq b.2
    c.1.useSlot kept c.2

/-- The blocks of histograms (R493). -/
def State.histBlocks (s : State) (first n : Nat) : Bytes := (List.range n).flatMap fun i => (s.hist (first + i)).block

/-- Slots of one sector of a checkpoint: its header and up to 31 data slots. -/
def State.checkpointSector (acc : State × Bytes) (addr : Nat) (data : Bytes) : State × Bytes :=
  let h := acc.1.openAt addr 0
  let ds := blocks 128 data
  (ds.zipIdx.foldl (fun s d => s.putJournal (addr + 1 + d.2) d.1) h.1, acc.2 ++ h.2 ++ data)

/-- A checkpoint of all 64 blocks in four sectors of the ring of 64, each with its header, and one seal (R494, R495). -/
def State.checkpointHists (s : State) : State :=
  let base := checkpointBase + 128 * (s.recorder.checkpointPos % 64)
  let data := s.histBlocks 0 64
  let a := (List.range 4).foldl (fun acc i => State.checkpointSector acc (base + 32 * i) (slice (31 * 128 * i) (31 * 128) data)) (s.eraseJournal base 128, [])
  let b := a.1.nextSeal s.recorder.sealed a.2
  let t := b.1.putJournal (base + 100) b.2
  { t with recorder := { t.recorder with checkpointPos := s.recorder.checkpointPos + 1 } }

/-- A flush: the staged records, then one seal; without a record it writes nothing. A flash that does not answer leaves them staged, and the
writer tries again 100 ms later (R496, R497). -/
def State.flush (s : State) (pass : Bool) : State :=
  match s.recorder.staging with
  | [] => { s with recorder := { s.recorder with flushBy := none, retryAt := none } }
  | rs =>
    if pass then
      let s := s.writeJournal rs
      { s with recorder := { s.recorder with staging := [], flushBy := none, retryAt := none, lastFlush := (s.now, ST_OK) } }
    else { s with recorder := { s.recorder with flushBy := none, retryAt := some (s.now + 100000000), lastFlush := (s.now, ST_FLASH_TIMEOUT) } }

/-- While main power holds, a cold GATE finds no record staged where the flash answers: the flush comes first (R496; log 162). -/
def State.flushBeforeReset (s : State) : State :=
  if s.recorder.running && s.priv.ready && !s.priv.failing then s.flush true else s

/-! ### Other hands (R347, R498) -/

/-- What an erase of `len` bytes of the private flash at `base` leaves of bytes held at `at_`. -/
def erasedAt (base len at_ : Nat) (b : Bytes) : Bytes :=
  if at_ + b.length ≤ base ∨ base + len ≤ at_ then b
  else b.zipIdx.map fun p => if base ≤ at_ + p.2 ∧ at_ + p.2 < base + len then 0xFF#8 else p.1

/-- What a program of the private flash at `base` leaves of bytes held at `at_`: programming clears bits. -/
def programmedAt (base : Nat) (data : Bytes) (at_ : Nat) (b : Bytes) : Bytes :=
  if at_ + b.length ≤ base ∨ base + data.length ≤ at_ then b
  else b.zipIdx.map fun p =>
    if base ≤ at_ + p.2 ∧ at_ + p.2 < base + data.length then p.1 &&& data.getD (at_ + p.2 - base) 0xFF#8 else p.1

/-- The image slots of Apex and Facet in the private flash, as 2 × KIND + slot: offset and size (R471). -/
def imageArea (k : Nat) : Nat × Nat :=
  if k = 2 then (0x2000, 0x1F000) else if k = 3 then (0x21000, 0x1F000) else if k = 4 then (0x100000, 0x400000) else (0x500000, 0x400000)

/-- Bytes held at an area's start, long enough for a program at `base`: what lies behind them is erased (R471). -/
def reachTo (base n at_ size : Nat) (b : Bytes) : Bytes :=
  if base + n ≤ at_ ∨ at_ + size ≤ base then b
  else b ++ List.replicate (min size (base + n - at_) - b.length) 0xFF#8

/-- Entries of a block of the record area after a change of its bytes; erased ones at its end leave it free. -/
def keptEntries (es : List Bytes) : List Bytes := (es.reverse.dropWhile fun e => e.all (· == 0xFF#8)).reverse

/-- Bytes that a golden set takes: whole 4 KiB sectors of its manifest, and its regions (R354). -/
def goldenSize (m : Bytes) : Nat :=
  4096 * ceilDiv m.length 4096 + (List.range (regionCount m)).foldl (fun acc r => acc + field (regionEntry m r) 4 4) 0

/-- Golden sets whose copies an erase or a program of the private flash meets are no longer intact (R355). -/
def State.spoilGolden (s : State) (base len : Nat) : State :=
  { s with priv := { s.priv with golden := KeyMap.mapVals s.priv.golden fun _ g =>
      { g with intact := g.intact && (decide (g.place + goldenSize g.manifest ≤ base) || decide (base + len ≤ g.place)) } } }

/-- An erase of the private flash takes what lies in it (Table 10.11, R471): boot header copies, image slots, record entries, journal slots, golden copies.
The configuration store is the device's own alone, and its form in flash is not stated (log 144). -/
def State.eraseFlashRange (s : State) (base len : Nat) : State :=
  let block (at_ : Nat) (es : List Bytes) : List Bytes := keptEntries (es.zipIdx.map fun e => erasedAt base len (at_ + 64 * e.2) e.1)
  let s := { s with
    fw := { s.fw with
      headers := KeyMap.mapVals s.fw.headers fun c b => erasedAt base len (0x1000 * c) b
      slots := KeyMap.mapVals s.fw.slots fun k b => erasedAt base len (imageArea k).1 b }
    priv := { s.priv with block0 := block 0x40000 s.priv.block0, block1 := block 0x50000 s.priv.block1 } }
  let s := s.spoilGolden base len
  let spared (x : JournalSlot) : Bool := decide (0x900000 + 128 * x.addr + 128 ≤ base ∨ base + len ≤ 0x900000 + 128 * x.addr)
  { s with recorder := { s.recorder with journal := s.recorder.journal.filter spared } }

/-- A program of the private flash clears bits of what it meets (Table 10.11, R346, R471); one into an erased journal slot or beyond a record area's last
entry is not kept (log 144). -/
def State.programFlash (s : State) (base : Nat) (data : Bytes) : State :=
  let block (at_ : Nat) (es : List Bytes) : List Bytes := es.zipIdx.map fun e => programmedAt base data (at_ + 64 * e.2) e.1
  let put (at_ size : Nat) (b : Bytes) : Bytes := programmedAt base data at_ (reachTo base data.length at_ size b)
  let headers := [0, 1].foldl (fun m c =>
    let old := KeyMap.get m [] c
    let new := put (0x1000 * c) 0x1000 old
    if new = old then m else KeyMap.put m c new) s.fw.headers
  let slots := [2, 3, 4, 5].foldl (fun m k =>
    let old := KeyMap.get m [] k
    let new := put (imageArea k).1 (imageArea k).2 old
    if new = old then m else KeyMap.put m k new) s.fw.slots
  { s.spoilGolden base data.length with
    fw := { s.fw with headers := headers, slots := slots }
    priv := { (s.spoilGolden base data.length).priv with block0 := block 0x40000 s.priv.block0, block1 := block 0x50000 s.priv.block1 }
    recorder := { s.recorder with journal := s.recorder.journal.map fun x => { x with bytes := programmedAt base data (0x900000 + 128 * x.addr) x.bytes } } }

/-! ### Reading back (R494, R498, R502) -/

/-- What a reader of the journal knows. -/
structure JournalRead where
  /-- what the next seal's CHAIN is formed over: CHAIN of the previous seal and the slots since -/
  chained : List (BitVec 8)
  /-- slots since the previous seal -/
  since : List JournalSlot
  /-- number of slots after the newest seal that holds -/
  tail : Nat
  /-- slots under a seal that holds -/
  good : List JournalSlot
  /-- the newest seal that holds: LAST_RSEQ, device time, CHAIN -/
  newest : Option (Nat × Nat × List (BitVec 8))
  /-- slots of the newest checkpoint whose seal holds -/
  checkpoint : List JournalSlot
deriving DecidableEq, Repr

/-- One slot more is read. A seal holds where its HMAC and its CHAIN do (R495, R502). -/
def State.readSlot (s : State) (a : JournalRead) (x : JournalSlot) : JournalRead :=
  let m := x.before.getD a.chained
  if x.isSeal then
    let ok := x.bytes == s.sealedSlot (x.bytes.take 96) && slice 0x18 32 x.bytes == sha256 m
    { chained := x.chained m, since := [], tail := if ok then 0 else a.tail + 1
      good := if ok then a.good ++ a.since else a.good
      newest := if ok then some (field x.bytes 8 8, field x.bytes 16 8, slice 0x18 32 x.bytes) else a.newest
      checkpoint := if ok ∧ slotArea x.addr = 2 then a.since else a.checkpoint }
  else { a with chained := x.chained m, since := a.since ++ [x], tail := a.tail + 1 }

/-- The journal read from its oldest slot on; CHAIN is zero before RSEQ 1 (Table 15.10). -/
def State.readJournal (s : State) : JournalRead := s.recorder.journal.foldl s.readSlot ⟨zeros 32, [], 0, [], none, []⟩

/-- Records of the journal that hold, in RSEQ order (R502). -/
def State.records (s : State) : List JournalSlot := s.readJournal.good.filter (·.isRecord)
/-- RSEQ of a record slot. -/
def JournalSlot.rseq (x : JournalSlot) : Nat := field x.bytes 0 8
/-- Records of an area. -/
def State.recordsOf (s : State) (area : Nat) : List JournalSlot := s.records.filter fun x => slotArea x.addr == area
/-- Records from one RSEQ to another. -/
def State.recordsIn (s : State) (first last : Nat) : List JournalSlot := s.records.filter fun x => decide (first ≤ x.rseq ∧ x.rseq ≤ last)
/-- OLDEST_RSEQ: the lowest RSEQ in the circulating area; 0 while it holds none. -/
def State.oldestRseq (s : State) : Nat := (((s.recordsOf 3).head?).map (·.rseq)).getD 0

/-- The histograms of the newest checkpoint that passes its seal (R494). -/
def State.savedHists (s : State) : KeyMap Hist :=
  let slots := s.readJournal.checkpoint.filter fun x => !x.isHeader
  ((blocks 192 (slots.flatMap (·.bytes))).take 64).zipIdx.map fun b => (b.2, histOfBlock b.1)

/-- The journal as the recorder finds it when it starts: slots after the last valid seal are abandoned, those under a seal that fails among them, the sectors
in use are closed, RSEQ, CHAIN and the histograms resume (R494, R498). -/
def State.resumeJournal (s : State) : State :=
  let r := s.recorder
  let a := s.readJournal
  let last := (a.newest.map (·.1)).getD r.sealed
  let saved := s.savedHists
  { s with recorder := { r with
      journal := r.journal.take (r.journal.length - a.tail)
      nextRseq := last + 1, sealed := last, chain := (a.newest.map (·.2.2)).getD r.chain
      circPos := if r.circPos.2 = 0 then r.circPos else (r.circPos.1, 32)
      keptPos := 32 * ceilDiv r.keptPos 32, hists := saved
      histNew := (List.range 64).filter fun h => ((KeyMap.find saved h).map fun x => x.config != s.cfg F_HIST_CONFIG h).getD false } }

end Sys2Proof.Machine
end

