-- ==== Sys2Proof/Machine/Layout.lean ====
section
/-!
DEFINITION. What Apex lays out from the configuration store: sector map, bindings, hold-buffer placement, operand memory, context store
(R115, R155, R158, R267, R280, R281, R301 to R303).
-/

namespace Sys2Proof.Machine

/-- The sector map of SECTOR_MAP's 4,096 bytes, pool sectors unlisted (R155). -/
def mapOf (v : Bytes) : KeyMap Nat := (v.zipIdx.filter fun p => p.1 != 0#8).map fun p => (p.2, p.1.toNat)

/-- The entries of CH_LEN_LIMIT's 1,024 bytes, unlimited ones unlisted (R158). -/
def limitsOf (v : Bytes) : KeyMap Nat :=
  (((blocks 4 v).zipIdx).map fun p => (p.2, leNat p.1)).filter fun p => p.2 != 0xFFFFFFFF

/-- Tenant channels. -/
def tenants : List Nat := (List.range 255).map (· + 1)

/-- The binding that the store gives a channel (Table 4.2). -/
def State.storedBinding (s : State) (c : Nat) : Binding :=
  ⟨s.cfgNat F_CH_FUNCTION c, s.cfgNat F_CH_ISOLATED c != 0, s.cfgNat F_CH_RING_COUNT c⟩

/-- Pool members that the stored bindings give: channel 0, then the bound non-isolated channels (R159). -/
def State.storedMembers (s : State) : List Nat :=
  0 :: tenants.filter fun c => (s.storedBinding c).rings != 0 && !(s.storedBinding c).isolated

/-- Pages free in each of the 16 buffers (R281): none in a buffer whose core is out of service. -/
def State.freeBuffers (s : State) : List Nat :=
  (List.range 16).map fun b => if KeyMap.find s.boot.units b == some .outOfService then 0 else 16

/-- Pages taken from the first buffer that has `n` of them free, with that buffer's number; none where no buffer has (R281). -/
def takePages (n : Nat) : Nat → List Nat → Option (Nat × List Nat)
  | _, [] => none
  | i, f :: rest => if n ≤ f then some (i, (f - n) :: rest)
      else (takePages n (i + 1) rest).map fun r => (r.1, f :: r.2)

/-- One partition placed: whole buffers first, then the remainder in one buffer (R281). -/
def placeOne (c : Nat) : Nat → List Nat → KeyMap Nat → Nat → Option (List Nat × KeyMap Nat)
  | 0, free, m, pages =>
    if pages = 0 then some (free, m)
    else (takePages pages 0 free).map fun r => (r.2, KeyMap.put m (16 * c + r.1) pages)
  | fuel + 1, free, m, pages =>
    if 16 ≤ pages then
      match takePages 16 0 free with
      | none => none
      | some r => placeOne c fuel r.2 (KeyMap.put m (16 * c + r.1) 16) (pages - 16)
    else if pages = 0 then some (free, m)
    else (takePages pages 0 free).map fun r => (r.2, KeyMap.put m (16 * c + r.1) pages)

/-- Every partition placed in ascending channel order; none where the placement fails (R281). -/
def placeAll (free : List Nat) (parts : List (Nat × Nat)) : Option (KeyMap Nat) :=
  (parts.foldl (fun acc p => acc.bind fun a => placeOne p.1 16 a.1 a.2 p.2) (some (free, []))).map (·.2)

/-- The partitions that a binding and page table ask for (R280). -/
def State.partitions (s : State) (binding : Nat → Binding) (pages : Nat → Nat) : Option (KeyMap Nat) :=
  placeAll s.freeBuffers ((tenants.filter fun c => (binding c).rings != 0 && (binding c).isolated && pages c != 0).map fun c => (c, pages c))

/-- CH_HOLD_PAGES of every channel in the store. -/
def State.storedPages (s : State) : KeyMap Nat :=
  (tenants.map fun c => (c, s.cfgNat F_CH_HOLD_PAGES c)).filter fun p => p.2 != 0

/-- CH_OPMEM of every bound channel in the store (R301). -/
def State.storedOpmem (s : State) : KeyMap Nat :=
  (tenants.map fun c => (c, if s.cfgNat F_CH_RING_COUNT c = 0 then 0 else s.cfgNat F_CH_OPMEM c)).filter fun p => p.2 != 0

/-- First KiB of a channel's partition of operand memory (R301). -/
def State.opmemBase (s : State) (c : Nat) : Nat :=
  64 + (s.operand.layout.filter fun p => p.1 < c).foldl (fun acc p => acc + p.2) 0
/-- KiB of a channel's partition of operand memory. -/
def State.opmemOf (s : State) (c : Nat) : Nat := KeyMap.get s.operand.layout 0 c

/-- The service sets' sizes as context store allotments (R267). -/
def State.allotContexts (s : State) : State :=
  { s with cipher := { s.cipher with contexts := s.bound.map fun c => (c, (s.serviceSet c).length) } }

/-- Everything that admission uses, taken from the store at once: at a cold GATE, when nothing is in flight (R167, R301). -/
def State.rebuild (s : State) : State :=
  let ids := tenants.filter fun c => s.cfgNat F_CH_RING_COUNT c != 0
  let s := { s with
    chans := ids.map fun c => (c, { Channel.reset with binding := s.storedBinding c, lenLimit := limitsOf (s.cfg F_CH_LEN_LIMIT c) })
    wheel := { Wheel.reset with map := mapOf (s.cfg F_SECTOR_MAP 0), members := s.storedMembers, pool := 4096000 }
    cipher := { CipherState.reset with holdPages := s.storedPages }
    operand := { OperandState.reset with layout := s.storedOpmem } }
  let s := { s with
    chans := KeyMap.mapVals s.chans fun c x => { x with budget := s.capPs c }
    cipher := { s.cipher with
      placement := (s.partitions (fun c => (s.chan c).binding) fun c => KeyMap.get s.cipher.holdPages 0 c).getD [] } }
  s.allotContexts

end Sys2Proof.Machine
end

