-- ==== Sys2Proof/Machine/PairOps.lean ====
section
/-!
DEFINITION. What the Chord link carries of admissions and releases (R393, R395 to R397; Tables 12.4, 12.5).
-/

namespace Sys2Proof.Machine

/-- A NOTE alarm of a non-fatal source (Table 13.4). -/
def State.noteAlarm (s : State) : State := (s.alarm ⟨2 ^ 28, 1, false, none, [(0xFF, 1)], [], none⟩ none).1

/-- The key of a direction: the sender's PAIR_ROLE chooses it (R393). -/
def State.chordKey (s : State) (sender : Nat) : Bytes := slice (32 * (sender % 2)) 32 s.pair.keys

/-- The IV of a frame: the direction and the 64-bit frame sequence (R393; log 38). -/
def chordIv (sender seq : Nat) : Bytes := zeros 3 ++ u8 (sender % 2) ++ beBytes 8 seq

/-- A protected frame's body: sequence, ciphertext and tag (R393; log 38). -/
def State.sealFrame (s : State) (type seq : Nat) (body : Bytes) : Bytes :=
  let role := s.cfgNat F_PAIR_ROLE 0
  let f := aesE (s.chordKey role)
  let iv := chordIv role seq
  let c := gcmCtr f iv body
  u64 seq ++ c ++ gcmTag f iv (u8 type) c

/-- A frame opened: its sequence and body, where the tag verifies (R393). -/
def State.openFrame (s : State) (type : Nat) (frame : Bytes) : Option (Nat × Bytes) :=
  let role := 1 - s.cfgNat F_PAIR_ROLE 0 % 2
  let f := aesE (s.chordKey role)
  let seq := field frame 0 8
  let iv := chordIv role seq
  let c := (frame.drop 8).take (frame.length - 24)
  if 24 ≤ frame.length ∧ gcmTag f iv (u8 type) c = frame.drop (frame.length - 16) then some (seq, gcmCtr f iv c) else none

/-- A frame is sent, while the link is up and HELLO is done (R393). -/
def State.sendFrame (s : State) (type : Nat) (body : Bytes) : State :=
  if s.pair.hello && s.pair.lanes != 0 then
    let seq := s.pair.txSeq + 1
    ({ s with pair := { s.pair with txSeq := seq } }).emit (.chord type (s.sealFrame type seq body))
  else s

/-- A ledger entry's 32 bytes (Table 12.5). -/
def LedgerEntry.bytes (e : LedgerEntry) : Bytes :=
  u64 e.tag ++ u64 e.release ++ u8 e.chan ++ u8 (e.ring % 4 + 4 * flag e.miss + 8 * flag e.refused) ++ u16 e.slot ++ zeros 12

/-- A ledger entry from its bytes. -/
def ledgerOf (b : Bytes) : LedgerEntry :=
  ⟨field b 0 8, field b 8 8, byteAt b 0x10, byteAt b 0x11 % 4, bit (byteAt b 0x11) 2, bit (byteAt b 0x11) 3, field b 0x12 2⟩

/-- The ledger entry of an item. -/
def Item.ledger (x : Item) (c : Nat) : LedgerEntry :=
  ⟨dTag x.desc, x.release, c, x.ring, x.cls == .miss, x.cls == .refused, x.slot⟩

/-- The pair mirrors admissions: PAIRED, or LINK_LOST before its deadline (R397, R398). -/
def State.mirrors (s : State) : Bool := s.pair.mode == .paired || s.pair.mode == .linkLost

/-- An admission is told to the partner in an ADMIT frame (R396). -/
def State.tellAdmit (s : State) (c : Nat) (x : Item) : State :=
  if s.mirrors then
    let s := s.sendFrame 0x03 (x.ledger c).bytes
    { s with pair := { s.pair with admits := s.pair.admits ++ [(s.pair.txSeq, c, x.seq)] } }
  else s

/-- One entry of a REL frame: channel, ring, slot (Table 12.4; 4 bytes, log 38). -/
def relBytes (c ring slot : Nat) : Bytes := u8 c ++ u8 ring ++ u16 slot

/-- A written record is told to the partner in a REL frame (R396). -/
def State.tellRel (s : State) (c : Nat) (x : Item) : State :=
  if s.mirrors then
    let s := s.sendFrame 0x04 (relBytes c x.ring x.slot)
    { s with pair := { s.pair with rels := s.pair.rels ++ [(s.pair.txSeq, c)] } }
  else s

/-- Items of a channel that will have no record from either member are told as if written (R30, R416). -/
def State.tellAll (s : State) (c : Nat) : State :=
  ((s.chan c).admitted ++ (s.chan c).heldRecords).foldl (fun s x => if x.silent then s else s.tellRel c x) s

/-- A record may be written now: its admission is acknowledged and fewer than 8 REL entries of the channel wait (R397). -/
def State.mayWrite (s : State) (c : Nat) (x : Item) : Bool :=
  !s.mirrors || (!(s.pair.admits.any fun a => a.2 == (c, x.seq)) && decide ((s.pair.rels.filter fun r => r.2 == c).length < 8))

/-- The confirmed head of a ring: the slot of its earliest item whose admission the partner has not acknowledged or that is not admitted, or the
next slot to fetch (R397). -/
def State.confirmedHead (s : State) (c r : Nat) : Nat :=
  let x := s.chan c
  let unacked := (x.admitted ++ x.heldRecords).filter fun y => s.pair.admits.any fun a => a.2 == (c, y.seq)
  let left := (unacked ++ x.decoded).filter fun y => y.ring == r
  match left.foldl (fun (best : Option Item) y => match best with
      | none => some y
      | some b => if y.seq < b.seq then some y else some b) none with
  | some y => y.slot
  | none => (s.sq c r).head

/-- The device's head of a ring, as SQn.HEAD reports it and as the reuse of slots is judged: the confirmed head while admissions are mirrored (R133, R397). -/
def State.deviceHead (s : State) (c r : Nat) : Nat := if s.mirrors then s.confirmedHead c r else (s.sq c r).head

/-! ### PAIR_STATE and HELLO (R393, Table 12.9) -/

/-- The pair's state changed. -/
def State.updPair (s : State) (f : PairState → PairState) : State := { s with pair := f s.pair }

/-- The device is bound to a partner (R384). -/
def State.isPaired (s : State) : Bool := !allZero (s.cfg F_PAIR_PARTNER 0)

/-- PAIR_STATE changes: notice 0x0600 to every realm-0 session, trigger 7 (Table 12.9, Table 15.4). -/
def State.setPairMode (s : State) (m : PairMode) : State :=
  if s.pair.mode = m then s
  else
    let s := { s with pair := { s.pair with mode := m } }
    (s.notify 0 0x0600 0 m.code).trigger 7 0 m.code

/-- The LINK key, where its slot is active (R388, R393). -/
def State.linkKey (s : State) : Option Bytes :=
  let v := s.slot 0 2
  if v.state = 1 then some (fit 32 v.material) else none

/-- HELLO before its HMAC: versions 2.0 and 2.1, role, serial, nonce, MSEQ, device time (R393; log 38). -/
def State.helloBody (s : State) (nonce : Bytes) : Bytes :=
  u8 2 ++ u8 1 ++ u8 (s.cfgNat F_PAIR_ROLE 0) ++ s.serial ++ nonce ++ u64 s.pair.mseq ++ u64 s.now

/-- HELLO is sent once the lanes are up and the vault is open, with a fresh nonce; until the partner's arrives the link is not up (R391, R393). -/
def State.sendHello (s : State) : State :=
  match s.linkKey with
  | none => s
  | some k =>
    if s.isPaired && s.boot.vaultOpen && s.pair.lanes != 0 then
      let (nonce, s) := s.draw 32
      let body := s.helloBody nonce
      ({ s with pair := { s.pair with nonce := nonce, hello := false } }).emit (.chord 0x01 (body ++ hmac k body))
    else s

/-- Nanoseconds of PAIR_START_WAIT, with member 1's hold-off (R404). -/
def State.startWait (s : State) : Nat := 1000000000 * s.cfgNat F_PAIR_START_WAIT 0 + (if s.cfgNat F_PAIR_ROLE 0 = 1 then 512000 else 0)

/-- Tenant channels that CH_HOME gives to this member. -/
def State.ownHomes (s : State) : List Nat :=
  ((List.range 255).map (· + 1)).filter fun c => s.cfgNat F_CH_HOME c == s.cfgNat F_PAIR_ROLE 0

/-- What the device knows of its pair once Facet starts: PAIR_STATE, G_FENCED, and the first deadline, PAIR_START_WAIT after step 4; `waited` is
the time since then (R404, R406, R416; log 63). -/
def State.startPair (s : State) (waited : Nat) : State :=
  let s := s.setGates fun g => { g with fenced := s.pair.fenceIn }
  let m : PairMode := if s.pair.fenceIn then .fenced else if s.isPaired then .linkDown else .unpaired
  let s := { s with pair := { s.pair with
    away := if s.pair.fenceIn then s.ownHomes else []
    deadline := if s.isPaired && !s.pair.fenceIn then some (s.now + (s.startWait - waited)) else none } }
  s.setPairMode m

end Sys2Proof.Machine
end

