-- ==== Sys2Proof/Machine/Gate.lean ====
section
/-!
DEFINITION. What the GATEs share: cold and warm GATE, what they clear, the release sequence, bus verification's start and end, entry into
RECOVER, the monotonic record (R36, R49 to R65, R119, R327, R342, R350 to R357).
-/

namespace Sys2Proof.Machine

/-- The device is powered and out of reset, so that its ports answer (R43, R549). -/
def State.alive (s : State) : Bool := s.ms.mode != .off && s.ms.mode != .sentinel && !s.boot.inReset

/-- A command that only an alive device can take: on another it changes nothing. -/
def runOn (s : State) (f : State → State) : Host.Outcome State Fault Refusal := run s fun s => if s.alive then f s else s

/-! ### Rings and items at a GATE -/

/-- A field of a ring group, or of its interrupt moderation (R119). -/
def ringField (f : Nat) : Bool :=
  f == F_SQ_BASE || f == F_SQ_SIZE || f == F_SQ_FORMAT || f == F_CQ_BASE || f == F_CQ_SIZE || f == F_CQ_VECTOR
    || f == F_CQ_MOD_COUNT || f == F_CQ_MOD_TIMER

/-- Every GATE clears the ring groups and all admission state (R65, R119); what the lost items held becomes free. Operand slots keep their contents
and owner tags (R324). -/
def State.clearRings (s : State) : State :=
  { s with
    orfer := { s.orfer with cfg := KeyMap.keep s.orfer.cfg fun k _ => !ringField (keyField k) }
    chans := KeyMap.mapVals s.chans fun _ x =>
      { x with sqs := [], cq := Cq.reset, used := 0, halted := false, cqWait := none, fetching := none, stale := false, decoded := [], admitted := [], heldRecords := [] }
    cipher := { s.cipher with pagesUsed := [], pageData := [], store := [], feeds := [] }
    operand := { s.operand with dir := KeyMap.mapVals s.operand.dir fun _ e => { e with inUse := false } }
    keys := { s.keys with cache := KeyMap.mapVals s.keys.cache fun _ e => { e with pins := 0 }, loads := [] } }

/-! ### The release sequence (R56 to R60) -/

/-- Step record `i` of REL_STEPS in force (Table 2.10). -/
def State.relStep (s : State) (i : Nat) : Bytes := slice (12 * i) 12 s.rel.steps
/-- OUT_MASK. -/
def stepMask (r : Bytes) : Nat := field r 0 3
/-- DELAY in ns. -/
def stepDelay (r : Bytes) : Nat := 100000 * field r 4 2
/-- TIMEOUT in ns. -/
def stepTimeout (r : Bytes) : Nat := 1000000 * field r 6 2
/-- NEEDS. -/
def stepNeeds (r : Bytes) : Nat := byteAt r 8 % 4
/-- WAIT_IN. -/
def stepWaitIn (r : Bytes) : Nat := byteAt r 9
/-- WAIT_LVL. -/
def stepWaitLevel (r : Bytes) : Bool := byteAt r 0xA == 1

/-- The phase of the release sequence set. -/
def State.setPhase (s : State) (p : ReleasePhase) : State := { s with rel := { s.rel with phase := p } }

/-- Step `i` of the release sequence starts: its DELAY runs (R56). -/
def State.startStep (s : State) (i : Nat) : State :=
  { s with rel := { s.rel with step := i, phase := .delay (s.now + stepDelay (s.relStep i)) } }

/-- The release sequence starts (step 9 of Table 2.5). -/
def State.startRelease (s : State) : State :=
  ({ s with boot := { s.boot with step := 9 } }).startStep 0

/-- The bus has passed in this GATE and no PLAT_VERIFY has failed it since (R327, R357). -/
def Bus.good (x : Bus) : Bool := x.passed && x.plat != 2

/-- The conditions of NEEDS hold: the buses it names have been verified (R56). -/
def State.needsMet (s : State) (needs : Nat) : Bool :=
  (!bit needs 0 || s.busA.good) && (!bit needs 1 || s.busB.good)

/-- The host side of a bus opens (R327). -/
def State.openBus (s : State) (b : Nat) : State := s.updBus b fun x => { x with opened := true }

/-- The buses that a completed step opens (R327). -/
def State.openFor (s : State) (needs : Nat) : State :=
  let s := if bit needs 0 then s.openBus 0 else s
  if bit needs 1 then s.openBus 1 else s

/-- Some step of the release sequence names the bus. -/
def State.namesBus (s : State) (b : Nat) : Bool := (List.range s.rel.count).any fun i => bit (stepNeeds (s.relStep i)) b

/-! ### The monotonic record (R190, R351 to R353, Table 10.16) -/

/-- The seal under FLASH-SEAL of what Apex keeps in the private flash: the MAC form of the record entries (Table 6.2, Table 10.16, R184, R352; log 12). -/
def State.sealOf (s : State) (b : Bytes) : Bytes := fit 16 (hmac (s.rootKey "FLASH-SEAL") b)

/-- The copy of the LINK slot as it is sealed (R390). -/
def linkBytes (material : Bytes) (gen : Nat) (kcv : Bytes) : Bytes := fit 32 material ++ u32 gen ++ fit 8 kcv

/-- A record entry: KIND, INDEX, SEQ, VALUE and SEED_GEN under its MAC (Table 10.16). -/
def State.recordEntry (s : State) (kind index seq value seedGen : Nat) : Bytes :=
  let b := ascii "JGMR" ++ u8 kind ++ u8 0 ++ u16 index ++ u64 seq ++ u32 value ++ u32 seedGen ++ zeros 24
  b ++ s.sealOf b
/-- An entry's MAGIC, reserved bytes and MAC are correct (R352). -/
def State.recordValid (s : State) (e : Bytes) : Bool :=
  e.length == 64 && slice 0 4 e == ascii "JGMR" && byteAt e 5 == 0 && allZero (slice 0x18 24 e)
    && slice 0x30 16 e == s.sealOf (e.take 48)
/-- The valid entries of both blocks (R352). -/
def State.recordEntries (s : State) : List Bytes := (s.priv.block0 ++ s.priv.block1).filter s.recordValid
/-- The table key under which a slot generation is held: INDEX, and SEED_GEN for a storage slot (R190). -/
def genKey (index seedGen : Nat) : Nat :=
  index + (if (index < 4 ∧ index = 1) ∨ (4 ≤ index ∧ index % 4 = 0) then 1024 * (1 + seedGen) else 0)
/-- SEED_GEN of such a key. -/
def genSeed (key : Nat) : Nat := if key < 1024 then 0 else key / 1024 - 1
/-- The largest VALUE by key among the entries of a KIND (R352). -/
def recordedBy (es : List Bytes) (kind : Nat) (key : Bytes → Nat) : KeyMap Nat :=
  (es.filter fun e => byteAt e 4 == kind).foldl (fun m e => KeyMap.put m (key e) (max (KeyMap.get m 0 (key e)) (field e 0x10 4))) []
/-- Apex reads the recorded values and the highest SEQ from the private flash (R352). -/
def State.readRecord (s : State) : State :=
  let es := s.recordEntries
  { s with
    keys := { s.keys with record := recordedBy es 2 fun e => genKey (field e 6 2) (field e 0x14 4) }
    priv := { s.priv with svn := recordedBy es 1 fun e => field e 6 2, recordSeq := es.foldl (fun n e => max n (field e 8 8)) 0 } }
/-- The record passes its seal: a valid entry has the anchor's SEQ and none a higher one; a zero anchor is not checked (R353). -/
def State.recordSealed (s : State) : Bool :=
  let es := s.recordEntries
  s.tamper.anchor == 0 || (es.any (fun e => field e 8 8 == s.tamper.anchor) && es.all fun e => decide (field e 8 8 ≤ s.tamper.anchor))
/-- Nonzero recorded values as KIND, INDEX, VALUE, SEED_GEN. -/
def State.recordValues (s : State) : List (Nat × Nat × Nat × Nat) :=
  (s.priv.svn.filter fun p => p.2 != 0).map (fun p => (1, p.1, p.2, 0))
    ++ (s.keys.record.filter fun p => p.2 != 0).map fun p => (2, p.1 % 1024, p.2, genSeed p.1)
/-- Compaction: one entry for each value in the other block; the block that was in use is erased (R352). -/
def State.compactRecord (s : State) : State :=
  let es := s.recordValues.zipIdx.map fun p => s.recordEntry p.1.1 p.1.2.1 (s.priv.recordSeq + 1 + p.2) p.1.2.2.1 p.1.2.2.2
  let seq := s.priv.recordSeq + es.length
  let other := 1 - s.priv.recordBlock
  { s with
    priv := { s.priv with
      recordSeq := seq, recordBlock := other, block0 := if other = 0 then es else [], block1 := if other = 0 then [] else es }
    tamper := { s.tamper with anchor := seq } }
/-- An entry appended to the block in use, and the anchor moved; a full block of 1,024 entries is compacted, the raised value among them (R352, R353).
The entry is told to the partner while the link is up: `frame` is its record of resynchronisation (Table 12.7, R395; log 38). -/
def State.appendRecord (s : State) (kind index value seedGen : Nat) (frame : Bytes) : State :=
  let used := if s.priv.recordBlock = 0 then s.priv.block0 else s.priv.block1
  let seq := s.priv.recordSeq + 1
  let es := used ++ [s.recordEntry kind index seq value seedGen]
  let s :=
    if 1024 ≤ used.length then s.compactRecord
    else { s with
      priv := { s.priv with
        recordSeq := seq
        block0 := if s.priv.recordBlock = 0 then es else s.priv.block0
        block1 := if s.priv.recordBlock = 0 then s.priv.block1 else es }
      tamper := { s.tamper with anchor := seq } }
  s.sendFrame 0x07 frame

/-- A generation as a record of resynchronisation: key and value (log 38). -/
def genFrame (key v : Nat) : Bytes := u8 4 ++ u64 key ++ u32 v
/-- An SVN as a record of resynchronisation (log 38). -/
def svnFrame (b v : Nat) : Bytes := u8 5 ++ u8 b ++ u32 v
/-- The generation of a slot appended (R190). -/
def State.appendGen (s : State) (key v : Nat) : State := s.appendRecord 2 (key % 1024) v (genSeed key) (genFrame key v)

/-- The recorded SVN of a bus is raised, never lowered; a write that fails leaves it and records ST_FLASH_TIMEOUT (R351, R352, R359; log 142). -/
def State.raiseSvn (s : State) (b v : Nat) : State :=
  if v ≤ KeyMap.get s.priv.svn 0 b then s
  else if ¬ s.privWrites then s.updBus b fun x => { x with last := ST_FLASH_TIMEOUT }
  else
    ({ s with priv := { s.priv with svn := KeyMap.put s.priv.svn b v } }).appendRecord 1 b v 0 (svnFrame b v)

/-- SVN of a manifest (Table 10.13). -/
def manifestSvn (m : Bytes) : Nat := field m 0x0C 4

/-- PLAT_POLICY of a bus. -/
def State.platPolicy (s : State) (b : Nat) : Nat := s.cfgNat F_PLAT_POLICY b

/-- The end of the release sequence: buses that no step names open, SVNs with SVN_AUTO are raised, and the next boundary evaluates the
gates (R327, R351, step 10 of Table 2.5). -/
def State.endRelease (s : State) : State :=
  let s := { s with rel := { s.rel with phase := .complete, step := s.rel.count }, boot := { s.boot with step := 10 } }
  let s := s.setGates fun g => { g with held := false }
  [0, 1].foldl (fun s b =>
    let s := if s.namesBus b then s else s.openBus b
    match (s.bus b).gateManifest with
    | some m => if bit (s.platPolicy b) 2 && bit (s.platPolicy b) 0 && (s.bus b).passed then s.raiseSvn b (manifestSvn m) else s
    | none => s) s

/-- A release step completes (R57): its buses open, and the next step or the end follows. -/
def State.stepDone (s : State) : State :=
  let s := s.openFor (stepNeeds (s.relStep s.rel.step))
  if s.rel.step + 1 < s.rel.count then s.startStep (s.rel.step + 1) else s.endRelease

/-- SERVICE outputs of the steps whose NEEDS a test passes are released (R55, R59). -/
def State.releaseService (s : State) (ok : Nat → Bool) : State :=
  s.releaseOut fun n => s.isService n &&
    (List.range s.rel.count).any fun i => bit (stepMask (s.relStep i)) n && ok (stepNeeds (s.relStep i))

/-- The device stays in GATE with G_HELD; the SERVICE outputs whose steps have no unmet NEEDS are released, and the buses that such steps
name open (R55, R59, R327). An output that a warm GATE finds released stays so, whatever its bus then does (log 146). -/
def State.holdInGate (s : State) : State :=
  let s := (s.setPhase .held).setGates fun g => { g with held := true }
  let s := s.releaseService s.needsMet
  (List.range s.rel.count).foldl (fun s i =>
    let n := stepNeeds (s.relStep i)
    if s.needsMet n && (List.range 24).any fun k => bit (stepMask (s.relStep i)) k && s.isService k then s.openFor n else s) s

/-- The release sequence group takes effect (R66). -/
def State.loadRelease (s : State) : State :=
  { s with rel := { s.rel with
      gpioCfg := s.cfg F_GPIO_CFG 0, count := s.cfgNat F_REL_COUNT 0, steps := s.cfg F_REL_STEPS 0
      phase := .idle, step := 0, attempts := 0 } }

/-- The GPIOs follow a new GPIO_CFG at a warm GATE (R49, R66): an output goes to its held level, but a SERVICE output that is released, and was
one before, keeps its released level; a GPIO that is an output no longer is driven no longer. -/
def State.settleGpios (s : State) (old : Bytes) : State :=
  (List.range 24).foldl (fun s n =>
    let keeps := s.isService n && bit (byteAt old n) 0 && bit (byteAt old n) 3 && s.rel.released.contains n
    let forget (s : State) : State := { s with rel := { s.rel with released := s.rel.released.filter (· != n) } }
    if !s.isOutput n then
      if bit (byteAt old n) 0 then
        let t := forget s
        ({ t with rel := { t.rel with driven := KeyMap.del t.rel.driven n } }).emit (.float (.gpio n))
      else s
    else if !keeps then (forget s).drive n (s.heldLevel n)
    else if KeyMap.find s.rel.driven n == some (s.releasedLevel n) then s
    else s.drive n (s.releasedLevel n)) s

/-! ### Verification of the buses (R327, R350) -/

/-- The golden set of a bus exists (R355). -/
def State.goldenExists (s : State) (b : Nat) : Bool :=
  match KeyMap.find s.priv.golden b with
  | some g => g.intact && decide (KeyMap.get s.priv.svn 0 b ≤ manifestSvn g.manifest)
  | none => false

/-- A bus counts as verified: VERIFY is 0 and its flash side is up (R328), or it has passed. -/
def State.passUnverified (s : State) (b : Nat) : State :=
  if bit (s.platPolicy b) 0 || !(s.bus b).flashUp then s
  else s.updBus b fun x => { x with verifying := 0, passed := true, plat := 1 }

/-- Verification of a bus begins in a GATE: its host side closes and its result is pending (R327, R350). -/
def State.startVerify (s : State) (b : Nat) : State :=
  (s.updBus b fun x => { x with
      opened := false, dirty := false, frame := none, restoring := none, verifying := 1, manifestOk := false, gateManifest := none, passed := false, toCheck := [], failing := 0, last := 0
      plat := 0 }).passUnverified b

/-- Region `r` of the golden manifest is known to match its digest: a region of the bus's own manifest that has it in the same place with the same
digest has passed, and the bus has not been written since (R355). -/
def State.matchesGolden (s : State) (b : Nat) (golden : Bytes) (r : Nat) : Bool :=
  let x := s.bus b
  let key (e : Bytes) : Bytes := slice 0 10 e ++ slice 16 48 e
  x.manifestOk && !x.dirty && x.toCheck.isEmpty && match x.manifest with
  | some m => (List.range (byteAt m 0x0B)).any fun i => !bit x.failing i && key (slice (128 + 64 * i) 64 m) == key (slice (128 + 64 * r) 64 golden)
  | none => false

/-- The areas of a bus that its restoration covers (R355): the failing regions, or the manifest's own area, numbered 32, with every region of the golden
manifest that is not known to match its golden digest. One whose digest is read and matches leaves the list (log 145). -/
def State.restoreAreas (s : State) (b : Nat) : List Nat :=
  match KeyMap.find s.priv.golden b with
  | none => []
  | some g =>
    if (s.bus b).manifest = some g.manifest then (List.range 32).filter fun r => bit (s.bus b).failing r
    else 32 :: (List.range (byteAt g.manifest 0x0B)).filter fun r => !s.matchesGolden b g.manifest r

/-- Erases that cover `len` bytes from `base` on, each the largest unit of Table 10.5 that fits: opcode and address (R356). -/
def eraseUnits : Nat → Nat → Nat → List (Nat × Nat)
  | 0, _, _ => []
  | fuel + 1, base, len =>
    if len = 0 then []
    else
      let u := if base % 65536 = 0 ∧ 65536 ≤ len then 65536 else if base % 32768 = 0 ∧ 32768 ≤ len then 32768 else 4096
      (if u = 65536 then 0xDC else if u = 32768 then 0x5C else 0x21, base) :: eraseUnits fuel (base + u) (len - u)

/-- Erases sent to a flash, WRITE ENABLE before each. -/
def State.sendErases (s : State) (b cs base len : Nat) : State :=
  (eraseUnits (len / 4096 + 1) base len).foldl (fun s e => (s.emit (.flash b cs 0x06 0 [])).emit (.flash b cs e.1 e.2 [])) s

/-- The area of a bus next to be restored is erased and programmed from the golden set, the manifest at MANIFEST_LOC over whole sectors (R355, R356). -/
def State.startArea (s : State) (b : Nat) : State :=
  let op := if byteAt (s.bus b).timing 0 = 1 then 0x34 else 0x12
  match (s.bus b).restoring, KeyMap.find s.priv.golden b with
  | some r, some g =>
    match r.areas with
    | [] => s
    | a :: _ =>
      if a = 32 then
        let loc := s.cfg F_MANIFEST_LOC b
        let s := s.sendErases b (byteAt loc 0) (field loc 1 4) (4096 * ceilDiv g.manifest.length 4096)
        (blocks 256 g.manifest).zipIdx.foldl (fun s p =>
          (s.emit (.flash b (byteAt loc 0) 0x06 0 [])).emit (.flash b (byteAt loc 0) op (field loc 1 4 + 256 * p.2) p.1)) s
      else
        let e := slice (128 + 64 * a) 64 g.manifest
        (s.sendErases b (byteAt e 8) (field e 0 4) (field e 4 4)).emit (.flashPages b (byteAt e 8) op (field e 0 4) (field e 4 4))
  | _, _ => s

/-- Every area of a bus is restored: trigger 6 and the notice (R358). -/
def State.areasDone (s : State) (b : Nat) : State :=
  let s := s.updBus b fun x => { x with restored := true }
  let s := s.trigger 6 ST_OK (b + 256 * (s.bus b).plat)
  s.notify 0 0x0402 ST_OK b

/-- Entry into RECOVER for a set of buses (R36, R55, R355): HOST outputs held; SERVICE outputs held where their bus is being restored,
released otherwise; the restored buses belong to the device. -/
def State.enterRecover (s : State) (buses cause : Nat) : State :=
  let mine (needs : Nat) : Bool := needs &&& buses != 0
  let s := { s with recov := ⟨none, buses, 0⟩, boot := { s.boot with step := 0 } }
  let s := [0, 1].foldl (fun s b => if bit buses b then
    let r : Restore := ⟨s.restoreAreas b, false⟩
    s.updBus b fun x => { x with opened := false, frame := none, plat := 2, passed := false, verifying := 0, recovers := x.recovers + 1, restoring := some r }
    else s) s
  let heldOut (n : Nat) : Bool := !s.isService n ||
    (List.range s.rel.count).any fun i => bit (stepMask (s.relStep i)) n && mine (stepNeeds (s.relStep i))
  let s := s.hold heldOut
  let s := s.releaseOut fun n => !heldOut n
  let s := (List.range s.rel.count).foldl (fun s i =>
    let n := stepNeeds (s.relStep i)
    if n ≠ 0 ∧ !mine n ∧ s.needsMet n then s.openFor n else s) s
  let s := s.dropTxns false
  let s := ((s.setPhase .idle).setMode .recover .none cause).closeAdmins
  [0, 1].foldl (fun s b => if bit buses b then
    (if ((s.bus b).restoring.map fun r => r.areas.isEmpty).getD true then s.areasDone b else s.startArea b)
    else s) s

/-- Both verifications of a GATE have ended: release sequence, RECOVER for the failed buses with a golden set, or G_HELD (R55, R356). -/
def State.platformNext (s : State) : State :=
  if s.ms.mode != .gate || s.boot.step != 8 || s.busA.verifying == 1 || s.busB.verifying == 1 then s
  else
    let failed := [0, 1].filter fun b => !(s.bus b).good
    let again := failed.filter fun b => s.goldenExists b && decide ((s.bus b).recovers < 2)
    if failed.isEmpty then s.startRelease
    else if again.isEmpty then ({ s with boot := { s.boot with step := 9 } }).holdInGate
    else s.enterRecover (again.foldl (fun acc b => acc + 2 ^ b) 0) 5

/-! ### The two GATEs -/

/-- GATE is entered again from a running mode (R49, R65, R107, R119); its release sequence has not completed, so G_HELD is 1 (log 43). -/
def State.enterGate (s : State) (cause : Nat) : State :=
  let s := s.bound.foldl State.tellAll s
  let s := s.clearRings
  let s := { s with
    recov := ⟨none, 0, 0⟩
    boot := { s.boot with step := 8 }
    ms := { s.ms with mode := .gate, base := .none, cause := cause, causes := [cause], gates := { s.ms.gates with held := true } } }
  let s := s.loadRelease.settleGpios s.rel.gpioCfg
  let s := s.dropTxns false
  s.announceMode.closeAdmins

/-- The shadows of a bus reset at every GATE (R339). -/
def State.resetShadows (s : State) (b : Nat) : State :=
  s.updBus b fun y => { y with cs0 := { Shadow.reset with sr1 := y.cs0.sr1, sr2 := y.cs0.sr2 }, cs1 := { Shadow.reset with sr1 := y.cs1.sr1, sr2 := y.cs1.sr2 } }

/-- A bus at the entry to a GATE that is not cold (R327): a clean, open bus that was not being restored stays open and keeps its result; any other
closes and is verified again. -/
def State.busAtGate (s : State) (b : Nat) (restored : Bool) : State :=
  let x := s.bus b
  let s := s.resetShadows b
  if restored || x.dirty || !x.ops.isEmpty || x.verifying != 0 || !x.opened then s.startVerify b else s

/-- A warm GATE starts at platform verification. `restored` names the buses that a restoration has just written. -/
def State.warmGate (s : State) (restored cause : Nat) : State :=
  ([0, 1].foldl (fun s b => s.busAtGate b (bit restored b)) (s.enterGate cause)).platformNext

/-- A restoration that failed twice returns to GATE with the bus failed and G_HELD set (R356; CAUSE: log 49); the other bus follows R327. -/
def State.gateAfterFailure (s : State) (b : Nat) : State :=
  let other := 1 - b
  let again := bit s.recov.buses other
  let s := ((s.enterGate 8).resetShadows b).busAtGate other again
  ({ s with boot := { s.boot with step := 9 } }).holdInGate

/-- Once every area of every bus in restoration is restored, the device enters a warm GATE (R356, Table 2.3). -/
def State.finishRestore (s : State) : State :=
  if s.ms.mode != .recover then s
  else if [0, 1].all fun b => !bit s.recov.buses b || ((s.bus b).restoring.map fun r => r.areas.isEmpty).getD true then
    s.warmGate s.recov.buses 12
  else s

/-- A cold GATE starts from the boot ROM (Table 2.3, R51): nothing from before it is left but what the private flash, the Sentinel domain and OTP keep. -/
def State.coldGate (s : State) (power : Bool) (cause : Nat) : State :=
  let s := if power then s else s.flushBeforeReset
  let s := s.clearRings
  let s := s.floatAll
  let s := if s.pair.fenceOut then s.emit (.drive .fenceOut false) else s
  let busOf (x : Bus) : Bus := { Bus.reset with timing := x.timing }
  let s := { s with
    now := 0
    ms := if power then ModeState.reset else { ModeState.reset with cause := cause, causes := [cause], history := s.ms.history }
    boot := { BootState.reset with inReset := s.boot.inReset }
    rel := { ReleaseState.reset with inputs := s.rel.inputs }
    recov := RecoverState.reset
    orfer := { Orfer.reset with realms := KeyMap.mapVals s.orfer.realms fun _ r => { Realm.reset with roster := r.roster }, cfg := s.orfer.cfg }
    i3c := if power then I3cState.reset else { I3cState.reset with pointer := s.i3c.pointer, rdOverrun := s.i3c.rdOverrun }
    pcie := { PcieState.reset with perst := s.pcie.perst }
    keys := { s.keys with staged := [], cache := [], loads := [], created := 0, loadCount := [] }
    busA := busOf s.busA
    busB := busOf s.busB
    priv := { PrivState.reset with
      golden := s.priv.golden, svn := s.priv.svn, recordSeq := s.priv.recordSeq, recordBlock := s.priv.recordBlock, block0 := s.priv.block0, block1 := s.priv.block1
      timing := s.cfg F_BUS_TIMING 2 }
    ident := { IdentState.reset with certs := s.ident.certs, domain := s.ident.domain, domainSeal := s.ident.domainSeal, sealFailed := s.ident.sealFailed }
    pair := { PairState.reset with card := s.pair.card, mseq := s.pair.mseq, alone := s.pair.alone, linkCopy := s.pair.linkCopy, linkSeal := s.pair.linkSeal, fenceIn := s.pair.fenceIn }
    tamper := { s.tamper with
      cell := { s.tamper.cell with state := if s.tamper.cell.state = 7 then 0 else s.tamper.cell.state, worn := false, since := s.tamper.cell.since.map fun _ => 0 }
      alarmSev := 0, isolateUntil := none, detectors := KeyMap.mapVals s.tamper.detectors fun _ d => { d with noticeAt := none } }
    otp := { s.otp with jobs := [], jobSince := 0 }
    fw := { s.fw with active := [], running := [], images := [], fallback := [], erasing := none, restartAt := none }
    jtag := DebugState.reset
    recorder := { s.recorder with running := false, staging := [], flushBy := none, retryAt := none, dropped := 0, losses := 0, suppressed := 0, rate := [], stretchSeen := [] }
    tiles := { TileState.reset with avs := { AvsState.reset with base := if power then s.supply.rails.core else s.vddCore } } }
  let s := { s with busA := { s.busA with timing := s.cfg F_BUS_TIMING 0 }, busB := { s.busB with timing := s.cfg F_BUS_TIMING 1 } }
  s.rebuild

end Sys2Proof.Machine
end

