-- ==== Sys2Proof/Machine/Balls.lean ====
section
/-!
DEFINITION. The balls that the device drives: their supply, their reset state, and their state at any time (R527, R528; Tables 17.3 to 17.6).
-/

namespace Sys2Proof.Machine

/-- The reset state of a ball (Tables 17.3 to 17.6). -/
def Ball.resetLevel : Ball → BallLevel
  | .pcieTx _ | .chordTx _ => .idle
  | .fenceOut | .tamperState | .flashSck _ | .flashReset _ | .avsClk | .avsMdata => .low
  | .flashCs _ _ => .high
  | .loopDrv _ => .driven
  | .hostIo _ _ | .flashIo _ _ | .gpio _ | .i3cScl | .i3cSda | .pmbScl | .pmbSda | .tdo => .z

/-- A ball of the Sentinel domain: its supply is VSEN (R528). -/
def Ball.sentinel : Ball → Bool
  | .loopDrv _ | .tamperState => true
  | _ => false

/-- A level that is driven. -/
def levelOf (b : Bool) : BallLevel := if b then .high else .low

/-- The state of a ball between transfers (R527, R528). Without main power only the Sentinel domain's are powered, and without any supply none is; while DEV_RST_N
is low a ball has its reset state, and afterwards until the device drives it otherwise. -/
def State.ball (s : State) (b : Ball) : BallLevel :=
  if s.ms.mode == .off || (s.ms.mode == .sentinel && !b.sentinel) then .z
  else if s.boot.inReset && !b.sentinel then b.resetLevel
  else match b with
  | .pcieTx lane => if s.pcie.up && decide (lane < s.pcie.width) then .driven else .idle
  | .chordTx lane => if bit s.pair.lanes lane then .driven else .idle
  | .fenceOut => levelOf s.pair.fenceOut
  | .tamperState => levelOf s.tamper.tamperState
  | .flashReset port => levelOf (bit s.supply.flashReset port)
  | .flashCs port cs => levelOf (!((port == 0 && s.busA.frame.any fun f => f.cs == cs) || (port == 1 && s.busB.frame.any fun f => f.cs == cs)))
  | .gpio n => match KeyMap.find s.rel.driven n with
    | some l => levelOf l
    | none => .z
  | b => b.resetLevel

/-- The balls of Tables 17.3 to 17.6 that the device drives, but for the GPIOs, whose every change has its own message. -/
def balls : List Ball :=
  (List.range 8).map .pcieTx ++ (List.range 2).map .chordTx ++ [.fenceOut]
    ++ (List.range 2).flatMap (fun b => (List.range 4).map (.hostIo b))
    ++ (List.range 3).flatMap (fun p => [.flashSck p, .flashCs p 0] ++ (if p = 2 then [] else [.flashCs p 1]) ++ [.flashReset p] ++ (List.range 8).map (.flashIo p))
    ++ [.i3cScl, .i3cSda, .pmbScl, .pmbSda, .avsClk, .avsMdata]
    ++ (List.range 4).map .loopDrv ++ [.tamperState, .tdo]

/-- The balls whose state a command has changed are shown (R527, R528); `before` is the state that it began in. -/
def State.showBalls (s before : State) : State :=
  s.emitAll ((balls.filter fun b => s.ball b != before.ball b).map fun b => .ball b (s.ball b))

end Sys2Proof.Machine
end

