-- ==== Sys2Proof/Machine/Cipher.lean ====
section
/-!
DEFINITION. Bulk symmetric opcodes and digests of 08_cipher_cores_and_digest_engine.md as the stage 3 execution of one item (R295).
-/

namespace Sys2Proof.Machine

/-- Contiguous input and output buffers overlap in a way R276 forbids: `off` is where the output may begin inside the input. The buffers are those of
Table 4.7, IN_LEN and OUT_LEN bytes long. -/
def overlapBad (x : ExecIn) (off : Nat) : Bool :=
  let d := x.desc
  let i := dInIova d
  let o := dOutIova d
  let len := dInLen d
  let outLen := dOutLen d
  !(dFormat d == 2 && (dInSgl d || dOutSgl d)) && decide (0 < len ∧ 0 < outLen ∧ o < i + len ∧ i < o + outLen ∧ o ≠ i + off)

/-- Two 8-byte parts are equal when parity bits are ignored (R225). -/
def sameButParity (a b : Bytes) : Bool := a.map (· &&& 0xFE#8) == b.map (· &&& 0xFE#8)

/-- A TDES key whose first two parts are equal but for parity (R225). -/
def tdesWeak (k : KeyView) : Bool := k.isTdes && sameButParity (slice 0 8 k.key) (slice 8 8 k.key)

/-- DIR is 1 or 2. -/
def dirOk (p : Bytes) : Bool := byteAt p 0 == 1 || byteAt p 0 == 2

/-- IV of group 0x4, 16 bytes (Table 8.2). -/
def ivOf (x : ExecIn) : Bytes := slice 0x10 16 x.params

/-- The checks of Table 8.9 before the input is read, for an opcode with its own value check. -/
def bulkChecks (x : ExecIn) (own : Bool) : List (Bool × Nat) :=
  let op := dOpcode x.desc
  let tdes := decide (0x4B ≤ op ∧ op ≤ 0x4D)
  let gcm := decide (0x48 ≤ op ∧ op ≤ 0x4A)
  [ (own && (!tdes || allZero (slice 0x18 8 x.params)) && (!gcm || allZero (slice 0x1C 4 x.params))
      && !overlapBad x (if gcm then dAux x.desc else 0), ST_BAD_VALUE),
    (!(tdes && tdesWeak (x.key 0)), ST_KEY_TYPE) ]

/-- AES_ECB, direction by DIR (R271, R274). -/
def runAesEcb (x : ExecIn) : ExecOut :=
  let k := (x.key 0).key
  checked x (bulkChecks x (dirOk x.params)) fun m =>
    .ok (ecb 16 (if byteAt x.params 0 = 1 then aesE k else aesD k) m)

/-- AES_CBC_ENCRYPT. -/
def runAesCbcEnc (x : ExecIn) : ExecOut :=
  checked x (bulkChecks x true) fun m => .ok (cbcEnc 16 (aesE (x.key 0).key) (ivOf x) m)

/-- AES_CBC_DECRYPT. -/
def runAesCbcDec (x : ExecIn) : ExecOut :=
  checked x (bulkChecks x true) fun m => .ok (cbcDec 16 (aesD (x.key 0).key) (ivOf x) m)

/-- CTR_BITS is 32 to 128 in steps of 8, and the item's blocks do not wrap its counter (R274, R275). -/
def ctrOk (x : ExecIn) : Bool :=
  let b := dArg x.desc
  decide (32 ≤ b ∧ b ≤ 128 ∧ b % 8 = 0) && decide (beNat (ivOf x) % 2 ^ b + ceilDiv (dInLen x.desc) 16 ≤ 2 ^ b)

/-- AES_CTR (R275). -/
def runAesCtr (x : ExecIn) : ExecOut :=
  checked x (bulkChecks x (dirOk x.params && ctrOk x)) fun m => .ok (ctr (aesE (x.key 0).key) (dArg x.desc) (ivOf x) m)

/-- AES_CFB_ENCRYPT. -/
def runAesCfbEnc (x : ExecIn) : ExecOut :=
  checked x (bulkChecks x true) fun m => .ok (cfbEncBlocks (aesE (x.key 0).key) (ivOf x) (blocks 16 m)).flatten

/-- AES_CFB_DECRYPT. -/
def runAesCfbDec (x : ExecIn) : ExecOut :=
  checked x (bulkChecks x true) fun m => .ok (cfbDecBlocks (aesE (x.key 0).key) (ivOf x) (blocks 16 m)).flatten

/-- AES_OFB. -/
def runAesOfb (x : ExecIn) : ExecOut :=
  checked x (bulkChecks x (dirOk x.params)) fun m => .ok (ofbBlocks (aesE (x.key 0).key) (ivOf x) (blocks 16 m)).flatten

/-- AES_XTS: KEY2 is the tweak key (R273, R275). -/
def runAesXts (x : ExecIn) : ExecOut :=
  let k1 := (x.key 0).key
  let k2 := (x.key 1).key
  let u := dArg x.desc
  checked x (bulkChecks x (dirOk x.params && decide (9 ≤ u ∧ u ≤ 16))
      ++ [((x.key 0).alg == (x.key 1).alg && k1 != k2, ST_KEY_TYPE)]) fun m =>
    .ok (xts (if byteAt x.params 0 = 1 then aesE k1 else aesD k1) (aesE k2) u (ivOf x) m)

/-- TAG_LEN is 12 to 16, with zero bytes after the expected tag (R274). -/
def tagOk (x : ExecIn) : Bool :=
  let n := dArg x.desc
  decide (12 ≤ n ∧ n ≤ 16) && (dOpcode x.desc == 0x48 || allZero (slice (0x20 + n) (16 - n) x.params))

/-- AES_GCM_ENCRYPT: C ∥ T (R271, R275). -/
def runGcmEncrypt (x : ExecIn) : ExecOut :=
  let f := aesE (x.key 0).key
  checked x (bulkChecks x (tagOk x)) fun m =>
    let c := gcmCtr f (ivOf x) (m.drop (dAux x.desc))
    .ok (c ++ (gcmTag f (ivOf x) (m.take (dAux x.desc)) c).take (dArg x.desc))

/-- The tag over AAD and C matches the expected one (R284). -/
def gcmMatches (x : ExecIn) (m : Bytes) : Bool :=
  (gcmTag (aesE (x.key 0).key) (ivOf x) (m.take (dAux x.desc)) (m.drop (dAux x.desc))).take (dArg x.desc)
    == slice 0x20 (dArg x.desc) x.params

/-- AES_GCM_DECRYPT: C is decrypted into the item's pages, and nothing is written unless the tag matches (R284). -/
def runGcmDecrypt (x : ExecIn) : ExecOut :=
  checked x (bulkChecks x (tagOk x)) fun m =>
    let p := gcmCtr (aesE (x.key 0).key) (ivOf x) (m.drop (dAux x.desc))
    { (if gcmMatches x m then ExecOut.ok p else ExecOut.fail ST_TAG_FAIL) with held := p }

/-- Poison record `k` of a rejected message of `p` plaintext bytes (Table 8.6). -/
def poisonRecord (x : ExecIn) (p k : Nat) : Bytes :=
  ascii "JGPOISON" ++ u64 (dTag x.desc) ++ u64 x.release ++ u16 ST_TAG_FAIL ++ u8 x.chan ++ u8 x.ring ++ u16 x.slot
    ++ u16 0 ++ u32 (p - 2048 + 64 * k) ++ zeros 28

/-- AES_GCM_DECRYPT_RBV: the plaintext, of which the final segment stays in the item's page, with those last 2,048 bytes replaced by poison records where the tag differs (R285, R286). -/
def runGcmDecryptRbv (x : ExecIn) : ExecOut :=
  checked x (bulkChecks x (tagOk x)) fun m =>
    let c := m.drop (dAux x.desc)
    let p := gcmCtr (aesE (x.key 0).key) (ivOf x) c
    let n := c.length
    let out := if gcmMatches x m then ExecOut.ok p
      else { ExecOut.fail ST_TAG_FAIL with out := p.take (n - 2048) ++ ((List.range 32).map (poisonRecord x n)).flatten }
    { out with provisional := true, detail := n - 2048, held := p.drop (n - 2048) }

/-- TDES_ECB, direction by DIR. -/
def runTdesEcb (x : ExecIn) : ExecOut :=
  let k := (x.key 0).key
  checked x (bulkChecks x (dirOk x.params)) fun m =>
    .ok (ecb 8 (if byteAt x.params 0 = 1 then tdesE k else tdesD k) m)

/-- TDES_CBC_ENCRYPT. -/
def runTdesCbcEnc (x : ExecIn) : ExecOut :=
  checked x (bulkChecks x true) fun m => .ok (cbcEnc 8 (tdesE (x.key 0).key) (slice 0x10 8 x.params) m)

/-- TDES_CBC_DECRYPT. -/
def runTdesCbcDec (x : ExecIn) : ExecOut :=
  checked x (bulkChecks x true) fun m => .ok (cbcDec 8 (tdesD (x.key 0).key) (slice 0x10 8 x.params) m)

/-! ### Digest and HMAC (R290 to R294) -/

/-- The outcome of a digest feed from host memory: short, exact or over the declared length (R290, R291). -/
def digestRun (x : ExecIn) (own : Bool) (f : Bytes → ExecOut) : ExecOut :=
  let d := x.desc
  checked x [(own && !overlapBad x 0, ST_BAD_VALUE)] fun m =>
    if dInLen d < dAux d then { ExecOut.fail ST_LEN_SHORT with detail := dInLen d }
    else
      let r := f (m.take (dAux d))
      if dAux d < dInLen d ∧ r.status = ST_OK then
        { r with status := ST_LEN_OVER, detail := min (dInLen d - dAux d) 0xFFFFFFFF }
      else r

/-- SHA256 (R292). -/
def runSha256 (x : ExecIn) : ExecOut := digestRun x true fun m => .ok (sha256 m)
/-- SHA384 (R292). -/
def runSha384 (x : ExecIn) : ExecOut := digestRun x true fun m => .ok (sha384 m)
/-- SHA512 (R292). -/
def runSha512 (x : ExecIn) : ExecOut := digestRun x true fun m => .ok (sha512 m)

/-- MAC_LEN of the HMAC opcodes is 16 to 32 (R293). -/
def hmacLenOk (x : ExecIn) : Bool := let n := byteAt x.params 0; decide (16 ≤ n ∧ n ≤ 32)

/-- HMAC_SHA256_GENERATE (R294). -/
def runHmacGenerate (x : ExecIn) : ExecOut :=
  digestRun x (hmacLenOk x) fun m => .ok ((hmac (x.key 0).key m).take (byteAt x.params 0))

/-- HMAC_SHA256_VERIFY (R294). -/
def runHmacVerify (x : ExecIn) : ExecOut :=
  let n := byteAt x.params 0
  digestRun x (hmacLenOk x && allZero (slice (0x10 + n) (32 - n) x.params)) fun m =>
    if (hmac (x.key 0).key m).take n == slice 0x10 n x.params then .ok [] else .fail ST_MAC_FAIL

end Sys2Proof.Machine
end

