-- ==== Sys2Proof/Machine/PublicKey.lean ====
section
/-!
DEFINITION. Group 0x6 of 09_public_key_engine.md as the stage 3 execution of one item (R323), but for the opcodes whose
output is a blob (KeyItems.lean).
-/

namespace Sys2Proof.Machine

/-- The public parts of a key (the public-key encoding of R202), from a private or public blob's material. -/
def publicOf (k : KeyView) : Bytes :=
  if k.kind = 3 then k.material.take k.materialLen
  else if k.alg = 0x101 then slice 32 64 k.material
  else if k.alg = 0x102 then slice 48 96 k.material
  else if k.alg = 0x111 then slice 0 (k.bits / 8 + 4) k.material
  else if k.alg = 0x121 then fit 1184 (Config.mlkemPublic (slice 0 64 k.material))
  else if k.alg = 0x133 then slice 64 64 k.material
  else slice 32 32 k.material

/-- Curve size of an ECC ALG. -/
def curveBits (alg : Nat) : Nat := if alg = 0x102 then 384 else 256

/-- A signing item's outcome: what its check before release finds decides (R312). -/
def signed_ (drawn : Nat) (passes : Bool) (sig : Bytes) : ExecOut :=
  { (if passes then ExecOut.ok sig else { ExecOut.fail ST_ENGINE_FAULT with alarm := true }) with drawn := drawn }

/-- ECDSA_P256_SIGN and ECDSA_P384_SIGN: the signature leaves once ECDSA verification under the key's public part has passed (R306, R310 to R312). -/
def runEcdsaSign (n : Nat) (x : ExecIn) : ExecOut :=
  checked x [] fun m =>
    let sig := ecdsaSign n (slice 0 (n / 8) (x.key 0).material) m x.rng
    signed_ (ecdsaDraws n) (ecdsaVerify n (publicOf (x.key 0)) m sig) sig

/-- ECDSA verification on a curve of `n` bits (R322). -/
def runEcdsaVerify (n : Nat) (x : ExecIn) : ExecOut :=
  let pub := publicOf (x.key 0)
  checked x [] fun m =>
    let sig := m.drop (m.length - n / 4)
    if Config.pointValid n pub = false then .fail ST_POINT_INVALID
    else if ecdsaInRange n sig = false then .fail ST_SIG_INVALID
    else if ecdsaVerify n pub (m.take (m.length - n / 4)) sig then .ok []
    else .fail ST_SIG_INVALID

/-- SCHEME, HASH and SALT_LEN of the RSA opcodes are in range (Table 9.5). -/
def rsaParamsOk (x : ExecIn) : Bool :=
  let p := x.params
  let sch := byteAt p 0
  let h := hashBytes (byteAt p 1)
  let e := field p 4 4
  if sch = 1 then h != 0 && byteAt p 2 == 0 && e == 0
  else if sch = 2 then h != 0 && decide (byteAt p 2 ≤ h) && e == 0
  else if sch = 3 then dOpcode x.desc == 0x68 && byteAt p 1 == 0 && byteAt p 2 == 0 && (e == 0 || decide (e % 2 = 1 ∧ 3 ≤ e))
  else false

/-- The modulus of an RSA key. -/
def rsaModulus (k : KeyView) : Nat := beNat (slice 0 (k.bits / 8) k.material)
/-- The public exponent of an RSA key. -/
def rsaExponent (k : KeyView) : Nat := beNat (slice (k.bits / 8) 4 k.material)

/-- RSA_SIGN: the signature leaves once s^e agrees with the encoded message modulo n (R311, R312, R319, R322). -/
def runRsaSign (x : ExecIn) : ExecOut :=
  let k := x.key 0
  let p := x.params
  checked x
    [ (rsaParamsOk x, ST_BAD_VALUE),
      (dAux x.desc == k.bits && dInLen x.desc == hashBytes (byteAt p 1), ST_BAD_LENGTH),
      (rsaExponent k == 65537, ST_KEY_TYPE) ]
    fun m =>
      let len := k.bits / 8
      let salt := randomBytes (x.rng + len + 16) (byteAt p 2)
      let em := if byteAt p 0 = 1 then emPkcs len (byteAt p 1) m else emPss len (byteAt p 1) m salt
      let sig := rsaPrivate k.bits k.material em x.rng
      signed_ (rsaDraws k.bits (byteAt p 2)) (powMod (beNat sig) (rsaExponent k) (rsaModulus k) == beNat em) sig

/-- RSA_PUBLIC: verification or raw exponentiation (R320, R322). -/
def runRsaPublic (x : ExecIn) : ExecOut :=
  let k := x.key 0
  let p := x.params
  let raw := byteAt p 0 == 3
  let len := k.bits / 8
  let n := rsaModulus k
  checked x
    [ (rsaParamsOk x, ST_BAD_VALUE),
      (dAux x.desc == k.bits && dInLen x.desc == (if raw then len else hashBytes (byteAt p 1) + len), ST_BAD_LENGTH) ]
    fun m =>
      if raw then
        let b := beNat m
        let e := if field p 4 4 = 0 then rsaExponent k else field p 4 4
        if n ≤ b then .fail ST_RANGE else .ok (beBytes len (powMod b e n))
      else
        let s := beNat (m.drop (hashBytes (byteAt p 1)))
        if s = 0 ∨ n ≤ s then .fail ST_RANGE
        else if rsaEncodingOk (byteAt p 0) (byteAt p 1) (byteAt p 2) (m.take (hashBytes (byteAt p 1)))
            (beBytes len (powMod s (rsaExponent k) n)) then .ok []
        else .fail ST_SIG_INVALID

/-- Top-tree table length of an SLH-DSA ALG (R313). -/
def slhTableLen (alg : Nat) : Nat := if alg = 0x132 then 128 else 8192
/-- Signature length of an SLH-DSA ALG (Table 9.7). -/
def slhSigLen (alg : Nat) : Nat := if alg = 0x131 then 7856 else if alg = 0x132 then 17088 else 29792
/-- PK.seed and PK.root length of an SLH-DSA ALG. -/
def slhN (alg : Nat) : Nat := if alg = 0x133 then 32 else 16

/-- SCHEME and CTX_LEN of the SLH-DSA opcodes agree with the input after its leading `head` bytes (R306, R309). -/
def slhLenOk (x : ExecIn) (head : Nat) : Bool :=
  let p := x.params
  let rest := dInLen x.desc - head
  let ctx := byteAt p 3
  let msg := rest - ctx
  decide (head ≤ dInLen x.desc ∧ ctx ≤ rest ∧ rest ≤ 4096) &&
    (if byteAt p 0 = 0 then true else if byteAt p 0 = 1 then msg == 32 else msg == 64)

/-- Bytes drawn for the order in which an SLH-DSA item's leaves and chains go to lanes (R311); how many is not stated (log 2). -/
def slhOrderDraws : Nat := 8

/-- SLH-DSA signing with the top-tree table: the signature leaves once every root recomputed from it agrees (R310, R312 to R314, R322). -/
def runSlhSign (x : ExecIn) : ExecOut :=
  let k := x.key 0
  let p := x.params
  let t := slhTableLen k.alg
  let n := slhN k.alg
  let pub := publicOf k
  checked x
    [ (decide (byteAt p 0 ≤ 2 ∧ byteAt p 8 ≤ 1), ST_BAD_VALUE), (slhLenOk x t, ST_BAD_LENGTH) ]
    fun m =>
      if slhTableRoot k.alg (pub.take n) (m.take t) ≠ slice n n pub then .fail ST_BAD_VALUE
      else
        let opt := if byteAt p 8 = 1 then randomBytes x.rng n else pub.take n
        let r := slhSignWith k.alg k.material (byteAt p 0) (slice t (byteAt p 3) m) (m.drop (t + byteAt p 3)) opt (m.take t)
        let hedge := if byteAt p 8 = 1 then n else 0
        { signed_ (hedge + slhOrderDraws) r.2 (fit (slhSigLen k.alg) r.1) with order := randomBytes (x.rng + hedge) slhOrderDraws }

/-- SLH-DSA verification; the chain steps that its digits spare leave the plan (R309, R321, R322). -/
def runSlhVerify (x : ExecIn) : ExecOut :=
  let k := x.key 0
  let p := x.params
  let t := slhSigLen k.alg
  checked x [ (decide (byteAt p 0 ≤ 2), ST_BAD_VALUE), (slhLenOk x t, ST_BAD_LENGTH) ]
    fun m =>
      let ctx := slice t (byteAt p 3) m
      let msg := m.drop (t + byteAt p 3)
      let out := if slhVerify k.alg (publicOf k) (byteAt p 0) ctx msg (m.take t) then ExecOut.ok [] else ExecOut.fail ST_SIG_INVALID
      { out with layers := slhSpared k.alg (publicOf k) (byteAt p 0) ctx msg (m.take t), chains := (slhSet k.alg).chains }

/-- SLH_TOP_TREE (R313). OUT_LEN depends on the key, so it is checked here (R553); the plan falls to the work of the key's set (R315). -/
def runSlhTopTree (x : ExecIn) : ExecOut :=
  let k := x.key 0
  if dOutLen x.desc < slhTableLen k.alg then .fail ST_BAD_LENGTH
  else { ExecOut.ok (fit (slhTableLen k.alg) (slhTopTree k.alg k.material)) with
    spared := topTreeWork 0 - topTreeWork k.alg, drawn := slhOrderDraws, order := randomBytes x.rng slhOrderDraws }

end Sys2Proof.Machine
end

