-- ==== Sys2Proof/Machine/Vault.lean ====
section
/-!
DEFINITION. Vault, key blobs and key cache as named operations (R185 to R211, Tables 6.3 to 6.15).
-/

namespace Sys2Proof.Machine

/-! ### Material and blobs (R200 to R204) -/

/-- MATERIAL_LEN of a KIND, ALG and KEY_BITS (Table 6.13, R202); none where they do not go together. -/
def materialLen (kind alg bits : Nat) : Option Nat :=
  if kind = 1 then (if keyBytes alg ≠ 0 ∧ bits = 8 * keyBytes alg then some 64 else none)
  else if kind = 2 ∨ kind = 3 then
    let priv := decide (kind = 2)
    if alg = 0x101 ∧ bits = 256 then some (if priv then 96 else 64)
    else if alg = 0x102 ∧ bits = 384 then some (if priv then 144 else 96)
    else if alg = 0x111 ∧ (bits = 2048 ∨ bits = 3072 ∨ bits = 4096) then
      some (if priv then bits / 8 + 4 + 5 * (bits / 16) else bits / 8 + 4)
    else if alg = 0x121 ∧ bits = 768 then some (if priv then 64 else 1184)
    else if (alg = 0x131 ∨ alg = 0x132) ∧ bits = 128 then some (if priv then 64 else 32)
    else if alg = 0x133 ∧ bits = 256 then some (if priv then 128 else 64)
    else none
  else none

/-- Length of the padded material: a multiple of 16, at least 64 (R202). -/
def paddedLen (n : Nat) : Nat := max 64 (16 * ceilDiv n 16)

/-- PARENT_SLOT is allowed for an OWNER_CHANNEL (Table 6.10). -/
def parentOk (owner slot : Nat) : Bool := if owner = 0 then slot == 1 || slot == 3 else slot == 0 || slot == 3

/-- A header of 48 bytes as a view, without attributes and material. -/
def headerView (h : Bytes) : KeyView := ⟨h, [], []⟩

/-- Stage b of Table 6.15 on a header (R209). -/
def stageB (h : Bytes) : Bool :=
  let v := headerView h
  slice 0 4 h == ascii "JGKB" && byteAt h 4 == 1 && parentOk v.owner v.slot && allZero (slice 0x28 8 h) &&
  match materialLen v.kind v.alg v.bits with
  | some n => v.totalLen == 96 + paddedLen n
  | none => false

/-- Reserved bytes of the attributes are 0 (Table 6.11). -/
def attrsClean (a : Bytes) : Bool := allZero (slice 0xB 5 a) && allZero (slice 0x18 8 a)

/-- Attribute template, 32 bytes. -/
def cTemplate (p : Bytes) : Bytes := fit 32 (slice 8 32 p)
/-- Reserved bytes and bits of a template are 0 (Table 6.11, R12). -/
def templateClean (t : Bytes) : Bool :=
  attrsClean t && byteAt t 1 / 32 == 0 && byteAt t 2 / 64 == 0 && byteAt t 5 / 4 == 0 && byteAt t 7 / 8 == 0 && byteAt t 0xA / 16 == 0

/-- Opcodes that take the creation parameters of Table 6.17 (R213, R248, R258, R307). -/
def opCreates (op : Nat) : Bool :=
  op == 0x30 || op == 0x31 || (0x64 ≤ op && op ≤ 0x66) || op == 0x70 || op == 0x71 || op == 0x74 || op == 0x75 || op == 0x78

/-- The wrapping key of R203: parent MATERIAL, vault seed, OWNER_CHANNEL, PARENT_SLOT, PARENT_GEN. -/
def wrapKey (material seed : Bytes) (owner slot gen : Nat) : Bytes :=
  kdf (fit 32 material) "JGKB-WRAP" (u8 owner ++ u8 slot ++ u32 gen ++ (if slot = 3 then zeros 32 else sha256 (fit 32 seed))) 64

/-- The vault seed's MATERIAL. -/
def State.seedMaterial (s : State) : Bytes := (s.slot 0 0).material

/-- The slot is active. -/
def State.active (s : State) (c i : Nat) : Bool := (s.slot c i).state == 1

/-- The KCV that a header carries (Table 6.10, R194). -/
def headerKcv (kind alg bits : Nat) (material : Bytes) : Bytes :=
  if kind = 1 then kcvOf alg (material.take (keyBytes alg))
  else
    let v : KeyView := ⟨zeros 5 ++ u8 kind ++ zeros 4 ++ u16 alg ++ u16 bits ++ u16 ((materialLen kind alg bits).getD 0) ++ zeros 32, [], material⟩
    (sha256 (publicOf v)).take 8

/-- A blob's 48-byte header (Table 6.10). -/
def blobHeader (kind owner slot alg bits gen own created : Nat) (kcv : Bytes) : Bytes :=
  let n := (materialLen kind alg bits).getD 0
  ascii "JGKB" ++ u8 1 ++ u8 kind ++ u16 (96 + paddedLen n) ++ u8 owner ++ u8 slot ++ u16 alg ++ u16 bits ++ u16 n
    ++ u32 gen ++ u32 own ++ u64 created ++ fit 8 kcv ++ zeros 8

/-- A blob sealed under a wrapping key (R203). -/
def sealBlob (key header attrs material : Bytes) : Bytes :=
  let r := sivSeal key (fit 48 header ++ fit 32 attrs) (fit (paddedLen (headerView header).materialLen) material)
  fit 48 header ++ fit 32 attrs ++ r.2 ++ r.1

/-- The blob tag: the first 8 bytes of the SIV (R204), as the number that a KEY_TAG field spells. -/
def blobTag (blob : Bytes) : Nat := leNat ((blob.drop (blob.length - 16)).take 8)

/-- CREATED of a new blob: the device time, or the first time that no blob made before has (R204; log 136). -/
def State.freshTime (s : State) : Nat := max s.now s.keys.created
/-- A blob has been made. -/
def State.blobMade (s : State) : State := { s with keys := { s.keys with created := s.freshTime + 1 } }

/-! ### The checks on a key reference (R211, Table 6.15) -/

/-- Stages c to f on a whole blob whose header passed stage b: a key, or the first failure. A blob whose attributes hold reserved bytes
fails at stage b. `tag` is none where no tag is named (KEY_ATTEST). -/
def State.openBlob (s : State) (blob : Bytes) (tag : Option Nat) : Sum Nat KeyView :=
  let h := fit 48 blob
  let a := slice 48 32 blob
  let v := headerView h
  let n := v.totalLen
  if blob.length ≠ n ∨ ¬ stageB h ∨ ¬ attrsClean a then .inl ST_KEY_UNWRAP
  else if tag.any (· != blobTag blob) then .inl ST_KEY_UNWRAP
  else
    let p := s.slot v.owner v.slot
    if p.state ≠ 1 ∨ (v.slot ≤ 1 ∧ ¬ s.active 0 0) then .inl ST_VAULT_EMPTY
    else if v.parentGen < p.gen then .inl ST_KEY_REVOKED
    else if p.gen < v.parentGen then .inl ST_KEY_UNWRAP
    else
      match sivOpen (wrapKey p.material s.seedMaterial v.owner v.slot v.parentGen) (h ++ a) (blob.drop (n - 16)) (slice 80 (n - 96) blob) with
      | none => .inl ST_KEY_UNWRAP
      | some m => .inr ⟨h, a, m.take v.materialLen⟩

/-- KC_GROUP of a channel; channel 0 is in none (Table 6.14). -/
def State.groupOfChan (s : State) (c : Nat) : Nat := if c = 0 then 0 else s.cfgNat F_KC_GROUP c

/-- WORLD names the channel, or a group that holds both it and OWNER_CHANNEL (Table 6.15, stage g). -/
def State.worldOk (s : State) (attrs : Bytes) (c owner : Nat) : Bool :=
  let w := byteAt attrs 4
  if byteAt attrs 3 = 0 then w == c
  else if byteAt attrs 3 = 1 then decide (1 ≤ w ∧ w ≤ 63) && s.groupOfChan c == w && s.groupOfChan owner == w
  else false

/-- The current lifecycle's bit in LIFECYCLE (Table 6.11). -/
def State.lifecycleBit (s : State) : Nat := if s.isTest then 1 else if s.isProduction then 2 else 0

/-- Masters by their bit in MASTERS (Table 6.11). -/
abbrev M_APEX : Nat := 0
/-- FACET. -/
abbrev M_FACET : Nat := 1
/-- SEQ. -/
abbrev M_SEQ : Nat := 2
/-- PKE. -/
abbrev M_PKE : Nat := 3
/-- HOSTDMA. -/
abbrev M_HOSTDMA : Nat := 4
/-- CHORD. -/
abbrev M_CHORD : Nat := 5

/-- The using master of an opcode: SEQ in groups 0x1 to 0x5 (R224, R271), PKE in group 0x6 (R306); SEQ for group 0x7 (log 36). -/
def opMaster (op : Nat) : Nat := if opGroup op = 6 then M_PKE else M_SEQ

/-- MODE bit masks (Table 6.11): E 1, D 2, G 4, V 8, X 16. -/
def needMode (op i : Nat) (p : Bytes) : Nat :=
  let dir := if byteAt p 0 = 1 then 1 else if byteAt p 0 = 2 then 2 else 0
  let gv := if op % 2 = 0 then 4 else 8
  if i = 2 then
    if op ≤ 0x12 then 1 else if op ≤ 0x1A then 8 else if op = 0x47 then dir else 0
  else if i = 3 then 0
  else if opDukpt op ∨ op = 0x30 ∨ op = 0x31 then 16
  else if op = 0x10 ∨ op = 0x14 ∨ op = 0x18 then 2
  else if 0x20 ≤ op ∧ op ≤ 0x25 then gv
  else if op = 0x2A then 8 + (if byteAt p 0 = 1 then 16 else 0) + (if byteAt p 2 = 0 then 0 else 4)
  else if op = 0x2B then 4 + (if byteAt p 0 = 1 then 16 else 0)
  else if op = 0x2C ∨ op = 0x2D then gv
  else if op = 0x40 ∨ op = 0x43 ∨ op = 0x46 ∨ op = 0x47 ∨ op = 0x4B then dir
  else if op = 0x41 ∨ op = 0x44 ∨ op = 0x48 ∨ op = 0x4C then 1
  else if op = 0x42 ∨ op = 0x45 ∨ op = 0x49 ∨ op = 0x4A ∨ op = 0x4D then 2
  else if op = 0x53 then 4
  else if op = 0x54 then 8
  else if op = 0x60 ∨ op = 0x62 ∨ op = 0x67 ∨ (0x69 ≤ op ∧ op ≤ 0x6B) ∨ op = 0x6F then 4
  else if op = 0x61 ∨ op = 0x63 ∨ op = 0x68 ∨ (0x6C ≤ op ∧ op ≤ 0x6E) then 8
  else if op = 0x64 then 16
  else if op = 0x65 then 1
  else if op = 0x66 then 2
  else if op = 0x74 then 2
  else 0

/-- USAGE codes that reference `i` of an opcode may have; none named means any (Tables 7.2, 9.4, R216, R273, R292; log 36). -/
def needUsage (op i : Nat) : List Nat :=
  if i = 2 then
    if op ≤ 0x12 then [0x10] else if op ≤ 0x16 then [0x11] else if op ≤ 0x1A then [0x12]
    else if op = 0x47 then [0x40] else if op = 0x73 then [0x51] else [0x52]
  else if i = 3 then [0x52]
  else if opDukpt op ∨ op = 0x30 then [0x01]
  else if op ≤ 0x18 then [0x10]
  else if op = 0x20 ∨ op = 0x21 then [0x20]
  else if op = 0x22 ∨ op = 0x23 then [0x21]
  else if op = 0x24 ∨ op = 0x25 then [0x22]
  else if op = 0x2A ∨ op = 0x2B then [0x30]
  else if op = 0x2C ∨ op = 0x2D then [0x38]
  else if op = 0x31 then [0x30, 0x31, 0x32]
  else if opGroup op = 4 then [0x40]
  else if opGroup op = 5 then [0x23]
  else if 0x64 ≤ op ∧ op ≤ 0x66 then [0x61]
  else if opGroup op = 6 then [0x60]
  else if op = 0x74 then [0x51]
  else if op = 0x75 then [0x52]
  else []

/-- KIND and ALG of reference `i` suit the opcode (stage h; Tables 7.2, 9.4, R273, R292; log 36). `first` is the first reference's ALG. -/
def suits (op i first : Nat) (k : KeyView) : Bool :=
  let sym := k.kind == 1
  let two := k.alg == 0x11
  let rsa := k.alg == 0x111
  let priv := k.kind == 2
  let asym := k.kind == 2 || k.kind == 3
  if i = 2 then
    if op ≤ 0x12 then sym && (k.isTdes || k.isAes)
    else if op ≤ 0x16 then sym && k.isTdes
    else if op ≤ 0x1A then sym && two
    else if op = 0x47 then sym && (k.alg == 1 || k.alg == 3) && k.alg == first
    else if op = 0x73 then sym && (k.isTdes || k.isAes)
    else k.kind == 3 && rsa
  else if i = 3 then priv && rsa
  else if opTdesDukpt op then sym && k.isTdes
  else if opAesDukpt op then sym && k.isAes
  else if op = 0x10 ∨ op = 0x14 ∨ op = 0x18 ∨ op = 0x30 then sym && (k.isTdes || k.isAes)
  else if op = 0x20 ∨ op = 0x21 then sym && k.isTdes
  else if op = 0x22 ∨ op = 0x23 ∨ op = 0x2C ∨ op = 0x2D then sym && two
  else if op = 0x24 ∨ op = 0x25 then sym && k.isAes
  else if op = 0x2A ∨ op = 0x2B ∨ op = 0x31 then sym && (two || k.isAes)
  else if op = 0x47 then sym && (k.alg == 1 || k.alg == 3)
  else if 0x40 ≤ op ∧ op ≤ 0x4A then sym && k.isAes
  else if 0x4B ≤ op ∧ op ≤ 0x4D then sym && k.isTdes
  else if op = 0x53 ∨ op = 0x54 then sym && k.alg == 0x21
  else if op = 0x60 then priv && k.alg == 0x101
  else if op = 0x61 then asym && k.alg == 0x101
  else if op = 0x62 then priv && k.alg == 0x102
  else if op = 0x63 then asym && k.alg == 0x102
  else if op = 0x64 then priv && (k.alg == 0x101 || k.alg == 0x102)
  else if op = 0x65 then k.kind == 3 && k.alg == 0x121
  else if op = 0x66 then priv && k.alg == 0x121
  else if op = 0x67 then priv && rsa
  else if op = 0x68 then asym && rsa
  else if 0x69 ≤ op ∧ op ≤ 0x6B then priv && k.alg == 0x131 + (op - 0x69)
  else if 0x6C ≤ op ∧ op ≤ 0x6E then asym && k.alg == 0x131 + (op - 0x6C)
  else if op = 0x6F then priv && (k.alg == 0x131 || k.alg == 0x132 || k.alg == 0x133)
  else if op = 0x74 then sym && (k.isTdes || k.isAes)
  else if op = 0x75 then priv && rsa
  else true

/-- A domain key in the place where one is required: the KBPK of 0x73 and the peer's key of 0x75 and 0x76 (Table 6.16, R218). -/
def domainPlace (op i : Nat) : Bool := i == 2 && (op == 0x73 || op == 0x75 || op == 0x76)

/-- Stages d, e, g and h at the key check instant, for reference `i` of an opcode (R198, R210, R211). -/
def State.judgeKey (s : State) (c op i first : Nat) (p : Bytes) (e : CacheEntry) : Nat :=
  let k : KeyView := ⟨e.header, e.attrs, e.material⟩
  let slot := s.slot k.owner k.slot
  if slot.state ≠ 1 ∨ (k.slot ≤ 1 ∧ ¬ s.active 0 0) ∨ e.revoked = .erased then ST_VAULT_EMPTY
  else if k.parentGen < slot.gen ∨ e.revoked = .revoked then ST_KEY_REVOKED
  else if slot.gen < k.parentGen then ST_KEY_UNWRAP
  else if ¬ (s.worldOk e.attrs c k.owner && bit k.masters (opMaster op) && byteAt e.attrs 5 &&& s.lifecycleBit != 0
      && ((needUsage op i).isEmpty || (needUsage op i).contains k.usage) && k.mode &&& needMode op i p == needMode op i p
      && (op != 0x4A || bit k.flags 0) && (!domainPlace op i || k.slot == 3)) then ST_KEY_ATTR
  else if ¬ suits op i first k ∨ (op < 0x40 ∧ tdesWeak k) then ST_KEY_TYPE
  else ST_OK

/-! ### The key cache (R205 to R210) -/

/-- Key of the cache's tables for a channel's tag. -/
def cacheKey (c tag : Nat) : Nat := c * 2 ^ 64 + tag

/-- The resident entry of a channel's tag (R207). -/
def State.cached (s : State) (c tag : Nat) : Option CacheEntry := KeyMap.find s.keys.cache (cacheKey c tag)

/-- The region whose entries a channel's keys take: an isolated channel's partition, or 0 for the shared one (R205). -/
def State.region (s : State) (c : Nat) : Nat := if c ≠ 0 ∧ (s.chan c).binding.rings ≠ 0 ∧ (s.chan c).binding.isolated then c else 0

/-- Entries that a region holds (R205). -/
def State.regionSize (s : State) (r : Nat) : Nat :=
  if r ≠ 0 then s.cfgNat F_KC_QUOTA r
  else 32512 - (s.bound.filter fun c => (s.chan c).binding.isolated).foldl (fun acc c => acc + s.cfgNat F_KC_QUOTA c) 0

/-- Resident entries of a region, with their table keys. -/
def State.regionEntries (s : State) (r : Nat) : List (Nat × CacheEntry) :=
  s.keys.cache.filter fun p => s.region (p.1 / 2 ^ 64) == r

/-- Entries taken in a region: resident ones and those that loads have taken (R208). -/
def State.regionUsed (s : State) (r : Nat) : Nat :=
  (s.regionEntries r).foldl (fun acc p => acc + p.2.size) 0
    + (s.keys.loads.filter fun p => s.region (p.1 / 2 ^ 64) == r).foldl (fun acc p => acc + p.2.room) 0

/-- Entries of a region that cannot be evicted: pinned ones and those reserved by loads. -/
def State.regionPinned (s : State) (r : Nat) : Nat :=
  ((s.regionEntries r).filter fun p => p.2.pins != 0).foldl (fun acc p => acc + p.2.size) 0
    + (s.keys.loads.filter fun p => s.region (p.1 / 2 ^ 64) == r).foldl (fun acc p => acc + p.2.size) 0

/-- An entry evicted. -/
def State.evict (s : State) (k : Nat) : State := { s with keys := { s.keys with cache := KeyMap.del s.keys.cache k } }

/-- The unpinned entry of a region to evict first: least recently admitted, then lowest index (R208). -/
def State.oldest (s : State) (r : Nat) : Option Nat :=
  (((s.regionEntries r).filter fun p => p.2.pins == 0).foldl (fun best p =>
    match best with
    | none => some p
    | some b => if p.2.age < b.2.age ∨ (p.2.age = b.2.age ∧ p.2.index < b.2.index) then some p else some b) none).map (·.1)

/-- Evictions of unpinned entries until a region has room for `n` more, or nothing can be evicted (R208). -/
def State.makeRoom (r n : Nat) : Nat → State → State
  | 0, s => s
  | fuel + 1, s =>
    if s.regionUsed r + n ≤ s.regionSize r then s
    else match s.oldest r with
      | some k => State.makeRoom r n fuel (s.evict k)
      | none => s

/-- Room made for `n` more entries in a region. -/
def State.room (s : State) (r n : Nat) : State := State.makeRoom r n (s.keys.cache.length + 1) s

/-- The lowest index that no entry of a region has (log 37). -/
def State.freeIndex (s : State) (r : Nat) : Nat :=
  let used := (s.regionEntries r).map (·.2.index)
  ((List.range (used.length + 1)).find? fun i => !used.contains i).getD 0

/-- Entries that a key takes (R205). -/
def entriesOf (k : KeyView) : Nat :=
  if k.kind = 1 then 1 else 1 + ceilDiv ((materialLen k.kind k.alg k.bits).getD 0 - 32) 64

/-- An item's reference waits for a load of a tag. -/
def Item.waits (x : Item) (tag : Nat) : Bool := !x.judged && x.refs.any fun r => r.tag == tag && !r.hit && r.status == 0

/-- Admitted items of a channel that refer to a tag they missed. -/
def State.missers (s : State) (c tag : Nat) : Nat :=
  (s.chan c).admitted.foldl (fun acc x => acc + (x.refs.filter fun r => r.tag == tag && !r.hit).length) 0

/-- Time of the latest admission of an item that missed a tag; the present where none is left (R208). -/
def State.missedAt (s : State) (c tag : Nat) : Nat :=
  match ((s.chan c).admitted.filter fun x => x.refs.any fun r => r.tag == tag && !r.hit).map fun x => x.checkAt - 28672 with
  | [] => s.now
  | a :: rest => rest.foldl max a

/-- A loaded key enters the cache, pinned by the admitted items that wait for it; its age counts from their admission (R208, R209). -/
def State.insertKey (s : State) (c tag : Nat) (k : KeyView) : State :=
  let r := s.region c
  let s := { s with keys := { s.keys with loads := KeyMap.del s.keys.loads (cacheKey c tag) } }
  let s := s.room r (entriesOf k)
  let e : CacheEntry := ⟨s.freeIndex r, entriesOf k, k.header, k.attrs, k.material, (s.slot 0 0).gen, s.missers c tag, s.missedAt c tag, .none⟩
  { s with keys := { s.keys with
      cache := KeyMap.put s.keys.cache (cacheKey c tag) e
      loadCount := KeyMap.put s.keys.loadCount c (KeyMap.get s.keys.loadCount 0 c + 1) } }

/-- A load fails: its reservation ends, and the references that wait for it fail with the status (R211). -/
def State.failLoad (s : State) (c tag status : Nat) : State :=
  let s := { s with keys := { s.keys with loads := KeyMap.del s.keys.loads (cacheKey c tag) } }
  let fail (y : Item) : Item :=
    if y.waits tag then { y with refs := y.refs.map fun r => if r.tag == tag && !r.hit then { r with status := status } else r } else y
  s.updChan c fun x => { x with admitted := x.admitted.map fail }

/-- An entry changed, where it is resident. -/
def State.updEntry (s : State) (c tag : Nat) (f : CacheEntry → CacheEntry) : State :=
  match s.cached c tag with
  | some e => { s with keys := { s.keys with cache := KeyMap.put s.keys.cache (cacheKey c tag) (f e) } }
  | none => s

/-- One pin on an entry. -/
def State.pin (s : State) (c tag : Nat) : State := s.updEntry c tag fun e => { e with pins := e.pins + 1 }

/-- One pin removed; an entry beyond its region's size goes as it unpins (R206, R208). -/
def State.unpin (s : State) (c tag : Nat) : State :=
  let s := s.updEntry c tag fun e => { e with pins := e.pins - 1 }
  match s.cached c tag with
  | some e => if e.pins = 0 ∧ s.regionSize (s.region c) < s.regionUsed (s.region c) then s.evict (cacheKey c tag) else s
  | none => s

/-- Every entry of a channel that is not pinned goes; answers how many entries that were (Table 6.6). -/
def State.flushCache (s : State) (c : Nat) : State × Nat :=
  let mine := s.keys.cache.filter fun p => p.1 / 2 ^ 64 == c && p.2.pins == 0
  ({ s with keys := { s.keys with cache := KeyMap.keep s.keys.cache fun k e => !(k / 2 ^ 64 == c && e.pins == 0) } },
   mine.foldl (fun acc p => acc + p.2.size) 0)

/-- A channel's entries all go (R206). -/
def State.evictChannel (s : State) (c : Nat) : State :=
  { s with keys := { s.keys with cache := KeyMap.keep s.keys.cache fun k _ => k / 2 ^ 64 != c } }

/-- The surplus of every region goes, unpinned entries first (R206). -/
def State.trimCache (s : State) : State := (0 :: s.bound).foldl (fun s r => if s.region r = r then s.room r 0 else s) s

/-- Entries that a root change concerns: children of the slot, or of every storage slot for the vault seed (R210). -/
def childOf (c slot : Nat) (k : KeyView) : Bool :=
  if c = 0 ∧ slot = 0 then decide (k.slot ≤ 1) else k.owner == c && k.slot == slot

/-- The marks of R210 at a root change: `gen` is the slot's new GEN, `erased` an erase; entries under the vault seed are marked whatever
their PARENT_GEN. Admitted items that passed the check of such a key carry KEY_PARENT_REVOKED: a key that hit was checked at admission, a missed one
at the item's key check instant (R198, R199). -/
def State.revokeChildren (s : State) (c slot gen : Nat) (erased : Bool) : State :=
  let hit (e : CacheEntry) : Bool :=
    let k : KeyView := ⟨e.header, e.attrs, e.material⟩
    childOf c slot k && (erased || (c == 0 && slot == 0) || decide (k.parentGen < gen))
  let old := s.keys.cache.filter fun p => hit p.2
  let s := { s with keys := { s.keys with
    cache := KeyMap.mapVals s.keys.cache fun _ e => if hit e then { e with revoked := if erased then .erased else .revoked } else e } }
  s.mapAdmitted fun ch x =>
    if x.status == 0 && x.refs.any (fun r => (x.judged || r.hit) && r.status == 0 && old.any fun p => p.1 == cacheKey ch r.tag) then { x with parentRevoked := true } else x

end Sys2Proof.Machine
end

