-- ==== Sys2Proof/Machine/Plan.lean ====
section
/-!
DEFINITION. The plan of a channel's items over its service-set sectors: `edf_fits` and what a sector carries out of it
(R160, R164, R165, R176, R267, R270, R277, R282, R298, R304).
-/

namespace Sys2Proof.Machine

/-- The engines' capacity that a sector still has (R164, R165, R265, R277, R298). -/
structure Room where
  /-- 42nds of a cycle used on each cipher core (R265) -/
  used : KeyMap Nat
  /-- CE of the 56 counted hash lanes -/
  lanes : Nat
  /-- unit-cycles of the 15 counted multiplier units -/
  mont : Nat
  /-- lane-cycles of the NTT unit -/
  ntt : Nat
  /-- input bytes of the link -/
  linkIn : Nat
  /-- output bytes of the link -/
  linkOut : Nat
  /-- CE that the pieces in hand of items with the same release time need (R298) -/
  keep : Nat
  /-- core on which the item served last ran -/
  core : Option Nat
deriving DecidableEq, Repr

/-- A whole sector's capacity. -/
def Room.full : Room := ⟨[], 56 * 18, 15 * 288, 8 * 288, 7168, 7168, 0, none⟩

/-- All planned work of an item has ended. -/
def Demand.done (d : Demand) : Bool := d.left == 0 && d.tail == 0 && d.linkIn == 0 && d.linkOut == 0

/-- The demand as a sector finds it: the next piece is taken in hand; an item that resumes pays its key expansion again, with the piece that was in hand
or with the next one (R266). -/
def Demand.resume (d : Demand) : Demand :=
  if d.hand.1 ≠ 0 then { d with hand := (d.hand.1 + d.key, d.hand.2.1, false) }
  else match d.runs.dropWhile fun r => r.count == 0 || r.size == 0 with
    | [] => { d with runs := [] }
    | r :: rest => { d with hand := (r.size + (if d.taken = 0 then 0 else r.key), r.share, r.whole), runs := { r with count := r.count - 1 } :: rest }

/-- Home core of an item that holds pages (R282). -/
def Item.homeCore (x : Item) : Option Nat := x.pages.head?.map (· / 16)

/-- 42nds of a cycle that a core has left. -/
def Room.left (r : Room) (k : Nat) : Nat := 288 * 42 - KeyMap.get r.used 0 k

/-- The cores that work may be placed on: those in use, and others as long as fewer than 15 are (R165). -/
def Room.coresOpen (r : Room) : List Nat :=
  (List.range 16).filter fun k => KeyMap.get r.used 0 k != 0 || decide ((r.used.filter fun p => p.2 != 0).length < 15)

/-- The core of a piece: the lowest one that has room for it, else the one with most room, the lowest of equals; a held item's is its home core
(R264, R265, R270; log 131). -/
def Room.coreFor (r : Room) (x : Item) (d : Demand) : Option Nat :=
  let ks := match x.homeCore with
    | some b => r.coresOpen.filter (· == b)
    | none => r.coresOpen
  match ks.find? fun k => decide (min 288 d.hand.1 * d.hand.2.1 ≤ r.left k) with
  | some k => some k
  | none => ks.foldl (fun best k => match best with
    | some b => if r.left b < r.left k then some k else some b
    | none => some k) none

/-- Cycles, or CE, that the room gives to the piece in hand: one core, lane or unit in one sector (R265, R298). -/
def Room.give (r : Room) (x : Item) (d : Demand) : Nat :=
  match d.engine with
  | .none => d.hand.1
  | .core => match r.coreFor x d with
    | some k => min 288 (r.left k / d.hand.2.1)
    | none => 0
  | .lane => min 18 r.lanes
  | .array => min 18 r.lanes
  | .mont => min 288 r.mont
  | .ntt => min 288 r.ntt

/-- What an engine does of a piece in `n` cycles or CE: all of it, or whole blocks (R268). -/
def Demand.upTo (d : Demand) (n : Nat) : Nat := if d.hand.1 ≤ n then d.hand.1 else n / d.block * d.block

/-- Work on the piece in hand in this sector: a piece that counts as a whole engine waits for a whole one (R279). -/
def Room.main (r : Room) (x : Item) (d : Demand) : Nat :=
  let n := d.upTo (r.give x d)
  if d.hand.2.2 && decide (n < d.hand.1) then 0 else n

/-- Work beside the piece in this sector: a second unit, or every lane that is left, but for one for each array item with no later release time (R298). -/
def Room.beside (r : Room) (d : Demand) (n : Nat) : Nat :=
  match d.engine with
  | .array => min d.side (r.lanes - n - r.keep)
  | .mont => min d.side (min 288 (r.mont - n))
  | _ => d.side

/-- The room holds what the derivation of R307 and the blob wrap take in the last work sector (R319). -/
def Room.wraps (r : Room) : Bool := (r.coresOpen.any fun k => decide (160 * 42 ≤ r.left k)) && decide (4 ≤ r.lanes)

/-- Cycles taken on a core. -/
def Room.use (r : Room) (k n : Nat) : Room := { r with used := KeyMap.put r.used k (KeyMap.get r.used 0 k + n) }

/-- The room left after work of an item. -/
def Room.spend (r : Room) (x : Item) (d : Demand) (n m : Nat) (wrap : Bool) (bytesIn bytesOut : Nat) : Room :=
  let r := { r with linkIn := r.linkIn - bytesIn, linkOut := r.linkOut - bytesOut, core := none }
  let r := if wrap then
      match r.coresOpen.find? fun k => decide (160 * 42 ≤ r.left k) with
      | some k => { r.use k (160 * 42) with lanes := r.lanes - 4 }
      | none => r
    else r
  match d.engine with
  | .none => r
  | .core => match r.coreFor x d with
    | some k => if n = 0 then r else { r.use k (n * d.hand.2.1) with core := some k }
    | none => r
  | .lane => { r with lanes := r.lanes - n }
  | .array => { r with lanes := r.lanes - (n + m) }
  | .mont => { r with mont := r.mont - (n + m) }
  | .ntt => { r with ntt := r.ntt - n }

/-- Most work beside the piece that a sector can carry: a second unit's, or the whole array's. -/
def Demand.sideMost (d : Demand) (n keep : Nat) : Nat :=
  match d.engine with
  | .array => min d.side (1008 - n - keep)
  | .mont => min d.side 288
  | _ => d.side

/-- The work beside the piece after `m` of its cycles. A second unit stopped in the middle of a sector pays the drain, and so does each lane that the array
goes without (R269, R298, R299). -/
def Demand.carrySide (d : Demand) (n m keep : Nat) : Demand :=
  let short := d.sideMost n keep - m
  let paid := if m = 0 then 0 else match d.engine with
    | .array => ceilDiv short 18 * d.drain
    | _ => if short = 0 then 0 else d.drain
  { d with side := d.side - m + paid }

/-- The digits of a verification's layers that have become known take what they spare off the plan (R321). -/
def Demand.known (d : Demand) : List (Nat × Nat) → Demand
  | [] => { d with spare := [] }
  | (at_, n) :: rest => if d.left ≤ at_ then ({ d with side := d.side - n } : Demand).known rest else { d with spare := (at_, n) :: rest }

/-- The piece in hand after `n` of its cycles. Stopped in the middle of a sector for want of a core, lane or unit, it pays the drain (R269, R299). -/
def Demand.carry (d : Demand) (n : Nat) : Demand :=
  let want := d.upTo (match d.engine with
    | .lane => 18
    | .array => 18
    | _ => 288)
  let paid := if 0 < n ∧ n < want then d.drain else 0
  let left := d.hand.1 - n + paid
  { d with hand := (left, d.hand.2.1, d.hand.2.2), taken := if d.hand.1 ≠ 0 ∧ left = 0 then d.taken + 1 else d.taken
           ready := if d.hand.1 ≠ 0 ∧ left = 0 then d.ready + d.step else d.ready }

/-- One item in one sector: one piece of its work goes on, input streams beside it, and output goes out as it becomes ready, or after the work and not
before the sectors that its plan gave to output; then the sector of commit passes (R176, R279, R316, R317). -/
def serveOne (sector : Nat) (r : Room) (x : Item) : Room × Item :=
  if sector < x.sigma ∨ x.demand.done then (r, x)
  else
    let before := x.demand
    let d := before.resume
    let n := r.main x d
    let m := r.beside d n
    let last := d.wrap && decide (d.left ≤ n + m)
    let n := if last && !r.wraps then n - 1 else n
    let wrap := last && r.wraps
    let i := min d.linkIn r.linkIn
    -- a piece that found no room has not begun
    let d' := if n = 0 then { d with hand := before.hand, runs := before.runs } else d.carry n
    let d' : Demand := { d'.carrySide n m r.keep with wrap := d.wrap && !wrap, linkIn := d.linkIn - i, begun := d.begun || n + m != 0 }
    let d' : Demand := d'.known d'.spare
    let open_ : Nat := if d.after && decide (x.outW < x.w) then 0
      else if before.left = 0 ∨ (d'.left = 0 ∧ d.after = false) then d'.linkOut else min d'.ready d'.linkOut
    let o := min open_ (min d.pace r.linkOut)
    let commit := before.left = 0 ∧ before.linkIn = 0 ∧ before.linkOut = 0
    (r.spend x d n m wrap i o,
      { x with demand := { d' with linkOut := d'.linkOut - o, ready := d'.ready - o, tail := if commit then d.tail - 1 else d.tail } })

/-- One item in one sector of its channel's service set: with the sector one of its work sectors has passed (R166, R176). -/
def serveOwn (sector : Nat) (r : Room) (x : Item) : Room × Item :=
  let a := serveOne sector r x
  (a.1, if sector < x.sigma then a.2 else { a.2 with w := a.2.w - 1 })

/-- What the room keeps beside an item, for the lanes of array items after it that have its release time (R298, R315). -/
def Room.beforeThe (r : Room) (x : Item) (rest : List Item) (sector : Nat) : Room :=
  { r with
    core := none
    keep := 18 * (rest.filter fun y => y.release == x.release && y.demand.engine == .array && decide (y.sigma ≤ sector)
      && (y.demand.hand.1 != 0 || !y.demand.runs.isEmpty)).length }

/-- Items in one sector of their channel's, in the order given. -/
def serveList (sector : Nat) : Room → List Item → List Item
  | _, [] => []
  | r, x :: rest => let a := serveOwn sector (r.beforeThe x rest sector) x; a.2 :: serveList sector a.1 rest

/-- An item put in its place by release time; equal ones after those there (R176). -/
def insertByRelease (x : Item) : List Item → List Item
  | [] => [x]
  | y :: rest => if x.release < y.release then x :: y :: rest else y :: insertByRelease x rest

/-- Items sorted by release time. -/
def byRelease (xs : List Item) : List Item := xs.foldl (fun acc x => insertByRelease x acc) []

/-- An item's work as planned at its admission. -/
def Item.planned (x : Item) : Demand := plannedDemand x.desc

/-- The item has begun and has not ended, so that it has a context to keep (R267). -/
def Item.suspended (x : Item) : Bool := x.demand.begun && x.demand.left != 0

/-- An event has ended the item's work: an abort, a mode change, a crossing or the end of its last work sector (R61, R166, R429, R510), or its feed
has, which leaves its lane without a digest (R291). -/
def Item.ended (x : Item) : Bool := x.result.any fun r =>
  r.status == ST_ABORTED || r.status == ST_LEN_SHORT || r.status == ST_MODE || r.status == ST_CDC_TIMEOUT || r.status == ST_ENGINE_FAULT

/-- The item's last work sector has passed (R166). -/
def Item.late (x : Item) : Bool := x.w == 0 && !x.demand.done

/-- Position of an absolute sector number among the sectors of a service set, counted from device time 0. -/
def setPos (set : List Nat) (n : Nat) : Nat := set.length * (n / revSectors) + set.idxOf (n % revSectors)

/-- The absolute sector number at a position. -/
def setAt (set : List Nat) (k : Nat) : Nat := set.getD (k % set.length) 0 + revSectors * (k / set.length)

/-- The first sector of a service set at or after an absolute sector number. -/
def nextOf (set : List Nat) (n : Nat) : Nat :=
  match set.find? fun i => n % revSectors ≤ i with
  | some i => n / revSectors * revSectors + i
  | none => (n / revSectors + 1) * revSectors + set.getD 0 0

/-- The play of `edf_fits` from position `k` on: every item ends by its last work sector, and the contexts of suspended items
fit the allotment, if there is one to keep to (R176, R267). -/
def playSet (set : List Nat) (contexts : Option Nat) : Nat → Nat → List Item → Bool
  | 0, _, xs => xs.all (·.demand.done)
  | fuel + 1, k, xs =>
    let xs := serveList (setAt set k) Room.full xs
    let held := (xs.filter Item.suspended).foldl (fun acc x => acc + x.contexts) 0
    if xs.any Item.late || contexts.any (fun n => decide (n < held)) then false
    else playSet set contexts fuel (k + 1) (xs.filter fun x => !x.demand.done)

/-- The sectors of an item's plan that are still to come when the play lets its output begin: those after the sector that ends its work (R316). -/
def playOut (set : List Nat) (seq : Nat) : Nat → Nat → List Item → Nat
  | 0, _, _ => 0
  | fuel + 1, k, xs =>
    let xs := serveList (setAt set k) Room.full xs
    match xs.find? fun x => x.seq == seq && x.demand.left == 0 with
    | some x => x.w
    | none => playOut set seq fuel (k + 1) (xs.filter fun x => !x.demand.done)

/-- The next sector that the plan can use: the current one, unless it has been played (R176). -/
def State.planFrom (s : State) : Nat := max (s.now / sectorNs) s.wheel.sector

/-- What `edf_fits` plays for a candidate: the channel's unfinished items with it, each at its worst-case remaining work; the position played first, and
the sectors to play (R176, R321). -/
def State.playOf (s : State) (c : Nat) (x : Item) : List Item × Nat × Nat :=
  let set := s.serviceSet c
  let xs := byRelease (((s.chan c).admitted.filter fun y => !y.demand.done && y.w != 0) ++ [x])
  let k := setPos set (nextOf set s.planFrom)
  let last := xs.foldl (fun acc y => max acc (max k (setPos set y.sigma) + y.w)) 0
  (xs.map fun y => { y with demand := { y.demand with spare := [] } }, k, last - k)

/-- `edf_fits` for the engines (R176). A load of one opcode always fits the context store, so only a mixed one is held to the allotment
(R173, R267; log 132). -/
def State.edfFits (s : State) (c : Nat) (x : Item) : Bool :=
  let p := s.playOf c x
  let mixed := p.1.any fun y => dOpcode y.desc != dOpcode x.desc
  playSet (s.serviceSet c) (if mixed then some (KeyMap.get s.cipher.contexts 0 c) else none) p.2.2 p.2.1 p.1

/-- A candidate with the sectors that its plan gives to output, where it writes output after its work (R316, R317). -/
def State.planOutput (s : State) (c : Nat) (x : Item) : Item :=
  if x.demand.after && x.demand.linkOut != 0 && dOpcode x.desc != 0x49 then
    let p := s.playOf c x
    { x with outW := playOut (s.serviceSet c) x.seq p.2.2 p.2.1 p.1 }
  else x

/-! ### Hold pages (R280 to R283) -/

/-- A channel has a partition of hold pages of its own (R280). -/
def State.ownPages (s : State) (c : Nat) : Bool := (s.chan c).binding.isolated

/-- Pages of a buffer that lie in no partition of a placement (R280). -/
def State.sharedPages (s : State) (placement : KeyMap Nat) (b : Nat) : Nat :=
  s.freeBuffers.getD b 0 - (placement.filter fun p => p.1 % 16 == b).foldl (fun acc p => acc + p.2) 0

/-- Pages of a buffer that a channel may use at all (R280, R281). -/
def State.pageShare (s : State) (c b : Nat) : Nat :=
  if s.ownPages c then KeyMap.get s.cipher.placement 0 (16 * c + b) else s.sharedPages s.cipher.placement b

/-- Pages of that share in use now. -/
def State.pagesIn (s : State) (c b : Nat) : Nat :=
  (s.cipher.pagesUsed.filter fun p => p.1 / 16 == b && (if s.ownPages c then p.2 == c else !s.ownPages p.2)).length

/-- CH_HOLD_PAGES in force. -/
def State.pageCap (s : State) (c : Nat) : Nat := KeyMap.get s.cipher.holdPages 0 c

/-- Pages that a channel uses now. -/
def State.pagesOf (s : State) (c : Nat) : Nat := (s.cipher.pagesUsed.filter fun p => p.2 == c).length

/-- A buffer that could ever hold `n` pages of the channel's, within its cap (R282). -/
def State.pagesEver (s : State) (c n : Nat) : Bool :=
  n == 0 || (decide (n ≤ s.pageCap c) && (List.range 16).any fun b => decide (n ≤ s.pageShare c b))

/-- The `n` pages that an item of a channel takes now, all of one buffer; none where no buffer has them (R282). -/
def State.pageSet (s : State) (c n : Nat) : Option (List Nat) :=
  if s.ownPages c || decide (s.pagesOf c + n ≤ s.pageCap c) then
    ((List.range 16).find? fun b => decide (s.pagesIn c b + n ≤ s.pageShare c b)).map fun b =>
      (((List.range 16).map (16 * b + ·)).filter fun p => (KeyMap.find s.cipher.pagesUsed p).isNone).take n
  else none

/-- Pages reserved for a channel. -/
def State.takePages (s : State) (c : Nat) (ps : List Nat) : State :=
  { s with cipher := { s.cipher with pagesUsed := ps.foldl (fun m p => KeyMap.put m p c) s.cipher.pagesUsed } }

/-- Pages that an item leaves: free, and zeroed (R283). -/
def State.dropPages (s : State) (ps : List Nat) : State :=
  { s with cipher := { s.cipher with
      pagesUsed := ps.foldl KeyMap.del s.cipher.pagesUsed, pageData := ps.foldl KeyMap.del s.cipher.pageData } }

/-- What an item keeps in its pages: 4 KiB in each, in order (R282, R284, R285). -/
def State.fillPages (s : State) (ps : List Nat) (held : Bytes) : State :=
  { s with cipher := { s.cipher with
      pageData := (ps.zip (blocks 4096 held)).foldl (fun m p => KeyMap.put m p.1 (fit 4096 p.2)) s.cipher.pageData } }

/-- A new placement waits and moves pages of this channel's: its partition changes, or, of a channel that shares, a partition takes shared
pages (R281). -/
def State.pagesMove (s : State) (c : Nat) : Bool :=
  s.cipher.holdWait.isSome &&
  match s.partitions s.storedBinding fun i => s.cfgNat F_CH_HOLD_PAGES i with
  | some m => (List.range 16).any fun b =>
      KeyMap.get m 0 (16 * c + b) != KeyMap.get s.cipher.placement 0 (16 * c + b)
        || (!s.ownPages c && decide (s.sharedPages m b < s.sharedPages s.cipher.placement b))
  | none => false

/-! ### The context store and the context registers (R261, R263, R266, R267) -/

/-- The lowest `n` free entries of the context store. -/
def State.freeEntries (s : State) (n : Nat) : List Nat :=
  ((List.range 4096).filter fun i => (KeyMap.find s.cipher.store i).isNone).take n

/-- The context with which an item resumes, as the store has kept it; that of an item that begins is not stated, bit by bit: free bytes
(R261, R266, R270; log 131). -/
def State.contextOf (s : State) (c : Nat) (x : Item) : Bytes :=
  match s.cipher.store.filter fun p => p.2.chan == c && p.2.seq == x.seq with
  | [] => fit (128 * max 1 x.contexts) (Config.freeValue s.free)
  | es => es.flatMap fun p => p.2.bytes

/-- A context is saved: in the item's entries, where it is suspended and no event has ended it, and in none where not (R261, R262, R266, R267). -/
def State.saveContext (s : State) (c : Nat) (x : Item) (ctx : Bytes) : State :=
  let s := { s with cipher := { s.cipher with store := KeyMap.keep s.cipher.store fun _ e => e.chan != c || e.seq != x.seq } }
  if x.suspended && !x.silent && !x.ended then
    ((s.freeEntries x.contexts).zip (blocks 128 (fit (128 * x.contexts) ctx))).foldl (fun s p =>
      { s with cipher := { s.cipher with store := KeyMap.put s.cipher.store p.1 ⟨c, x.seq, fit 128 p.2⟩ } }) s
  else s

/-- An item's context in a sector that served it: restored, worked on and saved again. A core takes it into its idle register, and the context that it
held before is in the other (R263, R266, R267, R270). -/
def State.useContext (s : State) (core : Option Nat) (c : Nat) (x : Item) : State :=
  if x.contexts = 0 then s
  else
    let ctx := fit (128 * x.contexts) (Config.contextStep (s.contextOf c x) x.desc (Config.freeValue (s.free + 1)))
    let s := { s with free := s.free + 2 }
    let s := match core with
      | some k => { s with cipher := { s.cipher with
          regs := KeyMap.put s.cipher.regs k (fit 128 ctx, (KeyMap.get s.cipher.regs (zeros 128, zeros 128) k).1) } }
      | none => s
    s.saveContext c x ctx

/-- The entries of a channel's items that have ended or been released are free. -/
def State.sweepContexts (s : State) (c : Nat) : State :=
  let live (seq : Nat) : Bool := (s.chan c).admitted.any fun x => x.seq == seq && x.suspended && !x.silent && !x.ended
  { s with cipher := { s.cipher with store := KeyMap.keep s.cipher.store fun _ e => e.chan != c || live e.seq } }

/-! ### Operand memory (R301 to R304) -/

/-- Slot lengths in 64-bit words that fit `n` slots and `words` words (R303). -/
def fitSlots : Nat → Nat → List Nat → List Nat
  | 0, _, _ => []
  | _, _, [] => []
  | n + 1, words, l :: rest =>
    let l := max 4 (min 256 l)
    if l ≤ words then l :: fitSlots n (words - l) rest else fitSlots (n + 1) words rest

/-- The slots of an item's operands: at most 4 for each KiB of its need, each of 4 to 256 words; how an opcode lays them out is not stated, and is
a free value (R303; log 9). -/
def slotLengths (op kib : Nat) : List Nat := fitSlots (4 * kib) (128 * kib) (Config.slotWords op kib)

/-- Consecutive slots from word `start` on. -/
def slotsFrom (start owner : Nat) : List Nat → List DirEntry
  | [] => []
  | l :: rest => ⟨start, l, true, owner⟩ :: slotsFrom (start + l) owner rest

/-- The lowest run of `n` KiB of a channel's partition that no item holds, so that the slots of an item are consecutive (R303, R304; log 9). -/
def State.freeKib (s : State) (c n : Nat) : Option (List Nat) :=
  let held := ((s.chan c).admitted.flatMap (·.opmem))
  (((List.range (s.opmemOf c + 1 - n)).map fun i => (List.range n).map (s.opmemBase c + i + ·)).find? fun ks =>
    ks.all fun k => !held.contains k)

/-- Slots of an item admitted on a channel: the directory entries of its KiB are set (R303, R304). -/
def State.takeSlots (s : State) (c op : Nat) (ks : List Nat) : State :=
  let first := ks.headD 0
  let es := slotsFrom (128 * first) c (slotLengths op ks.length)
  let row (j : Nat) : DirEntry := es.getD j ⟨0, 0, false, c⟩
  { s with operand := { s.operand with
      dir := (List.range (4 * ks.length)).foldl (fun m j => KeyMap.put m (4 * first + j) (row j)) s.operand.dir } }

/-- Slots that an item leaves: free, not cleared, with their owner tags (R304, R324). -/
def State.freeSlots (s : State) (ks : List Nat) : State :=
  { s with operand := { s.operand with dir := KeyMap.mapVals s.operand.dir fun i e => if ks.contains (i / 4) then { e with inUse := false } else e } }

/-- An SLH-DSA item whose signature or table is held in operand memory once its work has ended (R316). -/
def Item.holdsOutput (x : Item) : Bool := 0x69 ≤ dOpcode x.desc && dOpcode x.desc ≤ 0x6F && x.demand.left == 0

/-- What KiB `j` of an item's operand memory holds after a sector's work: the signature or table of an SLH-DSA item whose work has ended, with no secret
value left; before that what its engine has written there, behind the 64-byte control state of its first slot (R299, R311, R316; log 9). -/
def Item.operandKib (x : Item) (j : Nat) (fresh : Bytes) : Bytes :=
  let work := Config.operandWork x.desc x.order x.demand.left j fresh
  if x.holdsOutput then fit 1024 (slice (1024 * j) 1024 ((x.result.map (·.out)).getD []))
  else if j = 0 ∧ x.suspended then fit 64 (Config.controlState x.desc x.demand.left) ++ fit 960 work
  else fit 1024 work

/-- An item's engine has written its operand memory (R297, R311, R324). -/
def State.writeOperands (s : State) (x : Item) : State :=
  x.opmem.zipIdx.foldl (fun s p =>
    { s with
      free := s.free + 1
      operand := { s.operand with mem := KeyMap.put s.operand.mem p.1 (x.operandKib p.2 (Config.freeValue s.free)) } }) s

/-- A new layout waits and moves or shrinks this channel's partition (R302). -/
def State.layoutMoves (s : State) (c : Nat) : Bool :=
  s.operand.layoutWait.isSome &&
    let next := s.storedOpmem
    let base := 64 + (next.filter fun p => p.1 < c).foldl (fun acc p => acc + p.2) 0
    decide (base ≠ s.opmemBase c ∨ KeyMap.get next 0 c < s.opmemOf c)

/-- The owner of a KiB of operand memory in a layout: channel 0 for the first 64 and for what no partition holds (R301). -/
def kibOwner (layout : KeyMap Nat) (k : Nat) : Nat :=
  (layout.foldl (fun (acc : Nat × Nat) p => (acc.1 + p.2, if acc.1 ≤ k ∧ k < acc.1 + p.2 then p.1 else acc.2)) (64, 0)).2

end Sys2Proof.Machine
end

