-- ==== Sys2Proof/Machine/Transport.lean ====
section
/-!
DEFINITION. Mailbox registers and buffers, the Orfer header, fragments, sequence numbers, MB1 over MCTP, MB3's grants, the I3C register file
(R67 to R87, R109 to R111, R344, R558).
-/

namespace Sys2Proof.Machine

/-! ### The header (Table 3.2) -/

/-- The 32-byte Orfer header. -/
structure Header where
  /-- VER_MAJOR and VER_MINOR -/
  version : Nat × Nat
  /-- OPCODE -/
  opcode : Nat
  /-- SEQ -/
  seq : Nat
  /-- FLAGS -/
  flags : Nat
  /-- SESSION -/
  session : Nat
  /-- REALM -/
  realm : Nat
  /-- STATUS -/
  status : Nat
  /-- PAYLOAD_LEN -/
  len : Nat
  /-- FRAG -/
  frag : Nat
  /-- reserved bytes 0x14 to 0x17 -/
  reserved : Nat
  /-- DEVICE_TIME -/
  time : Nat
deriving DecidableEq, Repr

/-- The header of a message. -/
def Header.parse (m : Bytes) : Header :=
  ⟨(byteAt m 0, byteAt m 1), field m 2 2, field m 4 2, field m 6 2, field m 8 4, field m 0xC 2, field m 0xE 2, field m 0x10 2,
    field m 0x12 2, field m 0x14 4, field m 0x18 8⟩

/-- MORE. -/
def Header.more (h : Header) : Bool := bit h.flags 1

/-- The bytes of one response message (R74 to R76). -/
def Reply.message (r : Reply) : Bytes :=
  let chunk := r.payload.take 4064
  let flags := 1 + 2 * flag (decide (4064 < r.payload.length)) + 4 * flag r.replay
  u8 r.version.1 ++ u8 r.version.2 ++ u16 r.opcode ++ u16 r.seq ++ u16 flags ++ u32 r.session ++ u16 r.realm ++ u16 r.status
    ++ u16 chunk.length ++ u16 r.frag ++ u32 0 ++ u64 r.time ++ chunk

/-- What follows a response message: the next fragment, if there is one (R77). -/
def Reply.rest (r : Reply) : Reply := { r with payload := r.payload.drop 4064, frag := r.frag + 1 }

/-! ### Opcodes, routes, modes -/

/-- The opcodes that the manual defines, by group (Tables 3.4, 6.19, 10.18, 11.7, 12.10, 13.11, 14.10, 15.11). -/
def opcodeKnown (op : Nat) : Bool :=
  let lo := op % 256
  match op / 256 with
  | 0x01 => decide (1 ≤ lo ∧ lo ≤ 5)
  | 0x02 => decide (1 ≤ lo ∧ lo ≤ 6)
  | 0x03 => decide ((1 ≤ lo ∧ lo ≤ 8) ∨ (0x10 ≤ lo ∧ lo ≤ 0x1A))
  | 0x04 => decide (1 ≤ lo ∧ lo ≤ 9)
  | 0x05 => decide ((1 ≤ lo ∧ lo ≤ 4) ∨ (0x10 ≤ lo ∧ lo ≤ 0x20))
  | 0x06 => decide (1 ≤ lo ∧ lo ≤ 8)
  | 0x07 => decide (1 ≤ lo ∧ lo ≤ 6)
  | 0x08 => decide (1 ≤ lo ∧ lo ≤ 9)
  | 0x09 => decide (1 ≤ lo ∧ lo ≤ 6)
  | 0x0A => decide (1 ≤ lo ∧ lo ≤ 7)
  | _ => false

/-- An attestation opcode of group 0x05 (Table 11.7). -/
def attOpcode (op : Nat) : Bool := op == 0x0501 || op == 0x0503 || op == 0x0504

/-- The mailbox accepts the opcode's group (Table 3.5, R87). -/
def routed (p : Port) (op : Nat) : Bool :=
  let g := op / 256
  match p with
  | .mb0 => true
  | .mb1 => true
  | .mb2 => g == 1 || g == 4 || (g == 5 && attOpcode op)
  | .mb3 _ => g == 1 || g == 2 || g == 3 || (g == 5 && attOpcode op)

/-- State requests of the owning chapters, answered in every mode from Facet start (R358, R446, R482, R500). -/
def stateRequest (op : Nat) : Bool :=
  op == 0x0103 || op == 0x0104 || op == 0x0701 || op == 0x0702 || op == 0x0703 || op == 0x0801 || op == 0x0802 || op == 0x0A01
    || op == 0x0901 || op == 0x0902 || op == 0x0903 || op == 0x0905 || op == 0x0401

/-- The mode permits the opcode (R38, Table 2.2, R358, R373, R415, R446, R482, R500). -/
def modePermits (m : Mode) (op : Nat) : Bool :=
  let session := op / 256 == 1
  let sign := op == 0x0303 || op == 0x0304 || op == 0x0305
  match m with
  | .off => false
  | .sentinel => false
  | .watch => true
  | .serve => true
  | .steward => true
  | .gate => stateRequest op || op == 0x0405 || op == 0x0601 || op == 0x0608
  | .recover => stateRequest op || op == 0x0405 || session || sign || op == 0x0904
  | .quarantine => stateRequest op || session || sign || op == 0x0904 || op == 0x0601 || op == 0x0608 || attOpcode op
      || op == 0x0804 || op == 0x0805

/-- The port may address the realm (R83). -/
def State.realmOk (s : State) (p : Port) (r : Nat) : Bool :=
  match p with
  | .mb0 => decide (r ≤ 255)
  | .mb1 => r == 0
  | .mb2 => r == 0
  | .mb3 f => decide (1 ≤ r ∧ r ≤ 255) && (s.chan r).binding.rings != 0 && (s.chan r).binding.function == f

/-- A request that may be sessionless (R79). -/
def sessionlessOk (op : Nat) : Bool := op == 0x0101 || op == 0x0103 || op == 0x0104 || op == 0x0303

/-- Apex or the boot ROM holds the device and serves MB1 and MB2 itself (R42, R54). -/
def State.romServes (s : State) : Bool := s.boot.stopped && !s.boot.facet

/-- Requests are served on a port (R42, R54, R547, R558). -/
def State.portServed (s : State) (p : Port) : Bool :=
  s.boot.facet || (s.romServes && match p with | .mb1 => true | .mb2 => true | _ => false)

/-! ### Responses -/

/-- A refusal formed for a request that has not been accepted: it is no response to `last` (R84). -/
def State.refuse (s : State) (q : Request) (status : Nat) : State :=
  s.updMbox q.port fun m => { m with
    formed := m.formed ++ [⟨q.port, q.version, q.opcode, q.seq, q.session, q.realm, status, q.frag, false, false, s.now, []⟩] }

/-- An empty response of status ST_OK to a fragment that is not the last (R78). -/
def State.ackFragment (s : State) (q : Request) : State := s.refuse q ST_OK

/-! ### Sequence numbers (R84) -/

/-- The outcome of the procedure of R84. -/
inductive SeqVerdict where
  | fresh | replay | refused
deriving DecidableEq, Repr

/-- The procedure of R84: what a sequence number means, and the session with it recorded. -/
def Session.take (x : Session) (seq : Nat) : SeqVerdict × Session :=
  let d := (seq + 65536 - x.last) % 65536
  let b := (x.last + 65536 - seq) % 65536
  if d = 0 then (if x.accepted then .replay else .refused, x)
  else if d ≤ 1024 then
    (.fresh, { x with seen := (x.seen <<< d) ||| 1#1024, last := seq, accepted := true, lastReply := none, replays := 0 })
  else if b < 1024 ∧ x.seen.getLsbD b = false then (.fresh, { x with seen := x.seen ||| (1#1024 <<< b), accepted := true })
  else (.refused, x)

/-- A replay of `last`: its response again with REPLAY, now or once it exists (R84). -/
def State.replay (s : State) (q : Request) : State :=
  match s.session q.session with
  | none => s
  | some x =>
    match x.lastReply with
    | some r => s.updMbox q.port fun m => { m with formed := m.formed ++ [{ r with replay := true }] }
    | none => s.updSession q.session fun x => { x with replays := x.replays + 1 }

/-! ### Arrival of a message (R75 to R79) -/

/-- The key of a port's sessionless partial message. -/
def portKey : Port → Nat
  | .mb0 => 0 | .mb1 => 1 | .mb2 => 2 | .mb3 f => 256 + f

/-- The partial message that a fragment continues. -/
def State.partialOf (s : State) (q : Request) : Option PartialMsg :=
  if q.session = 0 then KeyMap.find s.orfer.loose (portKey q.port) else (s.session q.session).bind (·.partialMsg)

/-- The partial message of a session, or of a port's sessionless requests, set. -/
def State.setPartial (s : State) (q : Request) (m : Option PartialMsg) : State :=
  if q.session = 0 then
    { s with orfer := { s.orfer with loose := match m with
      | some x => KeyMap.put s.orfer.loose (portKey q.port) x
      | none => KeyMap.del s.orfer.loose (portKey q.port) } }
  else s.updSession q.session fun x => { x with partialMsg := m }

/-- The fragment is the next one of its message: the first, or the one that its partial message waits for (R77). -/
def State.inOrder (s : State) (q : Request) : Bool :=
  q.frag == 0 || (decide (q.frag < 4129) &&
    (s.partialOf q).any fun m => m.opcode == q.opcode && m.seq == q.seq && m.next == q.frag)

/-- The whole request is received: a CFG_COMMIT in time stops the 10 s of the transaction that it names (R101). -/
def State.received (s : State) (q : Request) : State :=
  let named (t : Txn) : Bool := t.session == q.session && q.payload.length == 4 && t.id == leNat q.payload
  if q.opcode = 0x0204 then s.updRealm q.realm fun r => { r with
    txn := r.txn.map fun t => if named t && t.timer.any (fun d => decide (s.now < d)) then { t with timer := none } else t }
  else s

/-- A fragment joins its message, and the whole message is accepted once its last fragment has arrived (R77, R78). The mode is judged last
(R38; log 121). -/
def State.joinFragment (s : State) (q : Request) (more : Bool) : State :=
  let before := if q.frag = 0 then [] else match s.partialOf q with
    | some m => m.payload
    | none => []
  let whole := before ++ q.payload
  if more then (s.setPartial q (some ⟨q.opcode, q.seq, q.realm, q.frag + 1, whole⟩)).ackFragment q
  else
    let s := s.setPartial q none
    if ¬ s.romServes ∧ modePermits s.ms.mode q.opcode = false then s.answer q ST_MODE []
    else (s.received { q with payload := whole }).updMbox q.port fun m => { m with inFlight := m.inFlight ++ [{ q with payload := whole }], busy := true }

/-- The checks that follow the sequence number, in header order (R75, R77); `some` is the status of the first that fails. A reserved bit of FLAGS
is judged before RSP and REPLAY (log 122). -/
def State.headerStatus (s : State) (q : Request) (h : Header) (size : Nat) : Option Nat :=
  if 8 ≤ h.flags then some ST_RESERVED
  else if bit h.flags 0 || bit h.flags 2 then some ST_BAD_HEADER
  else if h.session = 0 ∧ sessionlessOk h.opcode = false then some ST_NO_SESSION
  else if h.session ≠ 0 ∧ (s.session h.session).all (fun x => x.port != q.port) then some ST_NO_SESSION
  else if s.realmOk q.port h.realm = false then some ST_REALM
  else if h.status ≠ 0 ∨ h.len + 32 ≠ size then some ST_BAD_HEADER
  else if s.inOrder q = false then some ST_FRAG_ORDER
  else if h.reserved ≠ 0 then some ST_RESERVED
  else if h.time ≠ 0 then some ST_BAD_HEADER
  else none

/-- A message out of order is discarded whole (R77). -/
def State.discardOn (s : State) (q : Request) (status : Nat) : State :=
  if status = ST_FRAG_ORDER then s.setPartial q none else s

/-- One Orfer message arrives on a port (R75 to R79, R83, R84, R87). A fragment after the first belongs to the message of its
SEQ, whose number has been taken already; one that disagrees with it in another field is out of order. The boot ROM, and Apex where it holds
the device, answer every request but the two sessionless queries with ST_MODE (R42, R54). ST_BAD_OPCODE comes before ST_ROUTE (log 123); what a
refused request leaves of its session is in log 124; fragment 0 with the SEQ of the message in progress is a replay (log 151). -/
def State.deliver (s : State) (p : Port) (msg : Bytes) : State :=
  let h := Header.parse msg
  let mine := (s.session h.session).filter fun x => x.port == p
  let version := match mine with
    | some x => x.version
    | none => (1, 0)
  let q : Request := ⟨p, h.opcode, h.seq, h.session, h.realm, version, h.frag, msg.drop 32⟩
  if s.romServes ∧ ¬ (h.session = 0 ∧ (h.opcode = 0x0103 ∨ h.opcode = 0x0104)) then s.refuse q ST_MODE
  else if h.version ≠ version ∧ (h.session = 0 ∨ mine.isSome) then s.refuse q ST_VERSION
  else if opcodeKnown h.opcode = false then s.refuse q ST_BAD_OPCODE
  else if routed p h.opcode = false then s.refuse q ST_ROUTE
  else
    match mine with
    | none =>
      match s.headerStatus q h msg.length with
      | some st => (s.discardOn q st).refuse q st
      | none => s.joinFragment q h.more
    | some x =>
      let s := s.updSession h.session fun x => { x with deadline := s.now + 120000000000 }
      let continues := h.frag ≠ 0 ∧ x.partialMsg.any (fun m => m.seq == h.seq)
      let (verdict, x') := if continues then (.fresh, x) else x.take h.seq
      match verdict with
      | .refused => s.refuse q ST_SEQ_WINDOW
      | .replay => s.replay q
      | .fresh =>
        let s := s.updSession h.session fun y => { y with
          seen := x'.seen, last := x'.last, accepted := x'.accepted, lastReply := x'.lastReply, replays := x'.replays
          partialMsg := if continues then x.partialMsg else none }
        match s.headerStatus q h msg.length with
        | some st => (s.discardOn q st).answer q st []
        | none => s.joinFragment q h.more

/-! ### MB3's grants (R71) -/

/-- The buffers are granted to the first function that waits. -/
def State.grantNext (s : State) : State :=
  match s.orfer.mb3.queue with
  | [] => s
  | f :: rest =>
    let s := s.updMbox (.mb3 f) fun m => { m with queue := rest, holder := some f, grantLimit := some (s.now + 10000000), fragLimit := none }
    s.raiseSource (.mb3 f) 3

/-- The grant ends: an unacknowledged response is discarded, and the next function in order gets the buffers. Their bytes stay as they are
(log 125). -/
def State.endGrant (s : State) : State :=
  match s.orfer.mb3.holder with
  | none => s
  | some f =>
    (s.updMbox (.mb3 f) fun m => { m with
      holder := none, grantLimit := none, fragLimit := none, rspValid := false, rspLen := 0, sending := none
      formed := m.formed.filter fun r => r.port != Port.mb3 f }).grantNext

/-- A function loses its place: its grant ends, or it leaves the queue. -/
def State.dropGrant (s : State) (f : Nat) : State :=
  let s := s.updMbox (.mb3 f) fun m => { m with queue := m.queue.filter (· != f) }
  if s.orfer.mb3.holder = some f then s.endGrant else s

/-- The port holds its buffers: always but on MB3. -/
def State.granted (s : State) (p : Port) : Bool :=
  match p with
  | .mb3 f => s.orfer.mb3.holder == some f
  | _ => true

/-! ### Writing a response -/

/-- One response message is sent: into the buffer with RSP_VALID, or over MCTP on MB1 (R69, R72, R77). The MCTP body begins with the
message type and the enterprise number (log 31). An ORFER_STATUS event is counted at the first message of the response. -/
def State.sendReply (s : State) (p : Port) (r : Reply) : State :=
  let more := decide (4064 < r.payload.length)
  let s := match p with
    | .mb1 =>
      let s := s.updMbox p fun m => { m with formed := if more then r.rest :: m.formed else m.formed }
      s.emit (.mctp (u8 0x7F ++ beBytes 4 Config.enterprise ++ r.message))
    | _ =>
      let limit := match p with
        | .mb3 _ => some (s.now + 10000000)
        | _ => none
      let s := s.updMbox p fun m => { m with
        response := r.message, rspLen := r.message.length, rspValid := true, sending := some r.rest, fragLimit := limit
        grantLimit := none }
      s.raiseSource p 0
  if r.fragmented ∧ r.frag ≠ 0 then s
  else s.sourceEvent 0x23 (fun a => a % 65536 == r.status && bit (a / 65536) (portNum p)) r.status (r.status + 65536 * 2 ^ portNum p)

/-- A formed response reaches its mailbox (R69, R71). On MB3 the response of a function without a grant is discarded. -/
def execMbResponseReady (p : Port) (s : State) : Host.Outcome State Fault Refusal :=
  runOn s fun s =>
    let m := s.mbox p
    if m.rspValid then s
    else match m.formed with
      | [] => s
      | r :: rest =>
        let s := s.updMbox p fun m => { m with formed := rest }
        if s.granted r.port then s.sendReply r.port r else s

/-- ACK written: the buffer is released; the next fragment follows, or the grant ends (R71, R77). -/
def State.ackResponse (s : State) (p : Port) : State :=
  let m := s.mbox p
  if !m.rspValid || !s.granted p then s
  else
    let s := s.updMbox p fun m => { m with rspValid := false, rspLen := 0, sending := none, fragLimit := none }
    match m.sending with
    | none => s
    | some r =>
      if r.payload.isEmpty then match p with
        | .mb3 _ => s.endGrant
        | _ => s
      else s.sendReply p r

/-- ACK is written (R71). -/
def execMbRspAck (p : Port) (s : State) : Host.Outcome State Fault Refusal := runOn s fun s => s.ackResponse p

/-- A function asks for MB3 (R71). -/
def State.requestGrant (s : State) (f : Nat) : State :=
  let m := s.orfer.mb3
  if f = 0 ∨ 127 < f ∨ m.holder = some f ∨ m.queue.contains f then s
  else
    let s := s.updMbox (.mb3 f) fun m => { m with queue := m.queue ++ [f] }
    if m.holder.isNone then s.grantNext else s

/-- MB_GRANT.REQUEST (R71). -/
def execMbGrantRequest (fn : Nat) (s : State) : Host.Outcome State Fault Refusal := runOn s fun s => s.requestGrant fn
/-- MB_GRANT.RELEASE (R71). -/
def execMbGrantRelease (fn : Nat) (s : State) : Host.Outcome State Fault Refusal :=
  runOn s fun s => if s.orfer.mb3.holder = some fn then s.endGrant else s
/-- No doorbell within 10 ms of the grant (R71). -/
def execGrantDoorbellTimeout (s : State) : Host.Outcome State Fault Refusal :=
  runOn s fun s => match s.orfer.mb3.grantLimit with
    | some t => (s.advance t).endGrant
    | none => s
/-- A response fragment unacknowledged for 10 ms (R71). -/
def execFragmentAckTimeout (s : State) : Host.Outcome State Fault Refusal :=
  runOn s fun s => match s.orfer.mb3.fragLimit with
    | some t => (s.advance t).endGrant
    | none => s

/-! ### Doorbells and messages -/

/-- A doorbell of `len` bytes (R68, R69, R558): DB_IGNORED says that the mailbox could not take it, LEN_ERR that its length is out of range;
each stands for itself. Only a doorbell that takes effect ends the 10 ms of a grant (R71; log 150). -/
def State.doorbell (s : State) (p : Port) (len : Nat) : State :=
  match p with
  | .mb1 => s
  | _ =>
    let m := s.mbox p
    let shut := !s.granted p || !s.portServed p || m.busy || m.rspValid
    let long := decide (len < 32 ∨ 4096 < len)
    if shut || long then s.updWindow p fun w => { w with dbIgnored := w.dbIgnored || shut, lenErr := w.lenErr || long }
    else
      let s := s.updMbox p fun m => { m with grantLimit := none }
      s.deliver p (fit len m.request)

/-- MB_DOORBELL.REQ_LEN is written (R68). -/
def execMbDoorbell (p : Port) (len : Nat) (s : State) : Host.Outcome State Fault Refusal := runOn s fun s => s.doorbell p len

/-- An MCTP message arrives on target M (R72; its first five bytes: log 31). -/
def execMb1MctpMessage (msg : Bytes) (s : State) : Host.Outcome State Fault Refusal :=
  runOn s fun s =>
    let body := msg.drop 5
    if byteAt msg 0 = 0x7F ∧ beNat (slice 1 4 msg) = Config.enterprise ∧ 32 ≤ body.length ∧ body.length ≤ 4096 ∧ s.portServed .mb1 then
      s.deliver .mb1 body
    else s

/-! ### The mailbox window (Table 3.1) -/

/-- Notices queued for the sessions of a port's window. -/
def State.noticesOn (s : State) (p : Port) : Nat :=
  (s.orfer.sessions.filter fun x => x.2.port == p).foldl (fun acc x => acc + x.2.notices.length) 0

/-- The registers 0x000 to 0x02F of a port's window; PENDING counts up to 255 (R67; log 148). -/
def State.windowRegs (s : State) (p : Port) : Bytes :=
  let w := s.window p
  let m := s.mbox p
  let g := s.granted p
  let status := flag (g && m.busy) + 2 * flag (g && m.rspValid) + 4 * flag w.dbIgnored + 8 * flag w.lenErr + 16 * flag g
    + 65536 * (if g then m.rspLen else 0)
  u16 0x1D72 ++ u16 0x8400 ++ u8 0xB0 ++ u8 (portNum p) ++ u8 (if s.boot.facet then 1 else 0) ++ u8 (if s.boot.facet then 3 else 0)
    ++ u32 (if s.boot.facet then 0x040001 else 0) ++ u32 s.modeWord ++ u32 0 ++ u32 status ++ u32 0 ++ u32 0
    ++ u32 w.intEn.toNat ++ u32 w.intStat.toNat ++ u32 w.intVec.toNat ++ u32 (min 255 (s.noticesOn p) + 256 * w.dropped)

/-- The 12 KiB of a port's window; without a grant both buffers read 0 (R71). -/
def State.windowBytes (s : State) (p : Port) : Bytes :=
  let m := s.mbox p
  let g := s.granted p
  s.windowRegs p ++ zeros 0xFD0 ++ (if g then fit 4096 m.request else zeros 4096) ++ (if g then fit 4096 m.response else zeros 4096)

/-- Bytes written to a port's request buffer, while the device does not own it and the port holds it (R69, R71). -/
def State.bufferWrite (s : State) (p : Port) (off : Nat) (b : Bytes) : State :=
  if (s.mbox p).busy || !s.granted p then s
  else s.updMbox p fun m => { m with request := overlay (fit 4096 m.request) off b }

/-- A 32-bit write to a port's window (Table 3.1, R9). -/
def State.windowWrite (s : State) (p : Port) (off v : Nat) : State :=
  if off = 0x010 then s.doorbell p (v % 8192)
  else if off = 0x014 then s.updWindow p fun w => { w with dbIgnored := w.dbIgnored && !bit v 2, lenErr := w.lenErr && !bit v 3 }
  else if off = 0x018 then if bit v 0 then s.ackResponse p else s
  else if off = 0x01C then
    match p with
    | .mb3 f =>
      let s := if bit v 0 then s.requestGrant f else s
      if bit v 1 ∧ s.orfer.mb3.holder = some f then s.endGrant else s
    | _ => s
  else if off = 0x020 then s.updWindow p fun w => { w with intEn := BitVec.ofNat 4 v }
  else if off = 0x024 then s.updWindow p fun w => { w with intStat := w.intStat &&& ~~~(BitVec.ofNat 4 v) }
  else if off = 0x028 then
    s.updWindow p fun w => { w with intVec := BitVec.ofNat 6 (match p with | .mb3 _ => v % 4 | _ => v) }
  else if 0x1000 ≤ off ∧ off < 0x2000 then
    s.bufferWrite p (off - 0x1000) (u32 v)
  else s

/-! ### The I3C register file (Table 3.10) -/

/-- Fields that Facet supplies read 0 until Facet starts (R109). -/
def State.fac (s : State) (v : Nat) : Nat := if s.boot.facet then v else 0

/-- The 128 bytes of the register file (Table 3.10); which of its fields wait for Facet: log 154. -/
def State.registerFile (s : State) : Bytes :=
  let pend := s.orfer.sessions.any fun x => x.2.port == Port.mb1 && !x.2.notices.isEmpty
  u16 0x1D72 ++ u16 0x8400 ++ u8 0xB0 ++ u8 (s.fac 1) ++ u8 (s.fac 3) ++ u8 (s.fac 0x14) ++ u32 Config.enterprise ++ u32 s.modeWord
    ++ u64 s.now ++ leBytes 6 s.rtcSeconds
    ++ u8 (flag s.i3c.rdOverrun + 2 * flag s.i3c.wrIgnored + 4 * flag pend) ++ u8 0
    ++ u16 (s.fac s.i3c.dieTemp) ++ u16 (s.fac s.i3c.vcore) ++ u8 (s.fac s.soc) ++ u8 (s.fac s.tamper.cell.state) ++ u16 (s.fac s.i3c.power)
    ++ u8 (s.fac s.tamper.alarmSev) ++ u16 (s.fac s.evidence) ++ u8 (s.fac s.pair.mode.code) ++ u8 (s.fac s.busA.plat) ++ u8 (s.fac s.busB.plat)
    ++ u8 (s.fac s.rel.step) ++ zeros 17 ++ s.serial ++ s.idDigest ++ zeros 32

/-- A private write of one byte sets the pointer; further bytes write from it onward, and only offset 0x1E accepts one (R111). -/
def execI3cPrivateWrite (data : Bytes) (s : State) : Host.Outcome State Fault Refusal :=
  runOn s fun s =>
    match data with
    | [] => s
    | a :: rest =>
      rest.foldl (fun s b =>
        let at_ := s.i3c.pointer
        let c := s.i3c
        let c := if at_ = 0x1E then { c with rdOverrun := c.rdOverrun && !bit b.toNat 0, wrIgnored := c.wrIgnored && !bit b.toNat 1 }
          else { c with wrIgnored := true }
        { s with i3c := { c with pointer := min 0x80 (at_ + 1) } })
        { s with i3c := { s.i3c with pointer := min 0x80 a.toNat } }

/-- A private read of target F (R109, R110). -/
def execI3cPrivateRead (len : Nat) (s : State) : Host.Outcome State Fault Refusal :=
  runOn s fun s =>
    let at_ := s.i3c.pointer
    let bytes := slice at_ len s.registerFile
    let past := decide (128 < at_ + len)
    ({ s with i3c := { s.i3c with pointer := min 0x80 (at_ + len), rdOverrun := s.i3c.rdOverrun || past } }).emit
      (.data (bytes ++ List.replicate (len - bytes.length) 0xEE#8))

end Sys2Proof.Machine
end

