-- ==== Sys2Proof/Machine/Rings.lean ====
section
/-!
DEFINITION. Service rings: doorbells, fetch, stages 1 and 2, admission, key checks, release, completion records and interrupts;
the PCIe link and function-level reset (R114 to R153, R175, R198, R207, R397, R541 to R547).
-/

namespace Sys2Proof.Machine

/-! ### Channel errors, records and interrupts -/

/-- A channel changed where a CH_ERR bit may become 1 (R144; source 0x0022 of Table 15.4). -/
def State.markErr (s : State) (c : Nat) (f : Channel → Channel) : State :=
  let before := s.chErr c
  let s := s.updChan c f
  let after := s.chErr c
  if (List.range 10).any fun b => bit after b && !bit before b then
    let fn := (s.chan c).binding.function
    let s := s.updFn fn fun x => { x with errAny := true }
    let x := s.fn fn
    let s := if x.errEn then s.raiseVector fn x.errVec.toNat else s
    s.sourceEvent 0x22 (· == c) 0 c
  else s

/-- Host memory is read in requests no larger than the Max Read Request Size of the function (R114). -/
def State.readHost (s : State) (fn addr len : Nat) : State :=
  let most := max 1 (s.fn fn).mrrs
  s.emitAll ((List.range (ceilDiv len most)).map fun i => .read fn (addr + most * i) (min most (len - most * i)))

/-- The function of a channel reaches host memory: the link is up and Bus Master Enable is 1 (R151, R153). -/
def State.reaches (s : State) (c : Nat) : Bool := s.pcie.up && (s.fn (s.chan c).binding.function).busMaster

/-- The completion ring's vector is raised: count 0, timer stopped, ARMED 0 (R141). -/
def State.raiseCq (s : State) (c : Nat) : State :=
  let x := s.chan c
  let s := s.updCq c fun q => { q with pendingCount := 0, timer := none, armed := false, irqNow := false }
  s.raiseVector x.binding.function x.cq.vector

/-- The vector is raised where R141 asks for it. -/
def State.moderate (s : State) (c : Nat) : State :=
  let q := (s.chan c).cq
  let due := match q.timer with
    | some t => decide (t + 1000 * q.modTimer ≤ s.now)
    | none => false
  if q.armed && decide (0 < q.pendingCount) && (decide (q.modCount ≤ q.pendingCount) || due || q.irqNow) then s.raiseCq c else s

/-- FLAGS of a completion record (Table 4.10). -/
def recordFlags (phase parent provisional partner miss refused : Bool) : Nat :=
  flag phase + 2 * flag parent + 4 * flag provisional + 8 * flag partner + 16 * flag miss + 32 * flag refused

/-- The 32 bytes of a completion record (Table 4.9). -/
def recordOf (tag release written detail status slot c ring flags : Nat) : Bytes :=
  u64 tag ++ u64 release ++ u32 written ++ u32 detail ++ u16 status ++ u16 slot ++ u8 c ++ u8 ring ++ u16 flags

/-- A record goes to the next slot of the completion ring (R126, R135, R141, R143). Answers whether its write succeeds; a write that
fails halts the channel, whose other admitted items then write nothing (R150, R151). -/
def State.putRecord (s : State) (c : Nat) (bytes : Bytes) (irqNow ok : Bool) (status : Nat) : State :=
  let x := s.chan c
  if ok && s.reaches c then
    let s := s.emit (.write x.binding.function (x.cq.base + 32 * x.cq.writeIdx) bytes)
    let next := (x.cq.writeIdx + 1) % 2 ^ x.cq.sizeLog2
    let s := s.updCq c fun q => { q with
      writeIdx := next
      phase := if next = 0 then !q.phase else q.phase
      modCount := s.cfgNat F_CQ_MOD_COUNT (8 * c + 4)
      modTimer := s.cfgNat F_CQ_MOD_TIMER (8 * c + 4)
      pendingCount := q.pendingCount + 1
      timer := if q.pendingCount = 0 then some s.now else q.timer
      irqNow := q.irqNow || irqNow }
    let s := s.sourceEvent 0x21 (fun a => a % 65536 == status && (a / 65536 % 256 == 0 || a / 65536 % 256 == c)) status (status + 65536 * c)
    s.moderate c
  else
    -- the partner writes no record for them either (R30)
    (s.tellAll c).markErr c fun x => { x with
      halted := true
      cq := { x.cq with errWrite := true }
      admitted := x.admitted.map fun y => { y with silent := true }
      heldRecords := [] }

/-- The result that an item's record carries. -/
def Item.outcome (x : Item) : Result :=
  match x.result with
  | some r => r
  | none => Result.none_ (if x.status ≠ 0 then x.status else ST_ENGINE_FAULT)

/-- An item's record is written (R134, R135), and told to the partner (R396). -/
def State.writeItem (s : State) (c : Nat) (x : Item) (ok : Bool) : State :=
  let r := x.outcome
  let flags := recordFlags (s.chan c).cq.phase x.parentRevoked r.provisional (r.status == ST_TAKEOVER_RETRY) (x.cls == .miss) (x.cls == .refused)
  let s := s.putRecord c (recordOf (dTag x.desc) x.release r.written r.detail r.status x.slot c x.ring flags) (dIrqNow x.desc) ok r.status
  s.tellRel c x

/-- Records held back for the partner are written in order while they may be (R397). -/
def State.flushHeld (c : Nat) : Nat → State → State
  | 0, s => s
  | fuel + 1, s =>
    match (s.chan c).heldRecords with
    | [] => s
    | x :: rest =>
      if s.mayWrite c x then
        State.flushHeld c fuel ((s.updChan c fun y => { y with heldRecords := rest }).writeItem c x true)
      else s

/-- The records that a channel holds back are all written, as of items released before the HOST outputs are held (R61). -/
def State.writeHeld (s : State) (c : Nat) : State :=
  (s.chan c).heldRecords.foldl (fun s x => s.writeItem c x true) (s.updChan c fun x => { x with heldRecords := [] })

/-- Held records of a channel. -/
def State.flushRecords (s : State) (c : Nat) : State := State.flushHeld c (s.chan c).heldRecords.length s

/-! ### Fetch (R138, R139, R147, R175) -/

/-- Slots between two indices of a ring. -/
def ringDist (size a b : Nat) : Nat := (b % size + size - a % size) % size

/-- The ring whose next descriptor may be fetched (R138, R139, R150, R151, R383). -/
def State.fetchRing (s : State) (c : Nat) : Option Nat :=
  let x := s.chan c
  if s.admits c && s.reaches c && x.fetching.isNone && decide (x.used + x.decoded.length < s.creditLimit c) then
    (List.range x.binding.rings).find? fun r =>
      let q := s.sq c r
      q.base != 0 && !q.halted && q.head != q.tail && !(x.decoded.any fun y => y.ring == r && dFence y.desc)
  else none

/-- The descriptor fetch that the rings allow is issued (R175). -/
def State.kick (s : State) (c : Nat) : State :=
  match s.fetchRing c with
  | none => s
  | some r =>
    let q := s.sq c r
    (s.updChan c fun x => { x with fetching := some r }).emit (.read (s.chan c).binding.function (q.base + 128 * q.head) 128)

/-- Fetches on every bound channel. -/
def State.kickAll (s : State) : State := s.bound.foldl State.kick s

/-- A write reaches the channel page that function `fn` shows (R121). -/
def State.showsPage (s : State) (fn c : Nat) : Bool :=
  s.pcie.up && decide ((s.chan c).binding.rings ≠ 0) && (s.chan c).binding.function == fn

/-- SQ_DB.TAIL (R124, R37, R127, R397). -/
def State.tailDoorbell (s : State) (fn c ring value : Nat) : State :=
  if !s.showsPage fn c || decide (4 ≤ ring) then s
  else
    let q := s.sq c ring
    let v := value % 65536
    let size := 2 ^ q.sizeLog2
    let head := s.deviceHead c ring
    if (s.chan c).binding.rings ≤ ring ∨ q.base = 0 ∨ size ≤ v ∨ ringDist size head v < ringDist size head q.tail then
      -- the mark of an absent ring is kept with the ring number alone
      s.markErr c fun x => { x with sqs := KeyMap.put x.sqs ring { KeyMap.get x.sqs Sq.reset ring with errDb := true } }
    else (s.updSq c ring fun q => { q with tail := v }).kick c

/-- SQ_DB.TAIL is written. -/
def execSqTailDoorbell (fn c ring value : Nat) (s : State) : Host.Outcome State Fault Refusal :=
  runOn s fun s => s.tailDoorbell fn c ring value

/-- CQ_DB (R125, R137, R141, R142). -/
def State.headDoorbell (s : State) (fn c value : Nat) : State :=
  if !s.showsPage fn c then s
  else
    let q := (s.chan c).cq
    let v := value % 65536
    let arm := bit value 31
    let size := 2 ^ q.sizeLog2
    if q.base = 0 ∨ size ≤ v ∨ ringDist size q.head q.writeIdx < ringDist size q.head v then
      s.markErr c fun x => { x with cq := { x.cq with errDb := true } }
    else
      let s := s.updChan c fun x => { x with
        used := x.used - ringDist size q.head v
        cq := { x.cq with head := v, armed := x.cq.armed || arm } }
      let s := if ¬ arm then s else if q.writeIdx ≠ v then s.raiseCq c else s.moderate c
      s.kick c

/-- CQ_DB is written. -/
def execCqHeadDoorbell (fn c value : Nat) (s : State) : Host.Outcome State Fault Refusal :=
  runOn s fun s => s.headDoorbell fn c value

/-! ### Stages 1 and 2 (Table 4.12) -/

/-- The link and the function settings let an opcode through (R277, R542). -/
def State.linkServes (s : State) (op : Nat) : Bool :=
  if opBulk op then
    decide (8 ≤ s.pcie.width ∧ 32 ≤ s.pcie.speed) &&
      s.bound.all fun c => let f := s.fn (s.chan c).binding.function; decide (256 ≤ f.mps ∧ 512 ≤ f.mrrs)
  else decide (2 ≤ s.pcie.width ∧ 8 ≤ s.pcie.speed)

/-- The 16 bytes of a key reference. -/
def dKeyRef (d : Bytes) (i : Nat) : Bytes := slice (keyOffset i) 16 d

/-- Key references present, absent and aligned as the opcode requires. The third lies in PARAMS of 0x76 only. -/
def refsOk (op : Nat) (d : Bytes) : Bool :=
  (List.range 2).all (fun j => let i := j + 1
    if (opKeys op).contains i then dKeyIova d i != 0 && dKeyIova d i % 16 == 0 else allZero (dKeyRef d i))
  && (!(opKeys op).contains 3 || (dKeyIova d 3 != 0 && dKeyIova d 3 % 16 == 0))

/-- Lengths of a descriptor: the opcode's limits, the output length, Table 4.8, zero lengths with zero IOVAs. -/
def lengthsOk (op : Nat) (d : Bytes) : Bool :=
  inLenOk op d && auxOk op d && decide (outNeed op d ≤ dOutLen d)
    && (dInSgl d || decide (dInLen d ≤ 0x1000000)) && (dOutSgl d || decide (dOutLen d ≤ 0x1000000))
    && (dInLen d != 0 || dInIova d == 0) && (dOutLen d != 0 || dOutIova d == 0)

/-- Stage 1 of Table 4.12: the first failure, 0 where every check passes. Hold pages and operand memory that the channel could
never have fail with the length limit (R282, R304); the reserved fields of a creation template are reserved fields (log 40). -/
def State.stage1 (s : State) (c format : Nat) (d : Bytes) : Nat :=
  let op := dOpcode d
  if dFormat d ≠ format then ST_DESC_VERSION
  else if dFlags d / 16 ≠ 0 ∨ (dFormat d = 1 ∧ (dInSgl d || dOutSgl d)) ∨ (opDefined op && !paramsClean op (dParams d))
      ∨ (opCreates op && !templateClean (cTemplate (dParams d))) then ST_RESERVED
  else if ¬ opDefined op then ST_BAD_OPCODE
  else if ¬ s.permits c op ∨ ¬ s.linkServes op then ST_CHANNEL_POLICY
  else if ¬ refsOk op d then ST_BAD_VALUE
  else if ¬ lengthsOk op d then ST_BAD_LENGTH
  else if ((governing op (dAux d) (dInLen d)).any fun g => decide (s.lenLimit c op < g))
      ∨ ¬ s.pagesEver c (opPages op (dAux d) (dInLen d)) ∨ s.opmemOf c < opOpmem op (dAux d) then ST_CHANNEL_POLICY
  else 0

/-- Steps of an item's governing length (R172). -/
def stepsIn (d : Bytes) : Nat :=
  match governing (dOpcode d) (dAux d) (dInLen d) with
  | some g => stepsOf (dOpcode d) g
  | none => 0

/-- Stage 2 of Table 4.12: each key reference is looked up, hits are pinned, and the class and cost follow (R168, R207, R208). -/
def State.lookUp (s : State) (c : Nat) (x : Item) : State × Item :=
  let d := x.desc
  let op := dOpcode d
  let refs := (opKeys op).map fun i =>
    let tag := dKeyTag d i
    (⟨tag, dKeyIova d i, (s.cached c tag).isSome, 0⟩ : KeyRef)
  let miss := refs.any fun r => !r.hit
  let cost := opCost op (dAux d) (dInLen d) (dArg d) (field (dParams d) 0 2) + (if miss then 4000000 else 0)
  let s := refs.foldl (fun s r => if r.hit then s.pin c r.tag else s) s
  (s, { x with cls := if miss then .miss else .hit, refs := refs, cost := cost })

/-- A descriptor arrives from ring `r`: the head moves on, stages 1 and 2 run, and the item waits for an anchor (R138, R140, R175). -/
def State.decode (s : State) (c r : Nat) (desc : Bytes) : State :=
  let d := fit 128 desc
  let x := s.chan c
  let q := s.sq c r
  let st := s.stage1 c q.format d
  let y : Item := {
    seq := x.nextSeq, ring := r, slot := q.head, format := q.format, desc := d, decodedAt := s.now, cls := .refused, status := st
    cost := 833333, w := 1, demand := Demand.empty, pages := [], opmem := [], contexts := 0, sigma := 0, release := 0
    judged := false, checkAt := 0, dectab := [], refs := [], staged := none, stagedAt := [], parentRevoked := false, doneAt := s.now, result := none
    sent := 0, outW := 0, order := [], silent := false }
  let op := dOpcode d
  let (s, y) := if st ≠ 0 then (s, y)
    else s.lookUp c { y with demand := y.planned, contexts := opContexts op }
  let s := s.updSq c r fun q => { q with head := (q.head + 1) % 2 ^ q.sizeLog2 }
  let s := s.updChan c fun x => { x with decoded := x.decoded ++ [y], nextSeq := x.nextSeq + 1, fetching := none }
  s.kick c

/-- Stage 2 again for decoded items whose pins were lost (R206). -/
def State.relook (s : State) (c : Nat) : State :=
  let xs := (s.chan c).decoded
  let s := s.updChan c fun x => { x with decoded := [] }
  xs.foldl (fun s x =>
    let (s, x) := if x.cls = .refused then (s, x) else s.lookUp c x
    s.updChan c fun y => { y with decoded := y.decoded ++ [x] }) s

/-- The read in flight ends without a descriptor. -/
def State.endFetch (s : State) (c : Nat) : State := s.updChan c fun x => { x with fetching := none, stale := false }

/-- A descriptor read completes for a channel and ring that wait for it (R138, R147); one from a ring that a commit has replaced brings
nothing (R127). -/
def State.fetched (s : State) (c r : Nat) (desc : Bytes) : State :=
  if (s.chan c).fetching = some r then if (s.chan c).stale then (s.endFetch c).kick c else s.decode c r desc else s

/-- A descriptor whose opcode is in no valid group or not defined (Table 4.12). -/
def execDescriptorUndefinedOpcode (c ring : Nat) (desc : Bytes) (s : State) : Host.Outcome State Fault Refusal :=
  runOn s fun s => if opDefined (dOpcode desc) then s else s.fetched c ring desc

/-- A descriptor fetch fails (R149). -/
def execDescriptorFetchFailed (c ring : Nat) (s : State) : Host.Outcome State Fault Refusal :=
  runOn s fun s =>
    if (s.chan c).fetching = some ring ∧ (s.chan c).stale then (s.endFetch c).kick c
    else if (s.chan c).fetching = some ring then
      let s := s.markErr c fun x => { x with
        fetching := none
        sqs := KeyMap.put x.sqs ring { KeyMap.get x.sqs Sq.reset ring with halted := true, errFetch := true } }
      s.kick c
    else s

/-! ### Key loads and the key check instant (R198, R209, R211) -/

/-- A load starts for a tag: `n` entries reserved, room made for the `m` that its key takes at least, the header read (R208, R209). Where one runs, the
loads are merged, with `n` and `m` entries more. With Bus Master Enable at 0 nothing is fetched, and the key stays unread (R151). -/
def State.startLoad (s : State) (c tag iova n m : Nat) : State :=
  match KeyMap.find s.keys.loads (cacheKey c tag) with
  | some l =>
    let s := s.room (s.region c) m
    { s with keys := { s.keys with loads := KeyMap.put s.keys.loads (cacheKey c tag) { l with size := l.size + n, room := l.room + m } } }
  | none =>
    if s.reaches c = false then s
    else
      let s := s.room (s.region c) m
      let s := { s with keys := { s.keys with loads := KeyMap.put s.keys.loads (cacheKey c tag) ⟨none, n, m, none⟩ } }
      s.readHost (s.chan c).binding.function iova 48

/-- IOVA of the reference for which a tag is being loaded. -/
def State.iovaOf (s : State) (c tag : Nat) : Nat :=
  (((s.chan c).admitted.flatMap (·.refs)).find? fun r => r.tag == tag && !r.hit).elim 0 (·.iova)

/-- The header of a blob arrives, or its read fails (R209; stages a and b of Table 6.15). -/
def execKeyBlobHeaderRead (c tag : Nat) (data : Option Bytes) (s : State) : Host.Outcome State Fault Refusal :=
  runOn s fun s =>
    match KeyMap.find s.keys.loads (cacheKey c tag) with
    | some ⟨none, reserved, room, _⟩ =>
      match data with
      | none => s.failLoad c tag ST_KEY_FETCH
      | some b =>
        let h := fit 48 b
        if s.reaches c = false then s.failLoad c tag ST_KEY_FETCH
        else if stageB h then
          let n := entriesOf (headerView h)
          let s := s.room (s.region c) (n - room)
          let held := if s.regionUsed (s.region c) + (n - room) ≤ s.regionSize (s.region c) then n else min n reserved
          let s := { s with keys := { s.keys with loads := KeyMap.put s.keys.loads (cacheKey c tag) ⟨some h, held, held, none⟩ } }
          s.readHost (s.chan c).binding.function (s.iovaOf c tag + 48) ((headerView h).totalLen - 48)
        else s.failLoad c tag ST_KEY_UNWRAP
    | _ => s

/-- ALG of the first reference's key, for the checks that compare both keys. -/
def State.firstAlg (s : State) (c : Nat) (x : Item) : Nat :=
  match x.refs with
  | r :: _ => ((s.cached c r.tag).map fun e => (⟨e.header, e.attrs, e.material⟩ : KeyView).alg).getD 0
  | [] => 0

/-- A loaded key for which its region has no room at the check instant either, because it is larger than any that suits the reference or its size was
not known at admission: each item that waits for it takes the status of its checks, or ST_KEY_FETCH where they pass (R205, R208; log 37). -/
def State.refuseKey (s : State) (c tag : Nat) (k : KeyView) : State :=
  let e : CacheEntry := ⟨0, entriesOf k, k.header, k.attrs, k.material, (s.slot 0 0).gen, 0, s.now, .none⟩
  let judge (x : Item) : Item :=
    if x.waits tag then
      { x with refs := x.refs.zipIdx.map fun (r, j) =>
          let st := s.judgeKey c (dOpcode x.desc) (j + 1) (s.firstAlg c x) (dParams x.desc) e
          if r.tag == tag && !r.hit then { r with status := if st = ST_OK then ST_KEY_FETCH else st } else r }
    else x
  let s := { s with keys := { s.keys with loads := KeyMap.del s.keys.loads (cacheKey c tag) } }
  s.updChan c fun x => { x with admitted := x.admitted.map judge }

/-- A loaded key's region has its entries (R205, R208). -/
def State.fits (s : State) (c tag : Nat) (k : KeyView) : Bool :=
  let r := s.region c
  let free := (({ s with keys := { s.keys with loads := KeyMap.del s.keys.loads (cacheKey c tag) } }).room r (entriesOf k)).regionUsed r
  decide (free + entriesOf k ≤ s.regionSize r)

/-- A blob has been read whole: stages c to f, and the key takes its entries where its region has them. Where not, the blob is held up to the check
instant (R205, R208, R209, R211; log 37). -/
def State.takeBlob (s : State) (c tag : Nat) (l : Load) (blob : Bytes) : State :=
  match s.openBlob blob (some tag) with
  | .inl st => s.failLoad c tag st
  | .inr k =>
    if s.fits c tag k then s.insertKey c tag k
    else { s with keys := { s.keys with loads := KeyMap.put s.keys.loads (cacheKey c tag) { l with blob := some blob } } }

/-- A held blob at the check instant of an item that waits for its key: the last time to take its entries (R198, R208; log 37). -/
def State.settleLoad (s : State) (c tag : Nat) : State :=
  match (KeyMap.find s.keys.loads (cacheKey c tag)).bind (·.blob) with
  | none => s
  | some blob => match s.openBlob blob (some tag) with
    | .inl st => s.failLoad c tag st
    | .inr k => if s.fits c tag k then s.insertKey c tag k else s.refuseKey c tag k

/-- The rest of a blob arrives, or its read fails: stages c to f, and the key enters the cache (R209, R211). -/
def execKeyBlobLoaded (c tag : Nat) (data : Option Bytes) (s : State) : Host.Outcome State Fault Refusal :=
  runOn s fun s =>
    match KeyMap.find s.keys.loads (cacheKey c tag) with
    | some ⟨some h, size, room, none⟩ =>
      match data with
      | none => s.failLoad c tag ST_KEY_FETCH
      | some b => s.takeBlob c tag ⟨some h, size, room, none⟩ (h ++ fit ((headerView h).totalLen - 48) b)
    | _ => s

/-- The references that a test names are judged; a key that is not there counts as not read (R198; log 39). -/
def State.judgeRefs (s : State) (c : Nat) (x : Item) (which : KeyRef → Bool) : List KeyRef :=
  x.refs.zipIdx.map fun (r, j) =>
    if which r && r.status == 0 then
      match s.cached c r.tag with
      | some e => { r with status := s.judgeKey c (dOpcode x.desc) (j + 1) (s.firstAlg c x) (dParams x.desc) e }
      | none => { r with status := ST_KEY_FETCH }
    else r

/-- The staged key that a KEY_REWRAP with TARGET 0x01 finds for its key's parent among those staged: the parent's own, else the vault seed's (R214). -/
def State.stagedFor (s : State) (c : Nat) (x : Item) (staged : KeyMap Staged) : Option (Bool × Staged) :=
  if dOpcode x.desc = 0x72 ∧ byteAt (dParams x.desc) 0 = 1 then
    match x.refs with
    | r :: _ =>
      match s.cached c r.tag with
      | some e =>
        let slot := (⟨e.header, e.attrs, e.material⟩ : KeyView).slot
        match KeyMap.find staged c, KeyMap.find staged 0 with
        | some t, seed => if t.slot = slot ∧ ¬ (c = 0 ∧ t.slot = 0) then some (false, t)
            else match seed with
              | some u => if u.slot = 0 ∧ slot ≤ 1 then some (true, u) else none
              | none => none
        | none, some u => if u.slot = 0 ∧ slot ≤ 1 then some (true, u) else none
        | none, none => none
      | none => none
    | [] => none
  else none

/-- No work is left, as of an item whose key check has failed: its reservation of engines ends (R211, R321). -/
def Demand.drop (d : Demand) : Demand := { Demand.empty with engine := d.engine }

/-- An item whose key references have all been judged carries the first failure (R211). A KEY_REWRAP is made under what was staged at its admission,
else under what is staged now (R214, R222; log 135). -/
def State.judged (s : State) (c : Nat) (x : Item) (refs : List KeyRef) : Item :=
  let st := ((refs.find? fun r => r.status != 0).map (·.status)).getD 0
  let staged := match s.stagedFor c x x.stagedAt with
    | some t => some t
    | none => s.stagedFor c x s.keys.staged
  { x with
    refs := refs, judged := true, status := st, staged := staged
    demand := if st = 0 then x.demand else x.demand.drop
    doneAt := if st = 0 then x.doneAt else s.now }

/-- An admitted item changed, by its fetch number. -/
def State.updItem (s : State) (c seq : Nat) (f : Item → Item) : State :=
  let g (x : Item) : Item := if x.seq = seq then f x else x
  s.updChan c fun y => { y with admitted := y.admitted.map g }

/-- The check instant of a missed key, admission plus 28,672 ns (R198). -/
def execKeyCheckInstant (c : Nat) (s : State) : Host.Outcome State Fault Refusal :=
  runOn s fun s =>
    let next := ((s.chan c).admitted.filter fun x => !x.judged).foldl (fun (best : Option Item) x =>
      match best with
      | none => some x
      | some b => if x.checkAt < b.checkAt then some x else some b) none
    match next with
    | none => s
    | some x =>
      let s := (x.refs.filter fun r => !r.hit && r.status == 0).foldl (fun s r => s.settleLoad c r.tag) (s.advance x.checkAt)
      let x := ((s.chan c).admitted.find? fun y => y.seq == x.seq).getD x
      s.updItem c x.seq fun _ => s.judged c x (s.judgeRefs c x fun r => !r.hit)

/-! ### Admission (R175) -/

/-- The item at the head of the line: lowest ring, then fetch order; an item with FENCE waits for the earlier items of its own ring and
holds that ring alone, and a ring whose fetch failed admits nothing (R138, R139, R149). -/
def headOfLine (x : Channel) : Option Item :=
  (List.range 4).findSome? fun r =>
    if (KeyMap.get x.sqs Sq.reset r).halted then none else
    match x.decoded.filter fun y => y.ring == r with
    | y :: _ => if dFence y.desc ∧ x.admitted.any (fun z => z.ring == r) then none else some y
    | [] => none

/-- The part of a cost that budget and pool give, and the debt (R169, R170); none where the item waits. -/
def State.charge (s : State) (c cost : Nat) : Option (Int × Nat) :=
  let x := s.chan c
  let cap := s.capPs c
  if x.budget < 0 then none
  else
    let own := min (cost : Int) x.budget
    let lack := ((cost : Int) - own).toNat
    let pool := if x.binding.isolated then 0 else min lack s.wheel.pool
    let debt := lack - pool
    if 0 < debt ∧ (cost ≤ cap ∨ x.budget < cap) then none
    else some (x.budget - own - debt, pool)

/-- Cache entries that an item reserves for its reference `i`: those of the largest key that the opcode and AUX_LEN admit there; KEY1 of 0x76 and of
0x77 may be any key, so 29 (R205, R208; log 37). -/
def reserveOf (op aux i : Nat) : Nat :=
  let rsaPrivate (n : Nat) : Nat := 1 + ceilDiv (n / 8 + 4 + 5 * (n / 16) - 32) 64
  let rsaPublic (n : Nat) : Nat := 1 + ceilDiv (n / 8 + 4 - 32) 64
  if op = 0x72 ∨ op = 0x73 then (if i = 1 then 1 + ceilDiv (aux - 128) 64 else 1)
  else if op = 0x75 then (if i = 1 then rsaPrivate aux else rsaPublic 4096)
  else if op = 0x77 then 29
  else if op = 0x76 then (if i = 1 then 29 else if i = 2 then rsaPublic aux else rsaPrivate aux)
  else if op = 0x60 ∨ op = 0x61 ∨ op = 0x66 ∨ op = 0x69 ∨ op = 0x6A ∨ op = 0x6C ∨ op = 0x6D then 2
  else if op = 0x62 ∨ op = 0x63 ∨ op = 0x6B ∨ op = 0x6E ∨ op = 0x6F then 3
  else if op = 0x64 then (if aux = 384 then 3 else 2)
  else if op = 0x65 then 19
  else if op = 0x67 ∨ op = 0x68 then rsaPrivate aux
  else 1

/-- Entries that an item reserves for its reference `j`: for a key of unknown size at most what pinned entries and the other references leave of its
region, so that it waits only where pinned entries fill the region (R208; log 37). -/
def State.reserves (s : State) (c : Nat) (x : Item) (j : Nat) : Nat :=
  let op := dOpcode x.desc
  let of_ (i : Nat) : Nat := reserveOf op (dAux x.desc) (i + 1)
  if j = 0 ∧ (op = 0x76 ∨ op = 0x77) then
    let rest := ((List.range x.refs.length).drop 1).foldl (fun a i => a + of_ i) 0
    max 1 (min (of_ 0) (s.regionSize (s.region c) - s.regionPinned (s.region c) - rest))
  else of_ j

/-- Entries that the key of an item's reference `j` takes at least: room for them is made at admission, for more when the header has told its size (R208; log 37). -/
def takesAtLeast (op aux j : Nat) : Nat :=
  if (j = 0 ∧ (op = 0x76 ∨ op = 0x77)) ∨ (j ≠ 0 ∧ op = 0x75) then 1 else reserveOf op aux (j + 1)

/-- The loads that an item still needs: the first reference of each tag, with the entries to be reserved for it, and those to be made free at once. A load
that runs has its entries, and is merged (R208, R209); before its header has told the size, more may be needed. -/
def State.toLoad (s : State) (c : Nat) (x : Item) : List (KeyRef × Nat × Nat) :=
  let least (j : Nat) : Nat := takesAtLeast (dOpcode x.desc) (dAux x.desc) j
  ((x.refs.zipIdx.filter fun (r, _) => !r.hit && (s.cached c r.tag).isNone).foldl
    (fun acc (r, j) => if acc.any (fun a => a.1.tag == r.tag) then acc else
      match KeyMap.find s.keys.loads (cacheKey c r.tag) with
      | some l => acc ++ [(r, if l.header.isSome then 0 else s.reserves c x j - l.size, least j - l.room)]
      | none => acc ++ [(r, s.reserves c x j, least j)]) []).filter fun a => a.2.1 != 0

/-- The release time keeps to the effective boundary of every change of the channel that waits (R179). -/
def State.beforeE (s : State) (c release : Nat) : Bool :=
  s.wheel.waiting.all fun x => !x.changing.contains c || decide (release ≤ x.boundary)

/-- The candidate with its release time, first work sector and stores, where everything it needs is free (R175, R176, R208, R282, R304). -/
def State.place (s : State) (c : Nat) (x : Item) (a : Nat) : Option Item :=
  let op := dOpcode x.desc
  let miss := x.cls == .miss
  let lat := if x.cls = .refused then s.refusalNs c
    else 1000 * (latencyUs (s.serviceSet c) (leadNs miss) (s.workBase c op) + stepsIn x.desc * stepUs (s.serviceSet c) op)
  let w := if x.cls = .refused then 1 else s.workBase c op + stepsIn x.desc * stepWork op
  let x := { x with release := a + lat, sigma := (a + leadNs miss) / sectorNs, checkAt := a + 28672, w := w }
  if ¬ s.beforeE c x.release then none
  else if x.cls = .refused then some { x with judged := true }
  else
    let n := opPages op (dAux x.desc) (dInLen x.desc)
    let k := opOpmem op (dAux x.desc)
    let pages := if n = 0 then some [] else if s.pagesMove c then none else s.pageSet c n
    let kib := if k = 0 then some [] else if s.layoutMoves c then none else s.freeKib c k
    match pages, kib with
    | some ps, some ks =>
      let x := { x with pages := ps, opmem := ks, dectab := s.cfg F_CH_DECTAB c }
      if s.regionSize (s.region c) < s.regionPinned (s.region c) + ((s.toLoad c x).map (·.2.1)).foldl (· + ·) 0 then none
      else if s.edfFits c { x with outW := x.w } then some (s.planOutput c { x with outW := x.w }) else none
    | _, _ => none

/-- An item is admitted at anchor `a` (R137, R175, R198, R208, R396). -/
def State.admitItem (s : State) (c : Nat) (x : Item) (budget : Int) (pool a : Nat) : State :=
  let missed := x.refs.filter fun r => !r.hit
  let s := { s with wheel := { s.wheel with pool := s.wheel.pool - pool } }
  let s := s.updChan c fun y => { y with
    decoded := y.decoded.filter fun z => z.seq != x.seq
    admitted := y.admitted ++ [{ x with stagedAt := if dOpcode x.desc = 0x72 then KeyMap.keep s.keys.staged fun k _ => k == 0 || k == c else [] }]
    used := y.used + 1
    budget := budget }
  let s := s.takePages c x.pages
  let s := if x.opmem.isEmpty then s else s.takeSlots c (dOpcode x.desc) x.opmem
  let s := x.refs.foldl (fun s r => s.updEntry c r.tag fun e => { e with age := a }) s
  let s := missed.foldl (fun s r => if (s.cached c r.tag).isSome then s.pin c r.tag else s) s
  let s := (s.toLoad c x).foldl (fun s r => s.startLoad c r.1.tag r.1.iova r.2.1 r.2.2) s
  -- keys that hit at decode are judged at admission
  let refs := s.judgeRefs c x fun r => r.hit
  let s := if x.cls = .refused then s
    else s.updItem c x.seq fun x => if missed.isEmpty then s.judged c x refs else { x with refs := refs }
  let s := s.sampleSubject 8 (· == c) ((a : Int) - x.decodedAt)
  s.tellAdmit c x

/-- The loop of an anchor (R175). -/
def State.anchorLoop (c : Nat) (miss : Bool) (a : Nat) : Nat → State → State
  | 0, s => s
  | fuel + 1, s =>
    match headOfLine (s.chan c) with
    | none => s
    | some x =>
      if a < x.decodedAt ∨ (x.cls == .miss) ≠ miss ∨ ¬ s.admits c ∨ s.creditLimit c ≤ (s.chan c).used then s
      else match s.charge c x.cost, s.place c x a with
        | some (budget, pool), some y => State.anchorLoop c miss a fuel (s.admitItem c y budget pool a)
        | _, _ => s

/-- An anchor of a channel and class is reached (R175). -/
def execAnchor (c : Nat) (miss : Bool) (s : State) : Host.Outcome State Fault Refusal :=
  runOn s fun s =>
    let set := s.serviceSet c
    if set.isEmpty || c == 0 then s
    else
      let a := nextOf set (ceilDiv (s.now + leadNs miss) sectorNs) * sectorNs - leadNs miss
      let s := s.advance a
      (State.anchorLoop c miss a (s.chan c).decoded.length s).kick c

/-! ### Stage 3 and release (R32, R132, R134, R150, R166) -/

/-- A scatter-gather list's entries, or the status of its first fault (R132). -/
def sglEntries (total : Nat) : Nat → Nat → Bytes → Sum Nat (List (Nat × Nat))
  | 0, _, _ => .inl ST_BAD_LENGTH
  | fuel + 1, sum, b =>
    if b.length < 16 then .inl ST_BAD_LENGTH
    else
      let len := field b 8 4
      let fl := field b 12 4
      if fl / 2 ≠ 0 then .inl ST_RESERVED
      else if len = 0 then .inl ST_BAD_LENGTH
      else if bit fl 0 then (if sum + len = total then .inr [(field b 0 8, len)] else .inl ST_BAD_LENGTH)
      else match sglEntries total fuel (sum + len) (b.drop 16) with
        | .inl e => .inl e
        | .inr rest => .inr ((field b 0 8, len) :: rest)

/-- The segments of a list as read; ST_DMA where it could not be read, ST_BAD_LENGTH where it is not 16-byte aligned. -/
def sglOf (iova total : Nat) (list : Option Bytes) : Sum Nat (List (Nat × Nat)) :=
  if iova % 16 ≠ 0 then .inl ST_BAD_LENGTH
  else match list with
    | none => .inl ST_DMA
    | some b => sglEntries total 256 0 b

/-- The bytes of segments in order, cut where the output ends. -/
def scatter : List (Nat × Nat) → Bytes → List (Nat × Bytes)
  | [], _ => []
  | (a, n) :: rest, b => if b.isEmpty then [] else (a, b.take n) :: scatter rest (b.drop n)

/-- The key of a reference as its operation sees it. -/
def State.viewOf (s : State) (c : Nat) (r : KeyRef) : KeyView :=
  match s.cached c r.tag with
  | some e => ⟨e.header, e.attrs, e.material⟩
  | none => ⟨[], [], []⟩

/-- What stage 3 of an item sees. -/
def State.execIn (s : State) (c : Nat) (x : Item) (input : Option Bytes) : ExecIn where
  desc := x.desc
  keys := x.refs.map (s.viewOf c)
  input := input.map (fit (dInLen x.desc))
  rng := s.rng
  dectab := x.dectab
  free := Config.freeValue s.free
  release := x.release
  chan := c
  ring := x.ring
  slot := x.slot

/-- Bytes of segments cut to the `n` bytes from byte `k` on. -/
def cutBytes : Nat → Nat → List (Nat × Bytes) → List (Nat × Bytes)
  | _, _, [] => []
  | k, n, (a, b) :: rest =>
    let part := (b.drop k).take n
    let more := cutBytes (k - b.length) (n - part.length) rest
    if part.isEmpty then more else (a + k, part) :: more

/-- Output bytes from `k` to before `n` of a result are written to host memory, in ascending order (R32, R150). -/
def State.writeOut (s : State) (c : Nat) (r : Result) (k n : Nat) : State :=
  (cutBytes k (n - k) (scatter r.segments r.out)).foldl (fun s p => s.emit (.write (s.chan c).binding.function p.1 p.2)) s

/-- Output bytes of an item that may be in host memory by now: of AES_GCM_DECRYPT_RBV, the plaintext of completed steps up to the final segment, and
all of it once the second base sector has passed (R285); of an item whose plan has sectors for its output, what they have written (R316, R317); of every
other opcode none before the release. -/
def Item.outNow (x : Item) (r : Result) : Nat :=
  let op := dOpcode x.desc
  let planned := min (plannedOut op x.desc) r.out.length
  if opGroup op = 6 ∨ op = 0x71 then (if r.status = ST_OK ∧ x.demand.left = 0 then planned - x.demand.linkOut else 0)
  else if op ≠ 0x4A ∨ (r.status ≠ ST_OK ∧ r.status ≠ ST_TAG_FAIL) then 0
  else
    let steps := stepsIn x.desc
    if steps + 2 ≤ x.demand.taken then r.out.length
    else min (r.out.length - 2048) (2048 * min steps x.demand.taken - dAux x.desc)

/-- What an item may write before its release is written (R285); a write that the function cannot make fails, and ends the item with ST_DMA (R150, R151). -/
def State.flushItem (s : State) (c seq : Nat) : State :=
  match (s.chan c).admitted.find? fun x => x.seq == seq with
  | some x =>
    match x.result with
    | some r =>
      let n := x.outNow r
      if x.silent ∨ n ≤ x.sent then s
      else if s.reaches c then (s.writeOut c r x.sent n).updItem c seq fun y => { y with sent := n }
      else s.updItem c seq fun y => { y with result := some { r with status := ST_DMA, out := r.out.take x.sent, written := x.sent } }
    | none => s
  | none => s

/-- What an item's work settles of its plan: the work falls to that of the key's set, each layer of a verification spares what its digits do as they
become known, layer after layer, and the output falls to its length (R315, R321). A layer's digits are known when the layers before it are done. -/
def Demand.settle (d : Demand) (out : ExecOut) : Demand :=
  let worst := 15 * out.chains
  let n := out.layers.length
  let d := { d with
    side := d.side - out.spared
    linkOut := if d.after then min d.linkOut out.out.length else d.linkOut }
  d.known (out.layers.zipIdx.map fun p => ((n - p.2) * worst, p.1))

/-- Stage 3: an item's work runs, and its outcome is held until its release. A list that cannot be used fails in the place of the read it
serves; an output longer than its area fails with ST_BAD_LENGTH before anything is written (R132, R553). -/
def State.workOn (s : State) (c : Nat) (x : Item) (inList outList : Option Bytes) (out : ExecOut) : State :=
  let d := x.desc
  let inBad : Nat := if dInSgl d ∧ dInLen d ≠ 0 then
      match sglOf (dInIova d) (dInLen d) inList with
      | .inl e => e
      | .inr _ => 0
    else 0
  let segs : Sum Nat (List (Nat × Nat)) := if dOutSgl d then sglOf (dOutIova d) (dOutLen d) outList else .inr [(dOutIova d, dOutLen d)]
  let st := if out.status = ST_DMA ∧ inBad ≠ 0 then inBad else out.status
  let r : Result :=
    if st / 256 ≠ 0 ∧ out.out.isEmpty then { Result.none_ st with detail := out.detail, provisional := out.provisional }
    else if out.out.isEmpty then { Result.none_ st with detail := out.detail, provisional := out.provisional }
    else if dOutLen d < out.out.length then Result.none_ ST_BAD_LENGTH
    else match segs with
      | .inl e => Result.none_ e
      | .inr l => ⟨st, out.out, l, out.out.length, out.detail, out.provisional⟩
  let s := { s with rng := s.rng + out.drawn, free := s.free + 1 }
  let s := if (opCreates (dOpcode d) || dOpcode d == 0x72) && r.out.length != 0 then s.blobMade else s
  let s := s.fillPages x.pages out.held
  (s.updItem c x.seq fun y => { y with
    result := some r, doneAt := s.now, demand := y.demand.settle out, order := out.order }).flushItem c x.seq

/-- The work of an admitted item whose keys have passed (Table 4.12, stage 3): `f` is its opcode's operation. The bytes read arrive with
the command; an input list that cannot be used leaves the input unread. Work that needs a crossing that passes nothing ends with ST_CDC_TIMEOUT (R510). -/
def State.work (s : State) (op c seq : Nat) (input inList outList : Option Bytes) (f : State → Item → ExecIn → ExecOut) : State :=
  match (s.chan c).admitted.find? fun x => x.seq == seq with
  | none => s
  | some x =>
    if dOpcode x.desc = op ∧ x.judged ∧ x.status = 0 ∧ x.result.isNone ∧ x.cls ≠ .refused then
      let d := x.desc
      let readable : Bool := !(dInSgl d && dInLen d != 0) || (match sglOf (dInIova d) (dInLen d) inList with
        | .inl _ => false
        | .inr _ => true)
      let inp := if readable then input else none
      if s.cutOff x then s.updItem c seq fun y => { y with result := some (Result.none_ ST_CDC_TIMEOUT), doneAt := s.now }
      else s.workOn c x inList outList (f s x (s.execIn c x inp))
    else s

/-- A unit of the kind that an item's work used, for the alarm that names it: which one is not stated (log 3). -/
def State.someUnit (s : State) (x : Item) : List Nat :=
  let v := leNat (Config.freeValue s.free)
  match x.planned.engine with
  | .none => []
  | .core => [v % 16]
  | .lane => [16 + v % 8]
  | .array => [16 + v % 8]
  | .mont => [24 + v % 16]
  | .ntt => [40]

/-- What an item held becomes free at its release: pins, hold pages, operand memory (R208, R283, R304). -/
def State.letGo (s : State) (c : Nat) (x : Item) : State :=
  let s := x.refs.foldl (fun s r => s.unpin c r.tag) s
  let s := s.dropPages x.pages
  let s := { s with cipher := { s.cipher with store := KeyMap.keep s.cipher.store fun _ e => e.chan != c || e.seq != x.seq } }
  s.freeSlots x.opmem

/-- An item earlier in the order of records: release time, ring, fetch order (R145). -/
def Item.before (x y : Item) : Bool :=
  decide (x.release < y.release ∨ (x.release = y.release ∧ (x.ring < y.ring ∨ (x.ring = y.ring ∧ x.seq < y.seq))))

/-- The admitted item of a channel that is released next (R145). -/
def nextRelease (x : Channel) : Option Item :=
  x.admitted.foldl (fun best y =>
    match best with
    | none => some y
    | some b => if y.before b then some y else some b) none

/-- Class of an item as RELEASE_SLACK numbers it (Table 15.6). -/
def ItemClass.code : ItemClass → Nat
  | .hit => 1 | .miss => 2 | .refused => 3

/-- An item reaches its release time: output, then record (R32, R135); unfinished work ends with ST_ENGINE_FAULT and a DEGRADE alarm
(R166), as does a failed check before release (R312). `ok` says that its record write does not fail. -/
def State.releaseItem (s : State) (c : Nat) (x : Item) (ok : Bool) : State :=
  let s := s.advance x.release
  let s := s.updChan c fun y => { y with admitted := y.admitted.filter fun z => z.seq != x.seq }
  let s := s.letGo c x
  if x.silent then s
  else
    let r := x.outcome
    let s := if r.status ≠ ST_ENGINE_FAULT then
        s.sampleSubject 1 (fun a =>
          (a % 256 == 0 || a % 256 == dOpcode x.desc) && (a / 256 % 256 == 0 || a / 256 % 256 == c)
            && (a / 65536 % 4 == 0 || a / 65536 % 4 == x.cls.code)) ((x.release : Int) - x.doneAt)
      else ({ s with free := s.free + 1 }).faultDegrade ST_ENGINE_FAULT ((s.someUnit x).headD 0) (s.someUnit x)
    -- a write that the function cannot make fails (R151)
    let r := if r.out.length ≤ x.sent ∨ s.reaches c then r else { r with status := ST_DMA, out := [], written := x.sent }
    let s := s.writeOut c r x.sent r.out.length
    -- nothing of the output stays behind the record (R283)
    let x := { x with result := some { r with out := [] } }
    if ¬ s.mayWrite c x ∨ ¬ (s.chan c).heldRecords.isEmpty then
      s.updChan c fun y => { y with heldRecords := y.heldRecords ++ [x] }
    else s.writeItem c x ok

/-- An item's release time is reached (R32). -/
def execItemRelease (c : Nat) (s : State) : Host.Outcome State Fault Refusal :=
  runOn s fun s => match nextRelease (s.chan c) with
    | some x => (s.releaseItem c x true).kick c
    | none => s

/-- A completion record write fails (R150). -/
def execCompletionWriteFailed (c : Nat) (s : State) : Host.Outcome State Fault Refusal :=
  runOn s fun s => match nextRelease (s.chan c) with
    | some x => s.releaseItem c x false
    | none => s

/-- An output write of the next item fails after `written` bytes (R150); of 0x4A no final segment or poison record follows (R296). -/
def execOutputWriteFailed (c written : Nat) (s : State) : Host.Outcome State Fault Refusal :=
  runOn s fun s => match nextRelease (s.chan c) with
    | some x =>
      match x.result with
      | some r =>
        let n := max x.sent written
        if r.out.isEmpty ∨ r.out.length ≤ n then s
        else s.updItem c x.seq fun y => { y with result := some { r with status := ST_DMA, out := r.out.take n, written := n } }
      | none => s
    | none => s

/-- The moderation timer reaches CQ_MOD_TIMER (R141). -/
def execCqModTimerExpire (c : Nat) (s : State) : Host.Outcome State Fault Refusal :=
  runOn s fun s => match (s.chan c).cq.timer with
    | some t => (s.advance (t + 1000 * (s.chan c).cq.modTimer)).moderate c
    | none => s

/-! ### Functions and the link -/

/-- FN_TIME.LO is read: HI is latched (Table 4.5). -/
def execFnTimeLoRead (fn : Nat) (s : State) : Host.Outcome State Fault Refusal :=
  runOn s fun s => (s.updFn fn fun x => { x with timeHi := s.now / 2 ^ 32 % 2 ^ 32 }).emit (.data (u32 (s.now % 2 ^ 32)))

/-- Bus Master Enable becomes 0 (R151). -/
def execBusMasterEnableClear (fn : Nat) (s : State) : Host.Outcome State Fault Refusal :=
  runOn s fun s => s.updFn fn fun x => { x with busMaster := false }

/-- Bus Master Enable becomes 1: fetching and writes go on. -/
def execBusMasterEnableSet (fn : Nat) (s : State) : Host.Outcome State Fault Refusal :=
  runOn s fun s => (s.updFn fn fun x => { x with busMaster := true }).kickAll

/-- One channel at a function-level reset of its function (R152, R324); with `retire` the partner is told to write no record for its items (R416), and
at a link-down it is not: its takeover rules settle them (R153). -/
def State.resetRings (retire : Bool) (s : State) (c : Nat) : State :=
  let x := s.chan c
  let s := if retire then s.tellAll c else s
  let s := x.decoded.foldl (fun s y => y.refs.foldl (fun s r => if r.hit then s.unpin c r.tag else s) s) s
  s.updChan c fun x => { x with
    sqs := KeyMap.mapVals x.sqs fun _ q => { q with head := 0, tail := 0, halted := false, errDb := false, errFetch := false }
    cq := { x.cq with
      writeIdx := 0, head := 0, phase := true, armed := false, pendingCount := 0, timer := none, irqNow := false, errDb := false, errWrite := false }
    used := 0
    halted := false
    fetching := none
    stale := false
    decoded := []
    admitted := x.admitted.map fun y => { y with silent := true }
    heldRecords := [] }

/-- What a function loses at its reset and at a link-down (R152, R153, R512): rings, the transfers in its tile's crossings, function registers, the function's place on its mailbox and its
sessions (R71, R82). Of the shared MB3 its DB_IGNORED and LEN_ERR are cleared with its registers 0x020 to 0x02C (R67; log 149). -/
def State.dropFunction (retire : Bool) (s : State) (fn : Nat) : State :=
  let s := (s.bound.filter fun c => (s.chan c).binding.function == fn).foldl (State.resetRings retire) s
  let port : Port := if fn = 0 then .mb0 else .mb3 fn
  let s := (s.orfer.sessions.filter fun p => p.2.port == port).foldl (fun s p => s.closeSession p.1) s
  let s := if fn = 0 then s else s.dropGrant fn
  let s := s.voidCrossings [hostTile]
  { s with pcie := { s.pcie with fns := KeyMap.del s.pcie.fns fn } }

/-- A function-level reset (R152, R416). -/
def State.resetFunction (s : State) (fn : Nat) : State := s.dropFunction true fn

/-- FUNCTION_LEVEL_RESET. -/
def execFunctionLevelReset (fn : Nat) (s : State) : Host.Outcome State Fault Refusal := runOn s fun s => s.resetFunction fn

/-- The link goes down, or PERST_N falls: a function-level reset of every function (R153, R547). The ball's level is taken in reset and without main power too. -/
def execPcieLinkDown (perst : Bool) (s : State) : Host.Outcome State Fault Refusal :=
  run s fun s =>
    if !s.alive then { s with pcie := { s.pcie with perst := s.pcie.perst && !perst } }
    else
    let s := (List.range 128).foldl (State.dropFunction false) s
    { s with pair := { s.pair with pcieLost := s.pair.pcieLost || s.pcie.up }, pcie := { s.pcie with
        up := false, width := 0, speed := 0
        perst := if perst then false else s.pcie.perst
        readyAt := if perst then none else s.pcie.readyAt } }

/-- PERST_N rises: the host tile is ready 10 ms later, once step 1 of the cold GATE has ended (R547). -/
def execPerstRise (s : State) : Host.Outcome State Fault Refusal :=
  run s fun s => { s with pcie := { s.pcie with
    perst := true
    readyAt := if !s.alive ∨ s.boot.step = 1 then none else some (s.now + 10000000) } }

/-- The link trains to a width in lanes and a speed in GT/s (2 stands for 2.5); less than ×8 at 32 GT/s, down to ×2 at 8 GT/s, raises a NOTE alarm (R541, R542, R547). -/
def execPcieLinkTrained (width speed : Nat) (s : State) : Host.Outcome State Fault Refusal :=
  runOn s fun s =>
    match s.pcie.readyAt with
    | none => s
    | some t =>
      if s.pcie.perst ∧ (width = 1 ∨ width = 2 ∨ width = 4 ∨ width = 8) ∧ [2, 5, 8, 16, 32].contains speed then
        let s := s.advance t
        let s := { s with pcie := { s.pcie with up := true, width := width, speed := speed }, pair := { s.pair with pcieLost := false } }
        let s := if (width = 8 ∧ speed = 32) ∨ width < 2 ∨ speed < 8 then s else s.noteAlarm
        s.kickAll
      else s

end Sys2Proof.Machine
end

