-- ==== Sys2Proof/Machine/Boot.lean ====
section
/-!
DEFINITION. Supplies, resets, the cold start and the release sequence (R42 to R60, R182, R183, R437, R452 to R463, R471 to R473, R507, R546 to R549).
-/

namespace Sys2Proof.Machine

/-! ### Supplies and resets -/

/-- Main power is good: a cold GATE starts (R43, Table 2.3), and the balls take their reset state (R527). -/
def State.powerUp (s : State) (elapsed : Nat) : State :=
  if s.mainPower && (s.ms.mode == .off || s.ms.mode == .sentinel) then
    let run := s.supply.sentinel
    let before := s
    let s := { s with
      supply := { s.supply with sentinel := true, flashReset := 0 }
      tamper := { s.tamper with rtc := s.tamper.rtc + (if run then elapsed else 0) } }
    (s.coldGate true 0).showBalls before
  else s

/-- SYS_PWRGD rises (R43), with the main rails as the monitors find them. -/
def execSysPwrgdRise (rails : Rails) (elapsed : Nat) (s : State) : Host.Outcome State Fault Refusal :=
  run s fun s => ({ s with supply := { s.supply with pwrgd := true, rails := rails } }).powerUp elapsed

/-- A main rail enters its window; after the last one main power is good (R43, R535, R552). -/
def execRailEntersWindow (x : RailEntry) (s : State) : Host.Outcome State Fault Refusal :=
  run s fun s => ({ s with supply := { s.supply with rails := x.rails } }).powerUp x.elapsed

/-- What main power's warning or loss does to the outputs: chip selects rise, the fence is released, GPIOs float (R548). -/
def State.quietOutputs (s : State) : State :=
  let s := { s with busA := { s.busA with frame := none }, busB := { s.busB with frame := none }, pair := { s.pair with fenceOut := false } }
  s.floatAll

/-- SYS_PWRGD falls (R548): the outputs of VDD_IO are no longer driven, and a rise within 2 µs does not drive them again (R43; log 147). -/
def execSysPwrgdFall (rails : Rails) (s : State) : Host.Outcome State Fault Refusal :=
  run s fun s =>
    let s := { s with supply := { s.supply with pwrgd := false, rails := rails } }
    if s.ms.mode == .off || s.ms.mode == .sentinel then s else s.quietOutputs.showBalls s

/-- Main power stays lost for more than 2 µs, SYS_PWRGD being low or a rail out of its window (R43, R61, R417, R419, R535). An OTP pulse that the loss cuts short leaves
the bits of `partLow` at low margin and of `partHigh` at high margin. On the cell the Sentinel domain draws the instants of its detectors' tests (R440). -/
def execMainPowerLost (loss : PowerLoss) (partLow partHigh : Nat) (s : State) : Host.Outcome State Fault Refusal :=
  run s fun s =>
    let s := { s with supply := { s.supply with rails := loss.rails } }
    if s.ms.mode == .off || s.ms.mode == .sentinel || s.mainPower then s
    else
      let before := s
      let s := s.quietOutputs.clearRings
      let s := match s.otp.jobs with
        | j :: _ => match s.jobBits j with
          | some x => s.pulse x.1 x.2 partLow partHigh
          | none => s
        | [] => s
      let s := { s with
        supply := { s.supply with sentinel := loss.cell, flashReset := 0 }
        ms := { s.ms with mode := if loss.cell then .sentinel else .off, base := .none, cause := 2, causes := [2] }
        boot := { BootState.reset with step := 0, inReset := s.boot.inReset }
        otp := { s.otp with jobs := [], jobSince := 0 }
        orfer := { s.orfer with sessions := [], realms := KeyMap.mapVals s.orfer.realms fun _ r => { Realm.reset with roster := r.roster } }
        keys := { s.keys with staged := [], cache := [] }
        recorder := { s.recorder with running := false, staging := [], flushBy := none, retryAt := none }
        tiles := { s.tiles with avs := { s.tiles.avs with running := false, write := none, retryAt := none } } }
      let s :=
        if loss.cell then (if s.cellLess then { s with keys := { s.keys with vault := [] } } else s).drawTests
        else { s with
          keys := { s.keys with vault := [] }
          tamper := { TamperState.reset with cell := { CellState.reset with chg := s.tamper.cell.chg } } }
      s.showBalls before

/-- DEV_RST_N is low (R549): a cold GATE, held in the boot ROM until the release, with the balls in their reset state (R527). -/
def execDeviceReset (s : State) : Host.Outcome State Fault Refusal :=
  run s fun s =>
    let t := { s with boot := { s.boot with inReset := true }, supply := { s.supply with flashReset := 0 } }
    if s.ms.mode == .off || s.ms.mode == .sentinel then t else (t.coldGate false 3).showBalls s

/-- DEV_RST_N rises: the boot ROM starts (R549). -/
def execDeviceResetRelease (s : State) : Host.Outcome State Fault Refusal :=
  run s fun s => { s with boot := { s.boot with inReset := false } }

/-- A platform reset request (R49, Table 2.3). During GATE it restarts at platform verification once Facet has started; QUARANTINE ignores it (log 26). -/
def State.platformReset (s : State) : State :=
  match s.ms.mode with
  | .watch | .serve | .steward | .recover => (s.bound.foldl State.writeHeld s).warmGate 0 4
  | .gate => if 8 ≤ s.boot.step then s.warmGate 0 4 else s
  | _ => s

/-- A falling edge on PLAT_RST_REQ_N (R49). -/
def execPlatformResetRequest (s : State) : Host.Outcome State Fault Refusal := runOn s State.platformReset

/-! ### Steps 1 to 6 (Table 2.5) -/

/-- Nominal clock of a tile in kHz under main power (Table 16.1). -/
def tileKhz (t : Nat) : Nat :=
  if t = 0 then 500000 else if t = 1 ∨ t = 20 then 1000000 else if t ≤ 19 then 1200000 else if t = 21 then 425000
  else if t = 22 then 800000 else 50000

/-- The PLLs lock (step 1): the address strap is sampled, the host tile becomes ready 10 ms later (R530, R547; FREQ_KHZ: log 28). -/
def execPllLockComplete (addrSel : Bool) (s : State) : Host.Outcome State Fault Refusal :=
  runOn s fun s =>
    if s.boot.step ≠ 1 then s
    else
      let s := (List.range 24).foldl (fun s t => s.updTile t fun x => { x with pllLock := true, freq := tileKhz t }) s
      { s with
        boot := { s.boot with step := 2 }
        supply := { s.supply with i3cSel := addrSel }
        pcie := { s.pcie with readyAt := if s.pcie.perst then some (s.now + 10000000) else none } }

/-- Pending Sentinel log entries in ascending SEQ (R437). -/
def State.pendingLog (s : State) : List LogEntry :=
  let es := (s.tamper.log.map (·.2)).filter fun e => e.state == 1
  (es.foldl (fun (m : KeyMap LogEntry) e => KeyMap.put m e.seq e) []).map (·.2)

/-- Step 3 has nothing left to program: step 4 follows, unless the boot ROM stops here (R42). A QUARANTINE marker that OTP held or that
step 3 has programmed leads to QUARANTINE (R53, R437). -/
def State.afterStep3 (s : State) : State :=
  if s.boot.step = 3 ∧ s.otp.jobs = [] ∧ !s.boot.stopped then
    { s with boot := { s.boot with
      step := 4, restricted := s.boot.restricted || s.quarantineMarked, toQuarantine := s.boot.toQuarantine || s.quarantineMarked } }
  else s

/-- The sense controller has read OTP (step 2) and step 3 begins: seeds are drawn, pending entries and torn words are programmed (R421, R437, R452 to
R455, R462), a commissioning that a power loss cut short in its lock field goes on, and in END_OF_LIFE the rest of the overwrite (R469, Table 14.6). `weak` names the bits, by word and mask, that only the low-margin read reports. In BLANK and END_OF_LIFE the boot ROM stops (R42). -/
def execOtpSenseComplete (weak : List (Nat × Nat)) (s : State) : Host.Outcome State Fault Refusal :=
  runOn s fun s =>
    if s.boot.step ≠ 2 then s
    else
      let s := ({ s with otp := { s.otp with weak := weak.foldl (fun (m : KeyMap Nat) (p : Nat × Nat) => KeyMap.put m p.1 p.2) ([] : KeyMap Nat) } }).sense
      let bad := s.shadowFails
      let s := { s with boot := { s.boot with
        step := 3, shadowFailed := bad, restricted := bad || s.quarantineMarked, toQuarantine := s.boot.toQuarantine || bad
        stopped := s.isBlank || s.isEndOfLife } }
      let seeds := s.draw 224
      let s : State := { seeds.2 with tamper := { seeds.2.tamper with seeds := seeds.1 } }
      let s := if s.isProduction then s.pendingLog.foldl (fun s e => s.programEntry e) s else s
      let s := [0, 1, 2, 3, 4, 5].foldl (fun s w => if s.tornWord w then s.programWord w none .nothing else s) s
      -- commissioning was cut short while its slot was being locked: it is carried on with (Table 14.6; log 156)
      let s := if s.isUnowned && !s.quarantineMarked && (s.tornLock 7 || s.tornLock 8) then s.programWord 2 none .nothing else s
      let s := if s.isEndOfLife then scrapWords.foldl (fun s w =>
        if s.otpLow w = 0xFFFFFFFF ∧ s.otpHigh w = 0xFFFFFFFF then s else s.programWord w none .nothing) s else s
      s.afterStep3

/-- First word of the HELPER copy that the reconstruction uses: copy A where it passes, else B (R456). -/
def State.helperCopy (s : State) : Option Nat := if s.passes 9 then some 0x200 else if s.passes 10 then some 0x400 else none

/-- The reconstruction fails for good: a fatal integrity fault (R183, R431); the start continues towards QUARANTINE (R53). -/
def State.vertexFault (s : State) : State :=
  let t := s.fatalFault (2 ^ 31) ST_SELFTEST 0 none
  { t with boot := { t.boot with step := 5, toQuarantine := true } }

/-- The identity keys are derived from the root vertex, and the top-tree table of the signing key is to be computed (R184, R360, R361). -/
def State.deriveIdentity (s : State) : State :=
  { s with ident := { s.ident with keys := true, seed := s.rootKey "IDENTITY", treeWork := identityTreeWork } }

/-- The root vertex is rebuilt (step 4) and compared with ROOT_CHECK; one retry (R182, R183). -/
def execRootVertexReconstructed (value : Bytes) (corrected : Nat) (s : State) : Host.Outcome State Fault Refusal :=
  runOn s fun s =>
    if s.boot.step ≠ 4 then s
    else match s.helperCopy with
      | none => s.vertexFault
      | some first =>
        let v := fit 32 value
        let s := { s with boot := { s.boot with reconstructed := corrected :: s.boot.reconstructed } }
        if fit 8 (Config.rootCheck v) = s.otpBytes (first + 508) 2 then
          ({ s with boot := { s.boot with step := 5, vertex := true, vertexValue := v, vertexAt := s.now, corrected := corrected } }).deriveIdentity
        else if s.boot.vertexRetry then s.vertexFault
        else { s with boot := { s.boot with vertexRetry := true } }

/-! ### Firmware images (R471 to R473) -/

/-- CODE_LEN's limit (R472). -/
def codeMax (kind : Nat) : Nat := if kind = 1 then 118992 else 4186320

/-- The status of an image's verification: ST_OK, ST_FW_SIG or ST_FW_ROLLBACK (R473). `major` is the running Apex image's FW_MAJOR, for Facet. -/
def State.imageStatus (s : State) (kind : Nat) (major : Option Nat) (img : Bytes) : Nat :=
  let slot := byteAt img 9
  let len := field img 0x10 4
  let key := slice 0x20 32 img
  let region := s.otpBytes (0x088 + 16 * slot) 13
  if ¬ (slice 0 8 img = ascii "JGFWIMAG" ∧ byteAt img 8 = kind ∧ len ≤ codeMax kind ∧ slot ≤ 3
      ∧ img.length ≥ 128 + len + 7856
      ∧ sha384 key = slice 0 48 region ∧ bit s.otp.bootKeys slot ∧ bit (field region 48 4) (kind - 1)
      ∧ slhVerify 0x131 key 0 [] (img.take (128 + len)) (slice (128 + len) 7856 img)
      ∧ (major = none ∨ major = some (byteAt img 0xA))) then ST_FW_SIG
  else if field img 0xC 4 < (if kind = 1 then s.apexArb else s.facetArb) then ST_FW_ROLLBACK
  else ST_OK

/-- Contents of an image slot of KIND 1 or 2. -/
def State.image (s : State) (kind slot : Nat) : Bytes := KeyMap.get s.fw.slots [] (2 * kind + slot)
/-- A copy of the boot header: magic, SEQ, ACTIVE_APEX, ACTIVE_FACET, six zero bytes, CRC-32 (R471). -/
def bootHeader (seq apex facet : Nat) : Bytes :=
  let body := ascii "JGBOOTHD" ++ u64 seq ++ u8 apex ++ u8 facet ++ zeros 6
  body ++ u32 (crc32 body)
/-- A copy of the boot header is valid (R471). -/
def headerValid (b : Bytes) : Bool := slice 0 8 b == ascii "JGBOOTHD" && allZero (slice 18 6 b) && field b 24 4 == crc32 (b.take 24)
/-- A copy of the boot header; nothing where none was written. -/
def State.header (s : State) (copy : Nat) : Bytes := KeyMap.get s.fw.headers [] copy
/-- The copy of the boot header in use: the valid one with the higher SEQ (R471). -/
def State.headerCopy (s : State) : Option Nat :=
  match headerValid (s.header 0), headerValid (s.header 1) with
  | true, true => some (if field (s.header 0) 8 8 < field (s.header 1) 8 8 then 1 else 0)
  | true, false => some 0
  | false, true => some 1
  | false, false => none
/-- The slot of a KIND that the boot header names; slot 0 where no copy of it is valid (R471). -/
def State.headerSlot (s : State) (kind : Nat) : Nat :=
  match s.headerCopy with
  | some c => byteAt (s.header c) (15 + kind) % 2
  | none => 0
/-- Active slot of a KIND: the one that the boot header named at this cold GATE; a header written since counts at the next (R471, R475). -/
def State.activeSlot (s : State) (kind : Nat) : Nat := (KeyMap.find s.fw.active kind).getD (s.headerSlot kind)
/-- FW_MAJOR of the running Apex image. -/
def State.apexMajor (s : State) : Option Nat := (KeyMap.find s.fw.images 1).map fun h => byteAt h 0xA

/-- The slot of a KIND that runs: the active one, else the other; none where neither verifies (R473). -/
def State.chooseSlot (s : State) (kind : Nat) (major : Option Nat) : Option Nat :=
  let a := s.activeSlot kind
  if s.imageStatus kind major (s.image kind a) = ST_OK then some a
  else if s.imageStatus kind major (s.image kind (1 - a)) = ST_OK then some (1 - a)
  else none

/-- Both slots' contents as read from the private flash, and the slot that runs (R473). -/
def State.loadImages (s : State) (kind : Nat) (slot0 slot1 : Bytes) : State :=
  let s := { s with fw := { s.fw with
      slots := KeyMap.put (KeyMap.put s.fw.slots (2 * kind) slot0) (2 * kind + 1) slot1, active := KeyMap.put s.fw.active kind (s.headerSlot kind) } }
  match s.chooseSlot kind (if kind = 2 then s.apexMajor else none) with
  | some i => { s with fw := { s.fw with
      running := KeyMap.put s.fw.running kind i, images := KeyMap.put s.fw.images kind ((s.image kind i).take (128 + field (s.image kind i) 0x10 4 + 7856))
      fallback := KeyMap.put s.fw.fallback kind (decide (i ≠ s.activeSlot kind)) } }
  | none => s

/-- No image verifies: the device stays in GATE with G_HELD (R54). -/
def State.stopInGate (s : State) : State :=
  ({ s with boot := { s.boot with stopped := true } }).setGates fun g => { g with held := true }

/-- The boot ROM has tried the Apex slots (step 5, R473, R54). -/
def execApexImageVerified (slot0 slot1 : Bytes) (s : State) : Host.Outcome State Fault Refusal :=
  runOn s fun s =>
    if s.boot.step ≠ 5 ∨ s.boot.stopped then s
    else
      let s := s.loadImages 1 slot0 slot1
      if (KeyMap.find s.fw.running 1).isSome then { s with boot := { s.boot with step := 6, apex := true } } else s.stopInGate

/-! ### Step 7 (Table 2.5) -/

/-- EPOCH: COMMISSION_RTC of the OWNER slot in use, 0 before the device is OWNED (R507). -/
def State.epoch (s : State) : Nat := if s.isOwned then (s.ownerBytes.map fun b => field b 112 8).getD 0 else 0

/-- T_RTC of R507. -/
def State.rtcTime (s : State) : Nat :=
  if s.rtcSeconds < s.epoch then 0 else (s.rtcSeconds - s.epoch) * 1000000000 + s.rtcSubsec * 1000000000 / 32768

/-- Apex sets device time: the larger of T_RTC and T_J, rounded up to a revolution boundary (R507). What began before keeps its distance from now. -/
def State.setTime (s : State) : State :=
  let tj := match s.readJournal.newest with
    | some x => x.2.1 + 1000000000
    | none => 0
  let r := ceilDiv (max s.rtcTime tj) revNs
  let moved (t : Nat) : Nat := t + r * revNs - s.now
  { s with
    now := r * revNs
    wheel := { s.wheel with revolution := r + 1, sector := r * revSectors + 1 }
    pair := { s.pair with window := ceilDiv (r * revNs) 64000 }
    boot := { s.boot with vertexAt := moved s.boot.vertexAt }
    pcie := { s.pcie with readyAt := s.pcie.readyAt.map moved }
    tamper := { s.tamper with cell := { s.tamper.cell with since := s.tamper.cell.since.map moved } } }

/-- The entry of an unattended power loss, marked EVIDENCE and UNATTENDED, whose SEVERITY is not stated (a free value, log 3): done where its step is
counted; where that program failed it is pending, and step 3 of the next cold GATE counts it (R418, R437, R438; log 157). -/
def State.logUnattended (s : State) (counted : Bool) : State :=
  let sev := 1 + leNat ((Config.freeValue s.free).take 1) % 4
  let s := { s with free := s.free + 1 }
  match s.logSlot with
  | some slot => { s with tamper := { s.tamper with
      log := KeyMap.put s.tamper.log slot
        (LogEntry.mk (if counted then 2 else 1) sev 0x11 0 s.rtcSeconds s.rtcSubsec s.now 1 s.tamper.logSeq 0).sealed
      logSeq := (s.tamper.logSeq + 1) % 65536 } }
  | none => match s.newestPending with
    | some slot => (s.joinLog slot 0 sev 0x19).1
    | none => s

/-- The committed cell policy is cell-less (R419). -/
def State.cellLessCfg (s : State) : Bool := s.cfgNat F_CELL_POLICY 0 == 2

/-- The Sentinel domain lost its supply: unless the policy is cell-less, that is evidence, which has been counted (`counted`); severities and policy
come from the store; the vault is zeroed, its LINK slot restored from the sealed copy, and TAMPER_STATE is high again while QUARANTINE is marked (R187, R390, R418, R419, R426, R430). -/
def State.afterPowerOn (s : State) (counted : Bool) : State :=
  let cellLess := s.cellLessCfg
  let s :=
    if !s.tamper.powerOn then s
    else
      let s := { s with keys := { s.keys with vault := [] } }
      let s := match s.pair.linkCopy with
        | some (material, gen, kcv) => if s.quarantineMarked ∨ s.pair.linkSeal ≠ s.sealOf (linkBytes material gen kcv) then s else s.setSlot 0 2 ⟨material, 1, 5, 0x0003, gen, kcv, [], 0⟩
        | none => s
      let s := if s.quarantineMarked then ({ s with tamper := { s.tamper with tamperState := true } }).emit (.drive .tamperState true) else s
      if cellLess then s else s.logUnattended counted
  { s with tamper := { s.tamper with
      powerOn := false, cellLess := cellLess
      cell := { s.tamper.cell with learned := if s.tamper.powerOn then 1000 * s.cfgNat F_CELL_CAPACITY 0 else s.tamper.cell.learned }
      severity := (List.range 16).map fun i => (6 + i, s.cfgNat F_DET_SEVERITY (6 + i)) } }

/-- One vault slot checked: a slot with an invalid STATE or a failing SLOT_MAC is zeroed, with a DEGRADE alarm that names it (R187). The STATUS of
that alarm is not stated: a free value (log 3). -/
def State.checkSlot (s : State) (k : Nat) : State :=
  match KeyMap.find s.keys.vault k with
  | some v =>
    if v.state = 0 ∨ (v.state = 1 ∧ v.mac = s.slotMac k (s.slot (k / 4) (k % 4))) then s
    else
      let st := s.freeStatus
      ({ s with free := s.free + 1, keys := { s.keys with vault := KeyMap.del s.keys.vault k } }).faultDegrade st k []
  | none => s

/-- Apex opens the vault: the record is read and held to its anchor, then every slot is checked; then HELLO may be sent (R187, R353, R391). The
STATUS of the alarm of a record that fails its seal is not stated: a free value (log 3). -/
def State.openVault (s : State) : State :=
  let ok := s.recordSealed
  let s := s.readRecord
  let s := { s with keys := { s.keys with recordOk := ok } }
  let s :=
    if ok then s
    else
      let st := s.freeStatus
      ({ s with free := s.free + 1 }.faultDegrade st 0 []).compactRecord
  let s := s.keys.vault.foldl (fun s p => s.checkSlot p.1) s
  (({ s with boot := { s.boot with vaultOpen := true } }).vaultGates).sendHello

/-- A sealed domain state that fails its seal raises a DEGRADE alarm; the slots stay (R377). -/
def State.checkDomain (s : State) : State :=
  let s := { s with ident := { s.ident with sealFailed := s.ident.domain.any fun (d : Domain) => s.ident.domainSeal != s.sealOf d.bytes } }
  if s.ident.sealFailed then
    ({ s with free := s.free + 1 }).faultDegrade s.freeStatus 0 []
  else s

/-- The areas of the private flash (Table 10.11, R345): offset, size, and whether Apex protects it (R347): boot header and Apex images, record area,
configuration store, Facet images, recorder journal, reserved, golden area. -/
def privAreas : List (Nat × Nat × Bool) :=
  [(0x0000000, 0x40000, true), (0x0040000, 0x20000, true), (0x0060000, 0xA0000, true), (0x0100000, 0x800000, true),
   (0x0900000, 0x1000000, false), (0x1900000, 0x700000, false), (0x2000000, 0xE000000, true)]

/-- Apex protects the private flash and locks the protection (R347; the ranges' numbers: log 27). -/
def State.protectFlash (s : State) : State :=
  let guarded := (privAreas.filter (·.2.2)).map fun a => (a.1 / 4096, (a.1 + a.2.1) / 4096 - 1, true)
  { s with priv := { s.priv with wp := guarded.zipIdx.map fun p => (p.2, p.1), lock := true } }

/-- The held levels of GPIO_CFG are driven (R50, R66). -/
def State.driveHeld (s : State) : State := s.loadRelease.hold fun _ => true

/-- Sentinel log entries above the last SEQ carried over, in SEQ order modulo 65,536, each with its own times (R499, Table 15.1). -/
def State.carryOver (s : State) : State :=
  let ahead (e : LogEntry) : Nat := (e.seq + 65536 - s.recorder.carried) % 65536
  let es := (s.tamper.log.map (·.2)).filter fun e => e.state != 0 && decide (0 < ahead e ∧ ahead e < 32768)
  let sorted := (es.foldl (fun (m : KeyMap LogEntry) e => KeyMap.put m (ahead e) e) []).map (·.2)
  sorted.foldl (fun s e =>
    let s := s.stage 0 0 e.detectors e.time e.rtc (bit e.flags 2)
    { s with recorder := { s.recorder with carried := e.seq } }) s

/-- The recorder starts with Facet: TEST's journal is erased once, RSEQ and the histograms resume, the fixed start triggers fire
(R457, R486, R488, R494, R498, R499; the fallback of R473 is recorded now: log 29), and every reconstruction of this start is a PUF_ERRORS sample (R182, R492). -/
def State.startRecorder (s : State) : State :=
  let first := s.isProduction && !s.recorder.production
  let s := if first then { s with recorder := { RecState.reset with carried := s.recorder.carried, production := true } } else s.resumeJournal
  let s := { s with recorder := { s.recorder with running := true, checkpointAt := s.now + 10000000000 } }
  let s := s.trigger 3 0 (s.marginalBits % 65536 + 65536 * (s.boot.corrected % 65536))
  let s := s.carryOver
  let s := s.fw.fallback.foldl (fun s p => if p.2 then (s.trigger 12 0 (p.1 + 256)).notify 0 0x0A00 0 p.1 else s) s
  s.boot.reconstructed.foldr (fun (n : Nat) s => s.sampleSubject 4 (fun _ => true) n) s

/-- Step 8 begins: the self-tests run, the buses are verified (R47, R51). -/
def State.startStep8 (s : State) : State :=
  let s := { s with boot := { s.boot with step := 8, testing := true } }
  ((s.startVerify 0).startVerify 1).platformNext

/-- Step 7 of the cold GATE, once a Facet image verifies and an unattended power loss has been counted. The armed detectors are due for their tests (R440). -/
def State.startFacet (s : State) (counted : Bool) : State :=
  let waited := s.now - s.boot.vertexAt
  let s := s.setTime
  let s := (s.afterPowerOn counted).duesNow
  let s := s.driveHeld
  let s := s.protectFlash
  let s := (({ s with boot := { s.boot with facet := true } }).setGates fun g => { g with lifecycle := !s.isOwned }).cellGate
  let s := s.startRecorder
  let s := if s.quarantineMarked then { s with pair := { s.pair with linkCopy := none, linkSeal := [] } } else s
  let s := s.startPair waited
  if s.boot.toQuarantine then s.quarantine 1
  else (s.openVault.checkDomain).startStep8

/-- Step 7 begins: an unattended power loss advances the evidence counter before the vault is opened (R418). -/
def State.enterStep7 (s : State) : State :=
  let s := { s with boot := { s.boot with step := 7 } }
  if s.tamper.powerOn && !s.cellLessCfg && s.isProduction && s.evidenceRoom then s.programStep 0x008 16 none .unattended
  else s.startFacet true

/-- Apex has tried the Facet slots (step 6, R473, R54); step 7 follows. -/
def execFacetImageVerified (slot0 slot1 : Bytes) (s : State) : Host.Outcome State Fault Refusal :=
  runOn s fun s =>
    if s.boot.step ≠ 6 ∨ s.boot.stopped then s
    else
      let s := s.loadImages 2 slot0 slot1
      if (KeyMap.find s.fw.running 2).isSome then s.enterStep7 else s.stopInGate

/-- Every unit has ended its start-up test (R47). -/
def State.allTested (s : State) : Bool := (List.range 45).all fun u => (KeyMap.find s.boot.units u).isSome

/-- G_SELFTEST as R47 and R48 define it. -/
def State.selftestGate (s : State) : Bool := !s.allTested || s.unitLimit

/-- A unit's start-up test ends (R47, R48). The record that R48 speaks of is kept in the table of units, from which G_SELFTEST and the unit's
service follow; no record of the Locus recorder names it (log 127). -/
def execUnitSelftestDone (unit : Nat) (pass : Bool) (s : State) : Host.Outcome State Fault Refusal :=
  runOn s fun s =>
    if s.boot.testing ∧ unit < 45 ∧ KeyMap.find s.boot.units unit = none then
      let s := { s with boot := { s.boot with units := KeyMap.put s.boot.units unit (if pass then .inService else .outOfService) } }
      let s := if s.allTested then { s with boot := { s.boot with testing := false } } else s
      s.setGates fun g => { g with selftest := s.selftestGate }
    else s

/-! ### The release sequence (R56 to R59) -/

/-- A release step's DELAY ends (R56): once its NEEDS hold its outputs are driven, and its wait begins. An input that already stands at
WAIT_LVL counts its 100 µs from the driving (R57; log 128). -/
def execReleaseDelayExpire (s : State) : Host.Outcome State Fault Refusal :=
  runOn s fun s =>
    match s.rel.phase with
    | .delay t =>
      let r := s.relStep s.rel.step
      if s.needsMet (stepNeeds r) then
        let s := s.advance t
        let s := s.releaseOut fun n => bit (stepMask r) n
        if stepWaitIn r = 31 then s.stepDone
        else
          let at_ := bit s.rel.inputs (stepWaitIn r) == stepWaitLevel r
          s.setPhase (.input (if at_ then some s.now else none) (s.now + stepTimeout r))
      else s
    | _ => s

/-- The state with a level of the input that the release step waits for. -/
def State.withInput (w : Nat) (level : Bool) (s : State) : State :=
  if bit s.rel.inputs w == level then s
  else { s with rel := { s.rel with inputs := if level then s.rel.inputs + 2 ^ w else s.rel.inputs - 2 ^ w } }

/-- The level at the awaited input changes (R57): the 100 µs count starts or is cancelled; in the step's DELAY the level alone is kept. -/
def execAwaitedInputChange (level : Bool) (s : State) : Host.Outcome State Fault Refusal :=
  runOn s fun s =>
    let r := s.relStep s.rel.step
    match s.rel.phase with
    | .input since limit =>
      (s.withInput (stepWaitIn r) level).setPhase (.input (if level = stepWaitLevel r then some (since.getD s.now) else none) limit)
    | .delay _ => if stepWaitIn r = 31 then s else s.withInput (stepWaitIn r) level
    | _ => s

/-- The awaited input has held its level for 100 µs: the step completes (R57). -/
def execReleaseInputStable (s : State) : Host.Outcome State Fault Refusal :=
  runOn s fun s =>
    match s.rel.phase with
    | .input (some t) _ => (s.advance (t + 100000)).stepDone
    | _ => s

/-- The awaited input misses its TIMEOUT: the attempt fails, and the unwinding starts (R58, trigger 4). An input that has reached
its level by then, and stands at it, does not fail it (log 105). -/
def execReleaseTimeout (s : State) : Host.Outcome State Fault Refusal :=
  runOn s fun s =>
    match s.rel.phase with
    | .input since limit =>
      if since.any fun t => decide (t ≤ limit) then s
      else
        let s := s.advance limit
        let s := { s with rel := { s.rel with attempts := s.rel.attempts + 1 } }
        let s := s.trigger 4 ST_RELEASE_TIMEOUT s.rel.step
        s.setPhase (if s.rel.released.isEmpty then .restart (s.now + 1000000000) else .unwind s.now)
    | _ => s

/-- One released output returns to its held level (R58). -/
def execReleaseUnwindStep (s : State) : Host.Outcome State Fault Refusal :=
  runOn s fun s =>
    match s.rel.phase with
    | .unwind t =>
      let s := s.advance t
      match s.rel.released with
      | n :: rest =>
        let s := ({ s with rel := { s.rel with released := rest } }).drive n (s.heldLevel n)
        s.setPhase (if rest.isEmpty then .restart (s.now + 1000000000) else .unwind (s.now + 1000000))
      | [] => s.setPhase (.restart (s.now + 1000000000))
    | _ => s

/-- After 1 s the sequence starts again; after the third failure the device holds with G_HELD (R58, R59). -/
def execReleaseRestart (s : State) : Host.Outcome State Fault Refusal :=
  runOn s fun s =>
    match s.rel.phase with
    | .restart t =>
      let s := s.advance t
      if 3 ≤ s.rel.attempts then s.holdInGate else s.startRelease
    | _ => s

end Sys2Proof.Machine
end

