-- ==== Sys2Proof/Machine/Frames.lean ====
section
/-!
DEFINITION. Host frames on the protected buses (R326 to R340): the opcode filter and region table in force at the fall of the
chip select, reads checked byte by byte, writes judged as whole frames, the status shadows, and the end of flash operations.
A row acts on a frame whose opcode has the row's class in that filter.
-/

namespace Sys2Proof.Machine

/-! ### Shadows -/

/-- Shadow status of a chip select. -/
def Bus.shadow (x : Bus) (cs : Nat) : Shadow := if cs = 0 then x.cs0 else x.cs1
/-- Shadow status changed. -/
def Bus.updShadow (x : Bus) (cs : Nat) (f : Shadow → Shadow) : Bus := if cs = 0 then { x with cs0 := f x.cs0 } else { x with cs1 := f x.cs1 }
/-- Shadow status of a bus changed. -/
def State.updShadow (s : State) (b cs : Nat) (f : Shadow → Shadow) : State := s.updBus b fun x => x.updShadow cs f
/-- SR1 (Table 10.9). -/
def Shadow.sr1Byte (h : Shadow) : Nat := flag h.wip + 2 * flag h.wel + h.sr1 / 4 * 4
/-- Flag status (Table 10.9). -/
def Shadow.flags (h : Shadow) : Nat :=
  128 * flag (!h.wip) + 32 * flag h.eraseErr + 16 * flag h.programErr + 2 * flag h.protect + flag h.addr4

/-! ### The tables of a frame (R328 to R331) -/

/-- The mode set (R330): 0 BOOT, 1 RUN, 2 RECOVER. -/
def State.modeSet (s : State) : Nat :=
  match s.ms.mode with
  | .gate => 0
  | .recover => 2
  | _ => 1

/-- OP_CLASS of an opcode in a frame; the mailbox opcodes count as DENY on chip select 1 (R344). -/
def Frame.opClass (x : Frame) (b op : Nat) : Nat :=
  let v := leNat (cfgValue x.tables F_OP_CLASS (256 * b + op))
  if v / 16 = 13 ∧ x.cs = 1 then 0 else v

/-- OP_PERM of an opcode has the bit of a mode set. -/
def Frame.opPermits (x : Frame) (b op set : Nat) : Bool := bit (leNat (cfgValue x.tables F_OP_PERM (256 * b + op))) set

/-- The permission word that governs an address: the lowest region that holds it, else PERM_DEFAULT (R328). -/
def Frame.permAt (x : Frame) (b addr : Nat) : Nat :=
  let v (f i : Nat) : Nat := leNat (cfgValue x.tables f i)
  let holds (r : Nat) : Bool :=
    let i := 64 * b + r
    v F_REG_LENGTH i != 0 && v F_REG_CS i == x.cs && decide (v F_REG_START i ≤ addr ∧ addr < v F_REG_START i + v F_REG_LENGTH i)
  match (List.range 64).find? holds with
  | some r => v F_REG_PERM (64 * b + r)
  | none => v F_PERM_DEFAULT b

/-- An address may be read (0), programmed (1) or erased (2) now (R330). -/
def State.mayTouch (s : State) (x : Frame) (b kind addr : Nat) : Bool :=
  bit (x.permAt b (addr % 2 ^ 32)) (4 * s.modeSet + kind) && (kind == 0 || s.ms.mode != .quarantine)

/-- Address bytes of a frame: 4 where OP_CLASS [3] or the shadow address mode asks for them (R331). -/
def State.addrLen (s : State) (x : Frame) (b cls : Nat) : Nat := if bit cls 3 || ((s.bus b).shadow x.cs).addr4 then 4 else 3

/-! ### Denials (R338, R358, Table 15.3) -/

/-- A denial is counted, recorded and, at most once a second, announced. -/
def State.countDenial (s : State) (b op cs addr : Nat) : State :=
  let x := s.bus b
  let s := s.updBus b fun y => { y with
    denied := y.denied + 1, sinceNotice := y.sinceNotice + 1
    denials := ((⟨op, cs, s.modeSet, addr, s.now⟩ : Denial) :: y.denials).take 16 }
  let s := s.trigger 5 ST_FLASH_DENIED (b + 256 * op + 65536 * cs)
  if (x.noticeAt.map fun t => decide (s.now < t + 1000000000)).getD false then s
  else
    let s := s.notify 0 0x0401 0 (b + 256 * ((x.sinceNotice + 1) % 2 ^ 24))
    s.updBus b fun y => { y with noticeAt := some s.now, sinceNotice := 0 }

/-- A denied frame: WEL and the error bits too (R338, Table 10.9). -/
def State.deny (s : State) (b op cs cls addr : Nat) : State :=
  let s := s.updShadow b cs fun h => { h with
    wel := false, protect := true
    eraseErr := h.eraseErr || cls / 16 == 7 || cls / 16 == 8
    programErr := h.programErr || cls / 16 == 6 || cls / 16 == 9 }
  s.countDenial b op cs addr

/-! ### A frame begins and ends -/

/-- Fields of block 0x04, which a frame keeps from its fall (R359). -/
def State.flashTables (s : State) : KeyMap Bytes := KeyMap.keep s.orfer.cfg fun k _ => keyField k / 2 ^ 24 == 4

/-- A new BUS_TIMING takes effect when the flash side is idle (R341). -/
def State.settleTiming (s : State) (b : Nat) : State :=
  if (s.bus b).frame.isNone ∧ (s.bus b).ops.isEmpty ∧ (s.bus b).verifying = 0 then
    s.updBus b fun x => { x with timing := s.cfg F_BUS_TIMING b }
  else s

/-- HOST_CS_FALL: a frame begins, and any burst of the device's own ends (R326, R343, R359). -/
def execHostCsFall (bus cs : Nat) (s : State) : Host.Outcome State Fault Refusal :=
  runOn s fun s =>
    if bus < 2 ∧ cs < 2 ∧ (s.bus bus).frame.isNone then
      s.updBus bus fun x => { x with frame := some ⟨cs, (x.shadow cs).wip, x.opened, s.flashTables, false⟩ }
    else s

/-- The chip select rises after a frame of the given class; only a RESET ENABLE leaves the way open for RESET (R338). -/
def State.endFrame (s : State) (b cs : Nat) (armed : Bool) : State :=
  ((s.updShadow b cs fun h => { h with resetEnabled := armed }).updBus b fun x => { x with frame := none }).settleTiming b

/-! ### MB2 (R344) -/

/-- An MB2 frame ends on chip select 0 of bus A; on chip select 1 its opcodes are treated as DENY (R344). -/
def State.mb2Frame (s : State) (f : State → State) : State :=
  match s.busA.frame with
  | some x => if x.cs = 1 then s else f (s.endFrame 0 0 false)
  | none => f s

/-- MB2 READ (Table 10.10): answered while Facet runs, or by the boot ROM while it holds the device (R344). A closed bus or another port drives nothing. -/
def execMb2Read (off len : Nat) (s : State) : Host.Outcome State Fault Refusal :=
  runOn s fun s => s.mb2Frame fun s =>
    if s.portServed .mb2 then s.emit (.data (fit len (slice off len (s.windowBytes .mb2)))) else s

/-- MB2 WRITE (Table 10.10): performed as ascending 32-bit writes where whole and aligned (R344). -/
def execMb2Write (off : Nat) (data : Bytes) (s : State) : Host.Outcome State Fault Refusal :=
  runOn s fun s => s.mb2Frame fun s =>
    if s.portServed .mb2 ∧ off % 4 = 0 ∧ data.length % 4 = 0 ∧ 4 ≤ data.length ∧ data.length ≤ 4096 then
      (blocks 4 data).zipIdx.foldl (fun s w => s.windowWrite .mb2 (off + 4 * w.2) (leNat w.1)) s
    else s

/-! ### Host frames -/

/-- One host frame: where its opcode has one of the row's classes it is handled, on an open bus by `act`, on a closed one by discarding
it (R326). `act` gives the state and whether a RESET ENABLE ran. -/
def hostFrame (bus op : Nat) (classes : List Nat) (act : State → Frame → Nat → State × Bool) (s : State) : Host.Outcome State Fault Refusal :=
  runOn s fun s => match (s.bus bus).frame with
    | none => s
    | some x =>
      let cls := x.opClass bus op
      if 2 ≤ bus ∨ ¬ classes.contains cls then s
      else if x.opened then
        let r := act s x cls
        r.1.endFrame bus x.cs r.2
      else s.endFrame bus x.cs false

/-! ### Reads (R333 to R336, R339) -/

/-- Data bytes that read as 0xFF. -/
def ones (n : Nat) : Bytes := List.replicate n 0xFF#8

/-- A read that its OP_PERM bit refuses: every byte is 0xFF, and the frame counts as a denial (R335). -/
def State.readOr (s : State) (x : Frame) (b op : Nat) (f : HostFrame) (ok : State → State) : State × Bool :=
  if x.opPermits b op s.modeSet then (ok s, false)
  else ((s.countDenial b op x.cs (beNat (f.sent.take 4))).emit (.data (ones f.data.length)), false)

/-- MODE of the flash side of a bus is quad SDR (Table 10.7). -/
def Bus.quad (x : Bus) : Bool := byteAt x.timing 0 == 1

/-- The flash side's command for a read of OP_CLASS form `form` (R333, R334): a passed-through read is the 4-byte form of the command and needs quad
SDR mode; a re-timed read is the 1-4-4 read of quad SDR, or the octal DDR read of the flash's SFDP. None where nothing is sent. -/
def Bus.readCommand (x : Bus) (cs form : Nat) : Option Nat :=
  if form = 0 then (if x.quad then some 0x13 else none)
  else if x.quad then some 0xEC
  else some (Config.sfdpOctalRead ((KeyMap.find x.sfdp cs).getD []))

/-- READ of any form (R333 to R335): bytes whose R bit is 0 reach the host as 0xFF; nothing is forwarded while WIP is 1, or for form 0
outside quad SDR mode (log 141). -/
def State.readFlash (b op : Nat) (f : HostFrame) (s : State) (x : Frame) (cls : Nat) : State × Bool :=
  s.readOr x b op f fun s =>
    let n := s.addrLen x b cls
    let addr := beNat (f.sent.take n)
    if f.sent.length < n then s
    else if x.wip then s.emit (.data (ones f.data.length))
    else
      match (s.bus b).readCommand x.cs (cls % 8) with
      | none => s.emit (.data (ones f.data.length))
      | some c =>
      let s := s.emit (.flash b x.cs c (addr % 2 ^ 32) [])
      s.emit (.data (f.data.zipIdx.map fun d => if s.mayTouch x b 0 (addr + d.2) then d.1 else 0xFF#8))

/-- READ_ID, passed through in quad SDR mode only (R334, R335; log 141). -/
def State.readId (b op : Nat) (f : HostFrame) (s : State) (x : Frame) (_cls : Nat) : State × Bool :=
  s.readOr x b op f fun s =>
    if x.wip || !(s.bus b).quad then s.emit (.data (ones f.data.length)) else (s.emit (.flash b x.cs 0x9F 0 [])).emit (.data f.data)

/-- One byte of the image that answers READ SFDP (R336; JESD216): `base` and `len` place the Basic Flash Parameter Table, `dummy` is HOST_DUMMY. The
support bits of DTR, 2-2-2 and 4-4-4 reads and the instructions of 2-2-2, 4-4-4 and octal reads are cleared; the 1-4-4, 1-1-4, 1-1-2 and 1-2-2 reads
show HOST_DUMMY and no mode clocks. -/
def sfdpByte (dummy base len i : Nat) (v : Byte) : Byte :=
  let o := i - base
  if i < base ∨ 4 * len ≤ o then v
  else if o = 2 then v &&& 0xF7#8
  else if o = 16 then v &&& 0xEE#8
  else if o = 8 ∨ o = 10 ∨ o = 12 ∨ o = 14 then BitVec.ofNat 8 (dummy % 32)
  else if o = 23 ∨ o = 27 ∨ o = 65 ∨ o = 67 then 0#8
  else v
/-- The adjusted image of 512 bytes: the first parameter header is that of the Basic Flash Parameter Table (R336; JESD216). -/
def sfdpAdjusted (dummy : Nat) (image : Bytes) : Bytes :=
  (fit 512 image).zipIdx.map fun p => sfdpByte dummy (field image 0x0C 3) (byteAt image 0x0B) p.2 p.1
/-- Density in bytes that an SFDP image reports: its second table word is the last bit's number, or with bit 31 set the binary logarithm of the
number of bits (R337, R346; JESD216). -/
def sfdpDensity (image : Bytes) : Nat :=
  let d := field image (field image 0x0C 3 + 4) 4
  if d < 2 ^ 31 then (d + 1) / 8 else 2 ^ (d - 2 ^ 31) / 8

/-- READ SFDP, from the image adjusted to the HOST_DUMMY in force; addresses 0x200 and above read 0xFF (R336). -/
def State.readSfdp (b op : Nat) (f : HostFrame) (s : State) (x : Frame) (_cls : Nat) : State × Bool :=
  s.readOr x b op f fun s =>
    let addr := beNat (f.sent.take 3)
    let image := ((KeyMap.find (s.bus b).sfdp x.cs).map (sfdpAdjusted (byteAt (s.bus b).timing 5))).getD []
    if f.sent.length < 3 then s
    else s.emit (.data (f.data.zipIdx.map fun d => image.getD (addr + d.2) 0xFF#8))

/-- A status read: the register of the shadows, repeated (R339). -/
def State.readStatus (b op : Nat) (f : HostFrame) (s : State) (x : Frame) (cls : Nat) : State × Bool :=
  s.readOr x b op f fun s =>
    let h := (s.bus b).shadow x.cs
    let v := if cls % 16 = 0 then h.sr1Byte else if cls % 16 = 1 then h.sr2 else h.flags
    s.emit (.data (List.replicate f.data.length (BitVec.ofNat 8 v)))

/-! ### Buffered frames (R337, R338, Table 10.8) -/

/-- Erase unit of an ERASE class. -/
def eraseUnit (cls : Nat) : Nat := if cls % 4 = 0 then 4096 else if cls % 4 = 1 then 32768 else 65536

/-- Step 2 of Table 10.8 on the bytes after the opcode. -/
def State.frameLenOk (s : State) (x : Frame) (b cls : Nat) (f : HostFrame) : Bool :=
  let n := s.addrLen x b cls
  let len := f.sent.length
  if cls / 16 = 6 then decide (n + 1 ≤ len ∧ len ≤ n + 256 ∧ beNat (f.sent.take n) % 256 + (len - n) ≤ 256)
  else if cls / 16 = 7 then len == n
  else if cls / 16 = 9 then len == (if cls % 16 = 1 then 2 else 1)
  else len == 0

/-- Step 6 of Table 10.8: P on every byte programmed, E on every byte of the aligned unit, or of the density for a chip erase (none where the flash reported no density; log 182). -/
def State.frameAllowed (s : State) (x : Frame) (b cls : Nat) (f : HostFrame) : Bool :=
  let n := s.addrLen x b cls
  let addr := beNat (f.sent.take n)
  let blocksFrom (base size : Nat) : Bool := (List.range (ceilDiv size 4096)).all fun i => s.mayTouch x b 2 (base + 4096 * i)
  if cls / 16 = 6 then s.mayTouch x b 1 addr
  else if cls / 16 = 7 then blocksFrom (addr / eraseUnit cls * eraseUnit cls) (eraseUnit cls)
  else if cls / 16 = 8 then (KeyMap.find (s.bus b).density x.cs).any fun d => blocksFrom 0 d
  else true

/-- How long the flash may take (R338), in ns. -/
def flashLimit (cls : Nat) : Nat :=
  if cls / 16 = 6 then 10000000 else if cls / 16 = 9 then 100000000 else if cls / 16 = 7 then 4000000000 else 600000000000

/-- An executed operation: WRITE ENABLE and the operation go to the flash, in its side's mode and in the 4-byte form (R338). -/
def State.issueOp (s : State) (x : Frame) (b cls : Nat) (f : HostFrame) : State :=
  let n := s.addrLen x b cls
  let addr := beNat (f.sent.take n)
  let quad := (s.bus b).quad
  let s := s.emit (.flash b x.cs 0x06 0 [])
  let s := s.emit (
    if cls / 16 = 6 then .flash b x.cs (if quad then 0x34 else 0x12) addr (f.sent.drop n)
    else if cls / 16 = 7 then .flash b x.cs (if cls % 4 = 0 then 0x21 else if cls % 4 = 1 then 0x5C else 0xDC) (addr / eraseUnit cls * eraseUnit cls) []
    else if cls / 16 = 8 then .flash b x.cs 0xC7 0 []
    else .flash b x.cs (if cls % 16 = 2 then 0x31 else 0x01) 0 f.sent)
  (s.updShadow b x.cs fun h => { h with wip := true }).updBus b fun y => { y with ops := KeyMap.put y.ops x.cs ⟨cls / 16, s.now + flashLimit cls⟩ }

/-- The flash receives RESET ENABLE and RESET (R338). -/
def State.sendReset (s : State) (b cs : Nat) : State := (s.emit (.flash b cs 0x66 0 [])).emit (.flash b cs 0x99 0 [])
/-- RESETs that waited are forwarded once no operation is in progress on the bus (R338). -/
def State.settleResets (s : State) (b : Nat) : State :=
  if (s.bus b).ops.isEmpty then (s.bus b).resetWait.foldl (fun s cs => s.sendReset b cs) (s.updBus b fun x => { x with resetWait := [] })
  else s

/-- A buffered frame at the release of its chip select: the checks of Table 10.8 in order, then its class (R338); one that a ZEROISE met is discarded
(R359). -/
def State.buffered (b op : Nat) (f : HostFrame) (s : State) (x : Frame) (cls : Nat) : State × Bool :=
  let c := cls / 16
  let long : Bool := 6 ≤ c && c ≤ 9
  let addr := if c = 6 ∨ c = 7 then beNat (f.sent.take (s.addrLen x b cls)) else 0
  if x.zeroised then (s, false)
  else if ¬ f.whole ∨ ¬ s.frameLenOk x b cls f then (s.updBus b fun y => { y with malformed := y.malformed + 1 }, false)
  else if x.wip then (s, false)
  else if ¬ x.opPermits b op s.modeSet ∨ (s.ms.mode = .quarantine ∧ (c = 8 ∨ c = 9 ∨ c = 11)) then (s.deny b op x.cs cls addr, false)
  else if long ∧ ¬ ((s.bus b).shadow x.cs).wel then (s, false)
  else if ¬ s.frameAllowed x b cls f then (s.deny b op x.cs cls addr, false)
  else if long then (s.issueOp x b cls f, false)
  else if c = 5 then (s.updShadow b x.cs fun h => { h with wel := bit cls 0 }, false)
  else if c = 10 then (s.updShadow b x.cs fun h => { h with addr4 := bit cls 0 }, false)
  else if c = 12 then (s.updShadow b x.cs fun h => { h with eraseErr := false, programErr := false, protect := false }, false)
  else if cls % 16 = 0 then (s, true)
  else if ((s.bus b).shadow x.cs).resetEnabled then
    let s := s.updShadow b x.cs fun h => { h with wel := false, eraseErr := false, programErr := false, protect := false, addr4 := false }
    ((s.updBus b fun y => { y with resetWait := y.resetWait ++ [x.cs] }).settleResets b, false)
  else (s, false)

/-! ### The rows -/

/-- READ: form 0, the address mode of the chip select (R334). -/
def execSpiRead (bus opcode : Nat) (f : HostFrame) (s : State) : Host.Outcome State Fault Refusal :=
  hostFrame bus opcode [0x10] (State.readFlash bus opcode f) s
/-- READ 4-BYTE: form 0 with a 4-byte address. -/
def execSpiRead4byte (bus opcode : Nat) (f : HostFrame) (s : State) : Host.Outcome State Fault Refusal :=
  hostFrame bus opcode [0x18] (State.readFlash bus opcode f) s
/-- FAST READ: form 1 (R333). -/
def execSpiFastRead (bus opcode : Nat) (f : HostFrame) (s : State) : Host.Outcome State Fault Refusal :=
  hostFrame bus opcode [0x11, 0x19] (State.readFlash bus opcode f) s
/-- DUAL OUTPUT READ: form 2. -/
def execSpiDualOutputRead (bus opcode : Nat) (f : HostFrame) (s : State) : Host.Outcome State Fault Refusal :=
  hostFrame bus opcode [0x12, 0x1A] (State.readFlash bus opcode f) s
/-- DUAL I/O READ: form 3. -/
def execSpiDualIoRead (bus opcode : Nat) (f : HostFrame) (s : State) : Host.Outcome State Fault Refusal :=
  hostFrame bus opcode [0x13, 0x1B] (State.readFlash bus opcode f) s
/-- QUAD OUTPUT READ: form 4. -/
def execSpiQuadOutputRead (bus opcode : Nat) (f : HostFrame) (s : State) : Host.Outcome State Fault Refusal :=
  hostFrame bus opcode [0x14, 0x1C] (State.readFlash bus opcode f) s
/-- QUAD I/O READ: form 5. -/
def execSpiQuadIoRead (bus opcode : Nat) (f : HostFrame) (s : State) : Host.Outcome State Fault Refusal :=
  hostFrame bus opcode [0x15, 0x1D] (State.readFlash bus opcode f) s
/-- READ ID. -/
def execSpiReadId (bus opcode : Nat) (f : HostFrame) (s : State) : Host.Outcome State Fault Refusal :=
  hostFrame bus opcode [0x20] (State.readId bus opcode f) s
/-- READ SFDP. -/
def execSpiReadSfdp (bus opcode : Nat) (f : HostFrame) (s : State) : Host.Outcome State Fault Refusal :=
  hostFrame bus opcode [0x30] (State.readSfdp bus opcode f) s
/-- READ STATUS 1. -/
def execSpiReadStatus1 (bus opcode : Nat) (f : HostFrame) (s : State) : Host.Outcome State Fault Refusal :=
  hostFrame bus opcode [0x40] (State.readStatus bus opcode f) s
/-- READ STATUS 2. -/
def execSpiReadStatus2 (bus opcode : Nat) (f : HostFrame) (s : State) : Host.Outcome State Fault Refusal :=
  hostFrame bus opcode [0x41] (State.readStatus bus opcode f) s
/-- READ FLAG STATUS. -/
def execSpiReadFlagStatus (bus opcode : Nat) (f : HostFrame) (s : State) : Host.Outcome State Fault Refusal :=
  hostFrame bus opcode [0x42] (State.readStatus bus opcode f) s
/-- WRITE ENABLE. -/
def execSpiWriteEnable (bus opcode : Nat) (f : HostFrame) (s : State) : Host.Outcome State Fault Refusal :=
  hostFrame bus opcode [0x51] (State.buffered bus opcode f) s
/-- WRITE DISABLE. -/
def execSpiWriteDisable (bus opcode : Nat) (f : HostFrame) (s : State) : Host.Outcome State Fault Refusal :=
  hostFrame bus opcode [0x50] (State.buffered bus opcode f) s
/-- PAGE PROGRAM: form 0. -/
def execSpiPageProgram (bus opcode : Nat) (f : HostFrame) (s : State) : Host.Outcome State Fault Refusal :=
  hostFrame bus opcode [0x60, 0x68] (State.buffered bus opcode f) s
/-- QUAD PAGE PROGRAM: form 4. -/
def execSpiQuadPageProgram (bus opcode : Nat) (f : HostFrame) (s : State) : Host.Outcome State Fault Refusal :=
  hostFrame bus opcode [0x64, 0x6C] (State.buffered bus opcode f) s
/-- SECTOR ERASE, 4 KiB. -/
def execSpiSectorErase (bus opcode : Nat) (f : HostFrame) (s : State) : Host.Outcome State Fault Refusal :=
  hostFrame bus opcode [0x70, 0x78] (State.buffered bus opcode f) s
/-- BLOCK ERASE, 32 KiB. -/
def execSpiBlockErase32k (bus opcode : Nat) (f : HostFrame) (s : State) : Host.Outcome State Fault Refusal :=
  hostFrame bus opcode [0x71, 0x79] (State.buffered bus opcode f) s
/-- BLOCK ERASE, 64 KiB. -/
def execSpiBlockErase64k (bus opcode : Nat) (f : HostFrame) (s : State) : Host.Outcome State Fault Refusal :=
  hostFrame bus opcode [0x72, 0x7A] (State.buffered bus opcode f) s
/-- CHIP ERASE. -/
def execSpiChipErase (bus opcode : Nat) (f : HostFrame) (s : State) : Host.Outcome State Fault Refusal :=
  hostFrame bus opcode [0x80] (State.buffered bus opcode f) s
/-- WRITE STATUS 1: forms 0 (SR1) and 1 (SR1 and SR2). -/
def execSpiWriteStatus1 (bus opcode : Nat) (f : HostFrame) (s : State) : Host.Outcome State Fault Refusal :=
  hostFrame bus opcode [0x90, 0x91] (State.buffered bus opcode f) s
/-- WRITE STATUS 2: form 2. -/
def execSpiWriteStatus2 (bus opcode : Nat) (f : HostFrame) (s : State) : Host.Outcome State Fault Refusal :=
  hostFrame bus opcode [0x92] (State.buffered bus opcode f) s
/-- ENTER 4-BYTE MODE. -/
def execSpiEnter4byteMode (bus opcode : Nat) (f : HostFrame) (s : State) : Host.Outcome State Fault Refusal :=
  hostFrame bus opcode [0xA1] (State.buffered bus opcode f) s
/-- EXIT 4-BYTE MODE. -/
def execSpiExit4byteMode (bus opcode : Nat) (f : HostFrame) (s : State) : Host.Outcome State Fault Refusal :=
  hostFrame bus opcode [0xA0] (State.buffered bus opcode f) s
/-- RESET ENABLE. -/
def execSpiResetEnable (bus opcode : Nat) (f : HostFrame) (s : State) : Host.Outcome State Fault Refusal :=
  hostFrame bus opcode [0xB0] (State.buffered bus opcode f) s
/-- RESET. -/
def execSpiReset (bus opcode : Nat) (f : HostFrame) (s : State) : Host.Outcome State Fault Refusal :=
  hostFrame bus opcode [0xB1] (State.buffered bus opcode f) s
/-- CLEAR FLAG STATUS. -/
def execSpiClearFlagStatus (bus opcode : Nat) (f : HostFrame) (s : State) : Host.Outcome State Fault Refusal :=
  hostFrame bus opcode [0xC0] (State.buffered bus opcode f) s

/-- A frame whose opcode has class DENY: it is denied, and every data byte that the host clocks is 0xFF (R331, R335, R338). -/
def execDeniedOpcodeFrame (bus opcode : Nat) (f : HostFrame) (s : State) : Host.Outcome State Fault Refusal :=
  hostFrame bus opcode [0x00] (fun s x cls => ((s.deny bus opcode x.cs cls 0).emit (.data (ones f.data.length)), false)) s

end Sys2Proof.Machine
end

