-- ==== Sys2Proof/Machine/Validate.lean ====
section
/-!
DEFINITION. The validity of configuration values and groups (R66, R97, R98, R102, R113, R115 to R117, R156, R205, R241, R281, R302, R328 to R333,
R384, R387, R425, R487, R491, R492). A value of the wrong length, or with nonzero reserved bits, is not valid (log 19).
-/

namespace Sys2Proof.Machine

/-- Number of a realm's officers with a qualifying role for a class (Table 3.6). -/
def Realm.count (r : Realm) (cls : Nat) : Nat :=
  (r.roster.filter fun p => if cls = 0x0A then p.2.role == 1 else if cls = 0x0B then p.2.role == 1 || p.2.role == 2 else true).length

/-- GPIO_CFG (Table 2.9). -/
def gpioCfgOk (v : Bytes) : Bool :=
  v.all (fun b => decide (b.toNat < 16) && (bit b.toNat 0 || b.toNat == 0)) && decide ((v.filter fun b => bit b.toNat 0).length ≤ 12)

/-- One release step record within REL_COUNT (Table 2.10, R66). -/
def relStepOk (gpio r : Bytes) : Bool :=
  let w := stepWaitIn r
  byteAt r 3 == 0 && decide (byteAt r 8 < 4) && decide (byteAt r 0xA ≤ 1) && byteAt r 0xB == 0
    && (List.range 24).all (fun n => !bit (stepMask r) n || bit (byteAt gpio n) 0)
    && (w == 31 || (decide (w ≤ 23) && !bit (byteAt gpio w) 0 && field r 6 2 != 0))

/-- REL_STEPS against GPIO_CFG and REL_COUNT. -/
def relStepsOk (gpio : Bytes) (count : Nat) (v : Bytes) : Bool :=
  (List.range 16).all fun i => let r := slice (12 * i) 12 v; if i < count then relStepOk gpio r else allZero r

/-- OP_CLASS values of Table 10.3. -/
def opClassOk (v : Nat) : Bool :=
  let hi := v / 16
  let lo := v % 16
  match hi with
  | 0 => lo == 0 | 1 => decide (lo % 8 ≤ 5) | 2 => lo == 0 | 3 => lo == 0 | 4 => decide (lo ≤ 2) | 5 => decide (lo ≤ 1)
  | 6 => decide (lo % 8 = 0 ∨ lo % 8 = 4) | 7 => decide (lo % 8 ≤ 2) | 8 => lo == 0 | 9 => decide (lo ≤ 2)
  | 0xA => decide (lo ≤ 1) | 0xB => decide (lo ≤ 1) | 0xC => lo == 0 | 0xD => decide (lo = 1 ∨ lo = 2)
  | _ => false

/-- A class that a bus in octal DDR may hold: not READ form 0 or READ_ID (R329). -/
def opFitsOctal (v : Nat) : Bool := !(v / 16 == 2 || (v / 16 == 1 && v % 8 == 0))

/-- BUS_TIMING (Table 10.7), with the inequality of R333 in units of 1/(2 CLK_MHZ) ns. -/
def busTimingOk (i : Nat) (v : Bytes) : Bool :=
  let mode := byteAt v 0
  let clk := field v 2 2
  let fd := byteAt v 4
  let hd := byteAt v 5
  decide ((mode = 1 ∧ 10 ≤ clk ∧ clk ≤ 166 ∧ byteAt v 1 ≤ 3) ∨ (mode = 2 ∧ 10 ≤ clk ∧ clk ≤ 200 ∧ byteAt v 1 = 0))
    && decide (1 ≤ fd ∧ fd ≤ 32 ∧ 10 ≤ byteAt v 6 ∧ byteAt v 6 ≤ 50 ∧ byteAt v 7 = 0)
    && (if i = 2 then hd == 0
        else decide (8 ≤ hd ∧ hd ≤ 32 ∧ 20 * hd * clk ≥ 2000 * fd + (if mode = 1 then 4000 else 1000) + 24 * clk))

/-- A permission word of Table 10.4. -/
def permOk (v : Nat) : Bool := v &&& 0xF888 == 0

/-- A snapshot selector (R491, Table 15.5). -/
def selectorOk (v : Nat) : Bool :=
  let r := v % 256
  let i := v / 256 % 65536
  decide (v < 2 ^ 24) &&
  match r with
  | 0x01 => i == 0 | 0x02 => decide (i ≤ 23 ∨ i = 0xFF) | 0x03 => i == 0 | 0x04 => decide (i ≤ 23)
  | 0x05 => decide (1 ≤ i ∧ i ≤ 255) | 0x06 => decide (i ≤ 255) | 0x07 => decide (i ≤ 255) | 0x08 => i == 0 | 0x09 => i == 0
  | 0x0A => decide (i ≤ 9) | 0x0B => i == 0 | 0x0C => decide (i ≤ 1) | 0x0D => decide (i ≤ 2047) | 0x0E => i == 0
  | 0x0F => decide (i ≤ 15)
  | _ => false

/-- TRIG_SOURCE (Table 15.2); `old` is the current value. -/
def trigSourceOk (i : Nat) (old v : Bytes) : Bool :=
  let src := field v 0 2
  decide (byteAt v 2 ≤ 1) &&
  if i < 16 then src == i + 1 && byteAt v 3 == 0 && field v 4 4 == 0 && decide (byteAt old 2 ≤ byteAt v 2)
  else
    let arg := field v 4 4
    src == 0 || (decide (0x20 ≤ src ∧ src ≤ 0x25) && byteAt v 3 != 0
      && (match src with
        | 0x20 => decide (10 ≤ arg ∧ arg ≤ 3600000)
        | 0x21 => decide (arg < 2 ^ 24)
        | 0x22 => decide (1 ≤ arg ∧ arg ≤ 255)
        | 0x23 => decide (arg < 2 ^ 20)
        | 0x24 => decide (arg ≤ 63)
        | _ => decide (arg < 2 ^ 16)))

/-- ARG of a histogram's subject (Table 15.6). -/
def histArgOk (subject arg : Nat) : Bool :=
  match subject with
  | 1 => decide (arg < 2 ^ 18)
  | 2 => decide (arg ≤ 23 ∨ arg = 0xFF)
  | 5 => decide (arg ≤ 9)
  | 6 => [2, 3, 4, 5, 13, 14, 15, 16].contains arg
  | 7 => decide (arg ≤ 23 ∨ arg = 0xFF)
  | 8 => decide (arg ≤ 255)
  | _ => arg == 0

/-- HIST_CONFIG (Tables 15.6, 15.7). -/
def histConfigOk (i : Nat) (v : Bytes) : Bool :=
  decide (12 ≤ i) && decide (field v 0 2 ≤ 0x0A) && field v 2 2 == 0
    && (field v 0 2 == 0 || (histArgOk (field v 0 2) (field v 4 4) && decide (1 ≤ field v 0xC 4 ∧ field v 0xC 4 < 2 ^ 31)))

/-- CH_DECTAB (Table 7.10). -/
def dectabOk (v : Bytes) : Bool := v.all (fun b => decide (b.toNat ≤ 9)) && (List.range 10).all fun d => v.any fun b => b.toNat == d

/-- The state as it would be once a store had taken effect everywhere: for the checks that name derived tables. -/
def State.ifStored (s : State) (store : KeyMap Bytes) : State := ({ s with orfer := { s.orfer with cfg := store } }).rebuild

/-- SECTOR_MAP against the bindings of the same store (R155, R156): every owner bound, 16 pool sectors for each pool member. -/
def mapOk (store : KeyMap Bytes) (v : Bytes) : Bool :=
  let bound (c : Nat) : Bool := leNat (cfgValue store F_CH_RING_COUNT c) != 0
  let members := 1 + (tenants.filter fun c => bound c && leNat (cfgValue store F_CH_ISOLATED c) == 0).length
  v.all (fun b => b == 0#8 || bound b.toNat) && decide (16 * members ≤ (v.filter (· == 0#8)).length)

/-- The admission limits of each member's channels fit its 32,768 items while PAIRED (R387). -/
def State.pairLimitOk (s : State) (store : KeyMap Bytes) : Bool :=
  if s.pair.mode != .paired then true
  else
    let t := s.ifStored store
    [0, 1].all fun m => decide ((t.bound.filter fun c => leNat (cfgValue store F_CH_HOME c) == m).foldl (fun acc c => acc + t.admitLimit c) 0 ≤ 32768)

/-- The partitions of a store can be placed (R281). -/
def State.placeOk (s : State) (store : KeyMap Bytes) : Bool :=
  (s.partitions
    (fun c => ⟨0, leNat (cfgValue store F_CH_ISOLATED c) != 0, leNat (cfgValue store F_CH_RING_COUNT c)⟩)
    (fun c => leNat (cfgValue store F_CH_HOLD_PAGES c))).isSome

/-- Sum of a field over the channels of a store that pass a test. -/
def sumOver (store : KeyMap Bytes) (f : Nat) (ok : Nat → Bool) : Nat :=
  (tenants.filter ok).foldl (fun acc c => acc + leNat (cfgValue store f c)) 0

/-- One field's value in a store that a commit or a set would make (Tables 2.9 to 15.2). -/
def State.valueOk (s : State) (store : KeyMap Bytes) (f i : Nat) : Bool :=
  let v := cfgValue store f i
  let n := leNat v
  let old := s.cfg f i
  let bound (c : Nat) : Bool := leNat (cfgValue store F_CH_RING_COUNT c) != 0
  let rings := leNat (cfgValue store F_CH_RING_COUNT (i / 8))
  let lenOk : Bool := match fieldInfo f with
    | some x => if x.len = 0 then v.length % 4 == 0 && decide (v.length ≤ 48) else v.length == x.len
    | none => false
  lenOk &&
  if f = F_GPIO_CFG then gpioCfgOk v
  else if f = F_REL_COUNT then decide (1 ≤ n ∧ n ≤ 16)
  else if f = F_REL_STEPS then relStepsOk (cfgValue store F_GPIO_CFG 0) (leNat (cfgValue store F_REL_COUNT 0)) v
  else if f = F_QUORUM_A then decide (2 ≤ n ∧ n ≤ (s.realm i).count 0x0A)
  else if f = F_QUORUM_B then decide (1 ≤ n ∧ n ≤ (s.realm i).count 0x0B)
  else if f = F_QUORUM_C then decide (1 ≤ n ∧ n ≤ (s.realm i).count 0x0C)
  else if f = F_CH_FUNCTION then
    decide (n ≤ s.pcie.numVFs ∧ n ≤ 127)
      && (n == 0 || decide ((tenants.filter fun c => bound c && leNat (cfgValue store F_CH_FUNCTION c) == n).length ≤ 4))
  else if f = F_CH_ISOLATED then decide (n ≤ 1)
  else if f = F_CH_RING_COUNT then decide (n ≤ 4) && (n != 0 || (cfgValue store F_SECTOR_MAP 0).all fun b => b.toNat != i)
  else if f = F_SQ_BASE then n != 0 && n % 4096 == 0 && decide (i % 8 < rings)
  else if f = F_SQ_SIZE then decide (4 ≤ n ∧ n ≤ 15)
  else if f = F_SQ_FORMAT then decide (n = 1 ∨ n = 2)
  else if f = F_CQ_BASE then n != 0 && n % 4096 == 0 && rings != 0
  else if f = F_CQ_SIZE then decide (4 ≤ n ∧ n ≤ 15)
  else if f = F_CQ_VECTOR then decide (n ≤ (if leNat (cfgValue store F_CH_FUNCTION (i / 8)) = 0 then 63 else 3))
  else if f = F_CQ_MOD_TIMER then n != 0
  else if f = F_SECTOR_MAP then mapOk store v && (v == old || s.pairLimitOk store)
  else if f = F_KC_QUOTA then
    decide (16 ≤ n ∧ n ≤ 28416 ∧ sumOver store F_KC_QUOTA (fun c => bound c && leNat (cfgValue store F_CH_ISOLATED c) != 0) ≤ 28416)
  else if f = F_KC_GROUP then decide (n ≤ 63)
  else if f = F_CH_DECTAB then dectabOk v
  else if f = F_CH_HOLD_PAGES then decide (n ≤ 256) && s.placeOk store
  else if f = F_CH_OPMEM then decide (n ≤ 448 ∧ sumOver store F_CH_OPMEM bound ≤ 448)
  else if f = F_REG_START then n % 4096 == 0
  else if f = F_REG_LENGTH then n % 4096 == 0 && decide (leNat (cfgValue store F_REG_START i) + n ≤ 2 ^ 32)
  else if f = F_REG_CS then decide (n ≤ 1)
  else if f = F_REG_PERM ∨ f = F_PERM_DEFAULT then permOk n
  else if f = F_OP_CLASS then
    if i = 0xD1 ∨ i = 0xD2 then v == old
    else opClassOk n && n / 16 != 0xD
      && (byteAt (cfgValue store F_BUS_TIMING (i / 256)) 0 != 2 || opFitsOctal n)
  else if f = F_OP_PERM then if i = 0xD1 ∨ i = 0xD2 then v == old else decide (n < 8)
  else if f = F_BUS_TIMING then busTimingOk i v && (byteAt v 0 != 2 || 2 ≤ i || (List.range 256).all fun op => opFitsOctal (leNat (cfgValue store F_OP_CLASS (256 * i + op))))
  else if f = F_MANIFEST_LOC then decide (byteAt v 0 ≤ 1) && field v 1 4 % 4096 == 0
  else if f = F_PLAT_POLICY then decide (n < 8)
  else if f = F_PAIR_ROLE ∨ f = F_PAIR_FAILBACK then decide (n ≤ 1)
  else if f = F_PAIR_LANE_MAP then decide (n < 8)
  else if f = F_PAIR_START_WAIT then decide (1 ≤ n ∧ n ≤ 3600)
  else if f = F_CH_HOME then decide (n ≤ 1) && s.pairLimitOk store
  else if f = F_CELL_POLICY ∨ f = F_CHG_VOLTAGE then decide (n = 1 ∨ n = 2)
  else if f = F_CELL_FLOOR then decide (10 ≤ n ∧ n ≤ 90)
  else if f = F_CELL_CAPACITY then decide (n = 0 ∨ (20 ≤ n ∧ n ≤ 2000))
  else if f = F_CHG_CURRENT then decide (n = 0 ∨ (5 ≤ n ∧ n ≤ 40))
  else if f = F_DET_SEVERITY then decide (detFloor i ≤ n ∧ 1 ≤ n ∧ n ≤ 4)
  else if f = F_TRIG_SOURCE then trigSourceOk i old v
  else if f = F_TRIG_SNAP then (blocks 4 v).all fun b => selectorOk (leNat b)
  else if f = F_HIST_CONFIG then histConfigOk i v
  else true

/-- The fields that a touched field brings into the check: its whole group, and what depends on it elsewhere (R102, R205, R281, R302, R387;
which field a failure beyond the group names: log 30). -/
def checkedWith (f i : Nat) : List (Nat × Nat) :=
  (if fieldGrouped f then (fieldTable.filter fun p => p.1 / 65536 == f / 65536).map fun p => (p.1, i) else [(f, i)])
    ++ (if f / 65536 = 0x0101 then [(F_SECTOR_MAP, 0), (F_KC_QUOTA, i), (F_CH_HOLD_PAGES, i), (F_CH_OPMEM, i), (F_CH_HOME, i)] else [])
    ++ (if f = F_CH_OPCODE_PERMIT ∨ f = F_CH_LEN_LIMIT then [(F_CH_HOME, i)] else [])

/-- The first field, by FIELD and then INSTANCE, that fails in the store that the entries would make (R98, R102); none where all pass. -/
def State.firstBad (s : State) (entries : KeyMap Bytes) : Option (Nat × Nat) :=
  let store := entries.foldl (fun m e => KeyMap.put m e.1 e.2) s.orfer.cfg
  let keys := (entries.flatMap fun e => checkedWith (keyField e.1) (keyInst e.1)).foldl (fun (m : KeyMap Unit) p => KeyMap.put m (cfgKey p.1 p.2) ()) []
  -- a map change waits until an earlier one has reached its effective boundary (R156)
  let early (k : Nat) : Bool := k == cfgKey F_SECTOR_MAP 0 && (KeyMap.find entries k).isSome && s.wheel.waiting.any (·.map)
  (keys.find? fun k => early k.1 || !s.valueOk store (keyField k.1) (keyInst k.1)).map fun k => (keyField k.1, keyInst k.1)

end Sys2Proof.Machine
end

