-- ==== Sys2Proof/Machine/Orfer.lean ====
section
/-!
DEFINITION. Sessions, queries, configuration transactions up to their commit, administrative sessions and the requests about acts
(R79 to R107, R113, R555 to R557). What an act or a commit does is in Acts.lean.
-/

namespace Sys2Proof.Machine

/-! ### Sessions (R79 to R86) -/

/-- Sessions allowed on a port (R81). -/
def sessionLimit : Port → Nat
  | .mb0 => 16 | .mb1 => 4 | .mb2 => 2 | .mb3 _ => 2

/-- A further session may open on the port (R81). -/
def State.sessionRoom (s : State) (p : Port) : Bool :=
  let mine := (s.orfer.sessions.filter fun x => x.2.port == p).length
  let virtual := (s.orfer.sessions.filter fun x => portNum x.2.port == 3).length
  decide (mine < sessionLimit p) && (portNum p != 3 || decide (virtual < 128))

/-- The highest offered version that the device supports: 1.0 to 1.4 (R80). -/
def bestVersion (offers : List Bytes) : Option (Nat × Nat) :=
  offers.foldl (fun best o =>
    let v := (byteAt o 0, byteAt o 1)
    if v.1 = 1 ∧ v.2 ≤ 4 then match best with
      | some b => if b.2 < v.2 then some v else best
      | none => some v
    else best) none

/-- SESSION_OPEN (R80, R81, R84). No supported version is judged before the session limit (log 152). -/
def execSessionOpen (p : Port) (s : State) : Host.Outcome State Fault Refusal :=
  runOn s fun s => serve s p 0x0101 fun s q =>
    let n := byteAt q.payload 0
    if q.payload.isEmpty ∨ q.payload.length ≠ 3 + 2 * n then s.answer q ST_BAD_LENGTH []
    else if n = 0 ∨ 8 < n then s.answer q ST_BAD_VALUE []
    else match bestVersion (blocks 2 (slice 1 (2 * n) q.payload)) with
      | none => s.answer q ST_VERSION []
      | some v =>
        if s.sessionRoom p = false then s.answer q ST_SESSION_LIMIT []
        else
          let init := field q.payload (1 + 2 * n) 2
          let id := s.orfer.nextSession
          let x : Session := ⟨p, q.realm, v, (init + 65535) % 65536, BitVec.allOnes 1024, false, none, 0, [], s.now + 120000000000, none,
            SpdmConn.reset, none⟩
          let s := { s with orfer := { s.orfer with sessions := KeyMap.put s.orfer.sessions id x, nextSession := id + 1 } }
          s.answer q ST_OK (u32 id ++ u8 v.1 ++ u8 v.2 ++ u16 init)

/-- A request whose payload must be empty. -/
def noPayload (s : State) (q : Request) (f : State → State) : State :=
  if q.payload.isEmpty then f s else s.answer q ST_BAD_LENGTH []

/-- SESSION_CLOSE (R82). -/
def execSessionClose (p : Port) (s : State) : Host.Outcome State Fault Refusal :=
  runOn s fun s => serve s p 0x0102 fun s q => noPayload s q fun s => (s.answer q ST_OK []).closeSession q.session

/-- IDENTITY_QUERY (Table 3.4). -/
def execIdentityQuery (p : Port) (s : State) : Host.Outcome State Fault Refusal :=
  runOn s fun s => serve s p 0x0103 fun s q => noPayload s q fun s => s.answer q ST_OK (s.registerFile.take 0x60)

/-- A notice record (R85). -/
def Notice.bytes (n : Notice) : Bytes := u16 n.kind ++ u16 n.status ++ u32 n.arg ++ u64 n.time

/-- STATE_QUERY (Table 3.13). -/
def execStateQuery (p : Port) (s : State) : Host.Outcome State Fault Refusal :=
  runOn s fun s => serve s p 0x0104 fun s q => noPayload s q fun s =>
    s.answer q ST_OK (u32 s.modeWord ++ u32 s.ms.history.length ++ s.ms.history.flatMap fun h => (Notice.bytes ⟨1, 0, h.1, h.2⟩))

/-- NOTICE_FETCH (R85). -/
def execNoticeFetch (p : Port) (s : State) : Host.Outcome State Fault Refusal :=
  runOn s fun s => serve s p 0x0105 fun s q =>
    if q.payload.length ≠ 2 then s.answer q ST_BAD_LENGTH []
    else match s.session q.session with
      | none => s.answer q ST_NO_SESSION []
      | some x =>
        let got := x.notices.take (min 200 (leNat q.payload))
        let dropped := (s.window p).dropped
        let s := s.updSession q.session fun x => { x with notices := x.notices.drop got.length }
        let s := s.updWindow p fun w => { w with dropped := 0 }
        s.answer q ST_OK (u16 got.length ++ u8 dropped ++ u8 0 ++ got.flatMap Notice.bytes)

/-- A session has had no request for 120 s (R82). -/
def execSessionTimeout (id : Nat) (s : State) : Host.Outcome State Fault Refusal :=
  runOn s fun s => match s.session id with
    | some x => (s.advance x.deadline).closeSession id
    | none => s

/-! ### Configuration transactions (R98 to R101, R555) -/

/-- The entries of a CFG_SET (R99); none where they do not fill the payload exactly. `fuel` bounds their number. -/
def parseEntries : Nat → Bytes → Option (List (Nat × Nat × Bytes × Bool))
  | 0, bs => if bs.isEmpty then some [] else none
  | fuel + 1, bs =>
    if bs.isEmpty then some []
    else
      let len := field bs 6 2
      let pad := (4 - len % 4) % 4
      if bs.length < 8 + len + pad then none
      else (parseEntries fuel (bs.drop (8 + len + pad))).map fun rest =>
        (field bs 0 4, field bs 4 2, slice 8 len bs, allZero (slice (8 + len) pad bs)) :: rest

/-- The first failing entry's status: padding, unknown field, another realm's field (R12, R99). -/
def entriesStatus (realm : Nat) (es : List (Nat × Nat × Bytes × Bool)) : Option Nat :=
  es.foldl (fun st e =>
    match st with
    | some x => some x
    | none =>
      if !e.2.2.2 then some ST_RESERVED
      else if !fieldSettable e.1 e.2.1 then some ST_BAD_FIELD
      else if fieldRealm e.1 e.2.1 != realm then some ST_REALM
      else none) none

/-- The payload of an ST_BAD_VALUE that names a field (Table 3.13). -/
def badField (p : Nat × Nat) : Bytes := u32 p.1 ++ u16 p.2 ++ u16 0

/-- CFG_BEGIN (R100, R101). -/
def execCfgBegin (p : Port) (s : State) : Host.Outcome State Fault Refusal :=
  runOn s fun s => serve s p 0x0201 fun s q => noPayload s q fun s =>
    if (s.realm q.realm).txn.isSome then s.answer q ST_TXN_BUSY []
    else
      let id := s.orfer.nextTxn
      let s := s.updRealm q.realm fun r => { r with txn := some ⟨id, q.session, [], .opened, some (s.now + 10000000000), none⟩ }
      let s := { s with orfer := { s.orfer with nextTxn := id + 1 } }
      s.answer q ST_OK (u32 id)

/-- The realm's open transaction, where the session may work on the one it names (R100); another session's wrong TXN_ID gives ST_TXN_BUSY (log 153). -/
def State.txnFor (s : State) (q : Request) (id : Nat) : Nat ⊕ Txn :=
  match (s.realm q.realm).txn with
  | none => .inl ST_NO_TXN
  | some t => if t.session ≠ q.session then .inl ST_TXN_BUSY else if t.id ≠ id then .inl ST_NO_TXN else .inr t

/-- An ungrouped field with no class is set (R98). The fields of this kind are the interrupt moderation of a completion ring, which the ring takes over
with the next record that is written to it (R143; `State.putRecord`). -/
def State.applyPlain (s : State) (f i : Nat) (v : Bytes) : State := s.setCfg f i v

/-- CFG_SET (R98 to R102). With TXN_ID 0 what is wrong with an entry itself is judged before ST_NEEDS_TXN (log 126), and every entry is
checked, in the request's order. TXN_ID 0 acts whatever transaction another session has open (log 153). -/
def execCfgSet (p : Port) (s : State) : Host.Outcome State Fault Refusal :=
  runOn s fun s => serve s p 0x0202 fun s q =>
    let id := field q.payload 0 4
    match (if q.payload.length < 4 then none else parseEntries q.payload.length (q.payload.drop 4)) with
    | none => s.answer q ST_BAD_LENGTH []
    | some es =>
      let staged : KeyMap Bytes := es.foldl (fun m e => KeyMap.put m (cfgKey e.1 e.2.1) e.2.2.1) []
      if id = 0 then
        match entriesStatus q.realm es with
        | some st => s.answer q st []
        | none =>
          if es.any fun e => fieldGrouped e.1 || fieldClass e.1 != 0 then s.answer q ST_NEEDS_TXN []
          else match es.findSome? fun e => s.firstBad [(cfgKey e.1 e.2.1, e.2.2.1)] with
            | some b => s.answer q ST_BAD_VALUE (badField b)
            | none => (staged.foldl (fun s e => s.applyPlain (keyField e.1) (keyInst e.1) e.2) s).answer q ST_OK []
      else match s.txnFor q id with
        | .inl st => s.answer q st []
        | .inr t =>
          if t.state ≠ .opened then s.answer q ST_TXN_STATE []
          else match entriesStatus q.realm es with
            | some st => s.answer q st []
            | none =>
              let all := staged.foldl (fun m e => KeyMap.put m e.1 e.2) t.entries
              if 512 < all.length ∨ 65536 < all.foldl (fun acc e => acc + e.2.length) 0 then s.answer q ST_TXN_FULL []
              else (s.updRealm q.realm fun r => { r with txn := some { t with entries := all } }).answer q ST_OK []

/-- A field that a tenant realm may read although the device realm owns it (R555). -/
def tenantReadable (f : Nat) : Bool :=
  f == F_CH_FUNCTION || f == F_CH_ISOLATED || f == F_CH_RING_COUNT || f == F_CH_OPCODE_PERMIT || f == F_CH_LEN_LIMIT || f == F_KC_QUOTA
    || f == F_KC_GROUP || f == F_CH_DECTAB || f == F_CH_HOLD_PAGES || f == F_CH_OPMEM || f == F_CH_HOME

/-- The current value of a field, the read-only ones included (R157). -/
def State.readField (s : State) (f i : Nat) : Bytes :=
  if f = F_CH_SECTORS then s.chSectors i else if f = F_CH_LAT then s.chLat i else s.cfg f i

/-- CFG_GET (R555); a flag byte above 1 is ST_BAD_VALUE (log 155). -/
def execCfgGet (p : Port) (s : State) : Host.Outcome State Fault Refusal :=
  runOn s fun s => serve s p 0x0203 fun s q =>
    let f := field q.payload 0 4
    let i := field q.payload 4 2
    let owner := fieldRealm f i
    if q.payload.length ≠ 7 then s.answer q ST_BAD_LENGTH []
    else if 1 < byteAt q.payload 6 then s.answer q ST_BAD_VALUE []
    else if fieldExists f i = false then s.answer q ST_BAD_FIELD []
    else if ¬ (q.realm = 0 ∨ owner = q.realm ∨ (tenantReadable f ∧ i = q.realm)) then s.answer q ST_REALM []
    else
      let staged := if byteAt q.payload 6 = 1 ∧ owner = q.realm ∧ readOnlyField f = false then
          (s.realm q.realm).txn.bind fun t => KeyMap.find t.entries (cfgKey f i)
        else none
      s.answer q ST_OK (staged.getD (s.readField f i))

/-- CFG_ROLLBACK (R100, R107): whatever has not been applied, but for a commit that is mirrored or unpaired and waits for its boundary. An act,
or a commit without a class, that the rollback takes with it ends with ST_ACT_CANCELLED (log 120). -/
def execCfgRollback (p : Port) (s : State) : Host.Outcome State Fault Refusal :=
  runOn s fun s => serve s p 0x0205 fun s q =>
    if q.payload.length ≠ 4 then s.answer q ST_BAD_LENGTH []
    else match s.txnFor q (leNat q.payload) with
      | .inl st => s.answer q st []
      | .inr _ =>
        if s.waitsBoundary q.realm then s.answer q ST_TXN_STATE []
        else (s.answer q ST_OK []).giveUp q.realm ST_ACT_CANCELLED false

/-- CFG_STATUS (Table 3.13). -/
def execCfgStatus (p : Port) (s : State) : Host.Outcome State Fault Refusal :=
  runOn s fun s => serve s p 0x0206 fun s q => noPayload s q fun s =>
    match (s.realm q.realm).txn with
    | none => s.answer q ST_OK (zeros 16)
    | some t =>
      let code := match t.state with
        | .opened => 1 | .validated => 2 | .act => 3 | .boundary => 4
      let left := match t.timer with
        | some d => (d - s.now) / 1000000
        | none => 0
      s.answer q ST_OK (u8 code ++ zeros 3 ++ u32 t.id ++ u32 t.session ++ u32 left)

/-- A transaction's 10 s end (R101). -/
def execTxnTimeout (realm : Nat) (s : State) : Host.Outcome State Fault Refusal :=
  runOn s fun s => match (s.realm realm).txn.bind (·.timer) with
    | some d => (s.advance d).rollback realm true
    | none => s

/-! ### Requests for acts (R89, R90, R93) -/

/-- The canonical encoding of a commit: its entries in order (R104). -/
def commitEncoding (entries : KeyMap Bytes) : Bytes :=
  entries.flatMap fun e => u32 (keyField e.1) ++ u16 (keyInst e.1) ++ u16 e.2.length ++ padTo 4 e.2

/-- The act that a request creates, after its own checks: ST_DUAL_CONTROL without an administrative session of its realm, ST_ADMIN_BUSY
while another act is pending, else ST_ACCEPTED_PENDING with the act's identification (R89, R90, R93). `refused` is what a refusal leaves. -/
def State.makeAct (s : State) (q : Request) (realm cls target : Nat) (exempt : Bool) (encoding : Bytes) (txn : Option Nat)
    (refused created : State → State) : State :=
  if cls ≠ 0x0C ∧ exempt = false ∧ (s.realm realm).admin.isNone then (refused s).answer q ST_DUAL_CONTROL []
  else if (s.pendingAct realm).isSome then (refused s).answer q ST_ADMIN_BUSY []
  else
    let id := s.orfer.nextAct
    let (nonce, s) := s.draw 16
    let digest := sha384 encoding
    let a : Act := ⟨id, q.opcode, realm, cls, target, q.session, q.port, q.payload, txn, nonce, digest, [], 0, s.now + 300000000000, .awaiting, 0⟩
    let s := { s with orfer := { s.orfer with nextAct := id + 1 } }
    let s := s.updRealm realm fun r => { r with
      acts := (a :: r.acts).take 16, admin := r.admin.map fun d => { d with deadline := s.now + 900000000000 } }
    let s := { s with ident := { s.ident with outputs := KeyMap.del s.ident.outputs realm } }
    (created s).answer q ST_ACCEPTED_PENDING (u32 id ++ u8 cls ++ zeros 3 ++ nonce ++ digest)

/-- An act on the request's own payload, requested within an administrative session. -/
def State.request (s : State) (q : Request) (cls : Nat) : State :=
  s.makeAct q q.realm cls q.realm false q.payload none id id

/-- An act that needs no administrative session. -/
def State.requestFree (s : State) (q : Request) (cls : Nat) : State :=
  s.makeAct q q.realm cls q.realm true q.payload none id id

/-- An act of the device realm, requested within its administrative session: another REALM is ST_REALM (R373; log 52). -/
def State.requestDevice (s : State) (q : Request) (cls : Nat) : State :=
  if q.realm ≠ 0 then s.answer q ST_REALM [] else s.request q cls

/-- ADMIN_OPEN (R94, R95). -/
def execAdminOpen (p : Port) (s : State) : Host.Outcome State Fault Refusal :=
  runOn s fun s => serve s p 0x0301 fun s q =>
    if q.payload.length ≠ 32 then s.answer q ST_BAD_LENGTH []
    else if (s.realm q.realm).admin.isSome then s.answer q ST_ADMIN_BUSY []
    else s.requestFree q 0x0B

/-- ADMIN_CLOSE (R96). -/
def execAdminClose (p : Port) (s : State) : Host.Outcome State Fault Refusal :=
  runOn s fun s => serve s p 0x0302 fun s q => noPayload s q fun s =>
    match (s.realm q.realm).admin with
    | some a => if a.session = q.session then (s.closeAdmin q.realm).answer q ST_OK [] else s.answer q ST_DUAL_CONTROL []
    | none => s.answer q ST_DUAL_CONTROL []

/-- ACT_CANCEL (R92). -/
def execActCancel (p : Port) (s : State) : Host.Outcome State Fault Refusal :=
  runOn s fun s => serve s p 0x0305 fun s q =>
    if q.payload.length ≠ 4 then s.answer q ST_BAD_LENGTH []
    else match s.act q.realm (leNat q.payload) with
      | none => s.answer q ST_BAD_VALUE []
      | some a =>
        match a.state with
        | .awaiting => (s.answer q ST_OK []).endAct q.realm a.id ST_ACT_CANCELLED s.now
        | .assembled => s.answer q ST_TXN_STATE []
        | .done => s.answer q ST_BAD_VALUE []
        | .cancelled => s.answer q ST_BAD_VALUE []

/-- Length of an officer's public key: ECDSA P-384 or SLH-DSA-SHA2-128f (codes 1 and 2: log 32). -/
def officerKeyLen (alg : Nat) : Nat := if alg = 1 then 96 else if alg = 2 then 32 else 0

/-- OFFICER_ENROL entries: index, role, algorithm, public key; none where malformed. -/
def parseOfficers : Nat → Bytes → Option (KeyMap Officer)
  | 0, bs => if bs.isEmpty then some [] else none
  | fuel + 1, bs =>
    if bs.isEmpty then some []
    else
      let n := officerKeyLen (byteAt bs 2)
      if n = 0 ∨ bs.length < 3 + n then none
      else (parseOfficers fuel (bs.drop (3 + n))).map fun rest =>
        KeyMap.put rest (byteAt bs 0) ⟨byteAt bs 1, byteAt bs 2, slice 3 n bs⟩

/-- Officers of a well-formed roster: indices 0 to 11, roles 1 to 3. -/
def officersOk (m : KeyMap Officer) : Bool := m.all fun p => decide (p.1 ≤ 11 ∧ 1 ≤ p.2.role ∧ p.2.role ≤ 3)

/-- OFFICER_ENROL: a realm's first roster is an act of the device realm and may hold several entries; later, one entry for a free index is an
act of the realm itself (03, "Officers and dual control"; logs 32, 33). -/
def execOfficerEnrol (p : Port) (s : State) : Host.Outcome State Fault Refusal :=
  runOn s fun s => serve s p 0x0306 fun s q =>
    let first := (s.realm q.realm).roster.isEmpty
    match parseOfficers 12 q.payload with
    | none => s.answer q ST_BAD_LENGTH []
    | some m =>
      if m.isEmpty ∨ (¬ first ∧ q.payload.length ≠ 3 + officerKeyLen (byteAt q.payload 2)) then s.answer q ST_BAD_LENGTH []
      else if officersOk m = false ∨ (m.any fun o => (KeyMap.find (s.realm q.realm).roster o.1).isSome) then s.answer q ST_BAD_VALUE []
      else s.makeAct q (if first then 0 else q.realm) 0x0A q.realm false q.payload none id id

/-- OFFICER_REMOVE (R113). -/
def execOfficerRemove (p : Port) (s : State) : Host.Outcome State Fault Refusal :=
  runOn s fun s => serve s p 0x0307 fun s q =>
    let r := s.realm q.realm
    let i := byteAt q.payload 0
    if q.payload.length ≠ 1 then s.answer q ST_BAD_LENGTH []
    else
      let left := { r with roster := KeyMap.del r.roster i }
      if (KeyMap.find r.roster i).isNone ∨ ([0x0A, 0x0B, 0x0C].any fun c => decide (left.count c < s.quorum q.realm c)) then
        s.answer q ST_BAD_VALUE []
      else s.request q 0x0A

/-- OFFICER_LIST, a class C act whose output is the roster (Table 3.6; log 34). -/
def execOfficerList (p : Port) (s : State) : Host.Outcome State Fault Refusal :=
  runOn s fun s => serve s p 0x0308 fun s q => noPayload s q fun s => s.request q 0x0C

/-- An act's quorum has not assembled within 300 s (R93). -/
def execQuorumTimeout (realm : Nat) (s : State) : Host.Outcome State Fault Refusal :=
  runOn s fun s => match s.pendingAct realm with
    | some a => if a.state = .awaiting then
        let s := s.advance a.deadline
        s.endAct realm a.id ST_QUORUM_TIMEOUT s.now
      else s
    | none => s

/-- An administrative session has had no act for 900 s (R96). -/
def execAdminSessionTimeout (realm : Nat) (s : State) : Host.Outcome State Fault Refusal :=
  runOn s fun s => match (s.realm realm).admin with
    | some a => (s.advance a.deadline).closeAdmin realm
    | none => s

/-! ### Outputs of acts (R373, R415, R500) -/

/-- An act's output is kept until the realm's next act, or for 3,600 s after ACT_DONE (R373). -/
def State.setOutput (s : State) (realm id : Nat) (out : Bytes) : State :=
  { s with ident := { s.ident with outputs := KeyMap.put s.ident.outputs realm (id, out, s.now + 3600000000000) } }

/-- The kept output's time is over (R373). -/
def execActOutputExpire (realm : Nat) (s : State) : Host.Outcome State Fault Refusal :=
  runOn s fun s => match KeyMap.find s.ident.outputs realm with
    | some o => let s := s.advance o.2.2
                { s with ident := { s.ident with outputs := KeyMap.del s.ident.outputs realm } }
    | none => s

/-- A part of up to 4,000 bytes of an act's output; an ACT_ID with no output, or an offset beyond it, is ST_BAD_VALUE (R373; log 35). -/
def State.readOutput (s : State) (q : Request) : State :=
  if q.payload.length ≠ 8 then s.answer q ST_BAD_LENGTH []
  else match KeyMap.find s.ident.outputs q.realm with
    | some o =>
      let off := field q.payload 4 4
      if o.1 = field q.payload 0 4 ∧ off ≤ o.2.1.length then s.answer q ST_OK (slice off 4000 o.2.1) else s.answer q ST_BAD_VALUE []
    | none => s.answer q ST_BAD_VALUE []

end Sys2Proof.Machine
end

