-- ==== Sys2Proof/Machine/Sectors.lean ====
section
/-!
DEFINITION. A sector starts: who is served, whose budget gains, and how far admitted work goes on (R160 to R167, R385);
and the end of the drain before RECOVER by command (R61).
-/

namespace Sys2Proof.Machine

/-- Admitted items of a channel that a sector may still serve. -/
def State.servable (s : State) (c : Nat) : List Item :=
  (s.chan c).admitted.filter fun x => !x.demand.done && x.w != 0 && !x.ended

/-- The channel has work reserved in a sector of its own: an unfinished item whose first work sector has come (R161). -/
def State.reserved (s : State) (c n : Nat) : Bool := (s.servable c).any fun x => decide (x.sigma ≤ n)

/-- Facet has channel-0 work pending: a digest feed or a signature that has lane work left (R161, R288, R363). -/
def State.zeroWork (s : State) : Bool :=
  s.cipher.feeds.any (fun p => p.2.status == 0 && p.2.work != 0) || s.ident.treeWork != 0 || s.ident.signing.any fun j => j.work != 0

/-- A sector is released (R161, R385). -/
def State.sectorFree (s : State) (n : Nat) : Bool :=
  let i := n % revSectors
  let m := s.sectorMember i
  if s.sectorOwner i ≠ 0 then !s.homeHere m
  else if m = 0 then !s.zeroWork
  else !s.reserved m n && decide ((s.capPs m : Int) ≤ (s.chan m).budget)

/-- Channel 0 may use what a sector that is neither dealt to it nor released has left: in every mode in which no tenant channel admits (R162). -/
def State.zeroEverywhere (s : State) : Bool :=
  !(s.ms.mode == .serve || (s.ms.mode == .steward && s.ms.base == .serve))

/-- Sectors of a revolution that channel 0 may use as things stand: its dealt sectors and the released ones, and every sector while no tenant
channel admits (R161, R162). -/
def State.zeroShare (s : State) : Nat :=
  if s.zeroEverywhere then revSectors
  else (s.dealing.filter fun d =>
    if d.1 then d.2 == 0 || (!s.reserved d.2 s.wheel.sector && decide ((s.capPs d.2 : Int) ≤ (s.chan d.2).budget)) else !s.homeHere d.2).length

/-- Channel-0 work that fills `n` sectors ends: no sooner than its dealt and released sectors allow (R162, R343; log 133). -/
def State.zeroPace (s : State) (n : Nat) : State :=
  s.advance (s.now + n / s.zeroShare * revNs + n % s.zeroShare * sectorNs)

/-- An item of a channel put in its place by release time (R176). -/
def insertPair (x : Nat × Item) : List (Nat × Item) → List (Nat × Item)
  | [] => [x]
  | y :: rest => if x.2.release < y.2.release then x :: y :: rest else y :: insertPair x rest

/-- Items of several channels in one sector, in the order given, each with the core that it ran on, and the room that they
leave; `own` where the sector belongs to their channel. -/
def servePairs (own : Bool) (sector : Nat) : Room → List (Nat × Item) → Room × List (Option Nat × Nat × Item)
  | r, [] => (r, [])
  | r, (c, x) :: rest =>
    let r := r.beforeThe x (rest.map (·.2)) sector
    let a := if own then serveOwn sector r x else serveOne sector r x
    let b := servePairs own sector a.1 rest
    (b.1, (a.1.core, c, a.2) :: b.2)

/-- The end of an item's last work sector with work left: the item is stopped, with no output (R166), whatever its work had found. An item that an
event has ended or that the key check refused keeps its status. -/
def Item.stop (x : Item) : Item :=
  if x.late ∧ x.status = 0 ∧ x.cls ≠ .refused ∧ ¬ x.ended then
    { x with result := some { Result.none_ ST_ENGINE_FAULT with provisional := decide (dOpcode x.desc = 0x4A) } }
  else x

/-- What one item's sector leaves behind: its plan, operand memory written by its engine, its context, output that may go before the release
(R166, R266, R285, R299, R311, R316). -/
def State.sectorEnd (s : State) (core : Option Nat) (c : Nat) (x : Item) : State :=
  let before := (((s.chan c).admitted.find? fun y => y.seq == x.seq).map fun y => y.demand).getD x.demand
  let worked : Bool := before.left != x.demand.left
  let s := s.updItem c x.seq fun y => { y with demand := x.demand, w := x.w }
  let s := if worked then (s.writeOperands x).useContext core c x else s
  (s.updItem c x.seq Item.stop).flushItem c x.seq

/-- The engines advance the admitted items of the given channels in a sector, earliest release time first; contexts are saved at its end (R161, R164,
R176, R266, R267). Answers the room left. -/
def State.playSector (s : State) (own : Bool) (cs : List Nat) (n : Nat) : State × Room :=
  let items := cs.flatMap fun c => ((s.servable c).filter fun x => decide (x.sigma ≤ n)).map fun x => (c, x)
  let order := items.foldl (fun acc p => insertPair p acc) []
  let r := servePairs own n Room.full order
  let s := r.2.foldl (fun s p => s.sectorEnd p.1 p.2.1 p.2.2) s
  (cs.foldl State.sweepContexts s, r.1)

/-- A feed's lane work in a sector: one lane at a time (R288). A feed of Facet memory that has ended short begins again with its signature (log 133). -/
def Feed.serve (key lanes now : Nat) (x : Feed) : Feed :=
  if x.status ≠ 0 then (if key = 2 then { x with status := 0, received := 0, lastBeat := now, work := x.whole } else x)
  else { x with work := x.work - min 18 lanes }

/-- Channel-0 work in the room of a sector: the feeds, then the identity key's top-tree table, then the signature in progress, on every lane left (R161, R162,
R298, R361). -/
def State.serveZero (s : State) (r : Room) : State :=
  let feeds := s.cipher.feeds.foldl (fun (acc : Nat × KeyMap Feed) p =>
    let x := p.2.serve p.1 acc.1 s.now
    (acc.1 - (p.2.work - x.work), KeyMap.put acc.2 p.1 x)) (r.lanes, [])
  { s with
    cipher := { s.cipher with feeds := feeds.2 }
    ident := { s.ident with
      treeWork := s.ident.treeWork - feeds.1
      signing := match s.ident.signing with
        | j :: rest => { j with work := j.work - (feeds.1 - s.ident.treeWork) } :: rest
        | [] => [] } }

/-- A sector starts, the next one that device time has not passed (R154, R161, R162, R167): a released one adds to the pool budget and serves
non-isolated channels and then channel 0; any other adds to its member's budget and serves it alone. Channel 0 also takes what is left while no tenant
channel admits. -/
def execSectorStart (s : State) : Host.Outcome State Fault Refusal :=
  runOn s fun s =>
    let n := max s.wheel.sector (ceilDiv s.now sectorNs)
    let s := s.advance (n * sectorNs)
    let free := s.sectorFree n
    let m := s.sectorMember (n % revSectors)
    let zero := m = 0 ∨ free ∨ s.zeroEverywhere
    let s := { s with wheel := { s.wheel with
      sector := n + 1
      released := free
      pool := if free then min 4096000 (s.wheel.pool + 256000) else s.wheel.pool } }
    let a :=
      if free then s.playSector false (s.bound.filter fun c => !(s.chan c).binding.isolated) n
      else if m = 0 then (s, Room.full)
      else (s.updChan m fun x => { x with budget := min (s.capPs m : Int) (x.budget + 256000) }).playSector true [m] n
    if zero then a.1.serveZero a.2 else a.1

/-- The drain before RECOVER by command ends (Table 2.8): every admitted item is released, or 2 s have passed; items not released by then
get no completion record. -/
def execRecoverDrainEnd (s : State) : Host.Outcome State Fault Refusal :=
  runOn s fun s =>
    match s.recov.drain with
    | none => s
    | some t =>
      let empty := s.bound.all fun c => (s.chan c).admitted.isEmpty
      let s := if empty then s else s.advance t
      let s := s.mapAdmitted fun _ x => { x with silent := true }
      (s.enterRecover s.recov.wanted 5).finishRestore

end Sys2Proof.Machine
end

