-- ==== Sys2Proof/Machine/Platform.lean ====
section
/-!
DEFINITION. Verification and restoration of the protected buses, the ends of their flash operations, and the opcodes of group
0x04 (R338, R342, R348 to R358).
-/

namespace Sys2Proof.Machine

/-! ### Manifests (R348, R349, Table 10.15) -/

/-- Length of a signature by SIG_ALG; 0 for an unknown one. -/
def sigLen (alg : Nat) : Nat := if alg = 1 then 7856 else if alg = 2 then 96 else 0

/-- One region entry is well formed (Table 10.14, R348). -/
def regionOk (e : Bytes) : Bool :=
  field e 0 4 % 4096 == 0 && field e 4 4 % 4096 == 0 && field e 4 4 != 0 && decide (field e 0 4 + field e 4 4 ≤ 2 ^ 32)
    && decide (byteAt e 8 ≤ 1) && (byteAt e 9 == 1 || byteAt e 9 == 2) && decide (byteAt e 10 ≤ 1) && allZero (slice 11 5 e)

/-- Two regions overlap on one chip select. -/
def regionsMeet (a b : Bytes) : Bool :=
  byteAt a 8 == byteAt b 8 && decide (field a 0 4 < field b 0 4 + field b 4 4) && decide (field b 0 4 < field a 0 4 + field a 4 4)

/-- Step 1 of Table 10.15. -/
def manifestFormat (b : Nat) (m : Bytes) : Bool :=
  let n := regionCount m
  let total := 128 + 64 * n + sigLen (byteAt m 0x0A)
  m.take 8 == ascii "JGPLATMF" && byteAt m 8 == 1 && byteAt m 9 == b && sigLen (byteAt m 0x0A) != 0 && decide (1 ≤ n ∧ n ≤ 32)
    && field m 0x10 4 == total && decide (total ≤ 16384) && m.length == total && allZero (slice 0x14 4 m)
    && (byteAt m 0x0A == 2 || allZero (slice 0x40 64 m))
    && (List.range n).all (fun r => regionOk (regionEntry m r))
    && (List.range n).all (fun r => (List.range r).all fun q => !regionsMeet (regionEntry m r) (regionEntry m q))

/-- Step 2 of Table 10.15: the key is accepted, the algorithm allowed, the signature good (R349). -/
def State.manifestSigned (s : State) (b : Nat) (m : Bytes) : Bool :=
  let alg := byteAt m 0x0A
  let body := m.take (m.length - sigLen alg)
  let sig := m.drop (m.length - sigLen alg)
  let key := slice 0x20 (if alg = 1 then 32 else 96) m
  let digest := sha384 key
  !allZero digest && (blocks 48 (s.cfg F_PLAT_KEYS b)).contains digest &&
    (if alg = 1 then slhVerify 0x131 key 0 [] body sig else bit (s.platPolicy b) 1 && ecdsaVerify 384 key (sha384 body) sig)

/-- Steps 1 to 3 of Table 10.15 on the manifest as read; a flash that does not answer is ST_FLASH_TIMEOUT. -/
def State.manifestStatus (s : State) (b : Nat) (m : Option Bytes) : Nat :=
  match m with
  | none => ST_FLASH_TIMEOUT
  | some m =>
    if ¬ manifestFormat b m then ST_MANIFEST_FORMAT
    else if ¬ s.manifestSigned b m then ST_MANIFEST_SIG
    else if manifestSvn m < KeyMap.get s.priv.svn 0 b then ST_SVN_ROLLBACK
    else ST_OK

/-! ### The course of a verification (R350, R357) -/

/-- The drain before RECOVER starts: admission stops at once, and at most 2 s remain (Table 2.8). -/
def State.startDrain (s : State) (buses : Nat) : State :=
  if s.recov.drain.isSome then { s with recov := { s.recov with wanted := s.recov.wanted ||| buses } }
  else { s with recov := { s.recov with drain := some (s.now + 2000000000), wanted := buses } }

/-- The bus may enter RECOVER: its golden set exists, and it has entered at most once since the cold GATE (R355, R356). -/
def State.mayRecover (s : State) (b : Nat) : Bool := s.goldenExists b && decide ((s.bus b).recovers < 2)

/-- A failing region asks for recovery at once (Table 10.14). -/
def State.wantsRecovery (s : State) (b : Nat) : Bool :=
  match (s.bus b).manifest with
  | some m => (s.bus b).manifestOk && (List.range (regionCount m)).any fun r => bit (s.bus b).failing r && bit (byteAt (regionEntry m r) 10) 0
  | none => false

/-- A verification of a bus ends (R350, R357, trigger 6): in a GATE the start goes on; after PLAT_VERIFY its result is announced, and a
region with RECOVER_NOW leads to RECOVER. -/
def State.endVerify (s : State) (b : Nat) : State :=
  let x := s.bus b
  let ok : Bool := x.failing == 0
  let plat := if ok then (if x.restored then 3 else 1) else 2
  let gate : Bool := x.verifying == 1
  let s := { s with cipher := { s.cipher with feeds := KeyMap.del s.cipher.feeds b } }
  let s := s.updBus b fun y => { y with
    verifying := 0, plat := plat, toCheck := []
    passed := if gate then ok else y.passed
    gateManifest := if gate then (if ok then y.manifest else none) else y.gateManifest }
  let s := (s.settleTiming b).trigger 6 (s.bus b).last (b + 256 * plat)
  if gate then (if s.rel.phase = .held then s.holdInGate else s.platformNext)
  else
    let s := s.notify 0 0x0400 (s.bus b).last (b + 256 * plat)
    if ¬ ok ∧ s.wantsRecovery b ∧ s.mayRecover b ∧ (s.ms.mode = .watch ∨ s.ms.mode = .serve ∨ s.ms.mode = .steward) then s.startDrain (2 ^ b)
    else s

/-- Every region of a bus fails (steps 1 to 3 of Table 10.15, R342). -/
def State.failBus (s : State) (b status : Nat) : State :=
  let n := match (s.bus b).manifest with
    | some m => if manifestFormat b m then regionCount m else 32
    | none => 32
  (s.updBus b fun x => { x with failing := 2 ^ n - 1, last := status }).endVerify b

/-- The next region goes to the digest engine with its length declared, or the verification ends (R288, R350). -/
def State.nextRegion (s : State) (b : Nat) : State :=
  match (s.bus b).toCheck, (s.bus b).manifest with
  | r :: _, some m =>
    let e := regionEntry m r
    let work := digestWork (byteAt e 9 != 1) (field e 4 4)
    { s with cipher := { s.cipher with feeds := KeyMap.put s.cipher.feeds b ⟨field e 4 4, 0, s.now, 0, work, work⟩ } }
  | _, _ => s.endVerify b

/-- A region has been judged. -/
def State.regionDone (s : State) (b status : Nat) : State :=
  match (s.bus b).toCheck with
  | [] => s
  | r :: rest =>
    (s.updBus b fun x => { x with
      toCheck := rest
      failing := if status = ST_OK then x.failing else x.failing + 2 ^ r
      last := if status = ST_OK then x.last else status }).nextRegion b

/-- What the device sends as a flash side comes up (R342): RESET_N rises, RESET ENABLE and RESET, in 1-1-1 and in octal DDR, READ SFDP, and for octal DDR
the commands that the flash's SFDP describes. -/
def State.startFlash (s : State) (b : Nat) (octal : Bool) (flashes : List (Nat × Option Bytes)) : State :=
  flashes.foldl (fun s f =>
    let s := ((s.sendReset b f.1).sendReset b f.1).emit (.flash b f.1 0x5A 0 [])
    match f.2 with
    | some image => if octal && Config.sfdpOctal image then s.emitAll ((Config.sfdpOctalEntry image).map fun c => .flash b f.1 c.1 c.2.1 c.2.2) else s
    | none => s) 
      (({ s with supply := { s.supply with flashReset := s.supply.flashReset ||| 2 ^ b } }).emit (.drive (.flashReset b) true))

/-- The flash side of a port ends its start (R342): it is up, or it stays down and a bus's verification fails. Port 2 is the private one.
`octal`: the flash answers in octal DDR mode. -/
def execFlashSideUp (bus : Nat) (sfdp0 sfdp1 : Option Bytes) (octal : Bool) (s : State) : Host.Outcome State Fault Refusal :=
  runOn s fun s =>
    let timing := if bus = 2 then s.priv.timing else (s.bus bus).timing
    let described := [sfdp0, sfdp1].filterMap id
    let up : Bool := byteAt timing 0 != 2 || (octal && !described.isEmpty && described.all Config.sfdpOctal)
    if s.ms.mode ≠ .gate ∨ 2 < bus then s
    else if bus = 2 then
      if s.priv.ready then s
      else
        let s := s.startFlash 2 (byteAt timing 0 == 2) [(0, sfdp0)]
        { s with priv := { s.priv with ready := up, density := (sfdp0.map sfdpDensity).getD 0 } }
    else if (s.bus bus).flashUp ∨ s.boot.step ≠ 8 then s
    else
      let images := [(0, sfdp0), (1, sfdp1)].filterMap fun p => p.2.map fun b => (p.1, b)
      let s := (s.startFlash bus (byteAt timing 0 == 2) [(0, sfdp0), (1, sfdp1)]).updBus bus fun x => { x with
        flashUp := up
        sfdp := images.map fun p => (p.1, fit 512 p.2)
        density := images.map fun p => (p.1, sfdpDensity p.2) }
      if ¬ up then (if (s.bus bus).verifying = 1 then s.failBus bus ST_FLASH_TIMEOUT else s)
      else if (s.bus bus).verifying = 1 ∧ ¬ bit (s.platPolicy bus) 0 then (s.passUnverified bus).platformNext
      else s

/-- A hash tile has passed its own test, so that it takes verification work (R51). -/
def State.hashReady (s : State) : Bool := (List.range 8).any fun i => KeyMap.find s.boot.units (16 + i) == some .inService

/-- Facet has read a bus's manifest, once no operation of the host runs on it (R359), and judges it (R350). -/
def execManifestCheckComplete (bus : Nat) (manifest : Option Bytes) (s : State) : Host.Outcome State Fault Refusal :=
  runOn s fun s =>
    let x := s.bus bus
    if 2 ≤ bus ∨ x.verifying = 0 ∨ ¬ bit (s.platPolicy bus) 0 ∨ ¬ x.flashUp ∨ ¬ x.ops.isEmpty ∨ ¬ x.toCheck.isEmpty ∨ ¬ s.hashReady then s
    else
      let st := s.manifestStatus bus manifest
      let s := s.updBus bus fun y => { y with manifest := manifest, manifestOk := st == ST_OK || st == ST_SVN_ROLLBACK, failing := 0, last := ST_OK }
      if st ≠ ST_OK then s.failBus bus st
      else (s.updBus bus fun y => { y with toCheck := List.range ((manifest.map regionCount).getD 0) }).nextRegion bus

/-- A digest that is read of a region of the golden manifest not yet begun takes the region out of the restoration where it matches (R355; log 145). -/
def State.compareGolden (s : State) (b region : Nat) (digest : Bytes) : State :=
  match (s.bus b).restoring, KeyMap.find s.priv.golden b with
  | some r, some g =>
    let e := regionEntry g.manifest region
    if (r.areas.drop 1).contains region ∧ (s.bus b).manifest ≠ some g.manifest
        ∧ fit 48 (digest.take (if byteAt e 9 = 1 then 32 else 48)) = slice 0x10 48 e then
      let left : Restore := { r with areas := r.areas.filter (· != region) }
      s.updBus b fun x => { x with restoring := some left }
    else s
  | _, _ => s

/-- A region's digest is complete and is compared (R350); the lane work that its sectors have not yet done is done at channel 0's pace (R162, R343). -/
def execRegionDigestComplete (bus region : Nat) (digest : Bytes) (s : State) : Host.Outcome State Fault Refusal :=
  runOn s fun s =>
    if s.ms.mode = .recover ∧ bus < 2 ∧ (s.bus bus).restoring.isSome then (if s.hashReady then s.compareGolden bus region digest else s)
    else match (s.bus bus).toCheck, (s.bus bus).manifest with
    | r :: _, some m =>
      if 2 ≤ bus ∨ r ≠ region ∨ ¬ s.hashReady then s
      else
        let s := s.zeroPace (ceilDiv (((KeyMap.find s.cipher.feeds bus).map (·.work)).getD 0) 18)
        let e := regionEntry m r
        let want := slice 0x10 48 e
        s.regionDone bus (if fit 48 (digest.take (if byteAt e 9 = 1 then 32 else 48)) = want then ST_OK else ST_DIGEST_MISMATCH)
    | _, _ => s

/-- A digest feed of channel 0 ends without a digest, with a status (R291): a bus's region fails with it; Facet's own feed keeps it. -/
def State.endFeed (s : State) (key received status : Nat) : State :=
  match KeyMap.find s.cipher.feeds key with
  | none => s
  | some x =>
    if key < 2 then s.regionDone key status
    else
      let y : Feed := { x with received := min received x.declared, status := status }
      { s with cipher := { s.cipher with feeds := KeyMap.put s.cipher.feeds key y } }

/-- No beat reaches a lane for 1 ms (R291), at the earliest 1 ms after its feed began: the lane produces no digest. On channel 0 the feed of a bus (0 or 1) fails its region with
ST_LEN_SHORT, and any other feed ends with that status; a host item of group 0x5 ends so at its release time, with the bytes
received in DETAIL. -/
def execDigestFeedSilence (c item received : Nat) (s : State) : Host.Outcome State Fault Refusal :=
  runOn s fun s =>
    if c = 0 then
      match KeyMap.find s.cipher.feeds item with
      | none => s
      | some x => (s.advance (x.lastBeat + 1000000)).endFeed item received ST_LEN_SHORT
    else
      s.updChan c fun ch => { ch with admitted := ch.admitted.map fun x =>
        if x.seq = item ∧ 0x50 ≤ dOpcode x.desc ∧ dOpcode x.desc ≤ 0x54 ∧ x.judged ∧ x.status = 0 ∧ x.result.isNone ∧ x.cls ≠ .refused then
          { x with result := some { Result.none_ ST_LEN_SHORT with detail := received }, doneAt := s.now }
        else x }

/-! ### Restoration (R356) -/

/-- The area under restoration has failed: it is tried once more; then RECOVER ends with the bus failed and G_HELD set (R356; CAUSE: log 49). -/
def State.areaFailed (s : State) (b status : Nat) (r : Restore) : State :=
  if ¬ r.failedOnce then
    let next : Restore := { r with failedOnce := true }
    (s.updBus b fun x => { x with restoring := some next }).startArea b
  else
    let s := s.updBus b fun x => { x with restoring := none, plat := 2, passed := false, last := status }
    let s := s.trigger 6 status (b + 512)
    let s := s.notify 0 0x0402 status b
    s.gateAfterFailure b

/-- An area has been written from the golden set and read back: ST_OK, or the status of its failure, which is its digest or a flash that stops
answering (R338, R356, Table 10.15); no other code is issued (R15). -/
def execRestoreAreaDone (bus status : Nat) (s : State) : Host.Outcome State Fault Refusal :=
  runOn s fun s =>
    match (s.bus bus).restoring with
    | none => s
    | some r =>
      if 2 ≤ bus ∨ s.ms.mode ≠ .recover ∨ r.areas.isEmpty ∨ ¬ [ST_OK, ST_LEN_SHORT, ST_DIGEST_MISMATCH, ST_FLASH_TIMEOUT].contains status then s
      else if status = ST_OK then
        let next : Restore := ⟨r.areas.drop 1, false⟩
        let s := s.updBus bus fun x => { x with restoring := some next }
        if ¬ next.areas.isEmpty then s.startArea bus else (s.areasDone bus).finishRestore
      else s.areaFailed bus status r

/-! ### Host operations end (R338) -/

/-- The window of the private flash and its writes (R346). -/
def State.issuePage (s : State) : State :=
  match s.priv.gathered with
  | none => s
  | some (page, bytes) =>
    let lo := ((bytes.map (·.1)).head?).getD 0
    let hi := bytes.foldl (fun acc p => max acc p.1) lo
    let data := (List.range (hi + 1 - lo)).map fun i => KeyMap.get bytes 0xFF#8 (lo + i)
    let s := ((s.emit (.flash 2 0 0x06 0 [])).emit (.flash 2 0 (if byteAt s.priv.timing 0 = 1 then 0x34 else 0x12) (256 * page + lo) data)).programFlash (256 * page + lo) data
    { s with priv := { s.priv with gathered := none, busy := true, stalled := some s.now, cache := s.priv.cache.filter fun l => l / 4 != page } }

/-- A window write stalls behind a program or an erase (R346). -/
def State.stallWrite (s : State) (off : Nat) (data : Bytes) : State :=
  { s with priv := { s.priv with
      waiting := s.priv.waiting ++ [(off, data)], waitSince := if s.priv.waitSince.isSome then s.priv.waitSince else some s.now } }

/-- One byte joins the gathered page (R346); a write to another page, or a full page, issues the program. -/
def State.gatherByte (s : State) (off : Nat) (v : Byte) : State :=
  let page := off / 256
  let s := match s.priv.gathered with
    | some (q, _) => if q ≠ page then s.issuePage else s
    | none => s
  if s.priv.stalled.isSome ∧ s.priv.gathered.isNone then s.stallWrite off [v]
  else
    let bytes := match s.priv.gathered with
      | some (_, m) => KeyMap.put m (off % 256) v
      | none => [(off % 256, v)]
    let s := { s with priv := { s.priv with gathered := some (page, bytes), gatheredAt := s.now } }
    if bytes.length = 256 then s.issuePage else s

/-- Bytes written to the private-flash window, lowest first; while a program or erase runs they wait (R346). -/
def State.windowBytesIn (s : State) (off : Nat) (data : Bytes) : State :=
  if s.priv.busy then s.stallWrite off data
  else data.zipIdx.foldl (fun s d => if s.priv.busy then s.stallWrite (off + d.2) [d.1]
    else s.gatherByte (off + d.2) d.1) s

/-- The private flash is free again: accesses that stalled go on in order. -/
def State.resumeWindow (s : State) : State :=
  let ws := s.priv.waiting
  let s := { s with priv := { s.priv with busy := false, stalled := none, waiting := [], waitSince := none, timing := s.cfg F_BUS_TIMING 2 } }
  ws.foldl (fun s w => s.windowBytesIn w.1 w.2) s

/-- A byte of the private flash as the window reads it: 0xFF beyond the density that SFDP reports (R346); what the device keeps there by the layout of R471;
a byte that the model holds nowhere, such as one of a golden region, is free (log 144). -/
def State.windowByte (s : State) (a : Nat) : Byte :=
  if s.priv.density ≤ a then 0xFF#8
  else
    let inArea (at_ size : Nat) (b : Bytes) : Option Byte := if at_ ≤ a ∧ a < at_ + size then some (b.getD (a - at_) 0xFF#8) else none
    let inEntries (at_ : Nat) (es : List Bytes) : Option Byte :=
      if at_ ≤ a ∧ a < at_ + 0x10000 then some ((es.getD ((a - at_) / 64) []).getD ((a - at_) % 64) 0xFF#8) else none
    let held := [inArea 0 0x1000 (KeyMap.get s.fw.headers [] 0), inArea 0x1000 0x1000 (KeyMap.get s.fw.headers [] 1),
      inEntries 0x40000 s.priv.block0, inEntries 0x50000 s.priv.block1]
      ++ [2, 3, 4, 5].map (fun k => inArea (imageArea k).1 (imageArea k).2 (KeyMap.get s.fw.slots [] k))
      ++ [((s.recorder.journal.filter fun x => decide (0x900000 + 128 * x.addr ≤ a ∧ a < 0x900000 + 128 * x.addr + 128)).head?).map fun x => x.bytes.getD ((a - 0x900000) % 128) 0xFF#8]
      ++ s.priv.golden.map (fun p => if p.2.intact then inArea p.2.place p.2.manifest.length p.2.manifest else none)
    ((held.filterMap id).head?).getD (Config.flashByte a)

/-- A read through the window: the bytes, and their 64-byte lines in the read cache of 64 KiB, the latest first (R346). The spec gives the cache no rule for
which line a full one drops; the model drops the one read longest ago (log 144). -/
def State.readWindow (s : State) (off n : Nat) : Bytes × State :=
  let lines := (List.range (ceilDiv (off % 64 + n) 64)).map (off / 64 + ·)
  let cache := (lines.reverse ++ s.priv.cache.filter fun l => !lines.contains l).take 1024
  ((List.range n).map fun i => s.windowByte (off + i), { s with priv := { s.priv with cache := cache } })

/-- Bytes of the golden area: to the end of flash or of 256 MiB (Table 10.11). -/
def State.goldenRoom (s : State) : Nat := min s.priv.density 0x10000000 - 0x2000000

/-- Where the golden area has `n` bytes free beside the sets that it holds: the lowest such place (R354; log 145). -/
def State.goldenPlace (s : State) (n : Nat) : Nat :=
  let sets := s.priv.golden.map fun p => (p.2.place, p.2.place + goldenSize p.2.manifest)
  ((0x2000000 :: sets.map (·.2)).filter fun a => sets.all fun q => decide (a + n ≤ q.1 ∨ q.2 ≤ a)).foldl min 0x10000000

/-- The copies of a golden capture are written and read back: the directory entry replaces the old set, where the bus still holds what passed (R354). -/
def State.endCapture (s : State) (ok : Bool) : State :=
  match s.priv.capturing with
  | none => s
  | some (b, id) =>
    let s := { s with priv := { s.priv with capturing := none } }
    match (s.bus b).gateManifest with
    | some m =>
      if ¬ ok then s.endAct 0 id ST_FLASH_TIMEOUT s.now
      else if (s.bus b).dirty ∨ ¬ (s.bus b).passed then s.endAct 0 id ST_DIGEST_MISMATCH s.now
      else
        let g : Golden := ⟨m, true, s.goldenPlace (goldenSize m)⟩
        ({ s with priv := { s.priv with golden := KeyMap.put s.priv.golden b g } }).endAct 0 id ST_OK s.now
    | none => s.endAct 0 id ST_DIGEST_MISMATCH s.now

/-- The private flash answers with WIP clear: what stalled goes on, and a golden capture is complete (R346, R354). -/
def State.privAnswers (s : State) : State :=
  let s := { s with priv := { s.priv with failing := false } }
  (if s.priv.stalled.isSome then s.resumeWindow else s).endCapture true

/-- A status poll of the flash, every 10 µs (R338): where its WIP is clear the operation ends. Bus 2 is the private flash (R346, R354). -/
def execFlashStatusPoll (bus cs sr1 sr2 : Nat) (s : State) : Host.Outcome State Fault Refusal :=
  runOn s fun s =>
    if bus = 2 then (if s.priv.ready ∧ ¬ bit sr1 0 then s.privAnswers else s)
    else match KeyMap.find (s.bus bus).ops cs with
      | none => s
      | some o =>
        if 2 ≤ bus ∨ 2 ≤ cs then s
        else
          let s := s.updShadow bus cs fun h => { h with sr1 := sr1 % 256 }
          if bit sr1 0 then s
          else
            let s := s.updShadow bus cs fun h => { h with wip := false, wel := false, sr2 := if o.cls = 9 then sr2 % 256 else h.sr2 }
            ((s.updBus bus fun x => { x with ops := KeyMap.del x.ops cs, dirty := x.dirty || x.verifying != 1 }).settleResets bus).settleTiming bus

/-- The flash of a bus stops answering the device itself: a restoration's area fails (R356), or the region under verification on that chip select
(Table 10.15, step 4). -/
def State.flashSilent (s : State) (b cs : Nat) : State :=
  match (s.bus b).restoring, (s.bus b).toCheck, (s.bus b).manifest with
  | some r, _, _ => if s.ms.mode = .recover ∧ ¬ r.areas.isEmpty then s.areaFailed b ST_FLASH_TIMEOUT r else s
  | none, r :: _, some m => if byteAt (regionEntry m r) 8 = cs then s.regionDone b ST_FLASH_TIMEOUT else s
  | _, _, _ => s

/-- An operation exceeds the flash's time: the host's (R338, Table 10.9), or the device's own, on a bus or on the private flash (R350, R352, R354, R356). -/
def execFlashOperationTimeout (bus cs : Nat) (s : State) : Host.Outcome State Fault Refusal :=
  runOn s fun s =>
    if bus = 2 then (if s.priv.ready then ({ s with priv := { s.priv with failing := true } }).endCapture false else s)
    else match KeyMap.find (s.bus bus).ops cs with
    | none => if bus < 2 then s.flashSilent bus cs else s
    | some o =>
      if 2 ≤ bus ∨ 2 ≤ cs then s
      else
        let s := s.advance o.deadline
        let s := s.updShadow bus cs fun h => { h with
          wip := false, wel := false, protect := false
          eraseErr := h.eraseErr || o.cls == 7 || o.cls == 8
          programErr := h.programErr || o.cls == 6 || o.cls == 9 }
        ((s.updBus bus fun x => { x with
          ops := KeyMap.del x.ops cs, dirty := x.dirty || x.verifying != 1, timeouts := x.timeouts + 1, last := ST_FLASH_TIMEOUT }).settleResets bus).settleTiming bus

/-! ### The private flash port (R346, R347) -/

/-- Masters that reach the private-flash window and registers. -/
def reachesPriv (m : Master) : Bool := m == .apex || m == .facet

/-- Some protected range holds a 4 KiB block. -/
def State.protects (s : State) (block : Nat) : Bool := s.priv.wp.any fun p => p.2.2.2 && decide (p.2.1 ≤ block ∧ block ≤ p.2.2.1)

/-- A write to the private-flash window (R346, R347): beyond the density, or by Facet into a protected range, it fails with a bus error. -/
def execPfWindowWrite (who : Master) (addr : Nat) (data : Bytes) (s : State) : Host.Outcome State Fault Refusal :=
  runOn s fun s =>
    let off := addr - 0x40000000
    let last := off + data.length - 1
    if ¬ reachesPriv who ∨ addr < 0x40000000 ∨ 0x10000000 ≤ last ∨ data.isEmpty then s
    else if s.priv.density ≤ last then s.emit .busError
    else if who = .facet ∧ (s.protects (off / 4096) ∨ s.protects (last / 4096)) then
      { s with priv := { s.priv with wpFault := true } }.emit .busError
    else s.windowBytesIn off data

/-- 1 µs passes without a window write: the gathered page is programmed (R346). -/
def execPfGatherTimeout (s : State) : Host.Outcome State Fault Refusal :=
  runOn s fun s =>
    if s.priv.gathered.isSome ∧ ¬ s.priv.busy then (s.advance (s.priv.gatheredAt + 1000)).issuePage else s

/-- A window access has stalled for more than 10 ms: a bus error, TIMEOUT, and the bytes not yet issued are dropped (R346). -/
def execPfStallTimeout (s : State) : Host.Outcome State Fault Refusal :=
  runOn s fun s =>
    match s.priv.waitSince with
    | some t =>
      let s := s.advance (t + 10000000)
      { s with priv := { s.priv with timeout := true, gathered := none, waiting := [], waitSince := none } }.emit .busError
    | none => s

/-- PF_ERASE.GO: the erase, of the journal's slots among others, of the block at PF_ERASE.ADDR, its low bits by SIZE not counted; ignored while BUSY (R347). -/
def State.eraseGo (s : State) (who : Master) : State :=
  let unit := if s.priv.eraseSize = 0 then 4096 else if s.priv.eraseSize = 1 then 32768 else 65536
  let base := s.priv.eraseAddr / unit * unit
  if ¬ reachesPriv who ∨ s.priv.busy ∨ 3 ≤ s.priv.eraseSize then s
  else if who = .facet ∧ (List.range (unit / 4096)).any fun i => s.protects (base / 4096 + i) then
    { s with priv := { s.priv with wpFault := true } }.emit .busError
  else
    let op := if s.priv.eraseSize = 0 then 0x21 else if s.priv.eraseSize = 1 then 0x5C else 0xDC
    let s := ((s.emit (.flash 2 0 0x06 0 [])).emit (.flash 2 0 op base [])).eraseFlashRange base unit
    { s with priv := { s.priv with busy := true, cache := s.priv.cache.filter fun l => !decide (base ≤ 64 * l ∧ 64 * l < base + unit) } }

/-- PF_ERASE.GO is written. -/
def execPfEraseGo (who : Master) (s : State) : Host.Outcome State Fault Refusal := runOn s fun s => s.eraseGo who

/-! ### Scrap (R469, R483) -/

/-- Every byte of the private flash is erased (step 2 of R469): store, records, golden sets, images, journal, certificates, sealed copies. -/
def State.eraseFlash (s : State) : State :=
  let r := s.recorder
  { s with
    orfer := { s.orfer with cfg := [], realms := KeyMap.mapVals s.orfer.realms fun _ r => { r with roster := [] } }
    keys := { s.keys with record := [] }
    priv := { s.priv with golden := [], svn := [], recordSeq := 0, recordBlock := 0, block0 := [], block1 := [], cache := [], gathered := none }
    ident := { s.ident with certs := [], domain := none, domainSeal := [], sealFailed := false }
    pair := { s.pair with linkCopy := none, linkSeal := [], mseq := 0, alone := 0 }
    fw := { s.fw with slots := [], headers := [] }
    recorder := { r with
      journal := [], circPos := (0, 0), keptPos := 0, checkpointPos := 0, sectorSeq := 0, sealed := 0, chain := zeros 32, carried := 0 } }

/-- Steps 3 and 4 of a scrap: END_OF_LIFE and the overwritten regions are programmed; step 5 follows the last word (R469). -/
def State.scrapOtp (s : State) (act : Option (Nat × Nat)) : State :=
  let words := 3 :: scrapWords
  s.programAll (words.zipIdx.map fun w => ⟨w.1, 0xFFFFFFFF, 0, act, if w.2 + 1 = words.length then .scrapped else .nothing⟩)

/-- Steps 1 and 2 of a scrap: the zeroise line, then the erase of every byte of the private flash. One whose port is not up times out, and the scrap goes on
(R469, R483). -/
def State.startScrap (s : State) (act : Option (Nat × Nat)) : State :=
  let s := s.zeroiseLine
  if s.boot.apex && !s.priv.ready then ({ s with priv := { s.priv with eraseStatus := ST_FLASH_TIMEOUT } }).scrapOtp act
  else
    let s := (s.emit (.flash 2 0 0x06 0 [])).emit (.flash 2 0 0xC7 0 [])
    { s with priv := { s.priv with busy := true, stalled := none, chipErase := some ⟨act, true⟩ } }

/-- The chip erase of a scrap ends, or has taken its 600 s: then the flash is left as it is (R338, R469, R483). -/
def State.endChipErase (s : State) (e : ChipErase) (pass : Bool) : State :=
  let s := if pass then s.eraseFlash else s
  let s := ({ s with priv := { s.priv with
    chipErase := none, eraseStatus := if pass then ST_OK else ST_FLASH_TIMEOUT, timeout := s.priv.timeout || !pass } }).resumeWindow
  if e.goes then s.scrapOtp e.act else s

/-- A private-flash erase ends, or has taken its time: 4 s, or that of a scrap's chip erase (R347, R469). -/
def execPfEraseDone (pass : Bool) (s : State) : Host.Outcome State Fault Refusal :=
  runOn s fun s =>
    match s.priv.chipErase with
    | some e => s.endChipErase e pass
    | none =>
    if s.priv.busy ∧ s.priv.stalled.isNone then
      ({ s with priv := { s.priv with timeout := s.priv.timeout || !pass } }).resumeWindow
    else s

/-- PF_LOCK.LOCK is set: by APEX only; another master's write is ignored and sets WP_FAULT (R347). -/
def State.lockPriv (s : State) (who : Master) : State :=
  if who = .apex then { s with priv := { s.priv with lock := true } }
  else { s with priv := { s.priv with wpFault := true } }

/-- PF_LOCK is written with 1. -/
def execPfLockWrite (who : Master) (s : State) : Host.Outcome State Fault Refusal := runOn s fun s => s.lockPriv who

/-! ### Orfer group 0x04 (Table 10.18) -/

/-- One bus of PLAT_STATUS (Table 10.18, R556). -/
def State.platStatus (s : State) (b : Nat) : Bytes :=
  let x := s.bus b
  u8 x.plat ++ u8 (flag x.opened) ++ u8 (flag x.dirty) ++ u32 ((x.manifest.map manifestSvn).getD 0)
    ++ fit 8 ((x.manifest.map (slice 0x18 8)).getD []) ++ u32 (KeyMap.get s.priv.svn 0 b)
    ++ u32 (((KeyMap.find s.priv.golden b).map fun g => manifestSvn g.manifest).getD 0)
    ++ u32 x.failing ++ u16 x.last ++ u32 x.recovers

/-- PLAT_STATUS. -/
def execPlatStatus (p : Port) (s : State) : Host.Outcome State Fault Refusal :=
  runOn s fun s => serve s p 0x0401 fun s q => noPayload s q fun s => s.answer q ST_OK (s.platStatus 0 ++ s.platStatus 1)

/-- A request whose payload is one byte that passes a test; the test's failure is ST_BAD_VALUE. -/
def onePayload (s : State) (q : Request) (ok : Nat → Bool) (f : Nat → State) : State :=
  if q.payload.length ≠ 1 then s.answer q ST_BAD_LENGTH []
  else if ok (byteAt q.payload 0) then f (byteAt q.payload 0)
  else s.answer q ST_BAD_VALUE []

/-- A bus mask. -/
def maskOk (v : Nat) : Bool := decide (1 ≤ v ∧ v ≤ 3)

/-- PLAT_VERIFY starts on one bus; a bus that is not verified ends at once (R328, R357). -/
def State.verifyNow (s : State) (b : Nat) : State :=
  if (s.bus b).verifying ≠ 0 then s
  else
    let s := s.updBus b fun x => { x with verifying := 2, plat := 0, manifestOk := false, toCheck := [], failing := 0, last := ST_OK }
    if ¬ bit (s.platPolicy b) 0 then s.endVerify b
    else
      let s := s.updBus b fun x => { x with dirty := false }
      if (s.bus b).flashUp then s else s.failBus b ST_FLASH_TIMEOUT

/-- PLAT_VERIFY (R357). -/
def execPlatVerify (p : Port) (s : State) : Host.Outcome State Fault Refusal :=
  runOn s fun s => serve s p 0x0402 fun s q => onePayload s q maskOk fun m =>
    [0, 1].foldl (fun s b => if bit m b then s.verifyNow b else s) (s.answer q ST_OK [])

/-- PLAT_RESET (R49). -/
def execPlatReset (p : Port) (s : State) : Host.Outcome State Fault Refusal :=
  runOn s fun s => serve s p 0x0403 fun s q => noPayload s q fun s => (s.answer q ST_OK []).platformReset

/-- What refuses a PLAT_RECOVER of a set of buses: a named bus without a golden set that it may be restored from (R355, R356). -/
def State.recoverCheck (s : State) (m : Nat) : Nat :=
  if [0, 1].all fun b => !bit m b || s.mayRecover b then ST_OK else ST_NO_GOLDEN

/-- PLAT_RECOVER (R357). -/
def execPlatRecover (p : Port) (s : State) : Host.Outcome State Fault Refusal :=
  runOn s fun s => serve s p 0x0404 fun s q => onePayload s q maskOk fun m =>
    if s.recoverCheck m ≠ ST_OK then s.answer q (s.recoverCheck m) [] else s.requestDevice q 0x0B

/-- PLAT_RELEASE_RETRY: only while R59 holds the release sequence (R358). -/
def execPlatReleaseRetry (p : Port) (s : State) : Host.Outcome State Fault Refusal :=
  runOn s fun s => serve s p 0x0405 fun s q => noPayload s q fun s =>
    if s.rel.phase = .held ∧ 3 ≤ s.rel.attempts then
      let s := s.answer q ST_OK []
      ({ s with rel := { s.rel with attempts := 0 } }).startRelease
    else s.answer q ST_MODE []

/-- What refuses a PLAT_GOLDEN_CAPTURE (R354; the status of an unfit bus: log 48). -/
def State.captureCheck (s : State) (b : Nat) : Nat :=
  match (s.bus b).gateManifest with
  | none => ST_BAD_VALUE
  | some m =>
    if (s.bus b).dirty ∨ ¬ (s.bus b).passed then ST_BAD_VALUE
    else if manifestSvn m < KeyMap.get s.priv.svn 0 b then ST_SVN_ROLLBACK
    else if 0x2000000 + s.goldenRoom < s.goldenPlace (goldenSize m) + goldenSize m then ST_BAD_LENGTH
    else if s.priv.capturing.isSome then ST_ADMIN_BUSY
    else ST_OK

/-- PLAT_GOLDEN_CAPTURE begins to copy, and its act ends when the copies have been read back (R354). -/
def State.capture (s : State) (id b : Nat) : Option Nat × State :=
  if s.captureCheck b ≠ ST_OK then (some (s.captureCheck b), s)
  else if ¬ s.privWrites ∨ ¬ (s.bus b).flashUp then (some ST_FLASH_TIMEOUT, s)
  else (none, { s with priv := { s.priv with capturing := some (b, id) } })

/-- PLAT_GOLDEN_CAPTURE (R354). -/
def execPlatGoldenCapture (p : Port) (s : State) : Host.Outcome State Fault Refusal :=
  runOn s fun s => serve s p 0x0406 fun s q => onePayload s q (fun b => decide (b < 2)) fun _ => s.requestDevice q 0x0B

/-- PLAT_SVN_ADVANCE's value lies above the record and at most at the SVN that passed in this GATE (Table 10.18). -/
def State.svnOk (s : State) (b v : Nat) : Bool :=
  decide (KeyMap.get s.priv.svn 0 b < v) && ((s.bus b).gateManifest.map fun m => decide (v ≤ manifestSvn m)).getD false

/-- PLAT_SVN_ADVANCE (R351). -/
def execPlatSvnAdvance (p : Port) (s : State) : Host.Outcome State Fault Refusal :=
  runOn s fun s => serve s p 0x0407 fun s q =>
    if q.payload.length ≠ 5 then s.answer q ST_BAD_LENGTH []
    else if 2 ≤ byteAt q.payload 0 ∨ ¬ s.svnOk (byteAt q.payload 0) (field q.payload 1 4) then s.answer q ST_BAD_VALUE []
    else s.requestDevice q 0x0B

/-- PLAT_SVN_ADVANCE takes effect (R352). -/
def State.advanceSvn (s : State) (p : Bytes) : Nat × State :=
  if s.svnOk (byteAt p 0) (field p 1 4) then (if s.privWrites then ST_OK else ST_FLASH_TIMEOUT, s.raiseSvn (byteAt p 0) (field p 1 4)) else (ST_BAD_VALUE, s)

/-- One denied frame (Table 10.18). -/
def Denial.bytes (d : Denial) : Bytes := u8 d.opcode ++ u8 d.cs ++ u8 d.modeSet ++ u8 0 ++ u32 d.addr ++ u64 d.time

/-- PLAT_DENIALS: the frames kept, oldest first (log 50). -/
def execPlatDenials (p : Port) (s : State) : Host.Outcome State Fault Refusal :=
  runOn s fun s => serve s p 0x0408 fun s q => onePayload s q (fun b => decide (b < 2)) fun b =>
    let x := s.bus b
    s.answer q ST_OK (u32 x.denied ++ u32 x.malformed ++ u32 x.timeouts ++ x.denials.reverse.flatMap Denial.bytes)

/-- PLAT_MANIFEST_READ: the manifest that passed in this GATE, or the golden one (Table 10.18; where there is none: log 48). -/
def execPlatManifestRead (p : Port) (s : State) : Host.Outcome State Fault Refusal :=
  runOn s fun s => serve s p 0x0409 fun s q =>
    let b := byteAt q.payload 0
    let src := byteAt q.payload 1
    if q.payload.length ≠ 2 then s.answer q ST_BAD_LENGTH []
    else if 2 ≤ b ∨ 2 ≤ src then s.answer q ST_BAD_VALUE []
    else if src = 0 then match (s.bus b).gateManifest with
      | some m => s.answer q ST_OK m
      | none => s.answer q ST_BAD_VALUE []
    else match KeyMap.find s.priv.golden b with
      | some g =>
        let r := s.readWindow g.place g.manifest.length
        r.2.answer q ST_OK r.1
      | none => s.answer q ST_NO_GOLDEN []

end Sys2Proof.Machine
end

