-- ==== Sys2Proof/Machine/Payment.lean ====
section
/-!
DEFINITION. Payment primitives of 07_payment_primitives.md: PIN blocks, PIN translation and verification, MACs, card cryptograms,
card verification values and DUKPT data, as the stage 3 execution of one item (R231).
-/

namespace Sys2Proof.Machine

/-! ### PAN and BCD fields (R227) -/

/-- The first `n` nibbles are digits and every other nibble of the field is 0xF (R227). -/
def bcdOk (n : Nat) (f : Bytes) : Bool :=
  ((nibbles f).take n).all (· ≤ 9) && ((nibbles f).drop n).all (· == 0xF) && decide (n ≤ 2 * f.length)

/-- The digits of a BCD field. -/
def digits (n : Nat) (f : Bytes) : List Nat := (nibbles f).take n

/-- The `k` rightmost PAN digits before the check digit. -/
def panTail (k : Nat) (pan : List Nat) : List Nat :=
  let body := pan.dropLast
  body.drop (body.length - k)

/-- The two-pass digit rule of R240: nibbles 0 to 9 in order, then nibbles 0xA to 0xF less 10. -/
def scanDigits (n : Nat) (ns : List Nat) : List Nat :=
  (ns.filter (· ≤ 9) ++ (ns.filter (9 < ·)).map (· - 10)).take n

/-! ### PIN blocks (R232 to R236) -/

/-- The PIN block formats of Table 7.7. -/
def pinFormatKnown (f : Nat) : Bool := f == 0 || f == 1 || f == 3 || f == 4

/-- A format that uses a PAN (Table 7.7). -/
def formatUsesPan (f : Nat) : Bool := f == 0 || f == 3 || f == 4

/-- The permitted translations of Table 7.8. -/
def translationOk (i o : Nat) : Bool :=
  pinFormatKnown i && pinFormatKnown o && (o != 1 || i == 1)

/-- The bit of PIN_FORMATS that permits a format (Table 6.11). -/
def formatBit (f : Nat) : Nat := if f = 0 then 0 else if f = 1 then 1 else if f = 3 then 2 else 3

/-- The 8-byte PAN field of formats 0 and 3; a PAN of 12 digits has 11 before its check digit, and they stand right-justified (log 137). -/
def panField8 (pan : List Nat) : Bytes := packNibbles (List.replicate (16 - (panTail 12 pan).length) 0 ++ panTail 12 pan)

/-- The 16-byte PAN field of format 4. -/
def panField16 (pan : List Nat) : Bytes :=
  packNibbles ((pan.length - 12) :: pan ++ List.replicate (31 - pan.length) 0)

/-- The PIN of a clear 16-nibble PIN field, where its control, length, digits and fill pass (R233). -/
def pinOf (fmt : Nat) (ns : List Nat) : Option (List Nat) :=
  let len := ns.getD 1 0
  let pin := (ns.drop 2).take len
  let fill := (ns.drop 2).drop len
  let fillOk := if fmt = 0 then fill.all (· == 0xF)
    else if fmt = 3 then fill.all (0xA ≤ ·)
    else if fmt = 4 then fill.all (· == 0xA)
    else true
  if ns.getD 0 0 = fmt ∧ 4 ≤ len ∧ len ≤ 12 ∧ pin.all (· ≤ 9) = true ∧ fillOk = true then some pin else none

/-- Deciphers an inbound PIN block under a key and checks it (R233, R238). -/
def pinDecipher (fmt : Nat) (k : Bytes) (pan : List Nat) (block : Bytes) : Option (List Nat) :=
  if fmt = 4 then
    let v := xorBytes (aesD k (slice 0 16 block)) (panField16 pan)
    pinOf 4 ((nibbles (aesD k v)).take 16)
  else
    let c := tdesD k (slice 0 8 block)
    pinOf fmt (nibbles (if fmt = 1 then c else xorBytes c (panField8 pan)))

/-- The fill nibbles of a built block: 0xF for format 0, random for formats 1 and 3, 0xA for format 4 (Table 7.7, R234). -/
def pinFill (fmt n : Nat) (rnd : Bytes) : List Nat :=
  (List.range n).map fun i =>
    if fmt = 0 then 0xF
    else if fmt = 1 then byteAt rnd i % 16
    else if fmt = 3 then 0xA + byteAt rnd i % 6
    else 0xA

/-- Builds and enciphers an outbound PIN block (R234, R238). -/
def pinEncipher (fmt : Nat) (k : Bytes) (pan : List Nat) (pin : List Nat) (rnd : Bytes) : Bytes :=
  let f := packNibbles (fmt :: pin.length :: pin ++ pinFill fmt (14 - pin.length) rnd)
  if fmt = 4 then aesE k (xorBytes (aesE k (f ++ slice 14 8 rnd)) (panField16 pan))
  else tdesE k (if fmt = 1 then f else xorBytes f (panField8 pan))

/-! ### DUKPT (R242 to R246) -/

/-- The KSN's counter: 32 bits for AES, the rightmost 21 of the first 10 bytes for TDES (Table 7.11). -/
def dukptCounter (aes : Bool) (ksn : Bytes) : Nat :=
  if aes then beNat (slice 8 4 ksn) else beNat (slice 0 10 ksn) % 2 ^ 21

/-- The counter holds no more one bits than its variant allows (R246, Table 7.11). -/
def dukptBitsOk (aes : Bool) (ksn : Bytes) : Bool :=
  if aes then decide (oneBits 32 (dukptCounter true ksn) ≤ 16) else decide (oneBits 21 (dukptCounter false ksn) ≤ 10)

/-- The value checks of a KSN against a BDK (R228, R246). -/
def ksnOk (aes : Bool) (bdk : KeyView) (ksn : Bytes) : Bool :=
  let sup := bdk.supplement
  let idLen := byteAt sup 1
  decide (dukptCounter aes ksn ≠ 0) && (aes || allZero (slice 10 2 ksn))
    && (slice 0 idLen ksn == slice 4 idLen sup)

/-- The BDK agrees with the opcode's variant (R242). -/
def bdkOk (aes : Bool) (bdk : KeyView) : Bool :=
  byteAt bdk.supplement 0 == (if aes then 1 else 2) && (if aes then bdk.isAes else bdk.alg == 0x11)

/-- Length of an AES DUKPT working-key type (Table 7.12); 0 for other values. -/
def keyTypeBytes (t : Nat) : Nat :=
  if t = 1 then 16 else if t = 2 then 24 else if t = 3 then 16 else if t = 4 then 24 else if t = 5 then 32 else 0

/-- A working-key type no longer than the BDK (R243). -/
def keyTypeFits (t : Nat) (bdk : KeyView) : Bool := decide (keyTypeBytes t ≤ keyBytes bdk.alg)

/-- A working key under a BDK: AES by key type and usage, TDES by variant (R244). -/
def workingKey (aes : Bool) (bdk : KeyView) (ksn : Bytes) (t use : Nat) : Bytes :=
  if aes then fit (keyTypeBytes t) (Config.dukptAes bdk.key (slice 0 12 ksn) t use)
  else fit 16 (Config.dukptTdes bdk.key (slice 0 10 ksn) use)

/-! ### PIN opcodes (R237 to R240) -/

/-- The inbound PIN key of a group 0x1 item: KEY1, or its DUKPT PIN working key (R238). -/
def inboundPinKey (x : ExecIn) : Bytes :=
  let op := dOpcode x.desc
  let p := x.params
  if opDukpt op then workingKey (opAesDukpt op) (x.key 0) (slice 0x14 12 p) (byteAt p 3) 1 else (x.key 0).key

/-- Whether the inbound key's algorithm is AES: KEY1's, or the working-key type's (R236). -/
def inboundIsAes (x : ExecIn) : Bool :=
  let op := dOpcode x.desc
  if opAesDukpt op then decide (3 ≤ byteAt x.params 3) else if opTdesDukpt op then false else (x.key 0).isAes

/-- The digits of the item's PAN field. -/
def pinPan (x : ExecIn) : List Nat := digits (byteAt x.params 2) (slice 4 10 x.params)

/-- The value checks of group 0x1 that do not depend on the operation (R227, R235, R237, R240, R246). -/
def pinValues (x : ExecIn) (needPan : Bool) : Bool :=
  let op := dOpcode x.desc
  let p := x.params
  let n := byteAt p 2
  pinFormatKnown (byteAt p 0)
    && (if needPan then decide (12 ≤ n ∧ n ≤ 19) else n == 0)
    && bcdOk n (slice 4 10 p)
    && (byteAt p 0 == 4 || allZero (slice 0x28 8 p))
    && (!opAesDukpt op || keyTypeBytes (byteAt p 3) != 0)
    && (!opDukpt op || ksnOk (opAesDukpt op) (x.key 0) (slice 0x14 12 p))

/-- Checks 1 to 4 of Table 7.6 for group 0x1, with the operation's own value check. -/
def pinChecks (x : ExecIn) (needPan own : Bool) (outFmt : Option Nat) : List (Bool × Nat) :=
  let op := dOpcode x.desc
  let p := x.params
  let inFmt := byteAt p 0
  let aes := opAesDukpt op
  [ (pinValues x needPan && own, ST_BAD_VALUE),
    (!opDukpt op || (bdkOk aes (x.key 0) && (!aes || keyTypeFits (byteAt p 3) (x.key 0))), ST_KEY_TYPE),
    (inboundIsAes x == (inFmt == 4), ST_KEY_TYPE),
    (match outFmt with | some f => (x.key 1).isAes == (f == 4) | none => true, ST_KEY_TYPE),
    (bit (x.key 0).pinFormats (formatBit inFmt), ST_KEY_ATTR),
    (match outFmt with | some f => bit (x.key 1).pinFormats (formatBit f) | none => true, ST_KEY_ATTR),
    (!opDukpt op || dukptBitsOk aes (slice 0x14 12 p), ST_DUKPT_EXHAUSTED) ]

/-- PIN_TRANSLATE and its DUKPT forms (R235, R238). -/
def runTranslate (x : ExecIn) : ExecOut :=
  let p := x.params
  let i := byteAt p 0
  let o := byteAt p 1
  checked x (pinChecks x (formatUsesPan i || formatUsesPan o) (translationOk i o) (some o)) fun _ =>
    match pinDecipher i (inboundPinKey x) (pinPan x) (slice 0x20 16 p) with
    | none => .fail ST_PIN_BLOCK
    | some pin => { ExecOut.ok (pinEncipher o (x.key 1).key (pinPan x) pin (randomBytes x.rng 22)) with drawn := 22 }

/-- The IBM 3624 comparison of R239. -/
def matches3624 (x : ExecIn) (pin : List Nat) : Bool :=
  let p := x.params
  let n := byteAt p 1
  let nat_ := ((nibbles (tdesE (x.key 1).key (slice 0x30 8 p))).map fun v => byteAt x.dectab v).take n
  let sum := List.zipWith (fun a b => (a + b) % 10) nat_ (digits n (slice 0x0E 6 p))
  decide (n ≤ pin.length) && (pin.take n == sum)

/-- IBM 3624 verification (R239). -/
def runVerify3624 (x : ExecIn) : ExecOut :=
  let p := x.params
  let n := byteAt p 1
  checked x (pinChecks x true (decide (4 ≤ n ∧ n ≤ 12) && bcdOk n (slice 0x0E 6 p)) none) fun _ =>
    match pinDecipher (byteAt p 0) (inboundPinKey x) (pinPan x) (slice 0x20 16 p) with
    | none => .fail ST_PIN_BLOCK
    | some pin => if matches3624 x pin then .ok [] else .fail ST_PIN_MISMATCH

/-- The PVV that R240 computes for a PIN. -/
def pvvOf (x : ExecIn) (pin : List Nat) : List Nat :=
  let tsp := panTail 11 (pinPan x) ++ [byteAt x.params 1] ++ pin.take 4
  scanDigits 4 (nibbles (tdesE (x.key 1).key (packNibbles tsp)))

/-- PVV verification (R240). -/
def runVerifyPvv (x : ExecIn) : ExecOut :=
  let p := x.params
  checked x (pinChecks x true (decide (byteAt p 1 ≤ 9) && (nibbles (slice 0x30 2 p)).all (· ≤ 9)
      && allZero (slice 0x32 6 p)) none) fun _ =>
    match pinDecipher (byteAt p 0) (inboundPinKey x) (pinPan x) (slice 0x20 16 p) with
    | none => .fail ST_PIN_BLOCK
    | some pin => if pvvOf x pin == nibbles (slice 0x30 2 p) then .ok [] else .fail ST_PIN_MISMATCH

/-! ### MAC opcodes (R250 to R252) -/

/-- The MAC of an item's input: by opcode (Table 7.14). -/
def macOf (x : ExecIn) (m : Bytes) : Bytes :=
  let op := dOpcode x.desc
  let p := x.params
  let dir := byteAt p 2
  let k := if opDukpt op then
      workingKey (opAesDukpt op) (x.key 0) (slice 4 12 p) (byteAt p 3) (if dir = 1 then 2 else 3)
    else (x.key 0).key
  if op = 0x20 ∨ op = 0x21 then macAlg1 k (byteAt p 1) m
  else if op = 0x24 ∨ op = 0x25 ∨ op = 0x28 ∨ op = 0x29 then cmac k m
  else macAlg3 k (byteAt p 1) m

/-- The opcode is an AES-CMAC one. -/
def macIsAes (op : Nat) : Bool := op == 0x24 || op == 0x25 || op == 0x28 || op == 0x29

/-- Checks 1 to 4 of Table 7.6 for the MAC opcodes (R251). -/
def macChecks (x : ExecIn) : List (Bool × Nat) :=
  let op := dOpcode x.desc
  let p := x.params
  let n := byteAt p 0
  let aes := macIsAes op
  [ (decide (4 ≤ n ∧ n ≤ (if aes then 16 else 8))
      && (if aes then byteAt p 1 == 0 else byteAt p 1 == 1 || byteAt p 1 == 2)
      && (!opDukpt op || ((byteAt p 2 == 1 || byteAt p 2 == 2) && ksnOk aes (x.key 0) (slice 4 12 p)))
      && (!opAesDukpt op || keyTypeBytes (byteAt p 3) != 0)
      && (op % 2 == 0 || allZero (slice (0x10 + n) (16 - n) p)), ST_BAD_VALUE),
    (!opDukpt op || (bdkOk aes (x.key 0)
      && (!aes || (decide (3 ≤ byteAt p 3) && keyTypeFits (byteAt p 3) (x.key 0)))), ST_KEY_TYPE),
    (!opDukpt op || dukptBitsOk aes (slice 4 12 p), ST_DUKPT_EXHAUSTED) ]

/-- MAC generation: the leftmost MAC_LEN bytes (R250). -/
def runMacGenerate (x : ExecIn) : ExecOut :=
  checked x (macChecks x) fun m => .ok ((macOf x m).take (byteAt x.params 0))

/-- MAC verification (R252). -/
def runMacVerify (x : ExecIn) : ExecOut :=
  let n := byteAt x.params 0
  checked x (macChecks x) fun m =>
    if (macOf x m).take n == slice 0x10 n x.params then .ok [] else .fail ST_MAC_FAIL

/-! ### Card cryptograms (R253 to R258) -/

/-- Y of EMV option A: the rightmost 16 digits of PAN ∥ PSN, left-padded with 0 (R254). -/
def emvY (pan : List Nat) (psn : Nat) : Bytes :=
  let ds := pan ++ [psn / 16, psn % 16]
  let tail := ds.drop (ds.length - 16)
  packNibbles (List.replicate (16 - tail.length) 0 ++ tail)

/-- The complement of a byte string. -/
def complement (b : Bytes) : Bytes := b.map (~~~ ·)

/-- A card's master key by option A (R254). -/
def cardKey (issuer : KeyView) (pan : List Nat) (psn : Nat) : Bytes :=
  let y := emvY pan psn
  if issuer.isAes then fit (keyBytes issuer.alg) (Config.emvAesCardKey issuer.key y)
  else tdesE issuer.key y ++ tdesE issuer.key (complement y)

/-- The session key (R255): EMV common session key derivation over ATC. -/
def cardSession (aes : Bool) (mk atc : Bytes) (skd : Nat) : Bytes :=
  if skd = 0 then mk
  else if aes then fit mk.length (Config.emvAesSession mk atc)
  else tdesE mk (atc ++ [0xF0#8] ++ zeros 5) ++ tdesE mk (atc ++ [0x0F#8] ++ zeros 5)

/-- The cryptogram of R256, 8 bytes. -/
def cardMac (aes : Bool) (k m : Bytes) : Bytes := if aes then (cmac k m).take 8 else macAlg3 k 2 m

/-- Value and key checks of 0x2A and 0x2B (Table 7.15). -/
def cardChecks (x : ExecIn) : List (Bool × Nat) :=
  let p := x.params
  let n := byteAt p 3
  let arpc := if dOpcode x.desc = 0x2A then byteAt p 2 else 0
  let src := byteAt p 0
  [ ((src == 1 || src == 2) && decide (byteAt p 1 ≤ 1) && decide (arpc ≤ 2)
      && (if src = 1 then decide (12 ≤ n ∧ n ≤ 16) else n == 0)
      && bcdOk n (slice 4 10 p) && (nibbles (slice 0x0E 1 p)).all (· ≤ 9)
      && decide (byteAt p 0xF ≤ (if arpc = 2 then 8 else 0))
      && (arpc == 1 || allZero (slice 0x12 2 p))
      && (arpc == 2 || (allZero (slice 0x14 4 p) && allZero (slice 0x20 8 p)))
      && allZero (slice (0x20 + byteAt p 0xF) (8 - byteAt p 0xF) p), ST_BAD_VALUE) ]

/-- The session key of a cryptogram item. -/
def cardSessionKey (x : ExecIn) : Bytes :=
  let p := x.params
  let k := x.key 0
  let mk := if byteAt p 0 = 1 then cardKey k (digits (byteAt p 3) (slice 4 10 p)) (byteAt p 0xE) else k.key
  cardSession k.isAes mk (slice 0x10 2 p) (byteAt p 1)

/-- The ARPC of R257: none, method 1, method 2. Method 1 under AES has no stated result: a free value (log 3). -/
def arpcOf (x : ExecIn) : Bytes :=
  let p := x.params
  let sk := cardSessionKey x
  let aes := (x.key 0).isAes
  if byteAt p 2 = 1 then
    (if aes then fit 8 x.free else tdesE sk (xorBytes (slice 0x18 8 p) (slice 0x12 2 p ++ zeros 6)))
  else if byteAt p 2 = 2 then
    (cardMac aes sk (slice 0x18 8 p ++ slice 0x14 4 p ++ slice 0x20 (byteAt p 0xF) p)).take 4
  else []

/-- ARQC_VERIFY (R256, R257). -/
def runArqcVerify (x : ExecIn) : ExecOut :=
  checked x (cardChecks x) fun m =>
    if cardMac (x.key 0).isAes (cardSessionKey x) m == slice 0x18 8 x.params then .ok (arpcOf x)
    else .fail ST_CRYPTOGRAM_FAIL

/-- ARQC_GENERATE (R256). -/
def runArqcGenerate (x : ExecIn) : ExecOut :=
  checked x (cardChecks x) fun m => .ok (cardMac (x.key 0).isAes (cardSessionKey x) m)

/-! ### Card verification values (R259, R260) -/

/-- Value checks of 0x2C and 0x2D (R259). -/
def cvvChecks (x : ExecIn) : List (Bool × Nat) :=
  let p := x.params
  let n := byteAt p 0
  let m := byteAt p 1
  [ (decide (12 ≤ n ∧ n ≤ 19) && decide (3 ≤ m ∧ m ≤ 5) && bcdOk 4 (slice 2 2 p) && bcdOk n (slice 4 10 p)
      && bcdOk 3 (slice 0xE 2 p) && (dOpcode x.desc == 0x2C || bcdOk m (slice 0x10 3 p)), ST_BAD_VALUE) ]

/-- The card verification digits (R260). -/
def cvvOf (x : ExecIn) : List Nat :=
  let p := x.params
  let ds := digits (byteAt p 0) (slice 4 10 p) ++ digits 4 (slice 2 2 p) ++ digits 3 (slice 0xE 2 p)
  let b := fit 16 (packNibbles (ds ++ [0]))
  let k := (x.key 0).key
  let c2 := tdesE k (xorBytes (desE (slice 0 8 k) (slice 0 8 b)) (slice 8 8 b))
  scanDigits (byteAt p 1) (nibbles c2)

/-- CVV_GENERATE (R260). -/
def runCvvGenerate (x : ExecIn) : ExecOut :=
  checked x (cvvChecks x) fun _ => .ok (packNibbles (cvvOf x ++ [0xF]))

/-- CVV_VERIFY (R260). -/
def runCvvVerify (x : ExecIn) : ExecOut :=
  checked x (cvvChecks x) fun _ =>
    if cvvOf x == digits (byteAt x.params 1) (slice 0x10 3 x.params) then .ok [] else .fail ST_CVV_FAIL

/-! ### DUKPT data (R249) -/

/-- DUKPT_DATA_TDES and DUKPT_DATA_AES (R249). -/
def runDukptData (x : ExecIn) : ExecOut :=
  let op := dOpcode x.desc
  let aes := op == 0x33
  let p := x.params
  let dir := byteAt p 0
  let t := byteAt p 1
  let k := workingKey aes (x.key 0) (slice 4 12 p) t (if dir = 1 then (if aes then 5 else 4) else (if aes then 4 else 5))
  checked x
    [ ((dir == 1 || dir == 2) && ksnOk aes (x.key 0) (slice 4 12 p) && (!aes || keyTypeBytes t != 0)
        && (aes || allZero (slice 0x18 8 p)), ST_BAD_VALUE),
      (bdkOk aes (x.key 0) && (!aes || (decide (3 ≤ t) && keyTypeFits t (x.key 0))), ST_KEY_TYPE),
      (dukptBitsOk aes (slice 4 12 p), ST_DUKPT_EXHAUSTED) ]
    fun m =>
      if aes then
        .ok (if dir = 1 then cbcDec 16 (aesD k) (slice 0x10 16 p) m else cbcEnc 16 (aesE k) (slice 0x10 16 p) m)
      else
        .ok (if dir = 1 then cbcDec 8 (tdesD k) (slice 0x10 8 p) m else cbcEnc 8 (tdesE k) (slice 0x10 8 p) m)

end Sys2Proof.Machine
end

