-- ==== Sys2Proof/Machine/KeyItems.lean ====
section
/-!
DEFINITION. The opcodes whose output is a key blob or a key block, as the stage 3 execution of one item: 0x30, 0x31, 0x64 to 0x66 and
group 0x7 (R212 to R218, R248, R258, R307; Tables 6.16, 6.17). The fields of an X9.143 key block are that standard's own (log 1).
-/

namespace Sys2Proof.Machine

/-! ### Creation parameters (Table 6.17) -/

/-- ALG of the creation parameters. -/
def cAlg (p : Bytes) : Nat := field p 0 2
/-- KEY_BITS. -/
def cBits (p : Bytes) : Nat := field p 2 2
/-- PARENT_SLOT. -/
def cSlot (p : Bytes) : Nat := byteAt p 4
/-- EXPECTED_KCV, 8 bytes. -/
def cKcv (p : Bytes) : Bytes := fit 8 (slice 0x28 8 p)

/-- Usage codes of Table 6.12 with their X9.143 codes; none where Table 6.12 has none. -/
def usageTable : List (Nat × Option String) :=
  [(0x01, some "B0"), (0x02, some "B1"), (0x10, some "P0"), (0x11, some "V1"), (0x12, some "V2"), (0x20, some "M1"), (0x21, some "M3"),
   (0x22, some "M6"), (0x23, some "M7"), (0x30, some "E0")] ++
  [(0x31, some "E1"), (0x32, some "E2"), (0x38, some "C0"), (0x40, some "D0"), (0x50, some "K0"), (0x51, some "K1"), (0x52, some "K2"),
   (0x60, some "S0"), (0x61, some "K3"), (0x70, none)]

/-- A usage code of Table 6.12. -/
def usageKnown (u : Nat) : Bool := usageTable.any fun p => p.1 == u

/-- EXPECTED_KCV is 0 or the start of the KCV. -/
def kcvFits (expected kcv : Bytes) : Bool := allZero expected || expected == fit 8 kcv

/-- FLAGS of a new blob: generated inside or imported (R214). -/
inductive Origin where
  | generated | imported | derived
deriving DecidableEq, Repr

/-- Attributes with USAGE, MODE and the flags of their origin set. -/
def newAttrs (t : Bytes) (usage mode : Nat) (o : Origin) : Bytes :=
  let f := byteAt t 7 % 2 + (match o with
    | .generated => 2
    | .imported => 4
    | .derived => 0)
  overlay (overlay t 0 (u8 usage ++ u8 mode)) 7 (u8 f)

/-- A new blob under a parent slot of the channel, or the status of its failure (R188, R203, R214). `header` fields: KIND, ALG, KEY_BITS, OWN_GEN. -/
def State.newBlob (s : State) (c slot kind alg bits own : Nat) (attrs material : Bytes) : Sum Nat Bytes :=
  let p := s.slot c slot
  if p.state ≠ 1 ∨ (slot ≤ 1 ∧ ¬ s.active 0 0) then .inl ST_VAULT_EMPTY
  else .inr (sealBlob (wrapKey p.material s.seedMaterial c slot p.gen)
    (blobHeader kind c slot alg bits p.gen own s.freshTime (headerKcv kind alg bits material)) attrs material)

/-- What a template must satisfy for any new key: FLAGS [2:1] 0, its usage known, its parent slot one of the channel's (Table 6.17), and no CHORD,
which only the pair link key has (R200; log 134). -/
def templateOk (c : Nat) (p : Bytes) (usage : Nat) : Bool :=
  byteAt (cTemplate p) 7 / 2 % 4 == 0 && usageKnown usage && parentOk c (cSlot p) && decide (byteAt (cTemplate p) 6 ≤ 1)
    && decide (byteAt (cTemplate p) 3 ≤ 1) && !bit (byteAt (cTemplate p) 2) M_CHORD

/-- Output of a creation: blob, then what follows it; the checks of Table 6.17 that every creation shares. -/
def State.create (s : State) (c kind alg bits own usage mode : Nat) (o : Origin) (p material : Bytes) (tail : Bytes → Bytes) : ExecOut :=
  let attrs := newAttrs (cTemplate p) usage mode o
  let kcv := headerKcv kind alg bits material
  if ¬ s.worldOk attrs c c then .fail ST_KEY_ATTR
  else if ¬ kcvFits (cKcv p) kcv then .fail ST_KCV_MISMATCH
  else match s.newBlob c (cSlot p) kind alg bits own attrs material with
    | .inl st => .fail st
    | .inr b => .ok (b ++ tail kcv)

/-- Key and SUPPLEMENT as the 64 bytes of a symmetric key's material (Table 6.13). -/
def symMaterial (k supplement : Bytes) : Bytes := fit 32 k ++ fit 32 supplement

/-- SUPPLEMENT of a DUKPT key of an AES or TDES algorithm, by its USAGE: a base derivation key with ID_LEN 0, an initial key with its ID; nothing for
any other key (Table 7.13, R245). -/
def dukptSupplement (alg usage : Nat) (id : Bytes) : Bytes :=
  let id := if usage = 0x02 then id else []
  if (usage = 0x01 ∨ usage = 0x02) ∧ alg ≤ 0x12 then u8 (if alg ≤ 3 then 1 else 2) ++ u8 id.length ++ zeros 2 ++ fit 10 id ++ zeros 18
  else []

/-- An initial KSN: 10 bytes with their 21 counter bits 0 (Table 7.13). -/
def initialKsn (b : Bytes) : Bytes := fit 7 b ++ [b.getD 7 0#8 &&& 0xE0#8, 0#8, 0#8]

/-- SUPPLEMENT of a DUKPT key that comes without an identifier: an initial key's ID, which no rule states, is a free value (R245; log 139). -/
def ExecIn.supplement (x : ExecIn) (alg usage : Nat) : Bytes :=
  dukptSupplement alg usage (if alg ≤ 3 then fit 8 x.free else initialKsn (fit 10 x.free))

/-! ### Groups 0x3 and 0x6 -/

/-- DUKPT_IK_DERIVE (R248). -/
def State.runIkDerive (s : State) (x : ExecIn) : ExecOut :=
  let p := x.params
  let bdk := x.key 0
  let aes := byteAt bdk.supplement 0 == 1
  let t := cTemplate p
  checked x
    [ (cAlg p == 0 && cBits p == 0 && byteAt t 0 == 0 && byteAt t 1 == 0 && templateOk x.chan p 0x02, ST_BAD_VALUE),
      (dInLen x.desc == (if aes then 8 else 10), ST_BAD_LENGTH), (bdkOk aes bdk, ST_KEY_TYPE) ]
    fun m =>
      let alg := if aes then bdk.alg else 0x11
      let id := if aes then m else initialKsn m
      let k := fit (keyBytes alg) (if aes then Config.dukptAesInitial bdk.key m else Config.dukptTdesInitial bdk.key m)
      s.create x.chan 1 alg (8 * keyBytes alg) 1 0x02 16 .derived p (symMaterial k (dukptSupplement alg 0x02 id)) fun kcv => kcv

/-- EMV_ICC_DERIVE (R258). -/
def State.runIccDerive (s : State) (x : ExecIn) : ExecOut :=
  let p := x.params
  let k := x.key 0
  let t := cTemplate p
  checked x
    [ (cAlg p == 0 && cBits p == 0 && byteAt t 0 == 0 && !bit (byteAt t 1) 4 && decide (byteAt t 6 ≤ k.exportAttr)
        && templateOk x.chan p k.usage, ST_BAD_VALUE) ]
    fun m =>
      let n := byteAt m 0
      let pan := digits n (slice 1 10 m)
      -- a longer PAN needs MK_SOURCE 0x02 (R254)
      if n < 12 ∨ 16 < n ∨ bcdOk n (slice 1 10 m) = false ∨ bcdOk 2 (slice 11 1 m) = false then .fail ST_BAD_VALUE
      else
        let mk := cardKey k pan (byteAt m 11)
        s.create x.chan 1 k.alg k.bits 1 k.usage (byteAt t 1) .derived p (symMaterial mk []) fun kcv => kcv

/-- The key that a shared secret gives (R307): the KDF of R184 with the label JGKA. -/
def State.agreed (s : State) (x : ExecIn) (secret : Bytes) (before : Bytes) (drawn : Nat) : ExecOut :=
  let p := x.params
  let n := keyBytes (cAlg p)
  let t := cTemplate p
  let r := s.create x.chan 1 (cAlg p) (8 * n) 1 (byteAt t 0) (byteAt t 1) .generated p
    (symMaterial (kdf secret "JGKA" [] n) (x.supplement (cAlg p) (byteAt t 0))) fun kcv => kcv
  { r with out := if r.status = ST_OK then before ++ r.out else r.out, drawn := drawn }

/-- The template check of R307. -/
def agreeParams (x : ExecIn) : Bool :=
  let p := x.params
  ((1 ≤ cAlg p && cAlg p ≤ 3) || cAlg p == 0x21) && cBits p == 8 * keyBytes (cAlg p) && templateOk x.chan p (byteAt (cTemplate p) 0)

/-- ECDH_DERIVE: the shared secret is the x-coordinate of a point that must lie on the curve (R307, R311, R312, R322). -/
def State.runEcdh (s : State) (x : ExecIn) : ExecOut :=
  let n := curveBits (x.key 0).alg
  checked x [(agreeParams x, ST_BAD_VALUE), (dAux x.desc == (x.key 0).bits, ST_BAD_LENGTH)] fun m =>
    if Config.pointValid n m = false then .fail ST_POINT_INVALID
    else
      let p := ecdhPoint n (slice 0 (n / 8) (x.key 0).material) m x.rng
      if Config.pointValid n p = false then { ExecOut.fail ST_ENGINE_FAULT with alarm := true, drawn := ecdhDraws n }
      else s.agreed x (p.take (n / 8)) [] (ecdhDraws n)

/-- MLKEM_ENCAPS (R307, R322). -/
def State.runEncaps (s : State) (x : ExecIn) : ExecOut :=
  let ek := publicOf (x.key 0)
  checked x [(agreeParams x, ST_BAD_VALUE)] fun _ =>
    if Config.mlkemKeyValid ek = false then .fail ST_RANGE
    else
      let r := Config.mlkemEncaps ek (randomBytes x.rng 32)
      s.agreed x (fit 32 r.2) (fit 1088 r.1) 32

/-- MLKEM_DECAPS (R307, R311, R322). -/
def State.runDecaps (s : State) (x : ExecIn) : ExecOut :=
  checked x [(agreeParams x, ST_BAD_VALUE)] fun m =>
    s.agreed x (mlkemDecaps (slice 0 64 (x.key 0).material) m x.rng) [] mlkemDraws

/-! ### Group 0x7 -/

/-- KEY_GENERATE (R212, R214): a symmetric key, with the SUPPLEMENT of its kind (R245). -/
def State.runGenerate (s : State) (x : ExecIn) : ExecOut :=
  let p := x.params
  let n := keyBytes (cAlg p)
  let t := cTemplate p
  let u := byteAt t 0
  checked x [(n != 0 && cBits p == 8 * n && templateOk x.chan p u, ST_BAD_VALUE)] fun _ =>
    { s.create x.chan 1 (cAlg p) (8 * n) 1 u (byteAt t 1) .generated p (symMaterial (randomBytes x.rng n) (x.supplement (cAlg p) u)) (fun kcv => kcv) with drawn := n }

/-- KEY_GENERATE_PAIR (R212, R215): ECC, ML-KEM or SLH-DSA; RSA keys come from KEY_GENERATE_RSA (R219). -/
def State.runGeneratePair (s : State) (x : ExecIn) : ExecOut :=
  let p := x.params
  let t := cTemplate p
  let alg := cAlg p
  checked x [(alg != 0x111 && (materialLen 2 alg (cBits p)).isSome && templateOk x.chan p (byteAt t 0), ST_BAD_VALUE)] fun _ =>
    let r := Config.keyPair alg (cBits p) (randomBytes x.rng 128)
    let m := fit ((materialLen 2 alg (cBits p)).getD 0) r.1
    let pub := fit ((materialLen 3 alg (cBits p)).getD 0) r.2
    { s.create x.chan 2 alg (cBits p) 1 (byteAt t 0) (byteAt t 1) .generated p m (fun _ => pub) with drawn := 128 }

/-- KEY_REWRAP (R214, R222, Table 6.5): to the staged parent, or under the channel's DOMAIN slot. -/
def State.runRewrap (s : State) (y : Item) (x : ExecIn) : ExecOut :=
  let k := x.key 0
  let target := byteAt x.params 0
  let c := x.chan
  let sealWith (material seed : Bytes) (slot gen : Nat) : ExecOut :=
    .ok (sealBlob (wrapKey material seed c slot gen) (blobHeader k.kind c slot k.alg k.bits gen (k.ownGen + 1) s.freshTime k.kcv) k.attrs k.material)
  let refuse : List (Bool × Nat) :=
    [ (target == 1 || target == 2, ST_BAD_VALUE), (k.totalLen == dAux x.desc, ST_BAD_LENGTH),
      (k.ownGen != 0xFFFFFFFF, ST_GEN_EXHAUSTED), (target != 1 || y.staged.isSome, ST_BAD_VALUE),
      (bit k.masters M_HOSTDMA, ST_KEY_EXPORT), (target != 2 || k.exportAttr == 1, ST_KEY_EXPORT) ]
  match firstFail refuse with
  | some st => .fail st
  | none =>
    if target = 2 then
      let d := s.slot c 3
      if d.state ≠ 1 then .fail ST_VAULT_EMPTY else sealWith d.material s.seedMaterial 3 d.gen
    else match y.staged with
      | some (false, t) => sealWith t.material s.seedMaterial k.slot t.gen
      | some (true, t) => if s.active c k.slot then sealWith (s.slot c k.slot).material t.material k.slot 1 else .fail ST_VAULT_EMPTY
      | none => .fail ST_BAD_VALUE

/-- KEY_CHECK: the KCV (R194, Table 6.10). -/
def runKeyCheck (x : ExecIn) : ExecOut := .ok (fit 8 (x.key 0).kcv)

/-- Value of a hexadecimal ASCII digit. -/
def hexDigit (b : Byte) : Nat :=
  let v := b.toNat
  if 48 ≤ v ∧ v ≤ 57 then v - 48 else if 65 ≤ v ∧ v ≤ 70 then v - 55 else if 97 ≤ v ∧ v ≤ 102 then v - 87 else 16

/-- The bytes that ASCII hexadecimal digits spell; none for a character that is no digit. -/
def hexBytes (b : Bytes) : Option Bytes := if b.all fun x => decide (hexDigit x < 16) then some (packNibbles (b.map hexDigit)) else none

/-- The number that ASCII decimal digits spell. -/
def decimal (b : Bytes) : Nat := b.foldl (fun acc x => 10 * acc + hexDigit x) 0

/-- The ASCII of a number in hexadecimal, upper case, `n` digits. -/
def hexAscii (n v : Nat) : Bytes :=
  (nibbles (beBytes ((n + 1) / 2) v)).drop (n % 2) |>.map fun d => BitVec.ofNat 8 (if d < 10 then 48 + d else 55 + d)

/-- The ASCII of a byte string in hexadecimal. -/
def hexOf (b : Bytes) : Bytes := (nibbles b).map fun d => BitVec.ofNat 8 (if d < 10 then 48 + d else 55 + d)

/-- A number in hexadecimal digits, most significant first. -/
def hexNumber (b : Bytes) : Nat := b.foldl (fun a x => 16 * a + hexDigit x) 0

/-- Length of an optional block and of its own header: two digits, or, where they are 00, the extended form: two digits that count the bytes of a length
field of twice as many digits (X9.143; log 1). -/
def blockLength (b : Bytes) : Nat × Nat :=
  let short := hexNumber (slice 2 2 b)
  if short ≠ 0 then (short, 4) else let m := 2 * hexNumber (slice 4 2 b); (hexNumber (slice 6 m b), 6 + m)

/-- The optional blocks of a key block from offset 16 on: two-character names with their data (X9.143; log 1). -/
def optionalBlocks : Nat → Bytes → List (Bytes × Bytes)
  | 0, _ => []
  | n + 1, b =>
    let l := blockLength b
    (b.take 2, (b.take l.1).drop l.2) :: optionalBlocks n (b.drop (max l.1 l.2))

/-- Data of the optional block with a name. -/
def optionalBlock (bs : List (Bytes × Bytes)) (name : String) : Option Bytes := (bs.find? fun p => p.1 == ascii name).map (·.2)

/-- MODE of a mode-of-use character (R216); none where it is refused. -/
def modeOf (c : Nat) : Option Nat :=
  if c = 66 then some 3 else if c = 67 then some 12 else if c = 68 then some 2 else if c = 69 then some 1
  else if c = 71 ∨ c = 83 then some 4 else if c = 86 then some 8 else if c = 88 then some 16 else none

/-- The mode-of-use character of a MODE, mapped back (R217); signature keys use S. -/
def modeChar (usage mode : Nat) : Option String :=
  if mode = 3 then some "B" else if mode = 12 then some "C" else if mode = 2 then some "D" else if mode = 1 then some "E"
  else if mode = 4 then some (if usage = 0x60 then "S" else "G") else if mode = 8 then some "V" else if mode = 16 then some "X" else none

/-- USAGE of two ASCII characters (Table 6.12). -/
def usageOf (b : Bytes) : Option Nat := (usageTable.find? fun p => p.2.any fun t => ascii t == b).map (·.1)

/-- A check value block matches a key: its data is an algorithm byte and the value in hexadecimal (X9.143; log 1). -/
def checkBlock (d : Option Bytes) (kcv : Bytes) : Bool :=
  match d with
  | none => true
  | some h => match hexBytes h with
    | some v => let w := v.drop 1; !w.isEmpty && w == kcv.take w.length
    | none => false

/-- A key block imported with a KBPK under a template (R216): status, output and DETAIL. -/
def State.importBlock (s : State) (x : ExecIn) (kbpkAlg : Nat) (kbpk block : Bytes) : ExecOut :=
  let p := x.params
  let version := byteAt block 0
  let algChar := byteAt block 7
  let usage := usageOf (slice 5 2 block)
  let mode := modeOf (byteAt block 8)
  let ex := byteAt block 11
  let opts := optionalBlocks (decimal (slice 12 2 block)) (block.drop 16)
  let tdes := decide (kbpkAlg = 0x11 ∨ kbpkAlg = 0x12)
  let known := ["KS", "IK", "KC", "KP", "TS", "HM", "PB"]
  let skipped := (opts.filter fun o => !known.any fun n => ascii n == o.1).length
  let checks : List (Bool × Nat) :=
    [ (decide (16 ≤ block.length) && decide (decimal (slice 1 4 block) = block.length), ST_KEYBLOCK_FORMAT),
      (version == 68 || version == 66 || (version == 67 && algChar == 84), ST_KEYBLOCK_FORMAT),
      (if version = 68 then !tdes else tdes, ST_KEY_TYPE),
      (slice 14 2 block == ascii "00" && usage.isSome && mode.isSome && (ex == 69 || ex == 78 || ex == 83)
        && (algChar == 65 || algChar == 84 || algChar == 69 || algChar == 82 || algChar == 72), ST_KEYBLOCK_FORMAT),
      -- the only HMAC key of Table 6.13 is for SHA-256, which HM spells as 21 (X9.143; log 1)
      (algChar != 72 || (optionalBlock opts "HM").all (· == ascii "21"), ST_KEYBLOCK_FORMAT) ]
  match firstFail checks with
  | some st => .fail st
  | none =>
    match Config.keyBlockOpen kbpk block with
    | none => .fail ST_TAG_FAIL
    | some f =>
      let bits := beNat (f.take 2)
      let key := (f.drop 2).take (bits / 8)
      let aes := decide (algChar = 65)
      let idBlock := optionalBlock opts (if aes then "IK" else "KS")
      let sup := match idBlock.bind hexBytes with
        | some id => dukptSupplement (if aes then 1 else 0x11) (usage.getD 0) (if aes then fit 8 id else initialKsn (fit 10 id))
        | none => x.supplement (if aes then 1 else 0x11) (usage.getD 0)
      let found : Option (Nat × Nat × Nat × Bytes) :=
        if algChar = 65 then (if bits = 128 then some (1, 1, 128, symMaterial key sup) else if bits = 192 then some (1, 2, 192, symMaterial key sup)
          else if bits = 256 then some (1, 3, 256, symMaterial key sup) else none)
        else if algChar = 84 then (if bits = 128 then some (1, 0x11, 128, symMaterial key sup)
          else if bits = 192 then some (1, 0x12, 192, symMaterial key sup) else none)
        else if algChar = 72 then (if bits = 256 then some (1, 0x21, 256, symMaterial key []) else none)
        else match Config.derPrivateKey key with
          | some (alg, n, m) =>
            if (alg = 0x111) = (algChar = 82) ∧ (materialLen 2 alg n).isSome then some (2, alg, n, fit ((materialLen 2 alg n).getD 0) m) else none
          | none => none
      -- an identifier that is not 8 or 10 bytes in hexadecimal (log 171)
      let idOk := idBlock.all fun h => (hexBytes h).any fun id => id.length == (if aes then 8 else 10)
      match found with
      | none => .fail ST_KEYBLOCK_FORMAT
      | some (kind, alg, n, m) =>
        if idOk = false then .fail ST_KEYBLOCK_FORMAT else
        let kcv := headerKcv kind alg n m
        if ¬ checkBlock (optionalBlock opts "KC") kcv ∨ ¬ checkBlock (optionalBlock opts "KP") (kcvOf kbpkAlg kbpk) then .fail ST_KCV_MISMATCH
        else
          let t := overlay (overlay (cTemplate p) 6 (u8 (if ex = 69 then 1 else 0))) 8 (slice 9 2 block)
          let p := overlay p 8 t
          { s.create x.chan kind alg n 1 (usage.getD 0) (mode.getD 0) .imported p m (fun _ => []) with detail := skipped }

/-- Creation parameters of an import whose block gives algorithm, usage, mode and version (Table 6.17). -/
def importParams (x : ExecIn) : Bool :=
  let p := x.params
  let t := cTemplate p
  cAlg p == 0 && cBits p == 0 && byteAt t 0 == 0 && byteAt t 1 == 0 && field t 8 2 == 0 && templateOk x.chan p 0x01

/-- KEY_IMPORT_KB (R216). -/
def State.runImport (s : State) (x : ExecIn) : ExecOut :=
  checked x [(importParams x, ST_BAD_VALUE)] fun m => s.importBlock x (x.key 0).alg (x.key 0).key m

/-- The header of a key block to be written (R217): usage, algorithm, mode, version and optional blocks, its length filled by the writer. -/
def exportHeader (k : KeyView) (version keyVersion : Nat) (opts : List (String × Bytes)) : Option Bytes :=
  let alg := if k.isAes then "A" else if k.isTdes then "T" else if k.alg = 0x21 then "H" else if k.alg = 0x111 then "R" else "E"
  match (usageTable.find? fun p => p.1 == k.usage).bind (·.2), modeChar k.usage k.mode with
  | some u, some m =>
    let ver := if keyVersion = 0 then (if field k.attrs 8 2 = 0 then ascii "00" else slice 8 2 k.attrs) else u16 keyVersion
    some (u8 version ++ ascii "0000" ++ ascii u ++ ascii alg ++ ascii m ++ ver ++ ascii "E" ++ hexAscii 2 opts.length ++ ascii "00"
      ++ opts.flatMap fun o => ascii o.1 ++ hexAscii 2 (4 + o.2.length) ++ o.2)
  | _, _ => none

/-- A number in decimal digits, `n` of them. -/
def decimalAscii (n x : Nat) : Bytes := (List.range n).map fun i => BitVec.ofNat 8 (48 + x / 10 ^ (n - 1 - i) % 10)

/-- Year, month and day of a count of days from 1 January 1970. -/
def civilDate (days : Nat) : Nat × Nat × Nat :=
  let z := days + 719468
  let doe := z % 146097
  let yoe := (doe - doe / 1460 + doe / 36524 - doe / 146096) / 365
  let doy := doe - (365 * yoe + yoe / 4 - yoe / 100)
  let mp := (5 * doy + 2) / 153
  let m := if mp < 10 then mp + 3 else mp - 9
  (yoe + z / 146097 * 400 + (if m ≤ 2 then 1 else 0), m, doy - (153 * mp + 2) / 5 + 1)

/-- A TS block's time in UTC, YYYYMMDDhhmmssZ, of a count of seconds from the start of 1970 (X9.143; log 1). -/
def timeStamp (t : Nat) : Bytes :=
  let d := civilDate (t / 86400)
  decimalAscii 4 d.1 ++ decimalAscii 2 d.2.1 ++ decimalAscii 2 d.2.2
    ++ decimalAscii 2 (t / 3600 % 24) ++ decimalAscii 2 (t / 60 % 60) ++ decimalAscii 2 (t % 60) ++ ascii "Z"

/-- Optional blocks of an export: IK or KS from SUPPLEMENT, and KC, KP and TS as requested (R217). -/
def exportOptions (s : State) (k : KeyView) (kbpkAlg : Nat) (kbpk : Bytes) (want : Nat) : List (String × Bytes) :=
  let n := byteAt k.supplement 1
  let id := hexOf (slice 4 n k.supplement)
  (if k.usage = 2 then [(if k.isAes then "IK" else "KS", id)] else [])
    ++ (if bit want 0 then [("KC", hexOf (u8 (flag (!k.isTdes)) ++ k.kcv.take (if k.isTdes then 3 else 5)))] else [])
    ++ (if bit want 1 then [("KP", hexOf (u8 (flag (decide (kbpkAlg ≤ 3))) ++ (kcvOf kbpkAlg kbpk).take (if kbpkAlg ≤ 3 then 5 else 3)))] else [])
    ++ (if bit want 2 then [("TS", timeStamp s.rtcSeconds)] else [])

/-- The key field that an export encloses: the symmetric key's own bytes, or a private key's material. -/
def exportKey (k : KeyView) : Bytes := if k.kind = 1 then k.key else k.material

/-- KEY_EXPORT_KB (R214, R217). -/
def State.runExport (s : State) (x : ExecIn) : ExecOut :=
  let k := x.key 0
  let p := x.params
  let kb := x.key 1
  checked x
    [ (byteAt p 0 == 68 || byteAt p 0 == 66, ST_BAD_VALUE), (k.totalLen == dAux x.desc, ST_BAD_LENGTH),
      (if byteAt p 0 = 68 then kb.isAes else kb.isTdes && k.isTdes, ST_KEY_TYPE),
      (k.exportAttr == 1 && bit k.masters M_HOSTDMA && k.kind != 3, ST_KEY_EXPORT) ]
    fun _ =>
      match exportHeader k (byteAt p 0) (field p 2 2) (exportOptions s k kb.alg kb.key (byteAt p 1)) with
      | none => .fail ST_KEY_EXPORT
      | some h => { ExecOut.ok (Config.keyBlockWrite kb.key h (exportKey k) (randomBytes x.rng 32)) with drawn := 32 }

/-- KEY_IMPORT_TR34: the device as KRD (R218). -/
def State.runImportTr34 (s : State) (x : ExecIn) : ExecOut :=
  checked x [(importParams x, ST_BAD_VALUE), (dAux x.desc == (x.key 0).bits, ST_BAD_LENGTH)] fun m =>
    match Config.tr34Open (x.key 0).material (publicOf (x.key 1)) m with
    | none => .fail ST_KEYBLOCK_FORMAT
    | some (time, kbpk, block) =>
      let now := s.rtcSeconds
      if now + 600 < time ∨ time + 600 < now then .fail ST_KEYBLOCK_FORMAT
      else if byteAt block 0 ≠ 68 ∧ byteAt block 0 ≠ 66 then .fail ST_KEYBLOCK_FORMAT
      else s.importBlock x (if byteAt block 0 = 68 then (if kbpk.length = 16 then 1 else if kbpk.length = 24 then 2 else 3) else 0x11) kbpk block

/-- KEY_EXPORT_TR34: the device as KDH (R214, R218). -/
def State.runExportTr34 (s : State) (x : ExecIn) : ExecOut :=
  let k := x.key 0
  let p := x.params
  let bits := max (x.key 1).bits (x.key 2).bits
  checked x
    [ (byteAt p 0x10 == 68 || byteAt p 0x10 == 66, ST_BAD_VALUE), (dAux x.desc == bits, ST_BAD_LENGTH),
      (byteAt p 0x10 == 68 || k.isTdes, ST_KEY_TYPE),
      (k.exportAttr == 1 && bit k.masters M_HOSTDMA && k.kind != 3, ST_KEY_EXPORT) ]
    fun _ =>
      match exportHeader k (byteAt p 0x10) 0 (exportOptions s k 0x03 [] 0) with
      | none => .fail ST_KEY_EXPORT
      | some h => { ExecOut.ok (Config.tr34Write (publicOf (x.key 1)) (x.key 2).material h (exportKey k) (randomBytes x.rng 64)) with drawn := 64 }

/-- LEGACY_IMPORT: TDES-ECB under a legacy slot with V in the first byte of each part (R213, after R219). -/
def State.runLegacy (s : State) (x : ExecIn) : ExecOut :=
  let p := x.params
  let n := dInLen x.desc
  let t := cTemplate p
  let slot := byteAt p 5
  let v := BitVec.ofNat 8 (byteAt p 6)
  let sl := s.slot x.chan slot
  let mk := (blocks 8 (sl.material.take (keyBytes sl.alg))).flatMap fun b => (b.headD 0#8 ^^^ v) :: b.drop 1
  checked x
    [ ((slot == 1 || slot == 2) && cAlg p == (if n = 16 then 0x11 else 0x12) && cBits p == 8 * n && byteAt p 7 == 0
        && !allZero (cKcv p) && templateOk x.chan p (byteAt t 0), ST_BAD_VALUE),
      (sl.state == 1, ST_VAULT_EMPTY) ]
    fun m => s.create x.chan 1 (cAlg p) (8 * n) 1 (byteAt t 0) (byteAt t 1) .imported p
      (symMaterial (ecb 8 (tdesD mk) m) (x.supplement (cAlg p) (byteAt t 0))) fun _ => []

end Sys2Proof.Machine
end

