-- ==== Sys2Proof/Machine/Roots.lean ====
section
/-!
DEFINITION. The key opcodes of group 0x03 (Table 6.6) and what their acts do to the vault (R185 to R197, R210, R219, R220, R554).
The acts' functions answer a status and the state; a status of class 0x00 means that the act took effect.
-/

namespace Sys2Proof.Machine

/-! ### Slots and the generation record -/

/-- STORAGE or SYSTEM_STORAGE slot (Table 6.3). -/
def storageSlot (c i : Nat) : Bool := if c = 0 then i == 1 else i == 0
/-- LEGACY slot. -/
def legacySlot (c i : Nat) : Bool := c != 0 && (i == 1 || i == 2)
/-- KIND of a slot (Table 6.4). -/
def slotKind (c i : Nat) : Nat :=
  if i = 3 then 4 else if c = 0 then (if i = 0 then 1 else if i = 1 then 2 else 5) else if i = 0 then 2 else 3
/-- ALG suits the slot's kind (Table 6.3, R193). The vault seed has no ALG of Table 6.13: 0 (log 42). -/
def slotAlgOk (c i alg : Nat) : Bool :=
  if c = 0 ∧ i = 0 then alg == 0 else if legacySlot c i then alg == 0x11 || alg == 0x12 else alg == 3
/-- Length of a slot's key. -/
def slotBytes (alg : Nat) : Nat := if alg = 0 then 32 else keyBytes alg
/-- KCV of a slot's key (R194). -/
def slotKcv (alg : Nat) (k : Bytes) : Bytes := if alg = 0 then seedKcv k else kcvOf alg k

/-- Where the generation record keeps a slot's value: for a storage slot, under the vault seed's current GEN (R190). -/
def State.recordKey (s : State) (c i : Nat) : Nat :=
  4 * c + i + (if storageSlot c i then 1024 * (1 + (s.slot 0 0).gen) else 0)
/-- Recorded GEN of a slot. -/
def State.recorded (s : State) (c i : Nat) : Nat := KeyMap.get s.keys.record 0 (s.recordKey c i)
/-- The record raised, never lowered; a new record entry is appended (R190, R352). -/
def State.raiseRecord (s : State) (c i v : Nat) : State :=
  if v ≤ s.recorded c i then s
  else ({ s with keys := { s.keys with record := KeyMap.put s.keys.record (s.recordKey c i) v } }).appendGen (s.recordKey c i) v

/-- Status of an act that leaves a slot at a GEN (R191). -/
def genStatus (g : Nat) : Nat := if 0xFFFFFF00 ≤ g then ST_GEN_WARN else ST_OK

/-- A slot is written by an act: its record, the sealed copy of LINK, the gates (R188, R190, R390). -/
def State.writeSlot (s : State) (c i : Nat) (v : Slot) : State :=
  let s := (s.setSlot c i v).raiseRecord c i v.gen
  let s := if c = 0 ∧ i = 2 then
      { s with pair := { s.pair with
          linkCopy := if v.state = 1 then some (v.material, v.gen, v.kcv) else none
          linkSeal := if v.state = 1 then s.sealOf (linkBytes v.material v.gen v.kcv) else [] } }
    else s
  s.vaultGates

/-- ROOT_CHANGED to every session of the slot's realm (R197). -/
def State.rootChanged (s : State) (c i : Nat) : State := s.notify c 0x0200 0 (4 * c + i)

/-- Active storage slots, as channel and slot. -/
def State.storages (s : State) : List (Nat × Nat) :=
  ((0, 1) :: tenants.map fun c => (c, 0)).filter fun p => s.active p.1 p.2

/-! ### Checks of a root act (R192, R196, R370, R389; made at the request and again when the act is carried out: log 44) -/

/-- Some key is staged, or the vault seed is, so that a channel may not stage (R196). -/
def State.stagingBlocked (s : State) (c i : Nat) : Bool :=
  (KeyMap.find s.keys.staged c).isSome || ((KeyMap.find s.keys.staged 0).map fun x => x.slot == 0).getD false
    || (c == 0 && i == 0 && !s.keys.staged.isEmpty)

/-- What refuses a root act on a slot; ST_OK where nothing does. -/
def State.rootCheck (s : State) (op c i : Nat) : Nat :=
  let staged := KeyMap.find s.keys.staged c
  let v := s.slot c i
  if i = 3 ∧ s.ident.domain.isSome ∧ op ≠ 0x0314 then ST_CHANNEL_POLICY
  else if c = 0 ∧ i = 2 ∧ s.pair.mode ≠ .unpaired ∧ op ≠ 0x0314 then ST_CHANNEL_POLICY
  else if op = 0x0312 then (if s.stagingBlocked c i then ST_KEY_STAGED else ST_OK)
  else if op = 0x0313 then
    if staged.map (·.slot) ≠ some i then ST_BAD_VALUE
    else if v.gen = 0xFFFFFFFF ∧ ¬ legacySlot c i then ST_GEN_EXHAUSTED else ST_OK
  else if op = 0x0314 then (if staged.map (·.slot) ≠ some i then ST_BAD_VALUE else ST_OK)
  else if staged.isSome then ST_KEY_STAGED
  else if op = 0x0316 then ST_OK
  else if c = 0 ∧ i = 0 then
    if ¬ s.keys.staged.isEmpty then ST_KEY_STAGED
    else if v.state ≠ 1 then ST_VAULT_EMPTY
    else if s.storages.any fun p => (s.slot p.1 p.2).gen == 0xFFFFFFFF then ST_GEN_EXHAUSTED
    else ST_OK
  else if v.state = 1 then (if v.gen = 0xFFFFFFFF ∧ ¬ legacySlot c i then ST_GEN_EXHAUSTED else ST_OK)
  else if s.recorded c i = 0xFFFFFFFF then ST_GEN_EXHAUSTED
  else ST_OK

/-- What refuses a ROOT_STAGE payload: as a root act, and a load without GEN_HINT into an empty slot while the record fails its seal (R190). -/
def State.stageCheck (s : State) (p : Bytes) : Nat :=
  let c := byteAt p 0
  let i := byteAt p 1
  let bad := s.rootCheck 0x0312 c i
  if bad ≠ ST_OK then bad
  else if (s.slot c i).state ≠ 1 ∧ s.keys.recordOk = false ∧ field p 6 4 = 0 then ST_BAD_VALUE else ST_OK

/-- A realm may name a channel in a root act: its own; the device realm also any in ROOT_INVALIDATE and ROOT_ERASE (R192). -/
def rootRealmOk (realm c op : Nat) : Bool := realm == c || (realm == 0 && (op == 0x0315 || op == 0x0316))

/-! ### ROOT_STAGE (R193, R195, R196) -/

/-- The SIV of a plaintext of at least 16 bytes with no associated data (RFC 5297; log 45). -/
def plainSiv (k p : Bytes) : Bytes :=
  cmac (slice 0 32 k) (p.take (p.length - 16) ++ xorBytes (p.drop (p.length - 16)) (cmac (slice 0 32 k) (zeros 16)))
/-- An AES-SIV wrap with no associated data: SIV, then ciphertext (log 45). -/
def plainSeal (k p : Bytes) : Bytes :=
  let v := plainSiv k p
  v ++ ctr (aesE (slice 32 32 k)) 128 (sivCounter v) p
/-- Such a wrap opened, where its SIV verifies. -/
def plainOpen (k wrapped : Bytes) : Option Bytes :=
  let p := ctr (aesE (slice 32 32 k)) 128 (sivCounter (wrapped.take 16)) (wrapped.drop 16)
  if plainSiv k p = wrapped.take 16 then some p else none

/-- The wrapped component opened under the shared secret's key (R193). -/
def openComponent (secret wrapped : Bytes) (index : Nat) : Option Bytes :=
  plainOpen (kdf secret "JGKB-COMPONENT" (u8 index) 64) wrapped

/-- The components of a request unwrapped, each with its own KCV; none where one does not open (R195, step 1). `rng` numbers the random bytes drawn. -/
def components (seed : Bytes) (alg : Nat) : Nat → Nat → Nat → Bytes → Option (List (Bytes × Bytes))
  | 0, _, _, _ => some []
  | n + 1, index, rng, b =>
    match openComponent (mlkemDecaps seed (slice 0 1088 b) rng) (slice 1088 48 b) index with
    | none => none
    | some p => (components seed alg n (index + 1) (rng + mlkemDraws) (b.drop 1144)).map fun l => (fit (slotBytes alg) p, slice 1136 8 b) :: l

/-- The components combined: the key, or the status of the first failure (R195, steps 1 and 2). -/
def combine (alg : Nat) (expected : Bytes) (parts : Option (List (Bytes × Bytes))) : Sum Nat Bytes :=
  match parts with
  | none => .inl ST_KEYBLOCK_FORMAT
  | some l =>
    let k := l.foldl (fun acc p => xorBytes acc p.1) (zeros (slotBytes alg))
    if l.all (fun p => fit 8 (slotKcv alg p.1) == p.2) && fit 8 (slotKcv alg k) == expected then .inr k else .inl ST_KCV_MISMATCH

/-- The self-test of a key before it is staged: a test blob wrapped and unwrapped, or one block encrypted and decrypted under a legacy key
(R195, step 3). The test's own bytes are zeros. -/
def State.stageTest (s : State) (c i gen : Nat) (k : Bytes) : Bool :=
  if legacySlot c i then tdesD k (tdesE k (zeros 8)) == zeros 8
  else if c = 0 ∧ i = 0 then true
  else
    let w := wrapKey k s.seedMaterial c i gen
    let b := sivSeal w (zeros 80) (zeros 64)
    sivOpen w (zeros 80) b.1 b.2 == some (zeros 64)

/-- The staged key that a ROOT_STAGE makes (R190, R195): status, key, and the state with the random bytes drawn. -/
def State.stageKey (s : State) (realm : Nat) (p : Bytes) : Nat × Staged × State :=
  let c := byteAt p 0
  let i := byteAt p 1
  let alg := field p 4 2
  let hint := field p 6 4
  let v := s.slot c i
  let gen := if v.state = 1 then min 0xFFFFFFFF (v.gen + 1) else max (max (s.recorded c i) hint) 1
  let none_ : Staged := ⟨i, alg, gen, [], []⟩
  let bad := s.stageCheck p
  if bad ≠ ST_OK then (bad, none_, s)
  else if byteAt p 2 = 1 then
    let (k, s) := s.draw (slotBytes alg)
    (if s.stageTest c i gen k then ST_OK else ST_SELFTEST, ⟨i, alg, gen, fit 8 (slotKcv alg k), k⟩, s)
  else
    -- a component without an open transport key does not unwrap (step 1)
    let parts := (s.realm realm).transport.bind fun t => components t.1 alg (byteAt p 3) 0 s.rng (p.drop 18)
    let s := s.skipDraws (byteAt p 3 * mlkemDraws)
    match combine alg (slice 10 8 p) parts with
    | .inl e => (e, none_, s)
    | .inr k => if s.stageTest c i gen k then (ST_OK, ⟨i, alg, gen, fit 8 (slotKcv alg k), k⟩, s) else (ST_SELFTEST, none_, s)

/-- A key is staged (R196). -/
def State.putStaged (s : State) (c : Nat) (x : Staged) : State :=
  { s with keys := { s.keys with staged := KeyMap.put s.keys.staged c x } }
/-- A channel's staged key is discarded. -/
def State.unstage (s : State) (c : Nat) : State :=
  { s with keys := { s.keys with staged := KeyMap.del s.keys.staged c } }

/-! ### What takes effect at T (R189, R197, R210, R554) -/

/-- A staged key takes its slot; into an empty slot it is a load (R190, R197). A swapped vault seed starts the storage slots' generations afresh. -/
def State.swapStaged (s : State) (c i : Nat) (x : Staged) : Nat × State :=
  let old := s.slot c i
  let gen := if old.state = 1 then min 0xFFFFFFFF (old.gen + 1) else max x.gen (s.recorded c i)
  let s := (s.unstage c).writeSlot c i ⟨x.material, 1, slotKind c i, x.alg, gen, x.kcv, [], 0⟩
  let s := if c = 0 ∧ i = 0 ∧ old.state = 1 then
      s.storages.foldl (fun s p => s.writeSlot p.1 p.2 { s.slot p.1 p.2 with gen := 1 }) s
    else s
  let s := if c = 0 ∧ i = 0 ∧ old.state ≠ 1 then s else s.revokeChildren c i gen false
  (genStatus gen, s.rootChanged c i)

/-- ROOT_SWAP (R190, R196, R197). -/
def State.swapRoot (s : State) (c i : Nat) : Nat × State :=
  let bad := s.rootCheck 0x0313 c i
  match KeyMap.find s.keys.staged c with
  | none => (ST_BAD_VALUE, s)
  | some x => if bad ≠ ST_OK then (bad, s) else s.swapStaged c i x

/-- ROOT_INVALIDATE of one slot that is not the vault seed (R189, R191, R554). -/
def State.invalidateSlot (s : State) (c i : Nat) : Nat × State :=
  let v := s.slot c i
  if v.state = 1 then
    let gen := min 0xFFFFFFFF (v.gen + 1)
    let s := (s.writeSlot c i { v with gen := gen }).revokeChildren c i gen false
    (genStatus gen, s.rootChanged c i)
  else (ST_OK, (s.raiseRecord c i (s.recorded c i + 1)).rootChanged c i)

/-- ROOT_INVALIDATE (R189, R192). -/
def State.invalidateRoot (s : State) (c i : Nat) : Nat × State :=
  let bad := s.rootCheck 0x0315 c i
  if bad ≠ ST_OK then (bad, s)
  else if c = 0 ∧ i = 0 then
    s.storages.foldl (fun a p =>
      let b := a.2.invalidateSlot p.1 p.2
      (if a.1 = ST_GEN_WARN then ST_GEN_WARN else b.1, b.2)) (ST_OK, s)
  else s.invalidateSlot c i

/-- A slot erased, its record kept (R189, R210). -/
def State.eraseSlot (s : State) (c i : Nat) : State :=
  ((s.writeSlot c i Slot.reset).revokeChildren c i 0 true).rootChanged c i

/-- ROOT_ERASE (R189, R210, R554). -/
def State.eraseRoot (s : State) (c i : Nat) : Nat × State :=
  let bad := s.rootCheck 0x0316 c i
  if bad ≠ ST_OK then (bad, s) else if (s.slot c i).state ≠ 1 then (ST_OK, s) else (ST_OK, s.eraseSlot c i)

/-! ### The requests -/

/-- Staged key of a slot as VAULT_STATUS gives it: STAGED to the staged KCV (Table 3.13). -/
def stagedRecord (x : Option Staged) : Bytes :=
  match x with
  | none => zeros 20
  | some x => u8 1 ++ u8 0 ++ u16 x.alg ++ u32 x.gen ++ zeros 4 ++ fit 8 x.kcv

/-- The 160 bytes of VAULT_STATUS (Table 3.13); KIND is the slot's, empty or not (Table 6.3, log 112). -/
def State.vaultStatus (s : State) (c : Nat) : Bytes :=
  (List.range 4).flatMap fun i =>
    let v := s.slot c i
    let x := match KeyMap.find s.keys.staged c with
      | some x => if x.slot = i then some x else none
      | none => none
    u8 v.state ++ u8 (slotKind c i) ++ u16 v.alg ++ u32 v.gen ++ fit 8 v.kcv ++ u32 (s.recorded c i) ++ stagedRecord x

/-- VAULT_STATUS (R192, Table 3.13). -/
def execVaultStatus (p : Port) (s : State) : Host.Outcome State Fault Refusal :=
  runOn s fun s => serve s p 0x0310 fun s q =>
    if q.payload.length ≠ 1 then s.answer q ST_BAD_LENGTH []
    else if q.realm ≠ 0 ∧ q.realm ≠ byteAt q.payload 0 then s.answer q ST_REALM []
    else s.answer q ST_OK (s.vaultStatus (byteAt q.payload 0))

/-- KEY_TRANSPORT_OPEN (R192): a key pair that lives until the administrative session closes. -/
def execKeyTransportOpen (p : Port) (s : State) : Host.Outcome State Fault Refusal :=
  runOn s fun s => serve s p 0x0311 fun s q => noPayload s q fun s =>
    if (s.realm q.realm).admin.isNone then s.answer q ST_DUAL_CONTROL []
    else
      let (seed, s) := s.draw 64
      let pub := fit 1184 (Config.mlkemPublic seed)
      (s.updRealm q.realm fun r => { r with transport := some (seed, pub) }).answer q ST_OK pub

/-- ROOT_STAGE (R192, R193): everything that can be judged at the request is. -/
def execRootStage (p : Port) (s : State) : Host.Outcome State Fault Refusal :=
  runOn s fun s => serve s p 0x0312 fun s q =>
    let b := q.payload
    let c := byteAt b 0
    let i := byteAt b 1
    let bad := s.stageCheck b
    if b.length < 18 then s.answer q ST_BAD_LENGTH []
    else if ¬ rootRealmOk q.realm c 0x0312 then s.answer q ST_REALM []
    else if 3 < i then s.answer q ST_BAD_VALUE []
    else if ¬ slotAlgOk c i (field b 4 2) then s.answer q ST_KEY_TYPE []
    else if ¬ ((byteAt b 2 = 1 ∧ byteAt b 3 = 0 ∧ allZero (slice 10 8 b)) ∨ (byteAt b 2 = 2 ∧ (byteAt b 3 = 2 ∨ byteAt b 3 = 3))) then
      s.answer q ST_BAD_VALUE []
    else if b.length ≠ 18 + 1144 * byteAt b 3 then s.answer q ST_BAD_LENGTH []
    else if bad ≠ ST_OK then s.answer q bad []
    else s.request q 0x0A

/-- A root act on CHANNEL and SLOT: its checks at the request (R192, R196). -/
def State.rootAct (s : State) (q : Request) : State :=
  let c := byteAt q.payload 0
  let i := byteAt q.payload 1
  let bad := s.rootCheck q.opcode c i
  if q.payload.length ≠ 2 then s.answer q ST_BAD_LENGTH []
  else if ¬ rootRealmOk q.realm c q.opcode then s.answer q ST_REALM []
  else if 3 < i then s.answer q ST_BAD_VALUE []
  else if bad ≠ ST_OK then s.answer q bad []
  else s.request q 0x0A

/-- ROOT_SWAP (R197). -/
def execRootSwap (p : Port) (s : State) : Host.Outcome State Fault Refusal :=
  runOn s fun s => serve s p 0x0313 State.rootAct

/-- ROOT_UNSTAGE (R196). -/
def execRootUnstage (p : Port) (s : State) : Host.Outcome State Fault Refusal :=
  runOn s fun s => serve s p 0x0314 State.rootAct

/-- ROOT_INVALIDATE (R189, R192, R554). -/
def execRootInvalidate (p : Port) (s : State) : Host.Outcome State Fault Refusal :=
  runOn s fun s => serve s p 0x0315 State.rootAct

/-- ROOT_ERASE (R189, R554). -/
def execRootErase (p : Port) (s : State) : Host.Outcome State Fault Refusal :=
  runOn s fun s => serve s p 0x0316 State.rootAct

/-- A key unwrapped for the master APEX in a realm (Table 6.15): stages b to g. -/
def State.openFor_ (s : State) (realm : Nat) (blob : Bytes) : Sum Nat KeyView :=
  match s.openBlob blob none with
  | .inl e => .inl e
  | .inr k =>
    if s.worldOk k.attrs realm k.owner && bit k.masters M_APEX && byteAt k.attrs 5 &&& s.lifecycleBit != 0 then .inr k
    else .inl ST_KEY_ATTR

/-- The public-key encoding of a key of Table 6.13 (R202); for a symmetric key, its KCV. -/
def publicForm (k : KeyView) : Bytes :=
  if k.kind = 3 then k.material
  else if k.alg = 0x101 then slice 32 64 k.material
  else if k.alg = 0x102 then slice 48 96 k.material
  else if k.alg = 0x111 then k.material.take (k.bits / 8 + 4)
  else if k.alg = 0x121 then fit 1184 (Config.mlkemPublic k.material)
  else k.material.drop (k.material.length / 2)

/-- The key attestation statement (Table 6.19). -/
def State.keyStatement (s : State) (k : KeyView) (tag nonce : Bytes) : Bytes :=
  ascii "JGKEYATT" ++ s.serial ++ u8 k.owner ++ u8 k.kind ++ u16 k.alg ++ u16 k.bits ++ zeros 2 ++ fit 8 tag ++ fit 32 k.attrs
    ++ (if k.kind = 1 then fit 32 k.kcv else sha256 (publicForm k)) ++ fit 16 nonce ++ u64 s.now

/-- KEY_ATTEST (R220, R363): the answer follows when Apex has signed. -/
def execKeyAttest (p : Port) (s : State) : Host.Outcome State Fault Refusal :=
  runOn s fun s => serve s p 0x0317 fun s q =>
    let blob := q.payload.take (q.payload.length - 16)
    -- the header first (stage b of Table 6.15), then the length that it gives
    if q.payload.length < 64 then s.answer q ST_BAD_LENGTH []
    else if stageB (fit 48 blob) = false then s.answer q ST_KEY_UNWRAP []
    else if (headerView (fit 48 blob)).totalLen ≠ blob.length then s.answer q ST_BAD_LENGTH []
    else match s.openFor_ q.realm blob with
      | .inl e => s.answer q e []
      | .inr k =>
        if ¬ bit k.flags 1 ∨ k.exportAttr ≠ 0 then s.answer q ST_KEY_ATTR []
        else match s.enqueue ⟨2, some q, (0, 0), s.keyStatement k (slice (blob.length - 16) 8 blob) (q.payload.drop (q.payload.length - 16)), [], signatureWork, signatureWork⟩ with
          | none => s.answer q ST_ADMIN_BUSY []
          | some s => s

/-- CACHE_FLUSH (R192, Table 6.6). -/
def execCacheFlush (p : Port) (s : State) : Host.Outcome State Fault Refusal :=
  runOn s fun s => serve s p 0x0318 fun s q =>
    if q.payload.length ≠ 1 then s.answer q ST_BAD_LENGTH []
    else if q.realm ≠ 0 ∧ q.realm ≠ byteAt q.payload 0 then s.answer q ST_REALM []
    else
      let r := s.flushCache (byteAt q.payload 0)
      r.1.answer q ST_OK (u32 r.2)

/-- Creation parameters on the mailbox: reserved fields 0, FLAGS [2:1] 0, usage and parent slot known (Table 6.17); ST_OK where they hold. -/
def mailboxParams (c : Nat) (p : Bytes) : Nat :=
  if ¬ (allZero (slice 5 3 p) ∧ allZero (slice 48 8 p) ∧ templateClean (cTemplate p)) then ST_RESERVED
  else if ¬ templateOk c p (byteAt (cTemplate p) 0) then ST_BAD_VALUE
  else ST_OK

/-- KEY_GENERATE_RSA (R213, R219): KEY_BITS is given twice and must agree (log 46). -/
def execKeyGenerateRsa (p : Port) (s : State) : Host.Outcome State Fault Refusal :=
  runOn s fun s => serve s p 0x0319 fun s q =>
    let bits := field q.payload 0 2
    let t := q.payload.drop 2
    let bad := mailboxParams q.realm t
    if q.payload.length ≠ 58 then s.answer q ST_BAD_LENGTH []
    else if bad ≠ ST_OK then s.answer q bad []
    else if cAlg t ≠ 0x111 ∨ cBits t ≠ bits ∨ (materialLen 2 0x111 bits).isNone then s.answer q ST_BAD_VALUE []
    else
      let (r, s) := s.draw 512
      match Config.rsaKeyPair bits r with
      | none => s.answer q ST_ENGINE_FAULT []
      | some (m, pub) =>
        let m := fit ((materialLen 2 0x111 bits).getD 0) m
        let out := s.create q.realm 2 0x111 bits 1 (byteAt (cTemplate t) 0) (byteAt (cTemplate t) 1) .generated t m
          (fun _ => fit ((materialLen 3 0x111 bits).getD 0) pub)
        (if out.status = ST_OK then s.blobMade else s).answer q out.status out.out

/-- PEER_KEY_LOAD (R213, R218): a public key of the peer under the DOMAIN slot. Its form is judged at the request (log 46). -/
def execPeerKeyLoad (p : Port) (s : State) : Host.Outcome State Fault Refusal :=
  runOn s fun s => serve s p 0x031A fun s q =>
    let t := q.payload.drop (q.payload.length - 56)
    let bad := mailboxParams q.realm t
    if q.payload.length ≤ 56 then s.answer q ST_BAD_LENGTH []
    else if bad ≠ ST_OK then s.answer q bad []
    else if cSlot t ≠ 3 ∨ (Config.derPublicKey (q.payload.take (q.payload.length - 56))).isNone then s.answer q ST_BAD_VALUE []
    else s.request q 0x0A

/-- What a PEER_KEY_LOAD act makes: status and blob. -/
def State.peerKey (s : State) (realm : Nat) (p : Bytes) : Nat × Bytes × State :=
  let t := p.drop (p.length - 56)
  match Config.derPublicKey (p.take (p.length - 56)) with
  | none => (ST_BAD_VALUE, [], s)
  | some (alg, bits, pub) =>
    match materialLen 3 alg bits with
    | none => (ST_KEY_TYPE, [], s)
    | some n =>
      if (cAlg t ≠ 0 ∧ cAlg t ≠ alg) ∨ (cBits t ≠ 0 ∧ cBits t ≠ bits) then (ST_KEY_TYPE, [], s)
      else
        let out := s.create realm 3 alg bits 1 (byteAt (cTemplate t) 0) (byteAt (cTemplate t) 1) .imported t (fit n pub) fun _ => []
        (out.status, out.out, if out.status = ST_OK then s.blobMade else s)

end Sys2Proof.Machine
end

