-- ==== Sys2Proof/Machine/Commit.lean ====
section
/-!
DEFINITION. What a commit changes when it is applied, and the changes that wait for a drain or for the effective boundary
(R106, R127 to R129, R156 to R159, R179, R180, R206, R281, R302, R328, R341, R412, R426).
-/

namespace Sys2Proof.Machine

/-! ### Changes that wait (R128, R129, R179, R281, R302) -/

/-- The channel holds no admitted item and no record held back. -/
def State.drained (s : State) (c : Nat) : Bool := (s.chan c).admitted.isEmpty && (s.chan c).heldRecords.isEmpty

/-- A submission ring of a channel is cleared: its group holds its reset values, and its descriptors that were not admitted are dropped (R119, R129; log 58). -/
def State.clearSq (s : State) (c r : Nat) : State :=
  let i := 8 * c + r
  let gone := (s.chan c).decoded.filter fun x => x.ring == r
  let s := gone.foldl (fun s x => x.refs.foldl (fun s k => if k.hit then s.unpin c k.tag else s) s) s
  let s := s.updChan c fun x => { x with
    sqs := KeyMap.del x.sqs r, decoded := x.decoded.filter fun y => y.ring != r, stale := x.stale || x.fetching == some r }
  { s with orfer := { s.orfer with
    cfg := KeyMap.del (KeyMap.del (KeyMap.del s.orfer.cfg (cfgKey F_SQ_BASE i)) (cfgKey F_SQ_SIZE i)) (cfgKey F_SQ_FORMAT i) } }

/-- The completion ring of a channel is cleared (R129). A committed group that waits for the same drain takes effect at this boundary, and is kept. -/
def State.clearCq (s : State) (c : Nat) : State :=
  let i := 8 * c + 4
  let s := s.updChan c fun x => { x with cq := { Cq.reset with modCount := x.cq.modCount, modTimer := x.cq.modTimer }, used := 0 }
  if (s.chan c).cqWait.isSome then s
  else { s with orfer := { s.orfer with
    cfg := KeyMap.del (KeyMap.del (KeyMap.del s.orfer.cfg (cfgKey F_CQ_BASE i)) (cfgKey F_CQ_SIZE i)) (cfgKey F_CQ_VECTOR i) } }

/-- A stored binding takes effect once the channel has drained: the ring groups that it clears, its keys, and the surplus of a region that it makes
smaller, go (R129, R205, R206). -/
def State.settleBinding (s : State) (c : Nat) : State :=
  if (s.chan c).bindWait.isNone || !s.drained c then s
  else
    let old := (s.chan c).binding
    let new := s.storedBinding c
    let all := decide (old.function ≠ new.function ∨ new.rings = 0)
    let s := (List.range 4).foldl (fun s r => if all ∨ new.rings ≤ r then s.clearSq c r else s) s
    let s := if all then s.clearCq c else s
    let s := s.evictChannel c
    let s := s.updChan c fun x => { x with
      binding := new, bindWait := none, decoded := x.decoded.map fun y => { y with refs := y.refs.map fun k => { k with hit := false } } }
    -- an isolated channel takes its partition out of the shared region (R205, R206)
    s.trimCache.relook c

/-- A committed completion ring group takes effect once the channel has drained (R128, R150). -/
def State.settleCq (s : State) (c : Nat) : State :=
  if (s.chan c).cqWait.isNone || !s.drained c then s
  else
    let i := 8 * c + 4
    s.updChan c fun x => { x with
      cq := { Cq.reset with
        base := s.cfgNat F_CQ_BASE i, sizeLog2 := s.cfgNat F_CQ_SIZE i, vector := s.cfgNat F_CQ_VECTOR i
        modCount := x.cq.modCount, modTimer := x.cq.modTimer, errDb := x.cq.errDb, errWrite := x.cq.errWrite }
      used := 0, halted := false, cqWait := none }

/-- A new placement of hold pages takes effect once no channel whose pages move holds any (R281). -/
def State.settlePages (s : State) : State :=
  if s.cipher.holdWait.isNone || (tenants.any fun c => s.pagesMove c && s.pagesOf c != 0) then s
  else { s with cipher := { s.cipher with
    holdPages := s.storedPages, holdWait := none
    placement := (s.partitions s.storedBinding fun i => s.cfgNat F_CH_HOLD_PAGES i).getD s.cipher.placement } }

/-- Slots of a channel's partition that an item holds. -/
def State.slotsHeld (s : State) (c : Nat) : Bool := s.operand.dir.any fun p => p.2.owner == c && p.2.inUse

/-- A new layout of operand memory takes effect once no channel whose partition moves or shrinks holds a slot. Apex clears every word that passes to a
different owner, frees its slots and sets their owner tag; every other word stays as it is (R302, R324). -/
def State.settleLayout (s : State) : State :=
  if s.operand.layoutWait.isNone || (tenants.any fun c => s.layoutMoves c && s.slotsHeld c) then s
  else
    let old := s.operand.layout
    let new := s.storedOpmem
    let passes := ((List.range 448).map (64 + ·)).filter fun k => kibOwner old k != kibOwner new k
    let dir := passes.foldl (fun m k => (List.range 4).foldl (fun m j =>
      if kibOwner new k = 0 then KeyMap.del m (4 * k + j) else KeyMap.put m (4 * k + j) ⟨0, 0, false, kibOwner new k⟩) m) s.operand.dir
    { s with operand := { s.operand with
      layout := new, layoutWait := none, dir := dir, mem := passes.foldl KeyMap.del s.operand.mem } }

/-- A change reaches its effective boundary: map, shares, length limits and context allotments take effect, and LAT_CHANGED is
sent (R158, R179, R180, R267). -/
def State.takeMapChange (s : State) (x : MapChange) : State :=
  let member (c : Nat) : Bool := match KeyMap.find x.members c with
    | some v => v != 0
    | none => s.wheel.members.contains c
  let s := { s with
    wheel := { s.wheel with
      map := if x.map then mapOf (s.cfg F_SECTOR_MAP 0) else s.wheel.map, members := 0 :: tenants.filter member }
    chans := KeyMap.mapVals s.chans fun c y => { y with lenLimit := (KeyMap.find x.limits c).getD y.lenLimit } }
  let s := { s with chans := KeyMap.mapVals s.chans fun c y => { y with budget := min y.budget (s.capPs c) } }
  (x.changing.filter (· != 0)).foldl (fun s c => s.notify c 0x0300 0 c) s.allotContexts

/-- The changes whose effective boundary has come take effect, oldest first (R179). -/
def State.settleMap (s : State) : State :=
  let due (x : MapChange) : Bool := decide (x.boundary ≤ s.now)
  (s.wheel.waiting.filter due).foldl State.takeMapChange
    { s with wheel := { s.wheel with waiting := s.wheel.waiting.filter fun x => !due x } }

/-- Everything that waits for a drain or for E, at a revolution boundary. -/
def State.settleAll (s : State) : State :=
  let cs := s.chans.map (·.1)
  let s := cs.foldl State.settleBinding s
  let s := cs.foldl State.settleCq s
  s.settlePages.settleLayout.settleMap

/-! ### One commit (R105, R106) -/

/-- A field of the channel binding group. -/
def bindingField (f : Nat) : Bool := f == F_CH_FUNCTION || f == F_CH_ISOLATED || f == F_CH_RING_COUNT

/-- Channels that a commit's fields of a kind name, for fields whose INSTANCE is a channel or a channel's ring. -/
def touched (entries : KeyMap Bytes) (f : Nat → Bool) (chan : Nat → Nat) : List Nat :=
  ((entries.filter fun e => f (keyField e.1)).map fun e => chan (keyInst e.1)).eraseDups

/-- The changing channels and the effective boundary of what has just been stored; `old` is the state before, `binds` and `limits`
are the channels whose binding and length limits have changed. A change that shares a changing channel with one that waits does not
overtake it (R158, R179; log 113). -/
def State.startMap (s old : State) (binds limits : List Nat) : State :=
  let bound (b : Binding) : Option (Nat × Bool) := if b.rings = 0 then none else some (b.function, b.isolated)
  let mapped := old.cfg F_SECTOR_MAP 0 != s.cfg F_SECTOR_MAP 0
  let members : KeyMap Nat := binds.foldl
    (fun m c => KeyMap.put m c (flag ((s.storedBinding c).rings != 0 && !(s.storedBinding c).isolated))) []
  let inPool (c : Nat) : Bool := match KeyMap.find members c with
    | some v => v != 0
    | none => s.wheel.members.contains c
  let new := { s with wheel := { s.wheel with
    map := if mapped then mapOf (s.cfg F_SECTOR_MAP 0) else s.wheel.map, members := 0 :: tenants.filter inPool } }
  -- a service set changes where a sector serves another channel, and every pool member's where the pool's size or membership changes
  let moved := (old.dealing.zip new.dealing).filter fun p => p.1.2 != p.2.2
  let pool (x : State) : Nat := (x.dealing.filter (·.1)).length
  let pooled : List Nat := if pool old != pool new || old.wheel.members != new.wheel.members then old.wheel.members ++ new.wheel.members else []
  let changing := (0 :: tenants).filter fun c =>
    limits.contains c || pooled.contains c || (binds.contains c && bound (old.storedBinding c) != bound (s.storedBinding c))
      || moved.any fun p => p.1.2 == c || p.2.2 == c
  if (!mapped && binds.isEmpty && limits.isEmpty) || changing.isEmpty then s
  else
    let longest := (changing.filter fun c => old.bound.contains c).foldl (fun m c => max m (old.longestNs c)) 0
    let before := (s.wheel.waiting.filter fun x => x.changing.any changing.contains).foldl (fun m x => max m x.boundary) 0
    let e := max before (ceilDiv (s.now + longest) revNs * revNs)
    { s with wheel := { s.wheel with waiting := s.wheel.waiting ++
      [⟨e, changing, mapped, members, limits.map fun c => (c, limitsOf (s.cfg F_CH_LEN_LIMIT c))⟩] } }

/-- A submission ring group takes effect: head and tail are 0, and a descriptor on its way from the old ring is dropped (R127); those fetched before and not
yet admitted are kept (log 58). -/
def State.takeSq (s : State) (i : Nat) : State :=
  let s := s.updChan (i / 8) fun x => { x with stale := x.stale || x.fetching == some (i % 8) }
  s.updSq (i / 8) (i % 8) fun q => { Sq.reset with
    base := s.cfgNat F_SQ_BASE i, sizeLog2 := s.cfgNat F_SQ_SIZE i, format := s.cfgNat F_SQ_FORMAT i, errDb := q.errDb, errFetch := q.errFetch }

/-- A field of block 0x04, which describes a device's own platform (R328). -/
def platformField (f : Nat) : Bool := f / 2 ^ 24 == 4

/-- A field of the pair settings group, which applies to its own device only (R384). -/
def pairSetting (f : Nat) : Bool := f / 65536 == 0x0901

/-! ### The charger (R443, R444) -/

/-- CHG_VOLTAGE in mV. -/
def State.chgMv (s : State) : Nat := if s.cfgNat F_CHG_VOLTAGE 0 = 2 then 4200 else 4100

/-- The charger charges in this state. -/
def charging (st : Nat) : Bool := st == 1 || st == 2 || st == 3

/-- The state that the cell's measurements lead to (Table 13.9). -/
def State.nextCell (s : State) (vbat : Nat) (current : Int) (ntc : Option Int) : Nat :=
  let c := s.tamper.cell
  let st := c.state
  let full := s.chgMv
  if st = 7 ∨ 4350 < vbat then 7
  else match ntc with
    | none => 0
    | some t =>
      if vbat < 1500 ∧ ¬ charging st then 0
      else if s.cfgNat F_CHG_CURRENT 0 = 0 ∨ s.cellLess then 6
      else if t < 0 ∨ 720 < t ∨ (st = 5 ∧ (t < 32 ∨ 688 < t)) then 5
      else if vbat < 3000 then 1
      else if st = 4 then (if vbat + 100 ≤ full then 2 else 4)
      else if st = 3 then (if current < 2 ∧ c.chg then 4 else 3)
      else if full ≤ vbat then 3
      else 2

/-- The charger enters a state: timers, the learned capacity at FULL, CELL_STATE and CELL_WORN (R443, R444). -/
def State.enterCell (s : State) (st : Nat) : State :=
  let c := s.tamper.cell
  if st = c.state then s
  else
    let since := if st = 1 then some s.now else if charging st then (if c.state = 2 ∨ c.state = 3 then c.since else some s.now) else none
    let started := if charging st then (if charging c.state ∨ (c.state = 5 ∧ c.startedAt.isSome) then c.startedAt
        else if s.soc ≤ 20 then some c.remaining else none)
      else if st = 5 then c.startedAt else none
    let cap := 1000 * s.cfgNat F_CELL_CAPACITY 0
    let learned := if st = 4 ∧ c.startedAt.isSome then min cap c.remaining else c.learned
    let s := { s with tamper := { s.tamper with cell := { c with
      state := st, since := since, startedAt := started, learned := learned
      remaining := if st = 4 then learned else c.remaining, estimate := if st = 4 then 0 else c.estimate } } }
    let s := s.notify 0 0x0701 0 (st + 256 * s.soc)
    if 100 * learned < 60 * cap ∧ s.tamper.cell.worn = false then
      ({ s with tamper := { s.tamper with cell := { s.tamper.cell with worn := true } } }).notify 0 0x0702 0 (learned / 1000)
    else s

/-! ### The commit -/

/-- A commit is applied at the present revolution boundary. Entries are stored; then each group that does not wait for a later point takes
effect. `mine` is false on the partner, which only stores the fields of block 0x04 (R106, R328). -/
def State.applyCommit (s : State) (mine : Bool) (entries : KeyMap Bytes) : State :=
  let old := s
  let entries := if mine then entries else entries.filter fun e => !pairSetting (keyField e.1)
  let s := entries.foldl (fun s e =>
    if !mine && platformField (keyField e.1) then { s with pair := { s.pair with platform := KeyMap.put s.pair.platform e.1 e.2 } }
    else s.setCfg (keyField e.1) (keyInst e.1) e.2) s
  let entries := if mine then entries else entries.filter fun e => !platformField (keyField e.1)
  let binds := (touched entries bindingField id).filter fun c => (s.chan c).binding != s.storedBinding c
  -- shares: a changed map, binding or limit starts its way to E; bindings drain (R129, R179)
  let s := s.startMap old ((touched entries bindingField id).filter fun c => old.storedBinding c != s.storedBinding c)
    ((touched entries (· == F_CH_LEN_LIMIT) id).filter fun c => old.cfg F_CH_LEN_LIMIT c != s.cfg F_CH_LEN_LIMIT c)
  let s := binds.foldl (fun s c =>
    let s := if (KeyMap.find s.chans c).isSome then s else s.updChan c fun x => { x with budget := s.capPs c, lenLimit := limitsOf (old.cfg F_CH_LEN_LIMIT c) }
    s.updChan c fun x => { x with bindWait := some (x.bindWait.getD s.now) }) s
  let s := binds.foldl State.settleBinding s
  -- rings; moderation is taken over with the next record (R127, R128, R143)
  let s := (touched entries (fun f => f == F_SQ_BASE || f == F_SQ_SIZE || f == F_SQ_FORMAT) id).foldl State.takeSq s
  let cqs := touched entries (fun f => f == F_CQ_BASE || f == F_CQ_SIZE || f == F_CQ_VECTOR) (· / 8)
  let s := cqs.foldl (fun s c => s.updChan c fun x => { x with cqWait := some s.now }) s
  let s := cqs.foldl State.settleCq s
  -- stores that are laid out per channel (R206, R281, R302)
  let s := if (touched entries (· == F_KC_QUOTA) id).isEmpty then s else s.trimCache
  let s := if (touched entries (· == F_CH_HOLD_PAGES) id).isEmpty && binds.isEmpty then s
    else ({ s with cipher := { s.cipher with holdWait := some (s.cipher.holdWait.getD s.now) } }).settlePages
  let s := if (touched entries (· == F_CH_OPMEM) id).isEmpty && binds.isEmpty then s
    else ({ s with operand := { s.operand with layoutWait := some (s.operand.layoutWait.getD s.now) } }).settleLayout
  -- bus timings take effect at the next idle moment of their flash side (R341)
  let s := (touched entries (· == F_BUS_TIMING) id).foldl (fun s b =>
    if b < 2 then s.settleTiming b
    else if s.priv.busy then s else { s with priv := { s.priv with timing := s.cfg F_BUS_TIMING 2 } }) s
  -- homes (R412): only a pair hands channels over
  let s := (touched entries (· == F_CH_HOME) id).foldl (fun s c =>
    let home := s.cfgNat F_CH_HOME c
    let was := old.homed c
    let s := { s with pair := { s.pair with serving := s.pair.serving.filter (· != c), away := s.pair.away.filter (· != c) } }
    if s.pair.mode == .paired && was != s.homed c then { s with pair := { s.pair with handover := KeyMap.put s.pair.handover c home } }
    else if s.pair.mode == .solo && !s.homed c then { s with pair := { s.pair with serving := s.pair.serving ++ [c] } }
    else s) s
  -- Sentinel registers, cell (R42, R426, R444)
  let s := { s with tamper := { s.tamper with
    cellLess := s.cfgNat F_CELL_POLICY 0 == 2
    severity := (touched entries (· == F_DET_SEVERITY) id).foldl (fun m d => KeyMap.put m d (s.cfgNat F_DET_SEVERITY d)) s.tamper.severity
    cell := if (touched entries (· == F_CELL_CAPACITY) id).isEmpty then s.tamper.cell
      else { s.tamper.cell with learned := 1000 * s.cfgNat F_CELL_CAPACITY 0 } } }
  -- a new histogram configuration takes effect at its next sample (R492)
  let s := { s with recorder := { s.recorder with histNew := (s.recorder.histNew ++ touched entries (· == F_HIST_CONFIG) id).eraseDups } }
  -- the charger follows a new current or policy at once (R443)
  let s := if (touched entries (fun f => f == F_CHG_CURRENT || f == F_CELL_POLICY) id).isEmpty then s
    else s.enterCell (s.nextCell s.tamper.cell.vbat s.tamper.cell.current s.tamper.cell.ntc)
  s.cellGate

end Sys2Proof.Machine
end

