-- ==== Sys2Proof/Machine/Domain.lean ====
section
/-!
DEFINITION. Key domains (R370 to R377): the formats of roster, member card, epoch statement, activation statement and key package,
their checks, and what the domain acts make and change. The rows that ask for them are in Attest.lean; when a change takes effect is in
Mirror.lean.
-/

namespace Sys2Proof.Machine

/-! ### Signatures -/

/-- A signature of SLH-DSA-SHA2-128s, pure form, empty context (R363, R372). -/
def slhOk (pk m sig : Bytes) : Bool := slhVerify 0x131 pk 0 [] m sig

/-- A message with its signature by a key's material (R363, R372). -/
def State.signed (s : State) (material m : Bytes) : Bytes × State :=
  let (r, s) := s.draw 16
  (m ++ fit 7856 (slhSign 0x131 material 0 [] m r), s)

/-- Length of a signature of SLH-DSA-SHA2-128s. -/
abbrev idSigLen : Nat := 7856

/-- A signed message verifies under a key. -/
def signedOk (pk m : Bytes) : Bool := slhOk pk (m.take (m.length - idSigLen)) (m.drop (m.length - idSigLen))

/-! ### Rosters (R372) -/

/-- ENTRY_COUNT. -/
def rosterCount (r : Bytes) : Nat := field r 0xC 4
/-- Length of a whole roster, by its ENTRY_COUNT. -/
def rosterLen (r : Bytes) : Nat := 128 + 64 * rosterCount r + idSigLen
/-- DOMAIN_ID. -/
def rosterDomain (r : Bytes) : Bytes := slice 0x10 16 r
/-- ROSTER_SEQ. -/
def rosterSeq (r : Bytes) : Nat := field r 0x20 8
/-- MIN_FACET_SVN. -/
def rosterMinSvn (r : Bytes) : Nat := field r 0x2C 4
/-- AUTH_PK. -/
def rosterAuth (r : Bytes) : Bytes := slice 0x40 32 r
/-- Channels that a 32-byte DOMAIN_CHANNELS names, ascending. -/
def namedIn (bits : Bytes) : List Nat := (List.range 256).filter fun c => bitOf bits c
/-- Channels that the roster names. -/
def rosterChannels (r : Bytes) : List Nat := namedIn (slice 0x60 32 r)
/-- Entry `k`, 64 bytes. -/
def rosterEntry (r : Bytes) (k : Nat) : Bytes := slice (128 + 64 * k) 64 r
/-- All entries. -/
def rosterEntries (r : Bytes) : List Bytes := (List.range (rosterCount r)).map (rosterEntry r)
/-- MEMBER_INDEX of an entry. -/
def entryIndex (e : Bytes) : Nat := field e 0 2
/-- ID_KEY_DIGEST of an entry. -/
def entryDigest (e : Bytes) : Bytes := slice 0x18 32 e
/-- The roster lists a MEMBER_INDEX. -/
def rosterHas (r : Bytes) (i : Nat) : Bool := (rosterEntries r).any fun e => entryIndex e == i
/-- MEMBER_INDEX of the member with an identity digest. -/
def rosterFind (r digest : Bytes) : Option Nat := ((rosterEntries r).find? fun e => entryDigest e == digest).map entryIndex
/-- One more than the highest MEMBER_INDEX of a roster. -/
def rosterTop (r : Bytes) : Nat := (rosterEntries r).foldl (fun m e => max m (entryIndex e + 1)) 0

/-- Entries stand in ascending MEMBER_INDEX. -/
def ascending : List Bytes → Bool
  | a :: b :: rest => decide (entryIndex a < entryIndex b) && ascending (b :: rest)
  | _ => true

/-- The form of a roster (Tables 11.5, 11.6). -/
def rosterForm (r : Bytes) : Bool :=
  slice 0 8 r == ascii "JGROSTER" && byteAt r 8 == 1 && allZero (slice 9 3 r) && decide (1 ≤ rosterCount r ∧ rosterCount r ≤ 4096)
    && allZero (slice 0x38 8 r) && bitOf (slice 0x60 32 r) 0 && ascending (rosterEntries r)
    && (rosterEntries r).all fun e => decide (entryIndex e ≤ 4095) && allZero (slice 0x38 8 e)

/-- A roster's header and entries, to be signed (Table 11.5). -/
def rosterBody (s : State) (domain : Bytes) (seq epoch minSvn : Nat) (auth channels : Bytes) (entries : List Bytes) : Bytes :=
  ascii "JGROSTER" ++ u8 1 ++ zeros 3 ++ u32 entries.length ++ fit 16 domain ++ u64 seq ++ u32 epoch ++ u32 minSvn ++ u64 s.rtcSeconds
    ++ zeros 8 ++ fit 32 auth ++ fit 32 channels ++ entries.flatten

/-- A roster entry (Table 11.6). -/
def entryOf (index partner joined : Nat) (serial digest : Bytes) : Bytes :=
  u16 index ++ u16 partner ++ u32 joined ++ fit 16 serial ++ fit 32 digest ++ zeros 8

/-! ### Member cards, statements and packages (R372) -/

/-- Length of a signed member card. -/
abbrev cardLen : Nat := 1240 + idSigLen
/-- The device's member card, to be signed. -/
def State.cardBody (s : State) : Bytes := ascii "JGCARD" ++ zeros 2 ++ s.serial ++ s.idPublic ++ s.kemPublic
/-- SERIAL of a card. -/
def cardSerial (c : Bytes) : Bytes := slice 8 16 c
/-- Identity signing public key of a card. -/
def cardPk (c : Bytes) : Bytes := slice 24 32 c
/-- Domain transport key of a card. -/
def cardKem (c : Bytes) : Bytes := slice 56 1184 c
/-- SHA-256 of a card's identity signing public key. -/
def cardDigest (c : Bytes) : Bytes := sha256 (cardPk c)
/-- A card's form and its own signature. -/
def cardOk (c : Bytes) : Bool := decide (c.length = cardLen) && slice 0 8 c == ascii "JGCARD" ++ zeros 2 && signedOk (cardPk c) c

/-- KEY_DIGEST of a channel's domain key. -/
def keyDigest (domain : Bytes) (c epoch : Nat) (key : Bytes) : Bytes := sha256 (ascii "JGDK" ++ domain ++ u8 c ++ u32 epoch ++ key)

/-- An epoch statement, to be signed. -/
def statementBody (domain : Bytes) (epoch : Nat) (keys : KeyMap Bytes) : Bytes :=
  ascii "JGEPOCH" ++ zeros 1 ++ fit 16 domain ++ u32 epoch ++ u16 keys.length ++ zeros 2
    ++ keys.flatMap fun k => u8 k.1 ++ zeros 3 ++ keyDigest (fit 16 domain) k.1 epoch k.2

/-- COUNT of an epoch statement. -/
def statementCount (e : Bytes) : Nat := field e 28 2
/-- Length of a signed epoch statement, by its COUNT. -/
def statementLen (e : Bytes) : Nat := 32 + 36 * statementCount e + idSigLen
/-- EPOCH of an epoch statement. -/
def statementEpoch (e : Bytes) : Nat := field e 24 4
/-- DOMAIN_ID of an epoch statement. -/
def statementDomain (e : Bytes) : Bytes := slice 8 16 e
/-- Channels of an epoch statement with their KEY_DIGESTs, in its order. -/
def statementKeys (e : Bytes) : List (Nat × Bytes) :=
  (List.range (statementCount e)).map fun k => (byteAt e (32 + 36 * k), slice (36 + 36 * k) 32 e)

/-- An activation statement, to be signed: SHA-256 of the signed epoch statement. -/
def activationBody (domain : Bytes) (epoch : Nat) (statement : Bytes) : Bytes :=
  ascii "JGACTIVE" ++ fit 16 domain ++ u32 epoch ++ zeros 4 ++ sha256 statement

/-- The wrap key of a key package. -/
def packageKey (secret domain : Bytes) (epoch : Nat) (serial : Bytes) : Bytes :=
  kdf secret "JGDP" (fit 16 domain ++ u32 epoch ++ fit 16 serial) 64

/-- A key package for a card. -/
def State.package (s : State) (domain : Bytes) (epoch : Nat) (keys : KeyMap Bytes) (card : Bytes) : Bytes × State :=
  let (r, s) := s.draw 32
  let e := Config.mlkemEncaps (cardKem card) r
  (fit 1088 e.1 ++ plainSeal (packageKey (fit 32 e.2) domain epoch (cardSerial card)) (keys.flatMap fun k => fit 32 k.2), s)

/-- A key package opened by this device: the keys of the named channels; none where the wrap does not verify. -/
def State.openPackage (s : State) (domain : Bytes) (epoch : Nat) (channels : List Nat) (p : Bytes) : Option (KeyMap Bytes) :=
  (plainOpen (packageKey (mlkemDecaps s.kemSeed (p.take 1088) s.rng) domain epoch s.serial) (p.drop 1088)).map fun k =>
    channels.zip (blocks 32 k)

/-- Length of a key package for a number of channels. -/
def packageLen (n : Nat) : Nat := 1088 + 16 + 32 * n

/-- Every key of a package has its KEY_DIGEST in the statement, for exactly the channels named. -/
def digestsOk (statement : Bytes) (keys : KeyMap Bytes) : Bool :=
  statementKeys statement == keys.map fun k => (k.1, keyDigest (statementDomain statement) k.1 (statementEpoch statement) k.2)

/-! ### The device's own place -/

/-- SHA-256 of the device's identity signing public key. -/
def State.ownDigest (s : State) : Bytes := sha256 s.idPublic
/-- DOMAIN_ID, or 0. -/
def State.domainId (s : State) : Bytes := (s.member.map (·.id)).getD (zeros 16)
/-- EPOCH, or 0. -/
def State.domainEpoch (s : State) : Nat := (s.member.map fun d => rosterEpoch d.roster).getD 0
/-- ROSTER_SEQ, or 0. -/
def State.rosterSeqNow (s : State) : Nat := (s.member.map fun d => rosterSeq d.roster).getD 0

/-- The partner's member card with its signature, as PAIR_BIND or PAIR_ACCEPT brought it (R372, R373, R388). -/
def State.partnersCard (s : State) : Bytes := fit cardLen s.pair.card
/-- Domain keys of the named channels as the slots hold them. -/
def State.domainKeys (s : State) (channels : List Nat) : KeyMap Bytes := channels.map fun c => (c, fit 32 (s.slot c 3).material)
/-- Domain keys of a staged roll. -/
def State.stagedKeys (s : State) (channels : List Nat) : KeyMap Bytes :=
  channels.map fun c => (c, fit 32 (((KeyMap.find s.keys.staged c).map (·.material)).getD []))
/-- Fresh AES-256 keys for channels (R374, R376). -/
def State.freshKeys (s : State) : List Nat → KeyMap Bytes × State
  | [] => ([], s)
  | c :: rest =>
    let (k, s) := s.draw 32
    let r := State.freshKeys s rest
    ((c, k) :: r.1, r.2)

/-! ### What takes effect (R370, R374 to R377) -/

/-- A domain key as a staged key of its slot. -/
def domainStaged (epoch : Nat) (k : Bytes) : Staged := ⟨3, 3, epoch, fit 8 (kcvOf 3 k), fit 32 k⟩

/-- The domain state is kept, sealed in the configuration store (R370). -/
def State.setDomain (s : State) (d : Domain) : State :=
  { s with ident := { s.ident with domain := some d, domainSeal := s.sealOf d.bytes, sealFailed := false } }

/-- The keys are loaded into their empty slots with GEN_HINT = EPOCH, and the device is a member (R374, R375). -/
def State.joinDomain (s : State) (d : Domain) (keys : KeyMap Bytes) : State :=
  let epoch := rosterEpoch d.roster
  let s := keys.foldl (fun s k => (s.swapStaged k.1 3 (domainStaged epoch k.2)).2) s
  ({ s with ident := { s.ident with ticket := none } }).setDomain { d with index := (rosterFind d.roster s.ownDigest).getD 0 }

/-- The device leaves its domain: every named slot erased, the domain state and a staged roll discarded (R377, R382). -/
def State.leaveDomain (s : State) : State :=
  match s.ident.domain with
  | none => s
  | some d =>
    let named := rosterChannels d.roster
    let s := named.foldl (fun s c =>
      if (KeyMap.find s.keys.staged c).map (·.slot) = some 3 then s.unstage c else s) s
    let s := named.foldl (fun s c => if (s.slot c 3).state = 1 then s.eraseSlot c 3 else s) s
    { s with ident := { s.ident with domain := none, domainSeal := [], sealFailed := false, roll := none, prevKey := none } }

/-- A newer roster is accepted; a member that it does not list leaves (R377). -/
def State.takeRoster (s : State) (r : Bytes) : State :=
  match s.ident.domain with
  | none => s
  | some d =>
    match rosterFind r s.ownDigest with
    | none => s.leaveDomain
    | some i => s.setDomain { d with
        id := rosterDomain r, roster := r, index := i, used := max d.used (rosterTop r), authDigest := sha256 (rosterAuth r) }

/-- A roll is staged: its keys in the named slots' staging, roster and statement kept (R376). -/
def State.stageRoll (s : State) (r : Roll) (keys : KeyMap Bytes) : State :=
  let s := keys.foldl (fun s k => s.putStaged k.1 (domainStaged (rosterEpoch r.roster) k.2)) s
  { s with ident := { s.ident with roll := some r } }

/-- A staged roll is abandoned on this member: the keys of all its slots are discarded (R376). -/
def State.abandonRoll (s : State) : State :=
  match s.ident.roll with
  | none => s
  | some r =>
    let s := (rosterChannels r.roster).foldl (fun s c =>
      if (KeyMap.find s.keys.staged c).map (·.slot) = some 3 then s.unstage c else s) s
    { s with ident := { s.ident with roll := none } }

/-- The staged roll takes effect: every domain slot is swapped, and DOMAIN_EPOCH sent; the previous notice key holds for 600 s (R376, R380). A member that
the roster it accepts so does not list leaves the domain (R377). -/
def State.activateRoll (s : State) : Nat × State :=
  match s.ident.roll, s.ident.domain with
  | some r, some d =>
    let old := noticeKey (s.slot 0 3).material (rosterEpoch d.roster)
    let s := (rosterChannels r.roster).foldl (fun s c =>
      match KeyMap.find s.keys.staged c with
      | some x => if x.slot = 3 then (s.swapStaged c 3 x).2 else s
      | none => s) s
    match rosterFind r.roster s.ownDigest with
    | none => (ST_OK, s.leaveDomain)
    | some i =>
      let s := s.setDomain { d with roster := r.roster, statement := r.statement, index := i, used := max d.used (rosterTop r.roster) }
      let s := { s with ident := { s.ident with
        roll := none, prevKey := some (old, s.now + 600000000000) } }
      (ST_OK, s.notify 0 0x0501 0 (rosterEpoch r.roster))
  | _, _ => (ST_BAD_VALUE, s)

/-! ### The acts (R374 to R376) -/

/-- What refuses DOMAIN_CREATE; ST_OK where nothing does (R374). Payload: DOMAIN_CHANNELS, INITIAL_EPOCH, MIN_FACET_SVN. -/
def State.createCheck (s : State) (p : Bytes) : Nat :=
  let named := namedIn (p.take 32)
  let epoch := field p 32 4
  if s.ident.domain.isSome ∨ ¬ bitOf (p.take 32) 0 then ST_BAD_VALUE
  else if epoch = 0 ∨ (named.any fun c => (s.slot c 3).state == 1 || decide (epoch < s.recorded c 3)) then ST_BAD_VALUE
  else ST_OK

/-- SK.seed ∥ SK.prf ∥ PK.seed and the material of a new authority key. -/
def State.newAuthority (s : State) : Bytes × State :=
  let (k, s) := s.draw 48
  (k ++ slhRoot 0x131 k, s)

/-- Public form of an authority key's material. -/
def authPublic (material : Bytes) : Bytes := slice 32 32 material

/-- The authority blob under a DOMAIN key (11, "Key domains"): USAGE 0x70, MODE G, MASTERS APEX and HOSTDMA, EXPORT 0, generated inside;
WORLD is channel 0, LIFECYCLE the present one (log 55). -/
def State.authorityBlob (s : State) (key : Bytes) (epoch : Nat) (material : Bytes) : Bytes :=
  let attrs := u8 0x70 ++ u8 4 ++ u8 0x11 ++ u8 0 ++ u8 0 ++ u8 s.lifecycleBit ++ u8 0 ++ u8 2 ++ zeros 24
  sealBlob (wrapKey key s.seedMaterial 0 3 epoch) (blobHeader 2 0 3 0x131 128 epoch 1 s.freshTime (headerKcv 2 0x131 128 material)) attrs material

/-- DOMAIN_CREATE is prepared: status, output and the membership with its keys. -/
def State.makeDomain (s : State) (p : Bytes) : Nat × Bytes × Mirrored × State :=
  let bad := s.createCheck p
  if bad ≠ ST_OK then (bad, [], .nothing, s)
  else
    let epoch := field p 32 4
    let (domain, s) := s.draw 16
    let (auth, s) := s.newAuthority
    let (keys, s) := s.freshKeys (namedIn (p.take 32))
    let mine := entryOf 0 (if s.isPaired then 1 else 0xFFFF) 1 s.serial s.ownDigest
    let other := entryOf 1 0 1 (cardSerial s.partnersCard) (s.cfg F_PAIR_PARTNER 0)
    let entries := if s.isPaired then [mine, other] else [mine]
    let (roster, s) := s.signed auth (rosterBody s domain 1 epoch (field p 36 4) (authPublic auth) (p.take 32) entries)
    let (statement, s) := s.signed auth (statementBody domain epoch keys)
    let blob := s.authorityBlob (KeyMap.get keys [] 0) epoch auth
    (ST_OK, roster ++ statement ++ blob,
      .join ⟨domain, roster, statement, sha256 (authPublic auth), 0, rosterTop roster⟩ keys, s.blobMade)

/-- The authority key of a blob: status, or the material. A blob that is no authority key is ST_KEY_ATTR, another domain's ST_BAD_VALUE. -/
def State.openAuthority (s : State) (blob : Bytes) : Sum Nat KeyView :=
  match s.member, s.openFor_ 0 blob with
  | none, _ => .inl ST_BAD_VALUE
  | _, .inl e => .inl e
  | some d, .inr k =>
    if ¬ (k.usage = 0x70 ∧ k.kind = 2 ∧ k.alg = 0x131 ∧ k.slot = 3 ∧ k.owner = 0 ∧ bit k.mode 2) then .inl ST_KEY_ATTR
    else if sha256 (authPublic k.material) ≠ d.authDigest then .inl ST_BAD_VALUE
    else .inr k

/-- Length of the blob at the start of a payload. -/
def blobLenOf (p : Bytes) : Nat := (headerView (fit 48 p)).totalLen

/-- NONCE of a join report (R375). -/
def joinNonce (domain auth : Bytes) : Bytes := sha256 (ascii "JGJOIN" ++ domain ++ auth)

/-- Length of a signed attestation report. -/
abbrev reportLen : Nat := 320 + idSigLen

/-- Cards of a DOMAIN_ADMIT payload after its blob. -/
def admitCards (p : Bytes) : List Bytes :=
  let n := p.length - blobLenOf p - reportLen
  (List.range (n / cardLen)).map fun k => slice (blobLenOf p + cardLen * k) cardLen p

/-- What refuses a DOMAIN_ADMIT (R375, step 2, in its order). -/
def State.admitCheck (s : State) (p : Bytes) : Nat :=
  match s.member, s.openAuthority (p.take (blobLenOf p)) with
  | none, _ => ST_BAD_VALUE
  | _, .inl e => e
  | some d, .inr _ =>
    let cards := admitCards p
    let report := p.drop (p.length - reportLen)
    let key := cardPk (cards.headD [])
    if 1 < byteAt report 9 ∨ ¬ allZero (slice 0xA4 4 report) then ST_RESERVED
    else if ¬ (cards.all cardOk) then ST_BAD_VALUE
    else if ¬ (slice 0 8 report = ascii "JGATTEST" ∧ byteAt report 9 % 2 = 0 ∧ field report 0xA 2 = 0 ∧ signedOk key report) then ST_BAD_VALUE
    else if slice 0x20 32 report ≠ joinNonce d.id (rosterAuth d.roster) then ST_BAD_VALUE
    else if bit (field report 0xC 4) 12 then ST_BAD_VALUE
    else if field report 0x58 4 < rosterMinSvn d.roster then ST_BAD_VALUE
    else if cards.any fun c => (rosterFind d.roster (cardDigest c)).isSome then ST_BAD_VALUE
    else if 4096 < rosterCount d.roster + cards.length ∨ 4096 < d.used + cards.length then ST_BAD_VALUE
    else ST_OK

/-- Packages for cards, one after another. -/
def State.packages (s : State) (domain : Bytes) (epoch : Nat) (keys : KeyMap Bytes) : List Bytes → Bytes × State
  | [] => ([], s)
  | c :: rest =>
    let (p, s) := s.package domain epoch keys c
    let r := State.packages s domain epoch keys rest
    (p ++ r.1, r.2)

/-- DOMAIN_ADMIT is prepared: a roster with each card at the lowest index never used, and one package for each card (R375). -/
def State.makeAdmission (s : State) (p : Bytes) : Nat × Bytes × Mirrored × State :=
  let bad := s.admitCheck p
  match s.member, s.openAuthority (p.take (blobLenOf p)) with
  | some d, .inr k =>
    if bad ≠ ST_OK then (bad, [], .nothing, s)
    else
      let cards := admitCards p
      let pair := decide (cards.length = 2)
      let seq := rosterSeq d.roster + 1
      let new := (List.range cards.length).map fun j =>
        let c := cards.getD j []
        entryOf (d.used + j) (if pair then d.used + 1 - j else 0xFFFF) seq (cardSerial c) (cardDigest c)
      let epoch := rosterEpoch d.roster
      let (roster, s) := s.signed k.material (rosterBody s d.id seq epoch (rosterMinSvn d.roster) (rosterAuth d.roster)
        (slice 0x60 32 d.roster) (rosterEntries d.roster ++ new))
      let (packs, s) := s.packages d.id epoch (s.domainKeys (rosterChannels d.roster)) cards
      (ST_OK, roster ++ packs, .roster roster, s)
  | _, _ => (bad, [], .nothing, s)

/-- What refuses a DOMAIN_ROLL (R376). -/
def State.rollCheck (s : State) (p : Bytes) : Nat :=
  match s.member with
  | none => ST_BAD_VALUE
  | some d =>
    let gone := (blocks 2 (p.drop (blobLenOf p))).map leNat
    if rosterEpoch d.roster = 0xFFFFFFFF then ST_GEN_EXHAUSTED
    else if (rosterChannels d.roster).any fun c => (KeyMap.find s.keys.staged c).isSome then ST_KEY_STAGED
    else match s.openAuthority (p.take (blobLenOf p)) with
      | .inl e => e
      | .inr _ => if (rosterEntries d.roster).all fun e => gone.contains (entryIndex e) then ST_BAD_VALUE else ST_OK

/-- DOMAIN_ROLL is prepared: new keys, roster, epoch and activation statements, and the rewrapped authority blob (R376). -/
def State.makeRoll (s : State) (p : Bytes) : Nat × Bytes × Mirrored × State :=
  let bad := s.rollCheck p
  match s.member, s.openAuthority (p.take (blobLenOf p)) with
  | some d, .inr k =>
    if bad ≠ ST_OK then (bad, [], .nothing, s)
    else
      let gone := (blocks 2 (p.drop (blobLenOf p))).map leNat
      let epoch := rosterEpoch d.roster + 1
      let (keys, s) := s.freshKeys (rosterChannels d.roster)
      let (roster, s) := s.signed k.material (rosterBody s d.id (rosterSeq d.roster + 1) epoch (rosterMinSvn d.roster) (rosterAuth d.roster)
        (slice 0x60 32 d.roster) ((rosterEntries d.roster).filter fun e => !gone.contains (entryIndex e)))
      let (statement, s) := s.signed k.material (statementBody d.id epoch keys)
      let (activation, s) := s.signed k.material (activationBody d.id epoch statement)
      let key := KeyMap.get keys [] 0
      let header := blobHeader k.kind 0 3 k.alg k.bits epoch (min 0xFFFFFFFF (k.ownGen + 1)) s.freshTime k.kcv
      let blob := sealBlob (wrapKey key s.seedMaterial 0 3 epoch) header k.attrs k.material
      (genStatus epoch, roster ++ statement ++ activation ++ blob, .roll ⟨roster, statement, true⟩ keys, s.blobMade)
  | _, _ => (bad, [], .nothing, s)

/-! ### The joiner's and the members' checks (R375 to R377) -/

/-- Roster, epoch statement and package of a payload; none where their lengths do not fill it. -/
def threeParts (p : Bytes) : Option (Bytes × Bytes × Bytes) :=
  let r := p.take (rosterLen p)
  let rest := p.drop (rosterLen p)
  let e := rest.take (statementLen rest)
  let k := rest.drop (statementLen rest)
  if p.length < 128 ∨ rest.length < 32 ∨ rest.length < statementLen rest ∨ k.length ≠ packageLen (rosterChannels r).length then none
  else some (r, e, k)

/-- Both signatures, membership, epochs, unwrap and digests (R375, step 3): the status of the first failure, or the keys. -/
def State.checkPackage (s : State) (auth r e k : Bytes) : Sum Nat (KeyMap Bytes) :=
  if ¬ (signedOk auth r ∧ signedOk auth e) then .inl ST_KCV_MISMATCH
  else if ¬ rosterForm r ∨ (rosterFind r s.ownDigest).isNone ∨ statementEpoch e ≠ rosterEpoch r ∨ statementDomain e ≠ rosterDomain r then
    .inl ST_BAD_VALUE
  else match s.openPackage (rosterDomain r) (rosterEpoch r) (rosterChannels r) k with
    | none => .inl ST_BAD_VALUE
    | some keys => if digestsOk e keys then .inr keys else .inl ST_KCV_MISMATCH

/-- DOMAIN_ACCEPT: its checks, and the membership that it brings (R375, step 3). -/
def State.acceptDomain (s : State) (p : Bytes) : Nat × Mirrored :=
  match s.ident.ticket, threeParts p with
  | none, _ => (ST_NO_TXN, .nothing)
  | _, none => (ST_BAD_LENGTH, .nothing)
  | some t, some (r, e, k) =>
    if s.ident.domain.isSome ∨ sha256 (rosterAuth r) ≠ t.2.1 ∨ rosterDomain r ≠ t.1 then (ST_BAD_VALUE, .nothing)
    else match s.checkPackage (rosterAuth r) r e k with
      | .inl st => (st, .nothing)
      | .inr keys =>
        if (rosterChannels r).any fun c => (s.slot c 3).state == 1 || decide (rosterEpoch r < s.recorded c 3) then (ST_BAD_VALUE, .nothing)
        else (ST_OK, .join ⟨rosterDomain r, r, e, sha256 (rosterAuth r), 0, rosterTop r⟩ keys)

/-- DOMAIN_PACKAGE_LOAD: its checks, and the roll that it stages (R376). -/
def State.loadRoll (s : State) (p : Bytes) : Nat × Mirrored :=
  match s.member, threeParts p with
  | none, _ => (ST_BAD_VALUE, .nothing)
  | _, none => (ST_BAD_LENGTH, .nothing)
  | some d, some (r, e, k) =>
    if rosterEpoch r ≠ rosterEpoch d.roster + 1 ∨ rosterDomain r ≠ d.id then (ST_BAD_VALUE, .nothing)
    else match s.checkPackage (rosterAuth d.roster) r e k with
      | .inl st => (st, .nothing)
      | .inr keys =>
        if (rosterChannels r).any fun c => s.stagingBlocked c 3 then (ST_KEY_STAGED, .nothing)
        else (ST_OK, .roll ⟨r, e, false⟩ keys)

/-- DOMAIN_ACTIVATE: its checks (R376, R382). -/
def State.activationCheck (s : State) (p : Bytes) : Nat :=
  match s.member, s.ident.roll with
  | some d, some r =>
    if ¬ signedOk (rosterAuth d.roster) p then ST_KCV_MISMATCH
    else if slice 0 8 p ≠ ascii "JGACTIVE" ∨ slice 8 16 p ≠ d.id ∨ field p 24 4 ≠ rosterEpoch r.roster then ST_BAD_VALUE
    else if slice 32 32 p ≠ sha256 r.statement then ST_KCV_MISMATCH
    else ST_OK
  | _, _ => ST_BAD_VALUE

/-- DOMAIN_ROSTER_UPDATE: its checks, and the change (R377). A member whose domain state failed its seal takes the first roster that its own
authority key signs and whose EPOCH is the GEN of its slots (log 53). -/
def State.rosterCheck (s : State) (r : Bytes) : Nat × Mirrored :=
  let what : Mirrored := if (rosterFind r s.ownDigest).isSome then .roster r else .leave
  match s.ident.domain with
  | none => (ST_BAD_VALUE, .nothing)
  | some d =>
    if ¬ rosterForm r then (ST_BAD_VALUE, .nothing)
    else if s.ident.sealFailed then
      if ¬ signedOk (rosterAuth r) r then (ST_KCV_MISMATCH, .nothing)
      else if rosterEpoch r ≠ (s.slot 0 3).gen then (ST_BAD_VALUE, .nothing)
      else (ST_OK, what)
    else if ¬ signedOk (rosterAuth d.roster) r then (ST_KCV_MISMATCH, .nothing)
    else if rosterDomain r ≠ d.id ∨ rosterEpoch r ≠ rosterEpoch d.roster then (ST_BAD_VALUE, .nothing)
    else if rosterSeq r ≤ rosterSeq d.roster then (ST_SEQ_WINDOW, .nothing)
    else (ST_OK, what)

end Sys2Proof.Machine
end

