-- ==== Sys2Proof/Machine/Mirror.lean ====
section
/-!
DEFINITION. The way of a commit, an act or a domain request to its effect: alone at the next revolution boundary, or through the
exchange with the partner (R105, R106, R197, R328, R370, R389, R399 to R401, R403).
-/

namespace Sys2Proof.Machine

/-! ### Forms on the link (log 38) -/

/-- Keys by channel, 33 bytes each. -/
def keysBytes (keys : KeyMap Bytes) : Bytes := u32 keys.length ++ keys.flatMap fun k => u8 k.1 ++ fit 32 k.2
/-- Those keys read back. -/
def keysOf (b : Bytes) : KeyMap Bytes := (blocks 33 (slice 4 (33 * field b 0 4) b)).map fun k => (byteAt k 0, k.drop 1)

/-- A roll's or a membership's parts: keys, roster with its length, statement. -/
def partsBytes (keys : KeyMap Bytes) (roster statement : Bytes) : Bytes := keysBytes keys ++ u32 roster.length ++ roster ++ statement
/-- Those parts read back. -/
def partsOf (b : Bytes) : KeyMap Bytes × Bytes × Bytes :=
  let r := b.drop (4 + 33 * field b 0 4)
  (keysOf b, slice 4 (field r 0 4) r, r.drop (4 + field r 0 4))

/-- A mirrored change as a PREPARE frame carries it. -/
def Mirrored.bytes : Mirrored → Bytes
  | .commit es => u8 0 ++ commitEncoding es
  | .stage c k => u8 1 ++ u8 c ++ u8 k.slot ++ u16 k.alg ++ u32 k.gen ++ fit 8 k.kcv ++ k.material
  | .root op c i => u8 2 ++ u16 op ++ u8 c ++ u8 i
  | .join d keys => u8 3 ++ partsBytes keys d.roster d.statement
  | .roster r => u8 4 ++ r
  | .roll r keys => u8 5 ++ partsBytes keys r.roster r.statement
  | .activate => u8 6
  | .leave => u8 7
  | .rekey k => u8 8 ++ k
  | .bind _ _ _ _ => u8 9
  | .unbind => u8 9
  | .nothing => u8 9

/-- A mirrored change read from a PREPARE frame. -/
def mirroredOf (b : Bytes) : Mirrored :=
  let rest := b.drop 1
  match byteAt b 0 with
  | 0 => .commit (((parseEntries rest.length rest).getD []).foldl (fun m e => KeyMap.put m (cfgKey e.1 e.2.1) e.2.2.1) [])
  | 1 => .stage (byteAt b 1) ⟨byteAt b 2, field b 3 2, field b 5 4, slice 9 8 b, b.drop 17⟩
  | 2 => .root (field b 1 2) (byteAt b 3) (byteAt b 4)
  | 3 =>
    let p := partsOf rest
    .join ⟨rosterDomain p.2.1, p.2.1, p.2.2, sha256 (rosterAuth p.2.1), 0, rosterTop p.2.1⟩ p.1
  | 4 => .roster rest
  | 5 =>
    let p := partsOf rest
    .roll ⟨p.2.1, p.2.2, false⟩ p.1
  | 6 => .activate
  | 7 => .leave
  | 8 => .rekey rest
  | _ => .nothing

/-! ### Application -/

/-- ROOT_UNSTAGE; of a domain slot of a staged roll it abandons the whole roll (R196, R376). -/
def State.unstageRoot (s : State) (c i : Nat) : Nat × State :=
  let bad := s.rootCheck 0x0314 c i
  if bad ≠ ST_OK then (bad, s)
  else if i = 3 ∧ s.ident.roll.isSome then (ST_OK, s.abandonRoll)
  else (ST_OK, s.unstage c)

/-- A new LINK key: GEN rises by 1, and the sealed copy follows (R389, R390). -/
def State.rekeyLink (s : State) (k : Bytes) : Nat × State :=
  let v := s.slot 0 2
  if v.gen = 0xFFFFFFFF then (ST_GEN_EXHAUSTED, s)
  else
    let s := s.writeSlot 0 2 { v with material := fit 32 k, gen := v.gen + 1, kcv := fit 8 (kcvOf 3 (fit 32 k)) }
    (genStatus (v.gen + 1), s.rootChanged 0 2)

/-- What refuses a binding in a role (R388). -/
def State.bindCheck (s : State) (role : Nat) : Nat :=
  if s.isPaired ∨ (s.slot 0 2).state = 1 ∨ (role = 1 ∧ s.ms.gates.noVault = false) then ST_BAD_VALUE else ST_OK

/-- GEN that a LINK key takes on its load into an empty slot (R190). -/
def State.linkGen (s : State) (hint : Nat) : Nat := max (max (s.recorded 0 2) hint) 1

/-- The device is bound: LINK key with MASTERS APEX and CHORD, PAIR_PARTNER with the partner's card, and PAIR_ROLE; the first deadline runs from now (R388, R404; log 63). -/
def State.bind (s : State) (role : Nat) (card key : Bytes) (hint : Nat) : Nat × State :=
  let bad := s.bindCheck role
  if bad ≠ ST_OK then (bad, s)
  else
    let gen := s.linkGen hint
    let s := s.writeSlot 0 2 ⟨fit 32 key, 1, 5, 3, gen, fit 8 (kcvOf 3 (fit 32 key)), [], 0⟩
    let s := (s.setCfg F_PAIR_PARTNER 0 (fit 32 (cardDigest card))).setCfg F_PAIR_ROLE 0 (u8 role)
    let s := { s with pair := { s.pair with card := card, everPaired := false, fresh := false } }
    ((genStatus gen), ((s.startPair 0).rootChanged 0 2).sendHello)

/-- The device is unbound: LINK slot erased, pair settings cleared, UNPAIRED; it serves alone (Table 12.10). Exchanges under way end with
ST_MIRROR_FAIL, and a fence that it drives is released. -/
def State.unbind (s : State) : State :=
  let s := if s.pair.fenceOut then s.emit (.drive .fenceOut false) else s
  let s := s.eraseSlot 0 2
  let s := [F_PAIR_PARTNER, F_PAIR_ROLE, F_PAIR_LANE_MAP, F_PAIR_START_WAIT, F_PAIR_FAILBACK].foldl (fun s f => s.setCfg f 0 (cfgReset f 0)) s
  let s := s.setPairMode (if s.pair.fenceIn then .fenced else .unpaired)
  { s with pair := { PairState.reset with
    mode := s.pair.mode, lanes := s.pair.lanes, margins := s.pair.margins, changes := s.pair.changes, own := s.pair.own
    nextExchange := s.pair.nextExchange, mseq := s.pair.mseq, window := s.pair.window, fenceIn := s.pair.fenceIn, pcieLost := s.pair.pcieLost } }

/-- What a change does on this device; `mine` is false on the partner of its originator. -/
def State.applyMirrored (s : State) (mine : Bool) : Mirrored → Nat × State
  | .commit es => (ST_OK, s.applyCommit mine es)
  | .stage c k => if s.stagingBlocked c k.slot then (ST_KEY_STAGED, s) else (ST_OK, s.putStaged c k)
  | .root op c i =>
    if op = 0x0313 then s.swapRoot c i
    else if op = 0x0314 then s.unstageRoot c i
    else if op = 0x0315 then s.invalidateRoot c i
    else s.eraseRoot c i
  | .join d keys => if s.ident.domain.isSome then (ST_BAD_VALUE, s) else (if keys.isEmpty then ST_OK else genStatus (rosterEpoch d.roster), s.joinDomain d keys)
  | .roster r => (ST_OK, s.takeRoster r)
  | .roll r keys => if keys.any fun k => s.stagingBlocked k.1 3 then (ST_KEY_STAGED, s)
    else (if r.roller then genStatus (rosterEpoch r.roster) else ST_OK, s.stageRoll r keys)
  | .activate => s.activateRoll
  | .leave => (ST_OK, s.leaveDomain)
  | .rekey k => s.rekeyLink k
  | .bind role card key hint => s.bind role card key hint
  | .unbind => if s.isPaired then (ST_OK, s.unbind) else (ST_PAIR_DOWN, s)
  | .nothing => (ST_OK, s)

/-- The change takes effect at a revolution boundary even on a device alone (R106, R197, R375 to R377). -/
def Mirrored.atBoundary : Mirrored → Bool
  | .commit _ => true
  | .stage _ _ => false
  | .root op _ _ => op != 0x0314
  | .join _ _ => true
  | .roster _ => false
  | .roll _ _ => false
  | .activate => true
  | .leave => true
  | .rekey _ => true
  | .bind _ _ _ _ => true
  | .unbind => true
  | .nothing => false

/-- What the partner validates before READY (R399, step 1). -/
def State.validateMirrored (s : State) : Mirrored → Nat
  | .commit es => if (s.firstBad es).isSome then ST_BAD_VALUE else ST_OK
  | .stage c k => s.rootCheck 0x0312 c k.slot
  | .root op c i => s.rootCheck op c i
  | .join _ keys => if keys.any fun k => (s.slot k.1 3).state == 1 then ST_BAD_VALUE else ST_OK
  | .roster _ => if s.ident.domain.isNone then ST_BAD_VALUE else ST_OK
  | .roll _ keys => if keys.any fun k => s.stagingBlocked k.1 3 then ST_KEY_STAGED else ST_OK
  | .activate => if s.ident.roll.isNone then ST_BAD_VALUE else ST_OK
  | .leave => ST_OK
  | .rekey _ => if (s.slot 0 2).gen = 0xFFFFFFFF then ST_GEN_EXHAUSTED else ST_OK
  | .bind _ _ _ _ => ST_BAD_VALUE
  | .unbind => ST_BAD_VALUE
  | .nothing => ST_OK

/-! ### The end of a change -/

/-- A change ends with a status at a time: the CFG_COMMIT or domain request is answered, or the act ends, its output kept (R106, R373).
A commit that failed is rolled back (R105). -/
def State.finishChange (s : State) (c : Change) (status time : Nat) : State :=
  let ok := decide (status < 0x100)
  match c.what, c.request with
  | .commit _, _ =>
    let t := (s.realm c.realm).txn
    let s := if ok ∨ c.act = 0 then s.updRealm c.realm fun r => { r with txn := none } else s
    if c.act ≠ 0 then s.endAct c.realm c.act status time
    else match t.bind (·.waiting) with
      | some q => s.answer q status (if ok then u64 time else [])
      | none => s
  | _, some q => s.answer q status []
  | _, none =>
    let s := if ok ∧ c.output ≠ [] then s.setOutput c.realm c.act c.output else s
    s.endAct c.realm c.act status time

/-- The change is still wanted: its transaction waits, or its act has not ended (R107, R557). -/
def State.wanted (s : State) (c : Change) : Bool :=
  if c.act ≠ 0 then (s.act c.realm c.act).any fun a => a.state == .assembled
  else match c.what with
    | .commit _ => (s.realm c.realm).txn.any fun t => t.state == .boundary
    | _ => true

/-- A change takes effect now; MSEQ counts it (R403), and on a bound device the changes applied alone are counted (R413). -/
def State.applyChange (s : State) (mine alone : Bool) (m : Mirrored) : Nat × State :=
  let r := s.applyMirrored mine m
  -- a record entry that cannot be written leaves the old value in force (R352; log 142)
  if r.1 < 0x100 ∧ r.2.priv.recordSeq ≠ s.priv.recordSeq ∧ ¬ s.privWrites then (ST_FLASH_TIMEOUT, s)
  else if r.1 < 0x100 then
    (r.1, { r.2 with pair := { r.2.pair with mseq := r.2.pair.mseq + 1, alone := r.2.pair.alone + flag (alone && s.isPaired && r.2.isPaired) } })
  else r

/-- Opcode by which changes that meet at a boundary are ordered (R222): a commit's, or the act's or request's. -/
def State.changeOpcode (s : State) (c : Change) : Nat :=
  match c.request with
  | some q => q.opcode
  | none => ((s.act c.realm c.act).map (·.opcode)).getD 0x0204

/-- A change put in its place by opcode and realm. -/
def insertChange (x : Nat × Change) : List (Nat × Change) → List (Nat × Change)
  | [] => [x]
  | y :: ys => if x.1 < y.1 ∨ (x.1 = y.1 ∧ x.2.realm < y.2.realm) then x :: y :: ys else y :: insertChange x ys

/-- The changes that wait for this boundary are applied, in opcode order (R106, R197, R222). -/
def State.applyWaiting (s : State) : State :=
  let due := (s.pair.changes.map fun c => (s.changeOpcode c, c)).foldl (fun l x => insertChange x l) []
  let s := { s with pair := { s.pair with changes := [] } }
  due.foldl (fun s x =>
    if s.wanted x.2 then
      let r := s.applyChange true true x.2.what
      let t := r.2.finishChange x.2 r.1 s.now
      if x.2.what = .unbind then
        t.pair.own.foldl (fun t e => t.finishChange e.2.change ST_MIRROR_FAIL s.now) { t with pair := { t.pair with own := [] } }
      else t
    else s) s

/-! ### The start of a change -/

/-- Body of a frame of type 0x06: kind 1 PREPARE, 2 READY, 3 COMMIT, 4 COMMIT_ACK, 5 NACK, 6 ABORT, 7 RESOLVE; exchange number (Table 12.4; log 38). -/
def exchangeBody (kind number : Nat) (rest : Bytes) : Bytes := u8 kind ++ u64 number ++ rest

/-- PREPARE is sent for an exchange of this device; its 5 ms start (R105, R399, R401). -/
def State.prepare (s : State) (n : Nat) (e : Exchange) : State :=
  let s := { s with pair := { s.pair with own := KeyMap.put s.pair.own n { e with phase := .prepared, limit := s.now + 5000000 } } }
  s.sendFrame 0x06 (exchangeBody 1 n (u16 e.change.realm ++ u32 e.change.act ++ e.change.what.bytes))

/-- A change starts: through the exchange in a pair, waiting while heartbeats are missed or the pair is being brought together (log 60);
refused in FENCED; alone otherwise (R105, R399, R401, Table 6.20). -/
def State.submit (s : State) (c : Change) : State :=
  let ownOnly : Bool := match c.what with
    | .commit es => es.all fun e => pairSetting (keyField e.1)
    | _ => false
  if s.pair.mode = .fenced then s.finishChange c ST_FENCED s.now
  else if !ownOnly && (s.pair.mode == .paired || s.pair.mode == .linkLost || s.pair.mode == .syncing) then
    let n := s.pair.nextExchange
    let e : Exchange := ⟨.waiting, c, 0, 0⟩
    let s := { s with pair := { s.pair with nextExchange := n + 1, own := KeyMap.put s.pair.own n e } }
    if s.pair.mode = .paired then s.prepare n e else s
  else if c.what.atBoundary then { s with pair := { s.pair with changes := s.pair.changes ++ [c] } }
  else
    let r := s.applyChange true true c.what
    r.2.finishChange c r.1 s.now

end Sys2Proof.Machine
end

