-- ==== Sys2Proof/Machine/Attest.lean ====
section
/-!
DEFINITION. Certificate slots, measurements, the attestation report and the SPDM subset (R364 to R369). The layouts of SPDM messages
and the strings under SPDM signatures are those of DSP0274, PRESUMED (log 51).
-/

namespace Sys2Proof.Machine

/-! ### Certificate slots (R364, R365) -/

/-- Longest chain of a slot. -/
def chainMax : Nat := 16384

/-- Chain of a slot, empty where there is none. -/
def State.chain (s : State) (i : Nat) : Bytes := KeyMap.get s.ident.certs [] i

/-- What ID_CERT_WRITE checks (R364, R365). -/
def State.chainOk (s : State) (c : Bytes) : Bool :=
  decide (c.length ≤ chainMax) && Config.certLeafKey c == some s.spdmPublic &&
  match Config.certBinding Config.enterprise c with
  | some v => v == beBytes 2 0x0131 ++ s.idPublic
  | none => true

/-- ID_CERT_READ: a part of a chain; an offset beyond its end is ST_BAD_VALUE (log 35). -/
def execIdCertRead (p : Port) (s : State) : Host.Outcome State Fault Refusal :=
  runOn s fun s => serve s p 0x0501 fun s q =>
    let b := q.payload
    if b.length ≠ 5 then s.answer q ST_BAD_LENGTH []
    else if 7 < byteAt b 0 ∨ 4000 < field b 3 2 ∨ (s.chain (byteAt b 0)).length < field b 1 2 then s.answer q ST_BAD_VALUE []
    else s.answer q ST_OK (slice (field b 1 2) (field b 3 2) (s.chain (byteAt b 0)))

/-- ID_CERT_WRITE (R364, R365). -/
def execIdCertWrite (p : Port) (s : State) : Host.Outcome State Fault Refusal :=
  runOn s fun s => serve s p 0x0502 fun s q =>
    if q.payload.isEmpty then s.answer q ST_BAD_LENGTH []
    else if ¬ (1 ≤ byteAt q.payload 0 ∧ byteAt q.payload 0 ≤ 7 ∧ s.chainOk (q.payload.drop 1)) then s.answer q ST_BAD_VALUE []
    else s.requestDevice q 0x0B

/-- What an ID_CERT_WRITE act does: status and state. -/
def State.writeChain (s : State) (p : Bytes) : Nat × State :=
  if s.chainOk (p.drop 1) then
    (ST_OK, { s with ident := { s.ident with certs := KeyMap.put s.ident.certs (byteAt p 0) (p.drop 1) } })
  else (ST_BAD_VALUE, s)

/-! ### Measurements (R368) -/

/-- An image of KIND as it runs: header, code and signature; none while none runs. -/
def State.runningImage (s : State) (kind : Nat) : Option Bytes := KeyMap.find s.fw.images kind

/-- SVN of the running image of KIND, 0 while none runs. -/
def State.runningSvn (s : State) (kind : Nat) : Nat := ((s.runningImage kind).map fun b => field b 0xC 4).getD 0

/-- SHA-384 of a value that may be absent: then zero bytes (R368). -/
def digestOr (b : Option Bytes) : Bytes := (b.map sha384).getD (zeros 48)

/-- SECTOR_MAP in force (R155). -/
def State.mapBytes (s : State) : Bytes := (List.range revSectors).flatMap fun i => u8 (s.sectorOwner i)

/-- DMTF type and value of a measurement block (Table 11.3). -/
def State.measurement (s : State) (i : Nat) : Nat × Bytes :=
  if i = 1 then (0x00, fit 48 Config.bootRomDigest)
  else if i = 2 then (0x01, digestOr (s.runningImage 1))
  else if i = 3 then (0x01, digestOr (s.runningImage 2))
  else if i = 4 then (0x87, u32 (s.runningSvn 1) ++ u32 (s.runningSvn 2))
  else if i = 5 then (0x86, u8 3 ++ u8 1 ++ zeros 2)
  else if i = 6 then (0x01, digestOr s.busA.gateManifest)
  else if i = 7 then (0x01, digestOr s.busB.gateManifest)
  else if i = 8 then (0x83, u8 s.busA.plat ++ u8 s.busB.plat ++ u8 (flag s.busA.dirty + 2 * flag s.busB.dirty) ++ u8 0
    ++ u32 (KeyMap.get s.priv.svn 0 0) ++ u32 (KeyMap.get s.priv.svn 0 1))
  else if i = 9 then (0x02, sha384 s.mapBytes)
  else if i = 10 then (0x83, u32 s.modeWord ++ u8 s.lifecycleCode ++ u8 (flag s.isOwned) ++ u8 (flag s.jtag.flag) ++ u8 0
    ++ u16 s.evidence ++ u8 s.tamper.alarmSev ++ u8 s.pair.mode.code)
  else (0x83, s.domainId ++ u32 s.domainEpoch ++ u64 s.rosterSeqNow)

/-- A measurement block as GET_MEASUREMENTS encodes it (DSP0274): index, specification, size, type, size, value. -/
def State.block (s : State) (i : Nat) : Bytes :=
  let m := s.measurement i
  u8 i ++ u8 1 ++ u16 (m.2.length + 3) ++ u8 m.1 ++ u16 m.2.length ++ m.2

/-- Indices of the measurement blocks. -/
def blockIndices : List Nat := (List.range 11).map (· + 1)

/-! ### The attestation report (R369, Table 11.4) -/

/-- The 320 bytes of a report on a realm. -/
def State.report (s : State) (realm : Nat) (nonce : Bytes) : Bytes :=
  let transport := match (s.realm realm).transport with
    | some t => sha256 t.2
    | none => zeros 32
  let slots := (List.range 4).flatMap fun i =>
    let v := s.slot realm i
    u8 v.state ++ u8 (slotKind realm i) ++ u16 v.alg ++ u32 v.gen ++ fit 8 v.kcv
  ascii "JGATTEST" ++ u8 1 ++ u8 (flag (!s.ident.keys)) ++ u16 realm ++ u32 s.modeWord ++ s.serial ++ fit 32 nonce ++ u64 s.now ++ u64 s.rtcSeconds
    ++ u8 3 ++ u8 1 ++ zeros 2 ++ u32 (s.runningSvn 1) ++ u32 (s.runningSvn 2) ++ u16 s.evidence ++ u8 s.tamper.alarmSev ++ u8 s.pair.mode.code
    ++ sha384 (blockIndices.flatMap s.block) ++ s.domainId ++ u32 s.domainEpoch ++ zeros 4 ++ u64 s.rosterSeqNow ++ transport
    ++ (if realm = 0 then zeros 48 else fit 16 (s.chSectors realm) ++ sha256 (s.chLat realm)) ++ slots

/-- A message to be signed with the identity signing key, as the answer to a request (R363). -/
def State.signAnswer (s : State) (q : Request) (body : Bytes) : State :=
  match s.enqueue ⟨1, some q, (0, 0), body, [], signatureWork, signatureWork⟩ with
  | some s => s
  | none => s.answer q ST_ADMIN_BUSY []

/-- ATTEST_REPORT (R362, R369). -/
def execAttestReport (p : Port) (s : State) : Host.Outcome State Fault Refusal :=
  runOn s fun s => serve s p 0x0503 fun s q =>
    if q.payload.length ≠ 32 then s.answer q ST_BAD_LENGTH []
    else if s.ident.keys then s.signAnswer q (s.report q.realm q.payload)
    else s.answer q ST_OK (s.report q.realm q.payload)

/-! ### SPDM (R366, R367) -/

/-- Version of a connection: the one of its GET_CAPABILITIES, 1.0 before it. -/
def SpdmConn.version (c : SpdmConn) : Nat := if c.stage < 2 then 0x10 else byteAt c.vca 14

/-- An SPDM ERROR. -/
def spdmError (version code data : Nat) : Bytes := u8 version ++ u8 0x7F ++ u8 code ++ u8 data

/-- One SPDM request answered on its session's connection, with the connection that it leaves. -/
def State.spdmReply (s : State) (q : Request) (c : SpdmConn) (r : Bytes) : State :=
  (s.updSession q.session fun x => { x with spdm := c }).answer q ST_OK r

/-- The SPDM request in flight whose code is one of the given. -/
def serveSpdm (s : State) (p : Port) (codes : Nat → Bool) (f : State → Request → SpdmConn → State) : State :=
  match (s.mbox p).inFlight.find? fun q => q.opcode == 0x0504 && q.port == p && codes (byteAt q.payload 1) with
  | none => s
  | some q =>
    let s := s.take p q
    match s.session q.session with
    | none => s.answer q ST_NO_SESSION []
    | some x => f s q x.spdm

/-- The checks that every request after GET_VERSION shares: identity keys (R362), the connection's stage and version, the length. -/
def State.spdmGuard (s : State) (q : Request) (c : SpdmConn) (stage : Nat) (lenOk : Bool) (f : State) : State :=
  let v := byteAt q.payload 0
  if s.ident.keys = false then s.spdmReply q c (spdmError c.version 0x05 0)
  else if v ≠ 0x12 ∧ v ≠ 0x13 ∨ (2 ≤ c.stage ∧ v ≠ c.version) then s.spdmReply q c (spdmError c.version 0x41 0)
  else if c.stage < stage then s.spdmReply q c (spdmError v 0x04 0)
  else if lenOk = false then s.spdmReply q c (spdmError v 0x01 0)
  else f

/-- GET_VERSION: versions 1.2 and 1.3; whatever its answer, the connection's state before it is discarded (R366). It is answered without identity keys
too (R362). -/
def execSpdmGetVersion (p : Port) (s : State) : Host.Outcome State Fault Refusal :=
  runOn s fun s => serveSpdm s p (· == 0x84) fun s q _ =>
    if q.payload.length ≠ 4 then s.spdmReply q SpdmConn.reset (spdmError 0x10 0x01 0)
    else if byteAt q.payload 0 ≠ 0x10 then s.spdmReply q SpdmConn.reset (spdmError 0x10 0x41 0)
    else
      let r := u8 0x10 ++ u8 0x04 ++ zeros 2 ++ u8 0 ++ u8 2 ++ u16 0x1200 ++ u16 0x1300
      s.spdmReply q ⟨1, q.payload ++ r, [], []⟩ r

/-- GET_CAPABILITIES (Table 11.2): CERT, CHAL, MEAS with signature, MEAS_FRESH; CTExponent 20; 4,032 bytes. -/
def execSpdmGetCapabilities (p : Port) (s : State) : Host.Outcome State Fault Refusal :=
  runOn s fun s => serveSpdm s p (· == 0xE1) fun s q c =>
    s.spdmGuard q c 1 (q.payload.length == 20)
      (if c.stage = 1 then
        let r := u8 (byteAt q.payload 0) ++ u8 0x61 ++ zeros 2 ++ u8 0 ++ u8 20 ++ zeros 2 ++ u32 0x36 ++ u32 4032 ++ u32 4032
        s.spdmReply q { c with stage := 2, vca := c.vca ++ q.payload ++ r } r
      else s.spdmReply q c (spdmError c.version 0x04 0))

/-- NEGOTIATE_ALGORITHMS (Table 11.2): ECDSA P-384, SHA-384, DMTF measurements. -/
def execSpdmNegotiateAlgorithms (p : Port) (s : State) : Host.Outcome State Fault Refusal :=
  runOn s fun s => serveSpdm s p (· == 0xE3) fun s q c =>
    let b := q.payload
    s.spdmGuard q c 2 (decide (32 ≤ b.length) && field b 4 2 == b.length)
      (if c.stage = 2 then
        let asym := if bit (field b 8 4) 7 then 0x80 else 0
        let hash := if bit (field b 12 4) 1 then 0x02 else 0
        let meas := byteAt b 6 % 2
        let r := u8 (byteAt b 0) ++ u8 0x63 ++ zeros 2 ++ u16 36 ++ u8 meas ++ u8 0 ++ u32 (if meas = 1 then 0x04 else 0) ++ u32 asym ++ u32 hash
          ++ zeros 16
        s.spdmReply q { c with stage := if asym ≠ 0 ∧ hash ≠ 0 then 3 else 2, vca := c.vca ++ b ++ r } r
      else s.spdmReply q c (spdmError c.version 0x04 0))

/-- Length of the first DER element of a chain. -/
def derFirst (c : Bytes) : Nat :=
  if byteAt c 1 < 0x80 then 2 + byteAt c 1
  else if byteAt c 1 = 0x81 then 3 + byteAt c 2
  else if byteAt c 1 = 0x82 then 4 + beNat (slice 2 2 c)
  else 5 + beNat (slice 2 3 c)

/-- A slot's chain in the form of SPDM: length, reserved, digest of the root certificate, certificates. -/
def State.spdmChain (s : State) (i : Nat) : Bytes :=
  let c := s.chain i
  u16 (52 + c.length) ++ zeros 2 ++ sha384 (c.take (derFirst c)) ++ c

/-- Non-empty certificate slots. -/
def State.slotsPresent (s : State) : List Nat := (List.range 8).filter fun i => !(s.chain i).isEmpty
/-- The same as a bit mask. -/
def State.slotMask (s : State) : Nat := s.slotsPresent.foldl (fun m i => m + 2 ^ i) 0

/-- GET_DIGESTS: the digests of the non-empty slots (R367). -/
def execSpdmGetDigests (p : Port) (s : State) : Host.Outcome State Fault Refusal :=
  runOn s fun s => serveSpdm s p (· == 0x81) fun s q c =>
    s.spdmGuard q c 3 (q.payload.length == 4)
      (let v := byteAt q.payload 0
       let r := u8 v ++ u8 0x01 ++ u8 (if v = 0x13 then 0xFF else 0) ++ u8 s.slotMask ++ s.slotsPresent.flatMap fun i => sha384 (s.spdmChain i)
       s.spdmReply q { c with transcript := c.transcript ++ q.payload ++ r, measured := [] } r)

/-- GET_CERTIFICATE: a portion of a slot's chain. -/
def execSpdmGetCertificate (p : Port) (s : State) : Host.Outcome State Fault Refusal :=
  runOn s fun s => serveSpdm s p (· == 0x82) fun s q c =>
    let b := q.payload
    let i := byteAt b 2 % 16
    let chain := s.spdmChain i
    let off := field b 4 2
    s.spdmGuard q c 3 (b.length == 8 && s.slotsPresent.contains i && decide (off < chain.length))
      (let n := min (min (field b 6 2) 4024) (chain.length - off)
       let r := u8 (byteAt b 0) ++ u8 0x02 ++ u8 i ++ u8 0 ++ u16 n ++ u16 (chain.length - off - n) ++ slice off n chain
       s.spdmReply q { c with transcript := c.transcript ++ b ++ r, measured := [] } r)

/-- The string under an SPDM signature of 1.2 and later: prefix, context, digest of the transcript. -/
def spdmSigned (version : Nat) (context : String) (transcript : Bytes) : Bytes :=
  let one := ascii (if version = 0x13 then "dmtf-spdm-v1.3.*" else "dmtf-spdm-v1.2.*")
  let c := ascii context
  one ++ one ++ one ++ one ++ zeros (36 - c.length) ++ c ++ sha384 transcript

/-- A signature with the SPDM key (Table 11.1): ECDSA P-384 over SHA-384. -/
def State.spdmSign (s : State) (m : Bytes) : Bytes × State :=
  (ecdsaSign 384 s.spdmScalar (sha384 m) s.rng, s.skipDraws (ecdsaDraws 384))

/-- CHALLENGE: the chain's digest, a nonce, the measurement summary and a signature over the connection so far. -/
def execSpdmChallenge (p : Port) (s : State) : Host.Outcome State Fault Refusal :=
  runOn s fun s => serveSpdm s p (· == 0x83) fun s q c =>
    let b := q.payload
    let v := byteAt b 0
    let i := byteAt b 2
    let kind := byteAt b 3
    s.spdmGuard q c 3 (b.length == (if v = 0x13 then 44 else 36) && s.slotsPresent.contains i && (kind == 0 || kind == 1 || kind == 0xFF))
      (let (nonce, s) := s.draw 32
       let blocks := blockIndices.filter fun k => kind == 0xFF || Config.inTcb k
       let r := u8 v ++ u8 0x03 ++ u8 i ++ u8 (2 ^ i) ++ sha384 (s.spdmChain i) ++ nonce
         ++ (if kind = 0 then [] else sha384 (blocks.flatMap s.block)) ++ u16 0 ++ (if v = 0x13 then slice 36 8 b else [])
       let (sig, s) := s.spdmSign (spdmSigned v "responder-challenge_auth signing" (c.vca ++ c.transcript ++ b ++ r))
       s.spdmReply q { c with transcript := [], measured := [] } (r ++ sig))

/-- GET_MEASUREMENTS: the number of blocks, one block or all, signed on request (R368). -/
def execSpdmGetMeasurements (p : Port) (s : State) : Host.Outcome State Fault Refusal :=
  runOn s fun s => serveSpdm s p (· == 0xE0) fun s q c =>
    let b := q.payload
    let v := byteAt b 0
    let sign := bit (byteAt b 2) 0
    let op := byteAt b 3
    let ctx := if v = 0x13 then 8 else 0
    let slot := byteAt b 36 % 16
    s.spdmGuard q c 3 (b.length == 4 + (if sign then 33 else 0) + ctx && (decide (op ≤ 11) || op == 0xFF) && (!sign || s.slotsPresent.contains slot))
      (let (nonce, s) := s.draw 32
       let record := if op = 0 then [] else if op = 0xFF then blockIndices.flatMap s.block else s.block op
       let r := u8 v ++ u8 0x60 ++ u8 (if op = 0 then 11 else 0) ++ u8 (if sign then slot else 0)
         ++ u8 (if op = 0 then 0 else if op = 0xFF then 11 else 1) ++ leBytes 3 record.length ++ record ++ nonce ++ u16 0 ++ b.drop (b.length - ctx)
       if sign then
         let (sig, s) := s.spdmSign (spdmSigned v "responder-measurements signing" (c.vca ++ c.measured ++ b ++ r))
         s.spdmReply q { c with measured := [] } (r ++ sig)
       else s.spdmReply q { c with measured := c.measured ++ b ++ r } r)

/-- Codes of the requests that the device supports (Table 11.2). -/
def spdmKnown (code : Nat) : Bool :=
  code == 0x81 || code == 0x82 || code == 0x83 || code == 0x84 || code == 0xE0 || code == 0xE1 || code == 0xE3

/-- Any other request is answered with UnsupportedRequest (R367), and with Unspecified without identity keys (R362). -/
def execSpdmUnsupportedRequest (p : Port) (s : State) : Host.Outcome State Fault Refusal :=
  runOn s fun s => serveSpdm s p (fun code => !spdmKnown code) fun s q c =>
    if s.ident.keys then s.spdmReply q c (spdmError c.version 0x07 (byteAt q.payload 1))
    else s.spdmReply q c (spdmError c.version 0x05 0)

end Sys2Proof.Machine
end

