-- ==== Sys2Proof/Machine/DomainRows.lean ====
section
/-!
DEFINITION. The opcodes of group 0x05 about key domains, and the ends in time that belong to them (R370 to R381, Table 11.7).
-/

namespace Sys2Proof.Machine

/-- Notice counters: accepted, then dropped by reason (R380). -/
def State.noticeCounters (s : State) : Bytes := (List.range 5).flatMap fun i => u32 (KeyMap.get s.ident.counters 0 i)

/-- DOMAIN_STATUS (Table 11.7, R556). -/
def execDomainStatus (p : Port) (s : State) : Host.Outcome State Fault Refusal :=
  runOn s fun s => serve s p 0x0510 fun s q => noPayload s q fun s =>
    s.answer q ST_OK (s.domainId ++ u32 s.domainEpoch ++ u64 s.rosterSeqNow ++ u16 ((s.member.map (·.index)).getD 0)
      ++ u32 ((s.ident.roll.map fun r => rosterEpoch r.roster).getD 0) ++ s.noticeCounters)

/-- DOMAIN_CARD: the answer follows when Apex has signed the card (R363, R373). -/
def execDomainCard (p : Port) (s : State) : Host.Outcome State Fault Refusal :=
  runOn s fun s => serve s p 0x0511 fun s q => noPayload s q fun s => s.signAnswer q s.cardBody

/-- DOMAIN_CREATE (R374): its checks at the request and again when the act is carried out (log 44). -/
def execDomainCreate (p : Port) (s : State) : Host.Outcome State Fault Refusal :=
  runOn s fun s => serve s p 0x0512 fun s q =>
    if q.payload.length ≠ 40 then s.answer q ST_BAD_LENGTH []
    else if s.createCheck q.payload ≠ ST_OK then s.answer q (s.createCheck q.payload) []
    else s.requestDevice q 0x0A

/-- DOMAIN_JOIN_REQUEST (R375, step 1). -/
def execDomainJoinRequest (p : Port) (s : State) : Host.Outcome State Fault Refusal :=
  runOn s fun s => serve s p 0x0513 fun s q =>
    if q.payload.length ≠ 48 then s.answer q ST_BAD_LENGTH [] else s.requestDevice q 0x0A

/-- What a DOMAIN_JOIN_REQUEST act makes: the ticket, and as output the cards and the join report (R375). -/
def State.openTicket (s : State) (p : Bytes) : Bytes × State :=
  let domain := p.take 16
  let auth := slice 16 32 p
  let (card, s) := s.signed s.idMaterial s.cardBody
  let (report, s) := s.signed s.idMaterial (s.report 0 (joinNonce domain auth))
  let s := { s with ident := { s.ident with ticket := some (domain, sha256 auth, s.now + 3600000000000) } }
  (card ++ (if s.isPaired then s.partnersCard else []) ++ report, s)

/-- DOMAIN_ADMIT (R375, step 2): checked at the request and again when the act is carried out (log 44). -/
def execDomainAdmit (p : Port) (s : State) : Host.Outcome State Fault Refusal :=
  runOn s fun s => serve s p 0x0514 fun s q =>
    let n := q.payload.length
    let base := blobLenOf q.payload + reportLen
    if n < 48 ∨ ¬ (n = base + cardLen ∨ n = base + 2 * cardLen) then s.answer q ST_BAD_LENGTH []
    else if s.admitCheck q.payload ≠ ST_OK then s.answer q (s.admitCheck q.payload) []
    else s.requestDevice q 0x0A

/-- A domain request with its checks' status and the change that it asks for. -/
def State.domainChange (s : State) (q : Request) (r : Nat × Mirrored) : State :=
  if r.1 ≠ ST_OK then s.answer q r.1 [] else s.submit ⟨q.realm, 0, some q, [], r.2⟩

/-- DOMAIN_ACCEPT (R375, step 3). -/
def execDomainAccept (p : Port) (s : State) : Host.Outcome State Fault Refusal :=
  runOn s fun s => serve s p 0x0515 fun s q => s.domainChange q (s.acceptDomain q.payload)

/-- DOMAIN_ROSTER_UPDATE (R377). -/
def execDomainRosterUpdate (p : Port) (s : State) : Host.Outcome State Fault Refusal :=
  runOn s fun s => serve s p 0x0516 fun s q =>
    if q.payload.length < 128 ∨ q.payload.length ≠ rosterLen q.payload then s.answer q ST_BAD_LENGTH []
    else s.domainChange q (s.rosterCheck q.payload)

/-- DOMAIN_ROLL (R376): checked at the request and again when the act is carried out (log 44). -/
def execDomainRoll (p : Port) (s : State) : Host.Outcome State Fault Refusal :=
  runOn s fun s => serve s p 0x0517 fun s q =>
    let rest := q.payload.length - blobLenOf q.payload
    if q.payload.length < 48 ∨ q.payload.length < blobLenOf q.payload ∨ rest % 2 ≠ 0 ∨ 8190 < rest then s.answer q ST_BAD_LENGTH []
    else if s.rollCheck q.payload ≠ ST_OK then s.answer q (s.rollCheck q.payload) []
    else s.requestDevice q 0x0A

/-- DOMAIN_PACKAGE_FETCH: while this member is the roller of a staged roll, for a card that the new roster lists (R376). -/
def execDomainPackageFetch (p : Port) (s : State) : Host.Outcome State Fault Refusal :=
  runOn s fun s => serve s p 0x0518 fun s q =>
    if q.payload.length ≠ cardLen then s.answer q ST_BAD_LENGTH []
    else match s.member, s.ident.roll with
      | some d, some r =>
        if r.roller = false ∨ cardOk q.payload = false ∨ (rosterFind r.roster (cardDigest q.payload)).isNone then s.answer q ST_BAD_VALUE []
        else
          let (k, s) := s.package d.id (rosterEpoch r.roster) (s.stagedKeys (rosterChannels r.roster)) q.payload
          s.answer q ST_OK k
      | _, _ => s.answer q ST_BAD_VALUE []

/-- DOMAIN_PACKAGE_LOAD (R376). -/
def execDomainPackageLoad (p : Port) (s : State) : Host.Outcome State Fault Refusal :=
  runOn s fun s => serve s p 0x0519 fun s q => s.domainChange q (s.loadRoll q.payload)

/-- DOMAIN_ACTIVATE (R376). -/
def execDomainActivate (p : Port) (s : State) : Host.Outcome State Fault Refusal :=
  runOn s fun s => serve s p 0x051A fun s q =>
    if q.payload.length ≠ 64 + idSigLen then s.answer q ST_BAD_LENGTH []
    else s.domainChange q (s.activationCheck q.payload, .activate)

/-- DOMAIN_LEAVE (R377); a device that is no member has nothing to leave: ST_BAD_VALUE (log 56). -/
def execDomainLeave (p : Port) (s : State) : Host.Outcome State Fault Refusal :=
  runOn s fun s => serve s p 0x051B fun s q => noPayload s q fun s =>
    if s.ident.domain.isNone then s.answer q ST_BAD_VALUE [] else s.requestDevice q 0x0A

/-- DOMAIN_REPORT: the classes that a host reports, about a listed member (R379, Table 11.10; log 56). -/
def execDomainReport (p : Port) (s : State) : Host.Outcome State Fault Refusal :=
  runOn s fun s => serve s p 0x051C fun s q =>
    let subject := field q.payload 0 2
    let cls := byteAt q.payload 2
    if q.payload.length ≠ 7 then s.answer q ST_BAD_LENGTH []
    else match s.member with
      | none => s.answer q ST_BAD_VALUE []
      | some d =>
        if ¬ (cls = 1 ∨ cls = 4 ∨ cls = 5) ∨ rosterHas d.roster subject = false then s.answer q ST_BAD_VALUE []
        else (s.issueNotice subject cls (field q.payload 3 4)).answer q ST_OK []

/-- DOMAIN_NOTICE_FETCH: outgoing notices, oldest first, leave the queue (R379). -/
def execDomainNoticeFetch (p : Port) (s : State) : Host.Outcome State Fault Refusal :=
  runOn s fun s => serve s p 0x051D fun s q =>
    let n := leNat q.payload
    if q.payload.length ≠ 4 then s.answer q ST_BAD_LENGTH []
    else if n = 0 ∨ 63 < n then s.answer q ST_BAD_VALUE []
    else
      let got := s.ident.outgoing.take n
      ({ s with ident := { s.ident with outgoing := s.ident.outgoing.drop n } }).answer q ST_OK got.flatten

/-- Keys under which a notice's MAC may verify: the current epoch's while channel 0 holds its DOMAIN key (R378), the staged one's, the previous one's for
600 s (R380). -/
def State.noticeKeys (s : State) : List Bytes :=
  match s.member with
  | none => []
  | some d =>
    (if (s.slot 0 3).state = 1 then [noticeKey (s.slot 0 3).material (rosterEpoch d.roster)] else [])
      ++ (match s.ident.roll, KeyMap.find s.keys.staged 0 with
          | some r, some k => [noticeKey k.material (rosterEpoch r.roster)]
          | _, _ => [])
      ++ (match s.ident.prevKey with
          | some k => if s.now ≤ k.2 then [k.1] else []
          | none => [])

/-- Why an incoming notice is dropped, 0 where it is accepted: 1 MAC, 2 roster, 3 clock, 4 SEQ (R380). -/
def State.noticeFault (s : State) (n : Bytes) : Nat :=
  let rtc := field n 0x18 8
  let listed (i : Nat) : Bool := s.member.any fun d => rosterHas d.roster i
  if s.noticeKeys.all fun k => (hmac k (n.take 48)).take 16 != slice 0x30 16 n then 1
  else if ¬ (listed (field n 6 2) ∧ listed (field n 8 2)) then 2
  else if s.rtcSeconds + 600 < rtc ∨ rtc + 600 < s.rtcSeconds then 3
  else if field n 0x10 8 ≤ KeyMap.get s.ident.lastSeq 0 (field n 6 2) then 4
  else 0

/-- One incoming notice: accepted into the coalescing table, or counted as dropped (R380, R381). -/
def State.takeNotice (s : State) (n : Bytes) : State :=
  let f := s.noticeFault n
  let s := { s with ident := { s.ident with counters := KeyMap.put s.ident.counters f (KeyMap.get s.ident.counters 0 f + 1) } }
  if f ≠ 0 then s
  else
    ({ s with ident := { s.ident with lastSeq := KeyMap.put s.ident.lastSeq (field n 6 2) (field n 0x10 8) } }).coalesce
      (field n 6 2) (field n 8 2) (byteAt n 4) (field n 0x20 4)

/-- Reserved bytes of a notice are 0 (Table 11.9). -/
def noticeClean (n : Bytes) : Bool := byteAt n 5 == 0 && allZero (slice 0xA 2 n) && allZero (slice 0x24 12 n)

/-- DOMAIN_NOTICE_IN (R380): counts accepted and dropped, by reason, of this request; a reserved byte in any notice refuses it (R12). -/
def execDomainNoticeIn (p : Port) (s : State) : Host.Outcome State Fault Refusal :=
  runOn s fun s => serve s p 0x051E fun s q =>
    let n := q.payload.length / 64
    if q.payload.length % 64 ≠ 0 then s.answer q ST_BAD_LENGTH []
    else if n = 0 ∨ 63 < n then s.answer q ST_BAD_VALUE []
    else if ¬ (blocks 64 q.payload).all noticeClean then s.answer q ST_RESERVED []
    else
      let t := (blocks 64 q.payload).foldl State.takeNotice s
      t.answer q ST_OK ((List.range 5).flatMap fun i => u32 (KeyMap.get t.ident.counters 0 i - KeyMap.get s.ident.counters 0 i))

/-- DOMAIN_FAULTS: fault summaries of the ring, oldest first; reading removes none (R381; log 56). -/
def execDomainFaults (p : Port) (s : State) : Host.Outcome State Fault Refusal :=
  runOn s fun s => serve s p 0x051F fun s q =>
    let n := leNat q.payload
    if q.payload.length ≠ 4 then s.answer q ST_BAD_LENGTH []
    else if n = 0 ∨ 64 < n then s.answer q ST_BAD_VALUE []
    else s.answer q ST_OK (s.ident.summaries.take n).flatten

/-- DOMAIN_RESULT_READ (R373). -/
def execDomainResultRead (p : Port) (s : State) : Host.Outcome State Fault Refusal :=
  runOn s fun s => serve s p 0x0520 State.readOutput

/-- A coalescing entry closes 1 s after it opened (R381). -/
def execCoalesceEntryClose (s : State) : Host.Outcome State Fault Refusal :=
  runOn s fun s => match s.ident.table with
    | e :: _ => (s.advance (e.first + 1000000000)).closeEntry false
    | [] => s

/-- A join ticket closes 3,600 s after it opened (R375). -/
def execJoinTicketExpire (s : State) : Host.Outcome State Fault Refusal :=
  runOn s fun s => match s.ident.ticket with
    | some t =>
      let s := s.advance t.2.2
      { s with ident := { s.ident with ticket := none } }
    | none => s

end Sys2Proof.Machine
end

