-- ==== Sys2Proof/Machine/PairSync.lean ====
section
/-!
DEFINITION. What resynchronisation copies, the way into PAIRED, the fence and the takeover (R395, R400, R401, R405 to R414, R416;
Tables 12.7, 12.11).
-/

namespace Sys2Proof.Machine

/-! ### Checkpoints (R397, R409, Table 12.4) -/

/-- Bytes of one channel's checkpoint (log 38). -/
def State.checkpointBytes (s : State) (c : Nat) : Bytes :=
  let q := (s.chan c).cq
  u8 c ++ ((List.range 4).flatMap fun r => u16 (s.confirmedHead c r) ++ u16 (s.sq c r).tail) ++ u16 q.writeIdx ++ u8 (flag q.phase) ++ u16 q.head

/-- Bytes of one channel's checkpoint. -/
abbrev checkpointLen : Nat := 22

/-- A checkpoint from its bytes. -/
def checkpointOf (b : Bytes) : Checkpoint :=
  ⟨(List.range 4).map fun r => (r, field b (1 + 4 * r) 2), (List.range 4).map fun r => (r, field b (3 + 4 * r) 2),
    field b 17 2, byteAt b 19 == 1, field b 20 2⟩

/-- Bound channels that this member serves, an old home's until the new home takes them (R412). -/
def State.servedChannels (s : State) : List Nat := s.bound.filter s.holds

/-- The head of a ring as a checkpoint brings it: one from before an acknowledgement does not fall behind admissions that the ledger holds as
confirmed (R397, R409, R410). -/
def State.mirroredHead (s : State) (c r size h : Nat) : Nat :=
  let head := (s.sq c r).head
  if s.pair.ledger.any fun e => e.chan == c && e.ring == r && decide (ringDist size h e.slot < ringDist size h head) then head else h

/-- A channel's checkpoint arrives: a tail that a doorbell recorded here beyond the mirrored one is kept, and so is a head confirmed beyond it
(R395, R397, R411). -/
def State.takeCheckpoint (s : State) (b : Bytes) : State :=
  let c := byteAt b 0
  let k := checkpointOf b
  let s := s.updPair fun p => { p with checkpoints := KeyMap.put p.checkpoints c k }
  if s.holds c then s
  else
    let s := (List.range (s.chan c).binding.rings).foldl (fun s r => s.updSq c r fun q =>
      let size := 2 ^ q.sizeLog2
      let h := s.mirroredHead c r size (KeyMap.get k.heads 0 r)
      let t := KeyMap.get k.tails 0 r
      let ahead : Bool := decide (ringDist size q.head h ≤ ringDist size q.head q.tail) && decide (ringDist size h t < ringDist size h q.tail)
      { q with head := h, tail := if ahead then q.tail else t }) s
    s.updCq c fun q => { q with writeIdx := k.writeIdx, phase := k.phase, head := k.head }

/-! ### Resynchronisation (Table 12.7, R413) -/

/-- The membership of a domain as a record of resynchronisation. -/
def domainRecord (d : Domain) : Bytes := u32 d.used ++ u32 d.roster.length ++ d.roster ++ d.statement

/-- The records that the source sends, each with its kind: 0 PAIR_FAILBACK, 1 configuration field, 2 vault slot, 3 staged key, 4 generation
record, 5 SVN record, 6 domain state, 7 staged roll, 8 checkpoint, 9 the end with MSEQ, 10 a cold GATE since the last PAIRED state (Table 12.7; log 38). -/
def State.syncRecords (s : State) : List Bytes :=
  (s.orfer.cfg.filter fun e => !pairSetting (keyField e.1)).map (fun e => u8 1 ++ u32 (keyField e.1) ++ u16 (keyInst e.1) ++ e.2)
    ++ s.keys.vault.map (fun e =>
        let v := s.slot (e.1 / 4) (e.1 % 4)
        u8 2 ++ u16 e.1 ++ u8 v.state ++ u8 v.kind ++ u16 v.alg ++ u32 v.gen ++ fit 8 v.kcv ++ v.material)
    ++ s.keys.staged.map (fun e => u8 3 ++ (Mirrored.stage e.1 e.2).bytes)
    ++ (match s.ident.domain with
        | some d => if s.ident.sealFailed then [] else [u8 6 ++ domainRecord d]
        | none => [])
    ++ (match s.ident.roll with
        | some r => [u8 7 ++ partsBytes [] r.roster r.statement]
        | none => [])
    ++ s.servedChannels.map (fun c => u8 8 ++ s.checkpointBytes c)
    ++ [u8 9 ++ u64 s.pair.mseq]

/-- The records of one kind among those received, without the kind. -/
def syncOf (records : List Bytes) (kind : Nat) : List Bytes := (records.filter fun r => byteAt r 0 == kind).map (·.drop 1)

/-- The configuration of the source as one commit here: its fields, and the reset value of every field that it does not list; what stands
already is left out (R413). -/
def State.syncCommit (s : State) (records : List Bytes) : KeyMap Bytes :=
  let theirs : KeyMap Bytes := (syncOf records 1).foldl (fun m r => KeyMap.put m (cfgKey (field r 0 4) (field r 4 2)) (r.drop 6)) []
  let gone := s.orfer.cfg.filter fun e => !pairSetting (keyField e.1) && !platformField (keyField e.1) && (KeyMap.find theirs e.1).isNone
  let all := gone.foldl (fun m e => KeyMap.put m e.1 (cfgReset (keyField e.1) (keyInst e.1))) theirs
  all.filter fun e => platformField (keyField e.1) || s.cfg (keyField e.1) (keyInst e.1) != e.2

/-- A vault slot as the source has it; the children of a changed slot are marked as at a root change (R210, R413). -/
def State.syncSlot (s : State) (records : List Bytes) (k : Nat) : State :=
  let v : Slot := match (syncOf records 2).find? fun r => field r 0 2 == k with
    | some r => ⟨r.drop 18, byteAt r 2, byteAt r 3, field r 4 2, field r 6 4, slice 10 8 r, [], 0⟩
    | none => Slot.reset
  if { s.slot (k / 4) (k % 4) with mac := [] } = v then s
  else (s.writeSlot (k / 4) (k % 4) v).revokeChildren (k / 4) (k % 4) v.gen (v.state != 1)

/-- The copied state is applied as one commit, and MSEQ becomes the source's (R413). Changes applied here alone are given up: PAIR_DIVERGED. -/
def State.applySync (s : State) : State :=
  let rs := s.pair.sync
  let s := if s.pair.alone = 0 then s else s.notify 0 0x0602 0 s.pair.alone
  let s := s.applyCommit false (s.syncCommit rs)
  let s := (List.range 1024).foldl (fun s k => s.syncSlot rs k) s
  -- a device that has passed a cold GATE holds no staged key, and takes none (R196)
  let staged : KeyMap Staged := if s.pair.fresh then [] else (syncOf rs 3).foldl (fun m r =>
    match mirroredOf r with
    | .stage c k => KeyMap.put m c k
    | _ => m) []
  let s := { s with keys := { s.keys with staged := staged } }
  let domain : Option Domain := (syncOf rs 6).head?.map fun r =>
    let roster := slice 8 (field r 4 4) r
    ⟨rosterDomain roster, roster, r.drop (8 + field r 4 4), sha256 (rosterAuth roster), (rosterFind roster s.ownDigest).getD 0, field r 0 4⟩
  let roll : Option Roll := if s.pair.fresh then none else (syncOf rs 7).head?.map fun r => ⟨(partsOf r).2.1, (partsOf r).2.2, false⟩
  let s := { s with ident := { s.ident with domain := none, domainSeal := [], sealFailed := false, roll := roll } }
  let s := match domain with
    | some d => s.setDomain d
    | none => s
  let s := (syncOf rs 8).foldl State.takeCheckpoint s
  s.updPair fun p => { p with
    mseq := ((syncOf rs 9).head?.map fun r => field r 0 8).getD p.mseq, alone := 0, sync := [], synced := true, ledger := [] }

/-- A record of the partner's monotonic record: the larger value stands (R190, R352, R353). -/
def State.takeRecord (s : State) (b : Bytes) : State :=
  if byteAt b 0 = 5 then s.raiseSvn (byteAt b 1) (field b 2 4)
  else if KeyMap.get s.keys.record 0 (field b 1 8) < field b 9 4 then
    ({ s with keys := { s.keys with record := KeyMap.put s.keys.record (field b 1 8) (field b 9 4) } }).appendGen (field b 1 8) (field b 9 4)
  else s

/-- Every recorded value as the partner is told it (Table 12.7). -/
def State.recordFrames (s : State) : List Bytes :=
  s.keys.record.map (fun e => genFrame e.1 e.2) ++ s.priv.svn.map fun e => svnFrame e.1 e.2

/-- Every recorded value is told to the partner (R395, Table 12.7). -/
def State.sendRecords (s : State) : State := s.recordFrames.foldl (fun s r => s.sendFrame 0x07 r) s

/-- The partner has passed a cold GATE: what is staged here goes too (R196). -/
def State.dropStaged (s : State) : State := { s with keys := { s.keys with staged := [] }, ident := { s.ident with roll := none } }

/-- The source sends its state (R413). -/
def State.sendSync (s : State) : State := s.syncRecords.foldl (fun s r => s.sendFrame 0x07 r) s

/-- Resynchronisation starts once the link is up: the survivor of a fence is the source, else the higher MSEQ, else member 0 (R413). -/
def State.startSync (s : State) (theirMseq : Nat) : State :=
  let role := s.cfgNat F_PAIR_ROLE 0
  let src : Bool := if s.pair.fenceIn then false else if s.pair.fenceOut then true
    else if theirMseq ≠ s.pair.mseq then decide (theirMseq < s.pair.mseq) else role == 0
  let s := s.updPair fun p => { p with source := some src, sync := [] }
  let s := if s.pair.fenceIn then s else s.setPairMode .syncing
  let s := if role = 0 then
      (s.updPair fun p => { p with failback := s.cfgNat F_PAIR_FAILBACK 0 != 0 }).sendFrame 0x07 (u8 0 ++ u8 (s.cfgNat F_PAIR_FAILBACK 0))
    else s
  let s := if s.pair.fresh then s.sendFrame 0x07 (u8 10) else s
  let s := s.sendRecords
  if src then s.sendSync else s

/-! ### PAIRED (R401, R407, R412, R414) -/

/-- Every admitted item of the channels served here, and every record held back, is told to the partner afresh (R396, Table 12.7). -/
def State.tellLedger (s : State) : State :=
  let s := s.updPair fun p => { p with admits := [], rels := [] }
  s.servedChannels.foldl (fun s c => ((s.chan c).admitted ++ (s.chan c).heldRecords).foldl (fun s x => if x.silent then s else s.tellAdmit c x) s) s

/-- An exchange that waited starts (R401). -/
def State.startWaiting (s : State) : State :=
  (s.pair.own.filter fun e => e.2.phase == .waiting).foldl (fun s e => s.prepare e.1 e.2) s

/-- The homes after resynchronisation (R414): with PAIR_FAILBACK the survivor hands each channel back to the home that CH_HOME names, and the
repaired member takes it; without it only channels that the partner does not serve come back. -/
def State.failbackHomes (s : State) : State :=
  let role := s.cfgNat F_PAIR_ROLE 0
  let back := s.pair.away.filter fun c => s.pair.failback || (KeyMap.find s.pair.checkpoints c).isNone
  let give := if s.pair.failback then s.pair.serving.filter fun c => s.cfgNat F_CH_HOME c != role else []
  s.updPair fun p => { p with
    away := p.away.filter fun c => !back.contains c
    serving := p.serving.filter fun c => !give.contains c
    handover := (back ++ give).foldl (fun m c => KeyMap.put m c (s.cfgNat F_CH_HOME c)) p.handover }

/-- The device reads PAIRED after resynchronisation (R407, R413, R414). -/
def State.enterPaired (s : State) : State :=
  let s := s.setPairMode .paired
  let s := s.updPair fun p => { p with
    everPaired := true, fresh := false, synced := true, missed := 0, beat := true, deadline := none, source := none, sync := [], alone := 0
    pulseAt := some (s.now + 1000000000), pulseSeen := true, pulseMissed := 0 }
  s.failbackHomes.tellLedger.startWaiting

/-- RESOLVE asks the partner about each own exchange in doubt (R400). -/
def State.resolveDoubts (s : State) : State :=
  (s.pair.own.filter fun e => e.2.phase == .doubt).foldl (fun s e => s.sendFrame 0x06 (exchangeBody 7 e.1 [])) s

/-- Heartbeats return before the deadline: what is in doubt is resolved, and the recorded values are told again, since one raised meanwhile may not
have arrived (R395, R400, R401, R404). -/
def State.resumePaired (s : State) : State :=
  ((s.setPairMode .paired).updPair fun p => { p with deadline := none }).resolveDoubts.sendRecords.tellLedger.startWaiting

/-! ### Ends of exchanges -/

/-- Own exchanges that a test names end with a status. -/
def State.endOwn (s : State) (which : Exchange → Bool) (status : Nat) : State :=
  let gone := s.pair.own.filter fun e => which e.2
  let s := s.updPair fun p => { p with own := KeyMap.keep p.own fun _ e => !which e }
  gone.foldl (fun s e => s.finishChange e.2.change status s.now) s

/-- This device goes on alone: exchanges under way end with ST_MIRROR_FAIL, those confirmed keep their boundary, those that waited apply alone;
prepared changes of the partner are discarded (R400, R401). -/
def State.settleAlone (s : State) : State :=
  let s := s.endOwn (fun e => e.phase == .prepared || e.phase == .committed || e.phase == .doubt) ST_MIRROR_FAIL
  let s := s.updPair fun p => { p with theirs := KeyMap.keep p.theirs fun _ e => e.phase != .prepared }
  let waiting := s.pair.own.filter fun e => e.2.phase == .waiting
  let s := s.updPair fun p => { p with own := KeyMap.keep p.own fun _ e => e.phase != .waiting }
  waiting.foldl (fun s e => s.submit e.2.change) s

/-- Changes that this member applied and the fenced originator may not have: ACT_DONE with ST_OK_BY_PARTNER (R400). -/
def State.tellApplied (s : State) : State :=
  let s := s.pair.applied.foldl (fun s e => s.notify e.2.1 0x0002 ST_OK_BY_PARTNER e.2.2) s
  s.updPair fun p => { p with applied := [] }

/-! ### The fence (R405, R406) -/

/-- A channel stops without a trace: nothing that it admitted is executed, written or recorded; its head is the confirmed head (R406). -/
def State.stopChannel (s : State) (c : Nat) : State :=
  let x := s.chan c
  let heads := (List.range 4).map fun r => s.confirmedHead c r
  let s := x.admitted.foldl (fun s y => s.letGo c y) s
  let s := x.decoded.foldl (fun s y => y.refs.foldl (fun s r => if r.hit then s.unpin c r.tag else s) s) s
  let s := s.updChan c fun x => { x with admitted := [], decoded := [], fetching := none, heldRecords := [] }
  (List.range x.binding.rings).foldl (fun s r => s.updSq c r fun q => { q with head := heads.getD r 0 }) s

/-- The device is fenced (R400, R401, R406, R414): the survivor settles its items and serves its channels. -/
def State.fence (s : State) : State :=
  let s := s.bound.foldl State.stopChannel s
  let s := s.setGates fun g => { g with fenced := true }
  let waits := s.pair.changes
  let s := s.updPair fun p => { p with
    changes := [], theirs := [], admits := [], rels := [], ledger := [], away := s.ownHomes, serving := [], nextServing := [], handover := [],
    deadline := none, synced := false, pulseAt := none }
  let s := s.setPairMode .fenced
  let s := waits.foldl (fun s c => s.finishChange c ST_FENCED s.now) s
  s.endOwn (fun _ => true) ST_FENCED

/-- PAIR_FENCE_OUT driven or released. -/
def State.driveFence (s : State) (level : Bool) : State :=
  if s.pair.fenceOut = level then s else (s.updPair fun p => { p with fenceOut := level }).emit (.drive .fenceOut level)

/-- The fence ends (R400, R406, R413, R416): PAIRED where the survivor's state has been applied; otherwise a first start, with the channels
still away, and the source decided afresh where the link is up. -/
def State.unfence (s : State) : State :=
  let s := (s.updPair fun p => { p with fenceIn := false }).setGates fun g => { g with fenced := false }
  if s.isPaired = false then (s.updPair fun p => { p with away := [] }).setPairMode .unpaired
  else if s.pair.synced && s.pair.hello then s.enterPaired
  else
    let s := s.updPair fun p => { p with everPaired := false, deadline := some (s.now + s.startWait) }
    if s.pair.hello then s.startSync s.pair.theirMseq else s.setPairMode .linkDown

/-! ### Takeover (R409, R410) -/

/-- The scan's reading of records: `n` records at most, from write index `w` and phase `ph` on; the ledger left, and where the scan stops. -/
def scanRecords (c size : Nat) : Nat → Nat → Bool → Bytes → List LedgerEntry → List LedgerEntry × Nat × Bool
  | 0, w, ph, _, l => (l, w, ph)
  | n + 1, w, ph, b, l =>
    if b.length < 32 ∨ bit (field b 30 2) 0 ≠ ph then (l, w, ph)
    else
      let l := l.filter fun e => !(e.chan == c && e.ring == byteAt b 29 % 4 && e.slot == field b 26 2)
      let w' := (w + 1) % size
      scanRecords c size n w' (if w' = 0 then !ph else ph) (b.drop 32) l

/-- A ledger entry put in its place: release time, ring, slot (R409). -/
def insertEntry (x : LedgerEntry) : List LedgerEntry → List LedgerEntry
  | [] => [x]
  | y :: ys =>
    if x.release < y.release ∨ (x.release = y.release ∧ (x.ring < y.ring ∨ (x.ring = y.ring ∧ x.slot < y.slot))) then x :: y :: ys
    else y :: insertEntry x ys

/-- A retry record waits for its release time as an item that has ended (R409). -/
def State.queueRetry (s : State) (c : Nat) (e : LedgerEntry) : State :=
  s.updChan c fun x =>
    let y : Item := {
      seq := x.nextSeq, ring := e.ring, slot := e.slot, format := 0, desc := fit 128 (zeros 8 ++ u64 e.tag), decodedAt := s.now
      cls := if e.refused then .refused else if e.miss then .miss else .hit
      status := ST_TAKEOVER_RETRY, cost := 0, w := 0, demand := Demand.empty, pages := [], opmem := [], contexts := 0, sigma := 0
      release := e.release, judged := true, checkAt := 0, dectab := [], refs := [], staged := none, stagedAt := [], parentRevoked := false, doneAt := s.now
      result := some (Result.none_ ST_TAKEOVER_RETRY), sent := 0, outW := 0, order := [], silent := false }
    { x with admitted := x.admitted ++ [y], nextSeq := x.nextSeq + 1 }

/-- The takeover scan of one channel homed on the fenced member; `bytes` are its completion ring from the mirrored write index on, as host memory
holds it. Answers how many retry records it queues (R409). -/
def State.takeoverScan (s : State) (c : Nat) (bytes : Bytes) : State × Nat :=
  let q := (s.chan c).cq
  let size := 2 ^ q.sizeLog2
  let mine := s.pair.ledger.filter fun e => e.chan == c
  let r := if q.base = 0 then (mine, q.writeIdx, q.phase) else scanRecords c size size q.writeIdx q.phase bytes mine
  let s := s.updPair fun p => { p with ledger := p.ledger.filter fun e => e.chan != c }
  let s := s.updChan c fun x => { x with
    cq := { x.cq with writeIdx := r.2.1, phase := r.2.2 }, used := ringDist size q.head r.2.1 + r.1.length }
  ((r.1.foldl (fun l e => insertEntry e l) []).foldl (fun s e => s.queueRetry c e) s, r.1.length)

/-- Items of a channel whose release time has passed are released now, in order. -/
def State.releaseDue (c : Nat) : Nat → State → State
  | 0, s => s
  | n + 1, s =>
    match nextRelease (s.chan c) with
    | some x => if x.release ≤ s.now then State.releaseDue c n (s.releaseItem c x true) else s
    | none => s

/-- MEMBER_INDEX of the partner in the domain's roster (Table 11.6). -/
def State.partnerIndex (s : State) : Nat :=
  (s.member.bind fun d => rosterFind d.roster (s.cfg F_PAIR_PARTNER 0)).getD 0xFFFF

/-- The survivor becomes SOLO and takes over (R400, R409): held records, scan of every channel whose items the partner held, CHANNEL_MOVED, the domain notice TAKEOVER, trigger 8; it admits on
those channels from the next revolution boundary on. -/
def State.becomeSolo (s : State) (reads : List (Nat × Bytes)) : State :=
  let moved := s.bound.filter fun c => !s.holds c
  let served := s.bound.filter fun c => !s.holds c || !s.homed c
  let s := s.setPairMode .solo
  let s := s.updPair fun p => { p with deadline := none, pulseAt := none, source := none, sync := [], timeStep := none, handover := [] }
  let s := s.bound.foldl State.flushRecords s
  let s := s.settleAlone.tellApplied
  let scanned := moved.foldl (fun (a : State × Nat) c =>
    let r := a.1.takeoverScan c ((((reads.find? fun x => x.1 == c)).map (·.2)).getD [])
    (r.1, a.2 + r.2)) (s, 0)
  let s := moved.foldl (fun s c => State.releaseDue c (s.chan c).admitted.length s) scanned.1
  let role := s.cfgNat F_PAIR_ROLE 0
  let s := served.foldl (fun s c => s.notifyAt (fun _ x => x.realm == 0 || x.realm == c) 0x0601 0 (c + 256 * role) s.now) s
  let s := (s.issueNotice s.partnerIndex 2 scanned.2).trigger 8 0 scanned.2
  s.updPair fun p => { p with takeover := some (s.now, scanned.2), nextServing := served }

/-- A channel is served here from this boundary on, its budget at its cap (R409, R410, R412). -/
def State.startServing (s : State) (c : Nat) : State :=
  let s := s.updChan c fun x => { x with budget := s.capPs c }
  if s.cfgNat F_CH_HOME c = s.cfgNat F_PAIR_ROLE 0 then s.updPair fun p => { p with away := p.away.filter (· != c) }
  else s.updPair fun p => { p with serving := p.serving.filter (· != c) ++ [c] }

end Sys2Proof.Machine
end

