-- ==== Sys2Proof/Machine/Pair.lean ====
section
/-!
DEFINITION. The Chord link and its frames, heartbeats, deadlines and fence wires (R391 to R401, R404 to R408, R413; Tables 12.3, 12.4, 12.6).
-/

namespace Sys2Proof.Machine

/-! ### The lanes (R391, R392) -/

/-- Lanes of a mask of two. -/
def laneCount (m : Nat) : Nat := flag (bit m 0) + flag (bit m 1)

/-- The lanes have completed recovery, adaptation, block lock and deskew: `lanes` passed, with their eye margins by lane in mUI and mV, each at least
250 mUI and 20 mV. One lane raises a NOTE alarm; a link that comes up sends HELLO (R391 to R393). -/
def execLinkTrained (lanes : Nat) (margins : List (Nat × Nat)) (s : State) : Host.Outcome State Fault Refusal :=
  runOn s fun s =>
    let good (i : Nat) : Bool := bit lanes i && (margins[i]?).any fun m => decide (250 ≤ m.1 ∧ 20 ≤ m.2)
    let mask := flag (good 0) + 2 * flag (good 1)
    if mask = 0 then s
    else
      let down := decide (s.pair.lanes = 0)
      let s := s.updPair fun p => { p with
        lanes := mask, hello := p.hello && !down, margins := (List.range 2).filterMap fun i => (margins[i]?).map fun m => (i, m) }
      let s := if laneCount mask = 1 then s.noteAlarm else s
      if down then s.sendHello else s

/-- A lane falls below its margin or loses block lock: it retrains, and the other lane carries all frames (R392). -/
def execLaneRetrain (lane : Nat) (s : State) : Host.Outcome State Fault Refusal :=
  runOn s fun s =>
    if lane < 2 ∧ bit s.pair.lanes lane then
      s.updPair fun p => { p with lanes := p.lanes - 2 ^ lane, hello := p.hello && p.lanes != 2 ^ lane }
    else s

/-! ### HELLO (R393, R394, R413) -/

/-- The link is not up after a HELLO: PAIR_STATE says why, unless a fence or takeover stands (R393). -/
def State.helloFails (s : State) (m : PairMode) : State :=
  let s := s.updPair fun p => { p with hello := false, source := none, sync := [] }
  if s.pair.fenceIn || s.pair.fenceOut then s else (s.setPairMode m).settleAlone

/-- HELLO agrees: session keys, frame sequences from 1, time alignment on member 1, exchanges in doubt resolved, resynchronisation (R393, R394,
R400, R413). The KDF's context is nonce 0 ∥ nonce 1 ∥ serial 0 ∥ serial 1. -/
def State.helloAgrees (s : State) (k f : Bytes) : State :=
  let role := s.cfgNat F_PAIR_ROLE 0
  let nonce := slice 19 32 f
  let serial := slice 3 16 f
  let context := if role = 0 then s.pair.nonce ++ nonce ++ s.serial ++ serial else nonce ++ s.pair.nonce ++ serial ++ s.serial
  let diff : Int := (field f 59 8 : Int) - (s.now : Int)
  let s := s.updPair fun p => { p with
    hello := true, theirMseq := field f 51 8, minor := min 1 (byteAt f 1), keys := kdf k "JGCHORD" context 64
    txSeq := 0, rxOrder := 0, rxAhead := [], acked := 0, missed := 0, beat := true
    timeStep := if role = 1 ∧ 64 < diff.natAbs then some diff else none }
  s.resolveDoubts.startSync (field f 51 8)

/-- A HELLO is checked: versions, HMAC, role and partner (R393; 99 bytes, log 38). It waits until this member has sent its own (R391). -/
def State.takeHello (s : State) (frame : Bytes) : State :=
  let s := s.updPair fun p => { p with early := [] }
  match (if s.isPaired && s.pair.lanes != 0 && !s.pair.nonce.isEmpty then s.linkKey else none) with
    | none => s.updPair fun p => { p with early := frame }
    | some k =>
      if byteAt frame 0 ≠ 2 then s.helloFails .version
      else if frame.length ≠ 99 ∨ hmac k (frame.take 67) ≠ frame.drop 67 ∨ byteAt frame 2 = s.cfgNat F_PAIR_ROLE 0
          ∨ slice 3 16 frame ≠ cardSerial s.pair.card then s.helloFails .linkDown
      else s.helloAgrees k frame

/-- HELLO (R393). -/
def execChordHello (frame : Bytes) (s : State) : Host.Outcome State Fault Refusal := runOn s fun s => s.takeHello frame

/-! ### Protected frames (R393, Table 12.4) -/

/-- The sequences received beyond `n`: how far they continue it without a gap, and those left (Table 12.4). -/
def inOrder (n : Nat) (ahead : List Nat) : Nat × List Nat :=
  ahead.foldl (fun a _ => if (a.1 + 1) ∈ a.2 then (a.1 + 1, a.2.erase (a.1 + 1)) else a) (n, ahead)

/-- A protected frame of a type arrives: dropped and counted where its tag fails or its sequence repeats; otherwise it acts, and all but ACK are
acknowledged up to the last one received in order (R393, R396). -/
def chordFrame (type : Nat) (frame : Bytes) (f : Bytes → State → State) (s : State) : Host.Outcome State Fault Refusal :=
  runOn s fun s =>
    if s.pair.hello = false ∨ s.pair.lanes = 0 then s
    else
      let drop := s.updPair fun p => { p with droppedFrames := p.droppedFrames + 1 }
      match s.openFrame type frame with
      | none => drop
      | some (seq, body) =>
        if seq ≤ s.pair.rxOrder ∨ seq ∈ s.pair.rxAhead then drop
        else
          let s := s.updPair fun p => let r := inOrder p.rxOrder (seq :: p.rxAhead); { p with rxOrder := r.1, rxAhead := r.2 }
          let s := f body s
          if type = 5 then s else s.sendFrame 0x05 (u64 s.pair.rxOrder)

/-- ADMIT: entries join the ledger, and the heads they confirm move on; an admission told again confirms nothing new (R396, R397). -/
def execChordAdmit (frame : Bytes) (s : State) : Host.Outcome State Fault Refusal :=
  chordFrame 3 frame (fun body s =>
    ((blocks 32 body).filter fun b => b.length == 32).foldl (fun s b =>
      let e := ledgerOf b
      let rest := s.pair.ledger.filter fun x => !(x.chan == e.chan && x.ring == e.ring && x.slot == e.slot)
      let size := 2 ^ (s.sq e.chan e.ring).sizeLog2
      let head (k : Checkpoint) : Checkpoint := { k with heads := KeyMap.put k.heads e.ring ((e.slot + 1) % size) }
      let known := s.pair.ledger.any fun x => x.chan == e.chan && x.ring == e.ring && x.slot == e.slot && x.tag == e.tag
      let s := if s.holds e.chan ∨ known then s
        else s.updSq e.chan e.ring fun q =>
          let h := (e.slot + 1) % size
          { q with head := h, tail := if ringDist size q.head h ≤ ringDist size q.head q.tail then q.tail else h }
      s.updPair fun p => { p with
        ledger := if rest.length < 32768 then rest ++ [e] else rest
        checkpoints := match KeyMap.find p.checkpoints e.chan with
          | some k => KeyMap.put p.checkpoints e.chan (head k)
          | none => p.checkpoints }) s) s

/-- REL: the entries of items whose records are written are retired, and the write index moves on (R396, R409). -/
def execChordRel (frame : Bytes) (s : State) : Host.Outcome State Fault Refusal :=
  chordFrame 4 frame (fun body s =>
    ((blocks 4 body).filter fun b => b.length == 4).foldl (fun s b =>
      let c := byteAt b 0
      let s := s.updPair fun p => { p with ledger := p.ledger.filter fun x => !(x.chan == c && x.ring == byteAt b 1 % 4 && x.slot == field b 2 2) }
      if s.holds c then s
      else s.updCq c fun q =>
        let w := (q.writeIdx + 1) % 2 ^ q.sizeLog2
        { q with writeIdx := w, phase := if w = 0 then !q.phase else q.phase }) s) s

/-- ACK: admissions and releases up to a sequence are confirmed, and records held back may be written (R397). -/
def execChordAck (frame : Bytes) (s : State) : Host.Outcome State Fault Refusal :=
  chordFrame 5 frame (fun body s =>
    let n := field body 0 8
    let s := s.updPair fun p => { p with
      acked := max p.acked n, admits := p.admits.filter fun a => decide (n < a.1), rels := p.rels.filter fun r => decide (n < r.1) }
    s.bound.foldl State.flushRecords s) s

/-- FENCE_TEST: the last pulse has been seen; the wire counts as sound again (R407). -/
def execChordFenceTest (frame : Bytes) (s : State) : Host.Outcome State Fault Refusal :=
  chordFrame 8 frame (fun _ s =>
    s.updPair fun p => { p with pulseSeen := true, pulseMissed := 0, fenceFault := false, lastTest := some (s.now, true) }) s

/-- SYNC: a record of resynchronisation is kept by its receiver until the whole is applied. Kind 0 tells member 0's PAIR_FAILBACK, kind 10 a cold
GATE of the partner; the values of the monotonic record are taken as they come (R190, R196, R353, R395, R413; log 38). A fenced member whose survivor starts anew, after a BEAT, is
the receiver (R413). -/
def execChordSync (frame : Bytes) (s : State) : Host.Outcome State Fault Refusal :=
  chordFrame 7 frame (fun body s =>
    if byteAt body 0 = 0 then s.updPair fun p => { p with failback := byteAt body 1 != 0 }
    else if byteAt body 0 = 10 then s.dropStaged
    else if byteAt body 0 = 4 ∨ byteAt body 0 = 5 then s.takeRecord body
    else if s.pair.source = some false then s.updPair fun p => { p with sync := p.sync ++ [body] }
    else if s.pair.fenceIn ∧ s.pair.source = none then s.updPair fun p => { p with source := some false, synced := false, sync := [body] }
    else s) s

/-! ### The exchange (R399, R400, Table 12.6) -/

/-- A frame of type 0x06 and of one kind; `f` sees the exchange number and what follows it. -/
def exchangeFrame (kind : Nat) (frame : Bytes) (f : Nat → Bytes → State → State) (s : State) : Host.Outcome State Fault Refusal :=
  chordFrame 6 frame (fun body s => if byteAt body 0 = kind then f (field body 1 8) (body.drop 9) s else s) s

/-- An own exchange changed. -/
def State.updOwn (s : State) (n : Nat) (e : Exchange) : State := s.updPair fun p => { p with own := KeyMap.put p.own n e }
/-- A partner's exchange changed. -/
def State.updTheirs (s : State) (n : Nat) (e : Exchange) : State := s.updPair fun p => { p with theirs := KeyMap.put p.theirs n e }
/-- An own exchange ends with a status. -/
def State.endExchange (s : State) (n : Nat) (e : Exchange) (status : Nat) : State :=
  (s.updPair fun p => { p with own := KeyMap.del p.own n }).finishChange e.change status s.now

/-- PREPARE: the change is validated and stored as prepared; READY or NACK answers (steps 1 and 2). -/
def execChordPrepare (frame : Bytes) (s : State) : Host.Outcome State Fault Refusal :=
  exchangeFrame 1 frame (fun n rest s =>
    let m := mirroredOf (rest.drop 6)
    -- nothing is staged or applied in QUARANTINE (R222)
    let st := if s.ms.mode = .quarantine then ST_MODE else s.validateMirrored m
    if st ≠ ST_OK then s.sendFrame 0x06 (exchangeBody 5 n (u16 st))
    else (s.updTheirs n ⟨.prepared, ⟨field rest 0 2, field rest 2 4, none, [], m⟩, 0, s.now + 5000000⟩).sendFrame 0x06 (exchangeBody 2 n [])) s

/-- READY: COMMIT names T, the first revolution boundary at least 16 µs later (step 3). -/
def execChordReady (frame : Bytes) (s : State) : Host.Outcome State Fault Refusal :=
  exchangeFrame 2 frame (fun n _ s =>
    match KeyMap.find s.pair.own n with
    | some e =>
      if e.phase = .prepared ∧ s.wanted e.change = false then
        (s.updPair fun p => { p with own := KeyMap.del p.own n }).sendFrame 0x06 (exchangeBody 6 n [])
      else if e.phase = .prepared then
        let t := ceilDiv (s.now + 16000) revNs * revNs
        (s.updOwn n { e with phase := .committed, time := t }).sendFrame 0x06 (exchangeBody 3 n (u64 t))
      else s
    | none => s.sendFrame 0x06 (exchangeBody 6 n [])) s

/-- COMMIT: in time, the change will apply at T and is confirmed; late, it is discarded (step 4). -/
def execChordCommit (frame : Bytes) (s : State) : Host.Outcome State Fault Refusal :=
  exchangeFrame 3 frame (fun n rest s =>
    match KeyMap.find s.pair.theirs n with
    | some e =>
      if e.phase ≠ .prepared then s
      else if s.now < field rest 0 8 then
        (s.updTheirs n { e with phase := .committed, time := field rest 0 8 }).sendFrame 0x06 (exchangeBody 4 n [])
      else (s.updPair fun p => { p with theirs := KeyMap.del p.theirs n }).sendFrame 0x06 (exchangeBody 5 n (u16 ST_MIRROR_FAIL))
    | none => s.sendFrame 0x06 (exchangeBody 5 n (u16 ST_MIRROR_FAIL))) s

/-- COMMIT_ACK: before T the change will apply at T; for an exchange in doubt it says that the partner applied, and the change applies at the next
boundary (step 5, R400). -/
def execChordCommitAck (frame : Bytes) (s : State) : Host.Outcome State Fault Refusal :=
  exchangeFrame 4 frame (fun n _ s =>
    match KeyMap.find s.pair.own n with
    | some e =>
      if e.phase = .committed ∧ s.now < e.time then s.updOwn n { e with phase := .confirmed }
      else if e.phase = .doubt then s.updOwn n { e with phase := .confirmed, time := ceilDiv s.now revNs * revNs }
      else s
    | none => s) s

/-- NACK: the partner does not confirm, or did not apply: ST_MIRROR_FAIL (R105, R400; log 60). -/
def execChordNack (frame : Bytes) (s : State) : Host.Outcome State Fault Refusal :=
  exchangeFrame 5 frame (fun n _ s =>
    match KeyMap.find s.pair.own n with
    | some e =>
      if e.phase = .waiting ∨ e.phase = .confirmed then s
      else
        let s := if e.phase = .prepared then s else s.sendFrame 0x06 (exchangeBody 6 n [])
        s.endExchange n e ST_MIRROR_FAIL
    | none => s) s

/-- ABORT: a prepared change is discarded (step 4). -/
def execChordAbort (frame : Bytes) (s : State) : Host.Outcome State Fault Refusal :=
  exchangeFrame 6 frame (fun n _ s =>
    match KeyMap.find s.pair.theirs n with
    | some e => if e.phase = .prepared then s.updPair fun p => { p with theirs := KeyMap.del p.theirs n } else s
    | none => s) s

/-- RESOLVE: the partner asks whether this member applied its exchange (R400): COMMIT_ACK where it did or will, NACK where it did not. -/
def execChordResolve (frame : Bytes) (s : State) : Host.Outcome State Fault Refusal :=
  exchangeFrame 7 frame (fun n _ s =>
    let will : Bool := match KeyMap.find s.pair.theirs n with
      | some e => e.phase == .committed
      | none => false
    if will || (KeyMap.find s.pair.applied n).isSome then s.sendFrame 0x06 (exchangeBody 4 n [])
    else
      (s.updPair fun p => { p with theirs := KeyMap.del p.theirs n }).sendFrame 0x06 (exchangeBody 5 n (u16 ST_MIRROR_FAIL))) s

/-- The number and exchange with the earliest limit among those in a phase. -/
def earliest (m : KeyMap Exchange) (ph : ExchangePhase) : Option (Nat × Exchange) :=
  (m.filter fun e => e.2.phase == ph).foldl (fun (best : Option (Nat × Exchange)) e =>
    match best with
    | none => some e
    | some b => if e.2.limit < b.2.limit then some e else some b) none

/-- No READY within 5 ms of PREPARE: ABORT, and ST_MIRROR_FAIL (R105, step 3). -/
def execReadyTimeout (s : State) : Host.Outcome State Fault Refusal :=
  runOn s fun s => match earliest s.pair.own .prepared with
    | some (n, e) => ((s.advance e.limit).sendFrame 0x06 (exchangeBody 6 n [])).endExchange n e ST_MIRROR_FAIL
    | none => s

/-- No COMMIT within 5 ms of READY: the prepared change is discarded (step 4). -/
def execCommitWaitTimeout (s : State) : Host.Outcome State Fault Refusal :=
  runOn s fun s => match earliest s.pair.theirs .prepared with
    | some (n, e) => (s.advance e.limit).updPair fun p => { p with theirs := KeyMap.del p.theirs n }
    | none => s

/-! ### Heartbeats (R404, R408) -/

/-- FENCE_ME: the PCIe link is down, or the device is in QUARANTINE with its records written (R408). -/
def State.asksFence (s : State) : Bool :=
  s.pair.pcieLost || (s.ms.mode == .quarantine && s.bound.all fun c => (s.chan c).admitted.isEmpty && (s.chan c).heldRecords.isEmpty)

/-- BEAT's body: MSEQ, device time, PAIR_STATE, mode word, flags, checkpoints of the channels served (Table 12.4; log 38). -/
def State.beatBody (s : State) : Bytes :=
  u64 s.pair.mseq ++ u64 s.now ++ u8 s.pair.mode.code ++ u32 s.modeWord ++ u8 (flag s.asksFence + 2 * flag (decide (32768 ≤ s.pair.ledger.length)))
    ++ s.servedChannels.flatMap s.checkpointBytes

/-- A heartbeat window starts: the one before it is counted as missed where no BEAT came, and a BEAT is sent (R401, R404). -/
def execHeartbeatWindow (s : State) : Host.Outcome State Fault Refusal :=
  runOn s fun s =>
    let s := s.advance (64000 * s.pair.window)
    let heard := s.pair.beat
    let s := s.updPair fun p => { p with window := p.window + 1, beat := false, missed := if heard then 0 else p.missed + 1 }
    if s.isPaired = false then s
    else
      let s := if s.pair.early.isEmpty then s else s.takeHello s.pair.early
      let limit := if s.cfgNat F_PAIR_ROLE 0 = 0 then 16 else 24
      let s := if heard then s
        else if s.pair.mode = .paired then s.setPairMode .linkLost
        else if s.pair.mode = .syncing then
          ((s.updPair fun p => { p with source := none, sync := [] }).setPairMode (if s.pair.fenceOut then .solo else .linkDown)).settleAlone
        else s
      let waits := s.pair.everPaired && s.pair.mode != .paired && s.pair.mode != .solo && s.pair.mode != .fenced
      let s := if waits ∧ s.pair.missed = limit ∧ s.pair.deadline = none then s.updPair fun p => { p with deadline := some s.now } else s
      s.sendFrame 0x02 s.beatBody

/-- The partner's mode word says that it has discarded its staged keys: QUARANTINE, or a cold GATE (R196). -/
def discardsStaged (word : Nat) : Bool :=
  word % 16 == 7 || (word % 16 == 2 && (word / 65536 % 16 == 0 || word / 65536 % 16 == 3 || word / 65536 % 16 == 13))

/-- Member 1's device time behind member 0's, as the first BEAT of a heartbeat window gives it, is slewed towards it by at most 1 ns in each 4,096 ns
of the window while PAIRED (R394; log 91). -/
def State.slew (s : State) (theirs : Nat) : State :=
  if s.pair.mode = .paired ∧ s.cfgNat F_PAIR_ROLE 0 = 1 ∧ s.pair.beat = false then { s with now := s.now + min (64000 / 4096) (theirs - s.now) } else s

/-- BEAT: the partner's device time, checkpoints, what it has of this member's changes, its staged keys, FENCE_ME; heartbeats resume (R196, R394, R400,
R401, R404, R413). -/
def execChordBeat (frame : Bytes) (s : State) : Host.Outcome State Fault Refusal :=
  chordFrame 2 frame (fun body s =>
    let s := s.slew (field body 8 8)
    let mseq := field body 0 8
    let fenceMe := bit (byteAt body 21) 0
    let was := s.pair.fenceMe
    let s := s.updPair fun p => { p with
      beat := true, theirMseq := mseq, fenceMe := fenceMe, checkpoints := [], applied := if p.mseq ≤ mseq then [] else p.applied }
    let s := ((blocks checkpointLen (body.drop 22)).filter fun b => b.length == checkpointLen).foldl State.takeCheckpoint s
    let s := if discardsStaged (field body 17 4) then s.dropStaged else s
    let s := if s.pair.mode = .linkLost then s.resumePaired else s
    if fenceMe then
      if s.pair.mode = .solo ∨ s.pair.mode = .fenced then s
      else s.updPair fun p => { p with deadline := some (64000 * p.window) }
    else if was && s.pair.mode == .solo && s.pair.fenceOut then s.startSync mseq
    else if was && s.pair.everPaired && s.pair.mode == .paired then s.updPair fun p => { p with deadline := none }
    else s) s

/-- A member's deadline (R405, R407, R408, R409): nothing where PAIR_FENCE_IN reads high; without a sound fence wire LINK_DOWN, with every record
held back written; otherwise PAIR_FENCE_OUT is driven, 10 µs pass, and the member is SOLO. `reads` are the completion rings of the channels that
move, from their mirrored write index on. -/
def execPairDeadline (reads : List (Nat × Bytes)) (s : State) : Host.Outcome State Fault Refusal :=
  runOn s fun s => match s.pair.deadline with
    | none => s
    | some d =>
      let s := (s.advance d).updPair fun p => { p with deadline := none }
      if s.isPaired = false ∨ s.pair.fenceIn then s
      else if s.pair.mode = .solo ∨ (s.pair.mode = .paired ∧ ¬ s.pair.fenceMe ∧ ¬ s.pair.fenceOut) then s
      else if s.pair.fenceFault ∧ ¬ s.pair.fenceOut then
        let s := s.setPairMode .linkDown
        (s.bound.foldl State.flushRecords s).settleAlone
      else
        let s := s.driveFence true
        (s.advance (s.now + 10000)).becomeSolo reads

/-! ### Fence wires (R405 to R407) -/

/-- PAIR_FENCE_IN has been high for 4 µs (R405, R406). Two members that drive at once: member 1 lowers its own line and is fenced, member 0 keeps
its own and its work (log 65). -/
def execFenceInAsserted (s : State) : Host.Outcome State Fault Refusal :=
  runOn s fun s =>
    let s := s.updPair fun p => { p with fenceIn := true }
    if s.pair.fenceOut ∧ s.cfgNat F_PAIR_ROLE 0 = 0 then s
    else if s.pair.mode = .fenced then s
    else (s.driveFence false).fence

/-- PAIR_FENCE_IN falls: the device leaves FENCED (R406); a high level that did not last 4 µs was a test pulse, reported in a FENCE_TEST frame (R407). -/
def execFenceInReleased (s : State) : Host.Outcome State Fault Refusal :=
  runOn s fun s =>
    if s.pair.mode = .fenced ∨ s.ms.gates.fenced && s.pair.fenceIn then s.unfence.kickAll
    else if s.pair.fenceIn then (s.updPair fun p => { p with fenceIn := false }).kickAll
    else s.sendFrame 0x08 []

/-- The test pulse of each second while PAIRED; a pulse unreported twice in a row raises a DEGRADE alarm, whose STATUS is not stated (a free value,
log 3), and FENCE_FAULT (R407). -/
def execFenceTestPulse (s : State) : Host.Outcome State Fault Refusal :=
  runOn s fun s =>
    match s.pair.pulseAt with
    | none => s
    | some t =>
      if s.pair.mode ≠ .paired then s
      else
        let s := s.advance t
        let missed := if s.pair.pulseSeen then 0 else s.pair.pulseMissed + 1
        let s := s.updPair fun p => { p with
          pulseMissed := missed, lastTest := if p.pulseSeen then p.lastTest else some (t, false), fenceFault := p.fenceFault || decide (missed = 2) }
        let s := if missed = 2 then
            (({ s with free := s.free + 1 }).faultDegrade s.freeStatus 0 []).notify 0 0x0603 0 0
          else s
        let s := s.updPair fun p => { p with pulseSeen := false, pulseAt := some (t + 1000000000) }
        (s.emitAll [.drive .fenceOut true, .drive .fenceOut false]).advance (t + 1000)

/-! ### Time and resynchronisation (R394, R413) -/

/-- Member 1 holds no admitted item and steps its device time to member 0's; the recorder notes it (R394). -/
def execTimeStep (s : State) : Host.Outcome State Fault Refusal :=
  runOn s fun s =>
    match s.pair.timeStep with
    | none => s
    | some d =>
      if s.bound.any fun c => !(s.chan c).admitted.isEmpty then s
      else
        let now := ((s.now : Int) + d).toNat
        let s := { s with
          now := now
          wheel := { s.wheel with revolution := ceilDiv now revNs, sector := ceilDiv now sectorNs }
          pair := { s.pair with timeStep := none, window := ceilDiv now 64000 } }
        (s.trigger 7 0 (s.pair.mode.code + 256)).kickAll

/-- Resynchronisation is complete, at a revolution boundary: the receiver applies the source's state; the source lowers its fence; both read PAIRED,
a fenced receiver once the fence has fallen (R413, R414). -/
def execResyncComplete (s : State) : Host.Outcome State Fault Refusal :=
  runOn s fun s =>
    if s.pair.hello = false ∨ s.pair.timeStep.isSome then s
    else
      let at_ := s.advance (ceilDiv s.now revNs * revNs)
      match s.pair.source with
      | none => s
      | some true => (at_.driveFence false).enterPaired.kickAll
      | some false =>
        if (syncOf s.pair.sync 9).isEmpty then s
        else
          let s := at_.applySync
          if s.pair.fenceIn then s.updPair fun p => { p with source := none } else s.enterPaired.kickAll

end Sys2Proof.Machine
end

