-- ==== Sys2Proof/Machine/PairRows.lean ====
section
/-!
DEFINITION. The Orfer opcodes of group 0x06 and what their acts do (R388, R389, R405, R415; Tables 12.2, 12.10).
-/

namespace Sys2Proof.Machine

/-- PAIR_STATUS (Table 12.10; the widths of its parts: log 38). -/
def State.pairStatusBytes (s : State) : Bytes :=
  let p := s.pair
  let margin (i : Nat) : Bytes := let m := KeyMap.get p.margins (0, 0) i; u16 m.1 ++ u16 m.2
  u8 p.mode.code ++ u8 (s.cfgNat F_PAIR_ROLE 0) ++ s.cfg F_PAIR_PARTNER 0 ++ (if p.hello then u8 2 ++ u8 p.minor else zeros 2) ++ u8 p.lanes
    ++ margin 0 ++ margin 1 ++ u32 p.missed ++ u32 p.ledger.length
    ++ (match p.lastTest with
        | some t => u64 t.1 ++ u8 (flag t.2)
        | none => zeros 9)
    ++ (match p.takeover with
        | some t => u64 t.1 ++ u32 t.2
        | none => zeros 12)
    ++ u64 p.mseq

/-- PAIR_STATUS. -/
def execPairStatus (p : Port) (s : State) : Host.Outcome State Fault Refusal :=
  runOn s fun s => serve s p 0x0601 fun s q => noPayload s q fun s => s.answer q ST_OK s.pairStatusBytes

/-- Length of the pair package (Table 12.2). -/
abbrev pairPackageLen : Nat := 0x4B0 + idSigLen

/-- What refuses PAIR_BIND with a card: the binding's conditions, then the card's form and signature (R388, step 1; log 64). -/
def State.pairBindCheck (s : State) (p : Bytes) : Nat :=
  if s.bindCheck 0 ≠ ST_OK then s.bindCheck 0 else if cardOk p then ST_OK else ST_KCV_MISMATCH

/-- PAIR_BIND: checked at the request and again when the act is carried out (R388; log 44). -/
def execPairBind (p : Port) (s : State) : Host.Outcome State Fault Refusal :=
  runOn s fun s => serve s p 0x0602 fun s q =>
    if q.payload.length ≠ cardLen then s.answer q ST_BAD_LENGTH []
    else if s.pairBindCheck q.payload ≠ ST_OK then s.answer q (s.pairBindCheck q.payload) []
    else s.requestDevice q 0x0A

/-- Context of the package's wrap: the two serials (Table 12.2). -/
def pairWrapKey (secret serial0 serial1 : Bytes) : Bytes := kdf secret "JGPL" (serial0 ++ serial1) 64

/-- What a PAIR_BIND act makes on member 0: status, the pair package, and the binding (R388, step 1; Table 12.2). -/
def State.makeBinding (s : State) (card : Bytes) : Nat × Bytes × Mirrored × State :=
  let bad := s.pairBindCheck card
  if bad ≠ ST_OK then (bad, [], .nothing, s)
  else
    let (key, s) := s.draw 32
    let (r, s) := s.draw 32
    let e := Config.mlkemEncaps (cardKem card) r
    let body := ascii "JGPAIRPK" ++ s.serial ++ cardSerial card ++ u32 (s.linkGen 0) ++ zeros 20 ++ fit 1088 e.1
      ++ plainSeal (pairWrapKey (fit 32 e.2) s.serial (cardSerial card)) key
    let (package, s) := s.signed s.idMaterial body
    (ST_OK, package, .bind 0 card key 0, s)

/-- What a PAIR_ACCEPT checks on member 1: conditions, card, signature, serials, unwrap; and the binding (R388, step 2). -/
def State.acceptBinding (s : State) (p : Bytes) : Nat × Mirrored :=
  let card := p.take cardLen
  let k := p.drop cardLen
  let bad := s.bindCheck 1
  if bad ≠ ST_OK then (bad, .nothing)
  else if ¬ allZero (slice 0x2C 20 k) then (ST_RESERVED, .nothing)
  else if ¬ (cardOk card ∧ signedOk (cardPk card) k ∧ slice 0 8 k = ascii "JGPAIRPK"
      ∧ slice 8 16 k = cardSerial card ∧ slice 0x18 16 k = s.serial) then (ST_KCV_MISMATCH, .nothing)
  else
    let secret := mlkemDecaps s.kemSeed (slice 0x40 1088 k) s.rng
    match plainOpen (pairWrapKey secret (slice 8 16 k) (slice 0x18 16 k)) (slice 0x480 48 k) with
    | none => (ST_KCV_MISMATCH, .nothing)
    | some key => (ST_OK, .bind 1 card key (field k 0x28 4))

/-- PAIR_ACCEPT: card and package of member 0 (R388). -/
def execPairAccept (p : Port) (s : State) : Host.Outcome State Fault Refusal :=
  runOn s fun s => serve s p 0x0603 fun s q =>
    if q.payload.length ≠ cardLen + pairPackageLen then s.answer q ST_BAD_LENGTH []
    else
      let bad := (s.acceptBinding q.payload).1
      let s := s.skipDraws mlkemDraws
      if bad ≠ ST_OK then s.answer q bad [] else s.requestDevice q 0x0A

/-- What refuses every act of a bound pair: no common major version, or the link not up (R393); an unbound device has no link (log 64). -/
def State.pairRefusal (s : State) : Nat :=
  if s.isPaired = false ∨ s.pair.mode = .linkDown then ST_PAIR_DOWN else if s.pair.mode = .version then ST_PAIR_VERSION else ST_OK

/-- An act of a bound device, where the link lets one (R393). -/
def State.pairAct (s : State) (q : Request) (cls : Nat) : State :=
  noPayload s q fun s => if s.pairRefusal ≠ ST_OK then s.answer q s.pairRefusal [] else s.requestDevice q cls

/-- PAIR_UNBIND (R389). -/
def execPairUnbind (p : Port) (s : State) : Host.Outcome State Fault Refusal :=
  runOn s fun s => serve s p 0x0604 fun s q => s.pairAct q 0x0A

/-- PAIR_TAKEOVER. -/
def execPairTakeover (p : Port) (s : State) : Host.Outcome State Fault Refusal :=
  runOn s fun s => serve s p 0x0605 fun s q => s.pairAct q 0x0A

/-- PAIR_UNFENCE. -/
def execPairUnfence (p : Port) (s : State) : Host.Outcome State Fault Refusal :=
  runOn s fun s => serve s p 0x0606 fun s q => s.pairAct q 0x0B

/-- What refuses PAIR_REKEY: no link, another major version, the fence, the last GEN (R389, R393, R401). -/
def State.rekeyCheck (s : State) : Nat :=
  if s.pair.mode = .version then ST_PAIR_VERSION
  else if s.pair.mode = .fenced then ST_FENCED
  else if s.pair.mode ≠ .paired ∧ s.pair.mode ≠ .linkLost ∧ s.pair.mode ≠ .syncing then ST_PAIR_DOWN
  else if (s.slot 0 2).gen = 0xFFFFFFFF then ST_GEN_EXHAUSTED
  else ST_OK

/-- PAIR_REKEY (R389). -/
def execPairRekey (p : Port) (s : State) : Host.Outcome State Fault Refusal :=
  runOn s fun s => serve s p 0x0607 fun s q => noPayload s q fun s =>
    if s.rekeyCheck ≠ ST_OK then s.answer q s.rekeyCheck [] else s.requestDevice q 0x0A

/-- PAIR_RESULT_READ (R373, R415). -/
def execPairResultRead (p : Port) (s : State) : Host.Outcome State Fault Refusal :=
  runOn s fun s => serve s p 0x0608 State.readOutput

/-- What a PAIR_TAKEOVER act does: the partner is fenced at once, without a deadline; 10 µs later the member is SOLO (R405; log 61). A fenced device
fences nobody: ST_FENCED. -/
def State.takeoverAct (s : State) : Nat × State :=
  if s.pairRefusal ≠ ST_OK then (s.pairRefusal, s)
  else if s.pair.fenceIn then (ST_FENCED, s)
  else if s.pair.mode = .solo then (ST_OK, s)
  else (ST_OK, (s.driveFence true).updPair fun p => { p with deadline := some s.now })

/-- What a PAIR_UNFENCE act does: the line falls; with the link up and the partner unsynchronised R413 decides the source, and no channel moves
(Table 12.10, R416). -/
def State.unfenceAct (s : State) : Nat × State :=
  if s.pairRefusal ≠ ST_OK then (s.pairRefusal, s)
  else if s.pair.fenceOut = false then (ST_OK, s)
  else
    let s := s.driveFence false
    (ST_OK, if s.pair.hello && s.pair.mode != .paired then s.startSync s.pair.theirMseq else s)

end Sys2Proof.Machine
end

