-- ==== Sys2Proof/Machine/Sentinel.lean ====
section
/-!
DEFINITION. Detectors and their tests, fault sources, the backup cell and its charger, and the opcodes of group 0x07
(R417 to R447; Tables 13.2 to 13.13).
-/

namespace Sys2Proof.Machine

/-! ### Detectors (R420, R427, R440 to R442) -/

/-- Floor of a detector's severity (Table 13.2). -/
def detectorFloor (d : Nat) : Nat :=
  if d ≤ 5 ∨ d = 12 then 4 else if d ≤ 11 ∨ d = 20 then 1 else 3

/-- Kind I (Table 13.2). -/
def intrusion (d : Nat) : Bool := decide (d ≤ 1 ∨ (6 ≤ d ∧ d ≤ 13))

/-- Severity in force: fixed for privileged detectors, else the Sentinel register (R420, R426). -/
def State.severityOf (s : State) (d : Nat) : Nat :=
  if d ≤ 5 then 4 else max (detectorFloor d) (KeyMap.get s.tamper.severity (detectorFloor d) d)

/-- The alarms of one sample form one alarm event: the highest severity, its evidence, and its entry (R427, R434). An intrusion detector that trips
again within 1 s of its last evidence event joins that event's entry; the join is no further evidence event (log 67). `tile` is the tile
that CLK_TILE or CANARY names. -/
def State.alarmEvent (s : State) (dets : List Nat) (least tile : Nat) : State :=
  let sev := dets.foldl (fun m d => max m (s.severityOf d)) least
  let intr := dets.filter intrusion
  let evidence := !intr.isEmpty || sev == 4
  let join := (intr.filterMap fun d => (s.det d).evidence.bind fun e => if s.tamper.rtc ≤ e.1 then some e.2 else none).head?
  let scope := if dets.all fun d => d == 19 || d == 21 then some tile else none
  let r := s.alarm ⟨dets.foldl (fun m d => m + 2 ^ d) 0, sev, evidence, scope, dets.map fun d => (d, max least (s.severityOf d)), [], none⟩ join
  dets.foldl (fun s d => s.updDet d fun x => { x with
    alarmAt := s.rtcSeconds, evidence := if intrusion d && join.isNone then some (s.tamper.rtc + 1000000000, r.2) else x.evidence }) r.1

/-- What a detector's comparison makes of a sample (Table 13.2): VCORE_GLITCH trips on a departure of more than 80 mV from its set points (R521),
VIO_GLITCH outside its window (R535); the others trip as the sample says. -/
def State.compares (s : State) (m : Sample) (d : Nat) : Bool :=
  if d = 15 then decide (m.core + 80 < s.glitchSpan.1 ∨ s.glitchSpan.2 + 80 < m.core)
  else if d = 16 then !ioInWindow m.io
  else true

/-- Time passes up to a sample: in the main-power modes the time base's, on the cell the real-time clock's; a sample measures the clock of the tile
that it names (R417, R427, R522). -/
def State.sampled (s : State) (clock : TileClock) (m : Sample) : State :=
  if s.ms.mode == .sentinel then { s with tamper := { s.tamper with rtc := s.tamper.rtc + m.elapsed } }
  else
    let s := s.advance (s.now + m.elapsed)
    if clock.tile < 24 then s.updTile clock.tile fun x => { x with pllLock := clock.locked, freq := min clock.khz (2 ^ 32 - 1) } else s

/-- One sample finds the detectors `ds` tripped (R427). -/
def execDetectorTrip (ds : List Nat) (clock : TileClock) (m : Sample) (s : State) : Host.Outcome State Fault Refusal :=
  run s fun s =>
    if s.ms.mode == .off then s
    else
      let s := s.sampled clock m
      let new := ds.eraseDups.filter fun d => decide (d < 22) && s.armed d && !(s.det d).tripped && s.compares m d
      if new.isEmpty then s
      else (new.foldl (fun s d => s.updDet d fun x => { x with tripped := true }) s).alarmEvent new 1 clock.tile

/-- A sample finds the detector quiet again (R427). -/
def execDetectorQuiet (d : Nat) (s : State) : Host.Outcome State Fault Refusal :=
  run s fun s => if s.armed d && decide (d < 22) then s.updDet d fun x => { x with tripped := false } else s

/-- A stimulation test of a detector that is not privileged: it passes where the detector trips; a failure is an alarm event of at least DEGRADE
that names it, and DETECTOR_FAILED (R440 to R442). -/
def State.stimulate (s : State) (d : Nat) (tripped : Bool) (tile : Nat) : State :=
  let s := s.updDet d fun x => { x with tested := true, testAt := s.rtcSeconds, failed := !tripped }
  if tripped then s else (s.alarmEvent [d] 2 tile).notify 0 0x0703 0 d

/-- The instant of a detector's test comes: it is stimulated, and the next instant is drawn (R440). -/
def execDetectorStimulationTest (d : Nat) (tripped : Bool) (tile : Nat) (s : State) : Host.Outcome State Fault Refusal :=
  run s fun s =>
    match (if 6 ≤ d ∧ d < 22 ∧ s.armed d then (s.det d).testDue else none) with
    | none => s
    | some t =>
      let s := if s.ms.mode == .sentinel then { s with tamper := { s.tamper with rtc := max s.tamper.rtc t } } else s.advance t
      (s.stimulate d tripped tile).drawTest d

/-! ### Fault sources (R21, R431, Table 13.5) -/

/-- The Apex lockstep cores disagree: a fatal integrity fault of tile 0, whose status is not stated (a free value, log 3). -/
def execLockstepDisagree (s : State) : Host.Outcome State Fault Refusal :=
  runOn s fun s => ({ s with free := s.free + 1 }).fatalFault (2 ^ 31) s.freeStatus 0 none

/-- Tiles whose bus integrity mismatch is fatal (Table 13.5). -/
def fatalTile (t : Nat) : Bool := t == 0 || t == 1 || 20 ≤ t && t ≤ 23

/-- A target finds a bus integrity mismatch, ST_INTEGRITY (R21, Table 3.11): ISOLATE, or a fatal integrity fault (Table 13.5). The tile it names is the
target's: which of the two the alarm names is not stated (log 130). -/
def execBusIntegrityMismatch (master target : Nat) (s : State) : Host.Outcome State Fault Refusal :=
  runOn s fun s =>
    if fatalTile master || fatalTile target then s.fatalFault (2 ^ 29) ST_INTEGRITY target (some target)
    else (s.alarm ⟨2 ^ 29, 3, false, some target, [(0xFF, 3)], [], some (ST_INTEGRITY, target)⟩ none).1

/-! ### The Sentinel domain's supply (R418, R546) -/

/-- The Sentinel domain starts from no supply: a cell is connected to a device without power, which then is in SENTINEL with its detectors armed, or
again in SENTINEL after it had been removed (R417, R418, R546, Table 13.1). While main power supplies the domain it does not start. -/
def execSentinelPowerOn (s : State) : Host.Outcome State Fault Refusal :=
  run s fun s =>
    if s.supply.sentinel && s.ms.mode != .sentinel then s
    else
      let t := { s with
        supply := { s.supply with sentinel := true }
        ms := { s.ms with mode := .sentinel }
        tamper := { TamperState.reset with cell := { CellState.reset with chg := s.tamper.cell.chg } } }
      t.drawTests

/-! ### The backup cell (R443 to R445, R537) -/

/-- The cell is measured: VBAT in mV, current in mA, NTC in 1/16 °C or open (R443). In SENTINEL the charger is off. Without CHG no charge current
flows (R537). -/
def execCellStateChange (vbat : Nat) (current : Int) (ntc : Option Int) (s : State) : Host.Outcome State Fault Refusal :=
  runOn s fun s =>
    let current := if s.tamper.cell.chg then current else min current 0
    let st := s.nextCell vbat current ntc
    let s := { s with tamper := { s.tamper with cell := { s.tamper.cell with vbat := vbat, current := current, ntc := ntc } } }
    (s.enterCell st).cellGate

/-- The charger's timer ends: PRECHARGE for 1 h, CC and CV together for 10 h (R443). -/
def execChargerTimerExpire (s : State) : Host.Outcome State Fault Refusal :=
  runOn s fun s =>
    match s.tamper.cell.since with
    | none => s
    | some t =>
      if charging s.tamper.cell.state = false then s
      else ((s.advance (t + (if s.tamper.cell.state = 1 then 3600000000000 else 36000000000000))).enterCell 7).cellGate

/-- Percent of a full cell at a resting voltage, linear between the points of R445. -/
def restingPercent (mv : Nat) : Nat :=
  let line (v0 p0 v1 p1 : Nat) : Nat := p0 + (p1 - p0) * (mv - v0) / (v1 - v0)
  if 4200 ≤ mv then 100
  else if 4100 ≤ mv then line 4100 90 4200 100
  else if 3950 ≤ mv then line 3950 70 4100 90
  else if 3850 ≤ mv then line 3850 50 3950 70
  else if 3750 ≤ mv then line 3750 30 3850 50
  else if 3650 ≤ mv then line 3650 10 3750 30
  else if 3500 ≤ mv then line 3500 0 3650 10
  else 0

/-- After a Sentinel power loss the remaining charge is estimated from VBAT at rest, raised by 4.20 V − CHG_VOLTAGE, less 10 points (R445). -/
def execChargeEstimate (vbat : Nat) (s : State) : Host.Outcome State Fault Refusal :=
  runOn s fun s =>
    let c := s.tamper.cell
    if c.estimate ≠ 1 then s
    else
      let p := restingPercent (vbat + 4200 - s.chgMv) - 10
      ({ s with tamper := { s.tamper with cell := { c with vbat := vbat, remaining := p * c.learned / 100, estimate := 2 } } }).cellGate

/-- The fuel gauge's count moves the state of charge over a level (R44 to R46, R444); `remaining` is the charge counted, in µAh. The gauge counts in
SENTINEL too, where no gate is there to follow it (Table 13.1). -/
def execGaugeLevelCross (remaining : Nat) (s : State) : Host.Outcome State Fault Refusal :=
  run s fun s =>
    if !s.supply.sentinel then s
    else
      let s := { s with tamper := { s.tamper with cell := { s.tamper.cell with remaining := remaining } } }
      if s.alive then s.cellGate else s

/-- CHG rises to 4.5 V or falls below it; without it no charge current flows, while the timers run on (R537). -/
def execChgSupplyChange (present : Bool) (s : State) : Host.Outcome State Fault Refusal :=
  run s fun s =>
    let c := s.tamper.cell
    { s with tamper := { s.tamper with cell := { c with chg := present, current := if present then c.current else min c.current 0 } } }

/-! ### Group 0x07 (R446, Table 13.11) -/

/-- One detector's record of TAMPER_STATUS (Table 3.13); one that failed its test reads so until a later test passes (R442). -/
def State.detectorRecord (s : State) (d : Nat) : Bytes :=
  let x := s.det d
  u8 (if x.failed then 2 else if x.tripped then 1 else 0) ++ u8 (s.severityOf d) ++ u8 (detectorFloor d)
    ++ u8 (if d < 6 ∨ x.tested = false then 0 else if x.failed then 2 else 1) ++ zeros 4 ++ u64 x.alarmAt ++ u64 x.testAt ++ zeros 8

/-- TAMPER_STATUS (Table 3.13). -/
def execTamperStatus (p : Port) (s : State) : Host.Outcome State Fault Refusal :=
  runOn s fun s => serve s p 0x0701 fun s q => noPayload s q fun s =>
    s.answer q ST_OK ((List.range 22).flatMap s.detectorRecord ++ u16 s.evidence ++ u8 s.tamper.alarmSev ++ u8 (flag s.tamper.tamperState)
      ++ u8 (flag s.tamper.rtcValid) ++ zeros 3)

/-- CELL_STATUS (the widths of its parts: log 66; the temperature while the NTC is open is not stated: a free value, log 3). -/
def execCellStatus (p : Port) (s : State) : Host.Outcome State Fault Refusal :=
  runOn s fun s => serve s p 0x0702 fun s q => noPayload s q fun s =>
    let c := s.tamper.cell
    let ntc : Bytes := match c.ntc with
      | some t => u16 (signed64 t % 65536)
      | none => fit 2 (Config.freeValue s.free)
    ({ s with free := s.free + 1 }).answer q ST_OK (u8 c.state ++ u8 s.soc ++ u16 (c.learned / 1000) ++ u16 c.vbat ++ u16 (signed64 c.current % 65536)
      ++ ntc ++ u8 (s.cfgNat F_CELL_POLICY 0) ++ u8 (s.cfgNat F_CELL_FLOOR 0) ++ u8 (flag s.ms.gates.cellLow))

/-- SENTINEL_LOG_READ: the 32 entries in slot order. -/
def execSentinelLogRead (p : Port) (s : State) : Host.Outcome State Fault Refusal :=
  runOn s fun s => serve s p 0x0703 fun s q => noPayload s q fun s => s.answer q ST_OK s.sentinelLog

/-- DETECTOR_TEST: `tripped` is what the detector does under its stimulus; the answer is 1 for a pass and 2 for a failure, coded as in TAMPER_STATUS
(R442, Table 13.11; log 66). -/
def execDetectorTest (p : Port) (tripped : Bool) (tile : Nat) (s : State) : Host.Outcome State Fault Refusal :=
  runOn s fun s => serve s p 0x0704 fun s q =>
    let d := leNat q.payload
    if q.payload.length ≠ 1 then s.answer q ST_BAD_LENGTH []
    else if d < 6 ∨ 21 < d then s.answer q ST_BAD_VALUE []
    else (s.stimulate d tripped tile).answer q ST_OK (u8 (if tripped then 1 else 2))

/-- ZEROISE_COMMAND. -/
def execZeroiseCommand (p : Port) (s : State) : Host.Outcome State Fault Refusal :=
  runOn s fun s => serve s p 0x0705 fun s q => noPayload s q fun s => s.requestDevice q 0x0B

/-- RTC_SET: seconds, 48 bits. -/
def execRtcSet (p : Port) (s : State) : Host.Outcome State Fault Refusal :=
  runOn s fun s => serve s p 0x0706 fun s q =>
    if q.payload.length ≠ 6 then s.answer q ST_BAD_LENGTH [] else s.requestDevice q 0x0B

/-- What a ZEROISE_COMMAND act does: a fault source of Table 13.5, whose status is not stated (a free value, log 3). -/
def State.zeroiseAct (s : State) : State :=
  ({ s with free := s.free + 1 }).fatalFault (2 ^ 30) s.freeStatus 0 none

/-- What an RTC_SET act does; the second within which a trip joins an evidence event runs on, where it has not ended (R434). -/
def State.rtcAct (s : State) (p : Bytes) : State :=
  let now := leNat p * 1000000000
  { s with tamper := { s.tamper with
      rtc := now, rtcValid := true
      detectors := KeyMap.mapVals s.tamper.detectors fun _ d => { d with
        evidence := d.evidence.bind fun e => if s.tamper.rtc ≤ e.1 then some (now + (e.1 - s.tamper.rtc), e.2) else none } } }

end Sys2Proof.Machine
end

