-- ==== Sys2Proof/Machine/Lifecycle.lean ====
section
/-!
DEFINITION. OTP programs and the lifecycle: the factory's transitions, commissioning, re-commissioning and scrapping, the opcodes of
group 0x08 that report or change them, and the token that opens JTAG (R448 to R470, R477 to R483).
-/

namespace Sys2Proof.Machine

/-! ### What a lifecycle program leaves when it completes -/

/-- A LC_COMMISSION payload taken apart: OWNER_ID, debug public key, roster bytes, officers, M; none where it is malformed (R466). -/
def commissionParts (p : Bytes) : Option (Bytes × Bytes × Bytes × KeyMap Officer × Nat) :=
  let roster := (p.drop 48).dropLast
  if p.length < 49 then none
  else match parseOfficers 12 roster with
    | some m => if m.isEmpty then none else some (p.take 16, slice 16 32 p, roster, m, byteAt p (p.length - 1))
    | none => none

/-- Bytes that a roster's entries take; fewer than the payload's where an index is named twice. -/
def rosterSize (m : KeyMap Officer) : Nat := m.foldl (fun acc o => acc + 3 + o.2.key.length) 0

/-- The roster and quorum of commissioning are installed, and the device is OWNED (step 3 of R466, R470). -/
def State.installOwner (s : State) (payload : Bytes) : State :=
  match commissionParts payload with
  | none => s
  | some (_, _, _, officers, m) =>
    let s := s.updRealm 0 fun r => { r with roster := officers }
    (s.setCfg F_QUORUM_A 0 (u8 m)).setGates fun g => { g with lifecycle := !s.isOwned }

/-- Re-commissioning takes effect: the store is cleared but for the device realm's roster and quorum settings and the certificate slots;
histograms 12 to 63 are cleared, which a last checkpoint keeps, and TAMPER_STATE goes low; a cold GATE follows (R430, R468, R503). The generation and SVN records stay. -/
def State.recommission (s : State) : State :=
  let hists := (List.range 52).foldl (fun (m : KeyMap Hist) h => KeyMap.put m (12 + h) (Hist.clear (histReset (12 + h)) s.now)) s.recorder.hists
  let quorum (f : Nat) : Bool := f == F_QUORUM_A || f == F_QUORUM_B || f == F_QUORUM_C
  let s := { s with
    orfer := { s.orfer with
      cfg := KeyMap.keep s.orfer.cfg fun k _ => quorum (keyField k) && keyInst k == 0
      realms := KeyMap.keep s.orfer.realms fun k _ => k == 0 }
    ident := { s.ident with domain := none, domainSeal := [], sealFailed := false, roll := none }
    pair := { s.pair with linkCopy := none, linkSeal := [], mseq := 0, alone := 0 }
    recorder := { s.recorder with carried := 0, hists := hists }
    tamper := { s.tamper with tamperState := false } }
  (s.checkpointHists.emit (.drive .tamperState false)).coldGate false 13

/-- JTAG closes; trigger 13 records it (R480, R488). -/
def State.closeJtag (s : State) : State :=
  match s.jtag.scope with
  | some scope => (({ s with jtag := { s.jtag with scope := none } }).emit (.jtag false scope)).trigger 13 0 (scope + 65536)
  | none => s

/-- END_OF_LIFE, or DEBUG_DISABLE set, closes JTAG for good (R477). -/
def State.closeForGood (s : State) : State := if s.isEndOfLife || s.otp.debugDisable then s.closeJtag else s

/-- A class A act that a cold GATE completes: trigger 10 records it (R488); its ACT_DONE is not delivered (R468, R557). -/
def State.tellDone (s : State) (j : OtpJob) : State :=
  match j.act with
  | some (realm, id) => s.endAct realm id ST_OK s.now
  | none => s

/-- What follows a word that has been programmed (R437, R458, R464 to R469, R474, R476, R481). -/
def State.afterProgram (s : State) (j : OtpJob) : State :=
  match j.next with
  | .nothing => s
  | .entryStep _ => s
  | .entryDone seq => s.markDone seq
  | .unattended => s.startFacet true
  | .actDone => match j.act with
    | some (realm, id) => s.endAct realm id ST_OK s.now
    | none => s
  | .commissioned => match j.act with
    | some (realm, id) =>
      let s := s.installOwner (((s.act realm id).map (·.payload)).getD [])
      s.endAct realm id ST_OK s.now
    | none => s
  | .recommissioned => (s.tellDone j).recommission
  | .scrapped => (s.tellDone j).coldGate false 3
  | .production => ({ s with keys := { s.keys with vault := [] } }).vaultGates

/-- A word has failed all its pulses, or a lock was refused: its act ends with the status and programs nothing more. The factory's sequence
stops too; a Sentinel log entry of which a step failed stays pending, and step 7 goes on where that of an unattended power loss did (R418, R458, R459, R437). -/
def State.programFailed (s : State) (j : OtpJob) (status : Nat) : State :=
  match j.act with
  | some (realm, id) =>
    let s := { s with otp := { s.otp with jobs := s.otp.jobs.filter fun x => x.act != j.act } }
    s.endAct realm id status s.now
  | none =>
    if (s.isBlank || s.isTest) && (s.boot.stopped || s.boot.step != 3) then { s with otp := { s.otp with jobs := [] } }
    else match j.next with
      | .entryStep seq => { s with otp := { s.otp with jobs := s.otp.jobs.map fun x => if x.next = .entryDone seq then { x with next := .nothing } else x } }
      | .unattended => s.startFacet false
      | _ => s

/-- The regions whose lock fields a program touches. -/
def lockedBy (j : OtpJob) : List Nat :=
  if j.steps ≠ 0 then [] else (List.range 11).filter fun n => 0x7F0 + n / 4 == j.word && j.bits / 2 ^ (8 * (n % 4)) % 256 != 0

/-- The JTAG factory interface is open: in BLANK and TEST, unless the restrictive defaults are in force or DEBUG_DISABLE is set (R53, R454, R477). -/
def State.factoryOpen (s : State) : Bool := (s.isBlank || s.isTest) && !s.boot.restricted && !s.otp.debugDisable

/-- A word program ends: up to four pulses leave the chosen bits as `low` and `high` read at the two margins (R458). A lock is placed only on a
complete region (R459). With no program waiting, in TEST with TESTMODE_DISABLE 0, it is the factory's raw program access to `word` (R467). -/
def execOtpWordProgram (word bits low high : Nat) (s : State) : Host.Outcome State Fault Refusal :=
  runOn s fun s =>
    match s.otp.jobs with
    | j :: rest =>
      let now := s.jobBits j
      let s := { s with otp := { s.otp with jobs := rest, jobSince := s.now } }
      let s :=
        if (lockedBy j).any fun n => !s.complete n then s.programFailed j ST_OTP_INCOMPLETE
        else match now with
          | none => s.afterProgram j
          | some (w, b) =>
            let s := (s.pulse w b low high).closeForGood
            if s.programmed w b then (s.trigger 11 ST_OK w).afterProgram j
            else (s.trigger 11 ST_OTP_PROGRAM w).programFailed j ST_OTP_PROGRAM
      s.afterStep3
    | [] =>
      if s.isTest ∧ s.factoryOpen ∧ s.otp.testDisable = false ∧ otpListed word then s.pulse word (bits % 2 ^ 32) low high else s

/-! ### The factory's transitions (Table 14.5) -/

/-- BLANK to TEST, by the boot ROM. -/
def execFactoryBlankToTest (s : State) : Host.Outcome State Fault Refusal :=
  runOn s fun s => if s.isBlank ∧ s.factoryOpen ∧ s.otp.jobs.isEmpty ∧ 3 ≤ s.boot.step then s.programWord 0 none .nothing else s

/-- No bit of a region reads 1, and it is not locked. -/
def State.unused (s : State) (n : Nat) : Bool :=
  let (first, len) := otpRegion n
  !s.locked n && (List.range len).all fun i => s.otpLow (first + i) == 0

/-- Enrolment in TEST: a HELPER copy not yet used is written, checked and locked (`copy` 0 is A, 1 is B). -/
def execFactoryEnrolment (copy : Nat) (data : Bytes) (s : State) : Host.Outcome State Fault Refusal :=
  runOn s fun s =>
    if s.isTest ∧ s.factoryOpen ∧ s.boot.apex ∧ s.otp.jobs.isEmpty ∧ copy < 2 ∧ s.unused (9 + copy) then
      s.programAll (regionJobs (9 + copy) data none .nothing)
    else s

/-- TEST to PRODUCTION: TRIM, IDENT, DBGKEY and a HELPER copy locked and passing, BOOTKEY_VALID nonzero. -/
def execFactoryTestToProduction (s : State) : Host.Outcome State Fault Refusal :=
  runOn s fun s =>
    if s.isTest ∧ s.factoryOpen ∧ s.boot.apex ∧ s.otp.jobs.isEmpty ∧ s.passes 0 ∧ s.passes 1 ∧ s.passes 6 ∧ (s.passes 9 ∨ s.passes 10) ∧ s.otp.bootKeys ≠ 0 then
      (s.programWord 4 none .nothing).programWord 1 none .production
    else s

/-- Scrapping over JTAG in BLANK and TEST (R464, R469). -/
def execFactoryScrap (s : State) : Host.Outcome State Fault Refusal :=
  runOn s fun s => if s.factoryOpen ∧ s.otp.jobs.isEmpty ∧ (3 ≤ s.boot.step ∨ (s.isTest ∧ s.boot.step = 0)) then s.startScrap none else s

/-! ### Reports (Table 14.10; their forms: log 66) -/

/-- Every region of Table 14.1 in order: first word and words. -/
def otpMap : List (Nat × Nat) :=
  [(0, 4), (4, 1), (5, 1), (6, 1), (0x008, 16), (0x018, 2), (0x01A, 2), (0x01C, 4), (0x020, 8)] ++ (List.range 11).map otpRegion ++ [(0x7F0, 16)]

/-- LC_STATUS (R457, R461, Table 14.10). -/
def execLcStatus (p : Port) (s : State) : Host.Outcome State Fault Refusal :=
  runOn s fun s => serve s p 0x0801 fun s q => noPayload s q fun s =>
    s.answer q ST_OK (u8 s.lifecycleCode ++ u16 s.evidence ++ u32 s.qmark ++ u32 s.recom ++ u32 s.apexArb ++ u32 s.facetArb
      ++ ((List.range 11).flatMap fun n => u8 (flag (s.locked n) + 2 * flag (s.passes n)))
      ++ u8 s.otp.bootKeys ++ (otpMap.flatMap fun r => u32 (s.marginalIn r.1 r.2)) ++ u8 (flag s.jtag.flag) ++ u8 (flag s.boot.shadowFailed))

/-- A word that lies in a HELPER copy. -/
def helperWord (w : Nat) : Bool := 0x200 ≤ w && w ≤ 0x5FF

/-- OTP_READ: shadow words, 0 for the HELPER copies; a count above 1,000, or a word beyond the array, is ST_BAD_VALUE. -/
def execOtpRead (p : Port) (s : State) : Host.Outcome State Fault Refusal :=
  runOn s fun s => serve s p 0x0802 fun s q =>
    let first := field q.payload 0 2
    let n := field q.payload 2 2
    if q.payload.length ≠ 4 then s.answer q ST_BAD_LENGTH []
    else if 1000 < n ∨ 2048 < first + n then s.answer q ST_BAD_VALUE []
    else s.answer q ST_OK ((List.range n).flatMap fun i => u32 (if helperWord (first + i) then 0 else s.otpWord (first + i)))

/-! ### Acts of the lifecycle (R465 to R470) -/

/-- STEWARD with BASE 0x3 (R465, R479). -/
def State.stewardIdle (s : State) : Bool := s.ms.mode == .steward && s.ms.base == .watch

/-- What refuses a lifecycle act besides its mode (R465): the cell, VDD_IO or the die's temperature, a slot erase or a golden capture; no restoration runs in
the modes that take such an act. -/
def State.programCheck (s : State) : Nat :=
  if s.tamper.cellLess = false ∧ s.ms.gates.cellLow then ST_CELL_LOW
  else if s.supply.rails.io < 1750 ∨ 1850 < s.supply.rails.io ∨ 1600 < toSigned 16 (s.i3c.dieTemp % 65536) then ST_OTP_PROGRAM
  else if s.fw.erasing.isSome ∨ s.priv.capturing.isSome then ST_ADMIN_BUSY
  else ST_OK

/-- The device is OWNED and has no device-realm roster (R470). -/
def State.rosterMissing (s : State) : Bool := s.isOwned && (s.realm 0).roster.isEmpty

/-- The first OWNER slot not used, as 0 or 1 (R466). -/
def State.freeOwner (s : State) : Option Nat := if s.unused 7 then some 0 else if s.unused 8 then some 1 else none

/-- What refuses a LC_COMMISSION (R465, R466, R470, R483; spent slots: log 70). -/
def State.commissionCheck (s : State) (payload : Bytes) : Nat :=
  match commissionParts payload with
  | none => ST_BAD_LENGTH
  | some (owner, _, roster, officers, m) =>
    if s.isOwned ∧ s.rosterMissing = false then (if s.stewardIdle then ST_LIFECYCLE else ST_MODE)
    else if s.ms.mode ≠ .watch ∨ (s.isOwned = false ∧ s.isUnowned = false) then ST_MODE
    else if s.isUnowned ∧ s.programCheck ≠ ST_OK then s.programCheck
    else if ¬ (2 ≤ officers.length ∧ officers.length ≤ 12 ∧ rosterSize officers = roster.length ∧ officersOk officers
        ∧ officers.all (fun o => o.2.role == 1) ∧ 2 ≤ m ∧ m ≤ officers.length) then ST_BAD_VALUE
    else match s.ownerBytes with
      | some b => if slice 0 16 b = owner ∧ slice 16 48 b = sha384 roster then ST_OK else ST_BAD_VALUE
      | none => if s.freeOwner.isSome then ST_OK else ST_OTP_LOCKED

/-- LC_COMMISSION (R466): an act without an administrative session. -/
def execLcCommission (p : Port) (s : State) : Host.Outcome State Fault Refusal :=
  runOn s fun s => serve s p 0x0803 fun s q =>
    if q.realm ≠ 0 then s.answer q ST_REALM []
    else if s.commissionCheck q.payload ≠ ST_OK then s.answer q (s.commissionCheck q.payload) []
    else s.requestFree q 0x0A

/-- Contents of an OWNER slot (Table 14.2). -/
def State.ownerData (s : State) (owner key roster : Bytes) : Bytes :=
  owner ++ sha384 roster ++ (if allZero key then zeros 48 else sha384 key) ++ u64 s.rtcSeconds

/-- Commissioning is carried out; a status where it ends at once (R466, R470, R483). -/
def State.commission (s : State) (id : Nat) (payload : Bytes) : Option Nat × State :=
  let bad := s.commissionCheck payload
  match commissionParts payload with
  | none => (some bad, s)
  | some (owner, key, roster, _, _) =>
    if bad ≠ ST_OK then (some bad, s)
    else if s.isOwned then (some ST_OK, s.installOwner payload)
    else match s.ownerSlot, s.freeOwner with
      | none, some slot =>
        let jobs := regionJobs (7 + slot) (s.ownerData owner key roster) (some (0, id)) .nothing
        (none, (s.programAll jobs).programWord 2 (some (0, id)) .commissioned)
      | _, _ => (none, s.programWord 2 (some (0, id)) .commissioned)

/-- What refuses a LC_RECOMMISSION (R465, R468). -/
def State.recommissionCheck (s : State) (payload : Bytes) : Nat :=
  if payload.length ≠ 2 then ST_BAD_LENGTH
  else if s.ms.mode ≠ .quarantine then ST_MODE
  else if s.programCheck ≠ ST_OK then s.programCheck
  else if leNat payload ≠ s.evidence then ST_BAD_VALUE
  else if s.evidence = 512 ∨ s.qmark = 64 then ST_COUNTER_FULL
  else if s.boot.shadowFailed ∨ s.boot.vertex = false then ST_LIFECYCLE
  else ST_OK

/-- Re-commissioning is carried out: one RECOM step (R468). -/
def State.startRecommission (s : State) (id : Nat) (payload : Bytes) : Option Nat × State :=
  if s.recommissionCheck payload ≠ ST_OK then (some (s.recommissionCheck payload), s)
  else (none, s.programStep 0x01A 2 (some (0, id)) .recommissioned)

/-- An act of a device realm that is UNOWNED and has no officer, whose quorum nobody can form: it assembles at once. Table 14.11 re-commissions such a unit; who
signs it is not stated (log 159). -/
def State.assembleUnowned (s : State) : State :=
  match s.pendingAct 0 with
  | some a =>
    if s.isUnowned ∧ (s.realm 0).roster.isEmpty ∧ a.opcode = 0x0804 then
      match (s.updAct 0 a.id fun a => { a with state := .assembled }).startRecommission a.id a.payload with
      | (some st, t) => t.endAct 0 a.id st t.now
      | (none, t) => t
    else s
  | none => s

/-- LC_RECOMMISSION (R468, R483): an act without an administrative session. -/
def execLcRecommission (p : Port) (s : State) : Host.Outcome State Fault Refusal :=
  runOn s fun s => serve s p 0x0804 fun s q =>
    if q.realm ≠ 0 then s.answer q ST_REALM []
    else if s.recommissionCheck q.payload ≠ ST_OK then s.answer q (s.recommissionCheck q.payload) []
    else (s.requestFree q 0x0A).assembleUnowned

/-- What refuses a LC_SCRAP (R465, R469). -/
def State.scrapCheck (s : State) (payload : Bytes) : Nat :=
  if payload.length ≠ 16 then ST_BAD_LENGTH
  else if ¬ (s.ms.mode = .quarantine ∨ (s.isProduction ∧ s.stewardIdle)) then ST_MODE
  else if s.programCheck ≠ ST_OK then s.programCheck
  else if payload ≠ s.serial then ST_BAD_VALUE
  else ST_OK

/-- LC_SCRAP (R469): without an administrative session in QUARANTINE. -/
def execLcScrap (p : Port) (s : State) : Host.Outcome State Fault Refusal :=
  runOn s fun s => serve s p 0x0805 fun s q =>
    if q.realm ≠ 0 then s.answer q ST_REALM []
    else if s.scrapCheck q.payload ≠ ST_OK then s.answer q (s.scrapCheck q.payload) []
    else if s.ms.mode = .quarantine then s.requestFree q 0x0A
    else s.request q 0x0A

/-- The scrap is carried out (R469). -/
def State.scrap (s : State) (id : Nat) (payload : Bytes) : Option Nat × State :=
  if s.scrapCheck payload ≠ ST_OK then (some (s.scrapCheck payload), s) else (none, s.startScrap (some (0, id)))

/-! ### Debug (R477 to R481) -/

/-- DEBUG_CHALLENGE: a fresh nonce for one DEBUG_OPEN on the same session within 300 s (R479). -/
def execDebugChallenge (p : Port) (s : State) : Host.Outcome State Fault Refusal :=
  runOn s fun s => serve s p 0x0806 fun s q => noPayload s q fun s =>
    let (nonce, s) := s.draw 16
    (s.updSession q.session fun x => { x with debugNonce := some (nonce, s.now + 300000000000) }).answer q ST_OK nonce

/-- The digest that KEY_SOURCE names; none where there is none (R478, R479). -/
def State.debugDigest (s : State) (source : Nat) : Option Bytes :=
  if source = 0 then
    let region := s.otpBytes 0x0C8 13
    if s.passes 6 ∧ bit (field region 48 4) 2 then some (region.take 48) else none
  else if source = 1 then s.ownerBytes.map (slice 64 48)
  else none

/-- The token passes the checks of R479 for a nonce handed to its session. -/
def State.tokenOk (s : State) (nonce : Option (Bytes × Nat)) (t : Bytes) : Bool :=
  let key := slice 0x40 32 t
  let life := field t 0x0C 4
  (nonce.map fun n => n.1 == slice 0x20 16 t && decide (s.now ≤ n.2)).getD false
    && slice 0 8 t == ascii "JGDBGTOK" && byteAt t 8 == 1 && decide (field t 0x0A 2 < 8) && decide (60 ≤ life ∧ life ≤ 86400)
    && slice 0x10 16 t == s.serial && allZero (slice 0x30 16 t)
    && s.debugDigest (byteAt t 9) == some (sha384 key)
    && slhVerify 0x131 key 0 [] (t.take 0x60) (t.drop 0x60)

/-- What refuses a DEBUG_OPEN before its token is read (R479). -/
def State.debugCheck (s : State) : Nat :=
  if ¬ (s.isProduction ∧ s.stewardIdle) then ST_MODE
  else if s.pair.mode ≠ .unpaired then ST_CHANNEL_POLICY
  else if s.otp.debugDisable then ST_LIFECYCLE
  else ST_OK

/-- DEBUG_OPEN (R479): the nonce is used up by the attempt. -/
def execDebugOpen (p : Port) (s : State) : Host.Outcome State Fault Refusal :=
  runOn s fun s => serve s p 0x0807 fun s q =>
    if q.payload.length ≠ 7952 then s.answer q ST_BAD_LENGTH []
    else if s.debugCheck ≠ ST_OK then s.answer q s.debugCheck []
    else
      let nonce := (s.session q.session).bind (·.debugNonce)
      let s := s.updSession q.session fun x => { x with debugNonce := none }
      if s.tokenOk nonce q.payload then s.requestDevice q 0x0A else s.answer q ST_DEBUG_TOKEN []

/-- The quorum for a DEBUG_OPEN has assembled: zeroise line, debug-open flag, JTAG open for SCOPE (R480, trigger 13). -/
def State.openDebug (s : State) (token : Bytes) : Nat × State :=
  if s.debugCheck ≠ ST_OK then (s.debugCheck, s)
  else
    let scope := field token 0x0A 2
    let s := s.zeroiseLine
    let s := { s with jtag := { s.jtag with scope := some scope, flag := true, limit := some (s.now + 1000000000 * field token 0x0C 4) } }
    (ST_OK, (s.emit (.jtag true scope)).trigger 13 0 scope)

/-- DEBUG_CLOSE: JTAG closes and a cold GATE starts; with no port open there is nothing to close (R480; CAUSE: log 68). -/
def execDebugClose (p : Port) (s : State) : Host.Outcome State Fault Refusal :=
  runOn s fun s => serve s p 0x0808 fun s q => noPayload s q fun s =>
    let s := s.answer q ST_OK []
    if s.jtag.limit.isSome then s.closeJtag.coldGate false 3 else s

/-- The end of a token's LIFETIME: JTAG closes and a cold GATE starts (R480; CAUSE: log 68). -/
def execDebugLifetimeExpire (s : State) : Host.Outcome State Fault Refusal :=
  runOn s fun s =>
    match s.jtag.limit with
    | some t => (s.advance t).closeJtag.coldGate false 3
    | none => s

/-- DEBUG_DISABLE_PERMANENT, in PRODUCTION (R481). -/
def execDebugDisablePermanent (p : Port) (s : State) : Host.Outcome State Fault Refusal :=
  runOn s fun s => serve s p 0x0809 fun s q => noPayload s q fun s =>
    if s.isProduction then s.requestDevice q 0x0A else s.answer q ST_LIFECYCLE []

/-- DEBUG_DISABLE is programmed (R481). -/
def State.disableDebug (s : State) (id : Nat) : Option Nat × State :=
  if s.isProduction then (none, s.programWord 5 (some (0, id)) .actDone) else (some ST_LIFECYCLE, s)

end Sys2Proof.Machine
end

