-- ==== Sys2Proof/Machine/Firmware.lean ====
section
/-!
DEFINITION. Updating firmware images: opcodes of group 0x0A, the end of a slot erase, the restart after an activation (R471 to R476, R482).
-/

namespace Sys2Proof.Machine

/-- A KIND of Table 14.8. -/
def kindOk (k : Nat) : Bool := k == 1 || k == 2
/-- Size of an image slot (R471). -/
def slotSize (kind : Nat) : Nat := if kind = 1 then 0x1F000 else 0x400000
/-- The slot that is not active (R475). -/
def State.inactiveSlot (s : State) (kind : Nat) : Nat := 1 - s.activeSlot kind
/-- Contents of an image slot replaced. -/
def State.putImage (s : State) (kind slot : Nat) (b : Bytes) : State :=
  { s with fw := { s.fw with slots := KeyMap.put s.fw.slots (2 * kind + slot) b } }
/-- Verification of an image slot under R473. -/
def State.verifySlot (s : State) (kind slot : Nat) : Nat :=
  s.imageStatus kind (if kind = 2 then s.apexMajor else none) (s.image kind slot)

/-- One slot of FW_STATUS (Table 14.10; log 66). -/
def State.slotStatus (s : State) (kind slot : Nat) : Bytes :=
  let img := s.image kind slot
  u8 (flag (s.verifySlot kind slot == ST_OK)) ++ u8 (byteAt img 0xA) ++ u8 (byteAt img 0xB)
    ++ u32 (field img 0xC 4) ++ fit 8 (slice 0x18 8 img) ++ u8 (byteAt img 9)

/-- FW_STATUS. -/
def execFwStatus (p : Port) (s : State) : Host.Outcome State Fault Refusal :=
  runOn s fun s => serve s p 0x0A01 fun s q => noPayload s q fun s =>
    let one (k : Nat) : Bytes :=
      s.slotStatus k 0 ++ s.slotStatus k 1 ++ u8 (s.activeSlot k) ++ u8 (KeyMap.get s.fw.running 0 k) ++ u8 (flag (KeyMap.get s.fw.fallback false k))
    s.answer q ST_OK (one 1 ++ one 2 ++ u16 s.apexArb ++ u16 s.facetArb)

/-- FW_SLOT_ERASE answers at once (R475, step 1). -/
def execFwSlotErase (p : Port) (s : State) : Host.Outcome State Fault Refusal :=
  runOn s fun s => serve s p 0x0A02 fun s q => onePayload s q kindOk fun k =>
    if s.fw.erasing.isSome then s.answer q ST_ADMIN_BUSY []
    else (({ s with fw := { s.fw with erasing := some k } }).putImage k (s.inactiveSlot k) []).answer q ST_OK []

/-- The slot erase ends; what a failed erase leaves in the slot is not stated: a free value (R475; log 3). -/
def execFwSlotEraseDone (pass : Bool) (s : State) : Host.Outcome State Fault Refusal :=
  runOn s fun s =>
    match s.fw.erasing with
    | none => s
    | some k =>
      let s := { s with fw := { s.fw with erasing := none } }
      if pass then s.notify 0 0x0A01 ST_OK k
      else (({ s with free := s.free + 1 }).putImage k (s.inactiveSlot k) (Config.freeValue s.free)).notify 0 0x0A01 ST_FLASH_TIMEOUT k

/-- FW_STAGE: up to 4,000 bytes at the offset where the previous request ended; out of order, or past the slot's end, ST_BAD_VALUE
(R475, step 2). -/
def execFwStage (p : Port) (s : State) : Host.Outcome State Fault Refusal :=
  runOn s fun s => serve s p 0x0A03 fun s q =>
    let k := byteAt q.payload 0
    let off := field q.payload 1 4
    let data := q.payload.drop 5
    if q.payload.length < 6 ∨ 4000 < data.length then s.answer q ST_BAD_LENGTH []
    else if kindOk k = false then s.answer q ST_BAD_VALUE []
    else if s.fw.erasing.isSome then s.answer q ST_ADMIN_BUSY []
    else
      let old := s.image k (s.inactiveSlot k)
      if off ≠ old.length ∨ slotSize k < off + data.length then s.answer q ST_BAD_VALUE []
      else (s.putImage k (s.inactiveSlot k) (old ++ data)).answer q ST_OK []

/-- FW_STAGE_END verifies the staged slot and reports the outcome (R475, step 3). -/
def execFwStageEnd (p : Port) (s : State) : Host.Outcome State Fault Refusal :=
  runOn s fun s => serve s p 0x0A04 fun s q => onePayload s q kindOk fun k =>
    if s.fw.erasing.isSome then s.answer q ST_ADMIN_BUSY []
    else s.answer q ST_OK (u16 (s.verifySlot k (s.inactiveSlot k)))

/-- What refuses a FW_ACTIVATE (R475). -/
def State.activateCheck (s : State) (p : Bytes) : Nat :=
  if p.length ≠ 3 then ST_BAD_LENGTH
  else if kindOk (byteAt p 0) = false ∨ 1 < byteAt p 1 ∨ 1 < byteAt p 2 then ST_BAD_VALUE
  else s.verifySlot (byteAt p 0) (byteAt p 1)

/-- FW_ACTIVATE (R475, step 4). -/
def execFwActivate (p : Port) (s : State) : Host.Outcome State Fault Refusal :=
  runOn s fun s => serve s p 0x0A05 fun s q =>
    if s.activateCheck q.payload ≠ ST_OK then s.answer q (s.activateCheck q.payload) [] else s.requestDevice q 0x0A

/-- Apex writes the copy of the boot header that is not in use, with the next SEQ (R471). -/
def State.writeHeader (s : State) (apex facet : Nat) : State :=
  let (copy, seq) := match s.headerCopy with
    | some c => (1 - c, field (s.header c) 8 8 + 1)
    | none => (0, 1)
  { s with fw := { s.fw with headers := KeyMap.put s.fw.headers copy (bootHeader seq apex facet) } }

/-- The boot header is written with the slot; with RESTART a cold GATE is due 1 s later (R471, R475, trigger 12). -/
def State.activateImage (s : State) (p : Bytes) : Nat × State :=
  if s.activateCheck p ≠ ST_OK then (s.activateCheck p, s)
  else
    let slot := byteAt p 1
    let s := if byteAt p 0 = 1 then s.writeHeader slot (s.headerSlot 2) else s.writeHeader (s.headerSlot 1) slot
    let s := { s with fw := { s.fw with
      restartAt := if byteAt p 2 = 1 then some (s.now + 1000000000) else s.fw.restartAt } }
    (ST_OK, s.trigger 12 0 (byteAt p 0))

/-- 1 s after the ACT_DONE of an activation with RESTART: a cold GATE, as a device reset (R475, Table 2.8). -/
def execFwActivateRestart (s : State) : Host.Outcome State Fault Refusal :=
  runOn s fun s =>
    match s.fw.restartAt with
    | some t => (s.advance t).coldGate false 3
    | none => s

/-- A running SVN can never be committed (R474). -/
def State.svnBeyond (s : State) : Bool := decide (128 < s.runningSvn 1 ∨ 256 < s.runningSvn 2)

/-- FW_SVN_COMMIT (R474). -/
def execFwSvnCommit (p : Port) (s : State) : Host.Outcome State Fault Refusal :=
  runOn s fun s => serve s p 0x0A06 fun s q => noPayload s q fun s =>
    if s.svnBeyond then s.answer q ST_COUNTER_FULL [] else s.requestDevice q 0x0A

/-- Programs that raise a thermometer of `n` words from one value to another, one for each word (R451, R458). -/
def raiseJobs (first n low high : Nat) (act : Option (Nat × Nat)) : List OtpJob :=
  (List.range n).filterMap fun i =>
    let bits := (List.range 32).foldl (fun acc b => if low ≤ 32 * i + b ∧ 32 * i + b < high then acc + 2 ^ b else acc) 0
    if bits = 0 then none else some ⟨first + i, bits, 0, act, .nothing⟩

/-- The counters rise to the running images' SVNs; the act's output is their new values (R474; its form: log 66). -/
def State.commitSvn (s : State) (id : Nat) : Option Nat × State :=
  if s.svnBeyond then (some ST_COUNTER_FULL, s)
  else
    let a := max s.apexArb (s.runningSvn 1)
    let f := max s.facetArb (s.runningSvn 2)
    let jobs := raiseJobs 0x01C 4 s.apexArb a (some (0, id)) ++ raiseJobs 0x020 8 s.facetArb f (some (0, id))
    let s := s.setOutput 0 id (u16 a ++ u16 f)
    match jobs.getLast? with
    | none => (some ST_OK, s)
    | some j =>
      let last : OtpJob := { j with next := .actDone }
      (none, s.programAll (jobs.dropLast ++ [last]))

/-- What refuses a FW_KEY_REVOKE (R476). -/
def State.revokeCheck (s : State) (p : Bytes) : Nat :=
  let k := byteAt p 0
  let both (i : Nat) : Bool := field (s.otpBytes (0x088 + 16 * i + 12) 1) 0 4 % 4 == 3
  if p.length ≠ 1 then ST_BAD_LENGTH
  else if 3 < k ∨ ((List.range 4).any fun i => i != k && s.keySlotValid i && both i) = false
      ∨ (s.fw.images.any fun h => byteAt h.2 9 == k) then ST_BAD_VALUE
  else ST_OK

/-- FW_KEY_REVOKE (R476). -/
def execFwKeyRevoke (p : Port) (s : State) : Host.Outcome State Fault Refusal :=
  runOn s fun s => serve s p 0x0A07 fun s q =>
    if s.revokeCheck q.payload ≠ ST_OK then s.answer q (s.revokeCheck q.payload) [] else s.requestDevice q 0x0A

/-- One byte of FWKEY_REVOKE is programmed (R476). -/
def State.revokeKey (s : State) (id : Nat) (p : Bytes) : Option Nat × State :=
  if s.revokeCheck p ≠ ST_OK then (some (s.revokeCheck p), s)
  else (none, s.program ⟨6, 0xFF * 2 ^ (8 * byteAt p 0), 0, some (0, id), .actDone⟩)

end Sys2Proof.Machine
end

