-- ==== Sys2Proof/Machine/Recorder.lean ====
section
/-!
DEFINITION. The journal writer of the Locus recorder, its checkpoints and periodic sources, and the opcodes of group 0x09 (R489, R492 to R503).
-/

namespace Sys2Proof.Machine

/-! ### The journal writer (R496, R497) -/

/-- A flush starts when the oldest record's time has come (R496); while a failed one waits for its retry, none starts. -/
def execJournalFlush (pass : Bool) (s : State) : Host.Outcome State Fault Refusal :=
  runOn s fun s =>
    match s.recorder.flushBy with
    | some t => if s.recorder.running ∧ s.recorder.retryAt.isNone then (s.advance t).flush pass else s
    | none => s

/-- A failed flush is tried again (R497). -/
def execJournalFlushRetry (pass : Bool) (s : State) : Host.Outcome State Fault Refusal :=
  runOn s fun s =>
    match s.recorder.retryAt with
    | some t => if s.recorder.running then (s.advance t).flush pass else s
    | none => s

/-- Room has returned in the staging buffer: trigger 15 and REC_LOSS name the records dropped (R497). -/
def execRecorderRoomReturns (s : State) : Host.Outcome State Fault Refusal :=
  runOn s fun s =>
    let n := s.recorder.dropped
    if s.recorder.running ∧ n ≠ 0 ∧ s.recorder.staging.length < 64 then
      (({ s with recorder := { s.recorder with dropped := 0 } }).trigger 15 0 n).notify 0 0x0900 0 n
    else s

/-! ### Periodic sources and histograms -/

/-- Device time reaches a multiple of a PERIODIC trigger's period (R489, Table 15.4). -/
def execPeriodicTrigger (trigger : Nat) (s : State) : Host.Outcome State Fault Refusal :=
  runOn s fun s =>
    let v := s.cfg F_TRIG_SOURCE trigger
    let period := 1000000 * field v 4 4
    if s.recorder.running ∧ 16 ≤ trigger ∧ trigger < 64 ∧ field v 0 2 = 0x20 ∧ period ≠ 0 then
      (s.advance (ceilDiv s.now period * period)).fireRated trigger 0 (field v 4 4)
    else s

/-- A lane of Table 15.5 is up: 0 and 1 Chord, 2 to 9 PCIe. -/
def State.laneUp (s : State) (lane : Nat) : Bool :=
  if lane ≤ 1 then bit s.pair.lanes lane else s.pcie.up && decide (lane < s.pcie.width + 2)

/-- A value of 16 bits in two's complement. -/
def signed16 (v : Int) : Nat := signed64 v % 65536

/-- What a periodic sample shows is also what registers and snapshots read (Tables 3.10, 15.5, 15.6); `mv` is the vertical margin of an EYE sample. -/
def State.observe (s : State) (subject arg : Nat) (v : Int) (mv : Nat) : State :=
  if subject = 2 then
    if arg = 0xFF then { s with i3c := { s.i3c with dieTemp := signed16 v } } else s.updTile arg fun x => { x with temp := signed16 v }
  else if subject = 3 then { s with i3c := { s.i3c with vcore := signed16 v } }
  else if subject = 5 then
    { s with pair := { s.pair with margins := KeyMap.put s.pair.margins arg (signed16 v, mv % 65536) } }
  else if subject = 9 then { s with i3c := { s.i3c with power := signed16 v } }
  else if subject = 0xA then { s with tamper := { s.tamper with cell := { s.tamper.cell with vbat := signed16 v } } }
  else s

/-- Stretches of a tile since the cold GATE, or of all for 0xFF (R514, Table 15.6). -/
def State.stretches (s : State) (arg : Nat) : Nat :=
  if arg = 0xFF then (List.range 24).foldl (fun acc t => acc + (s.tile t).stretch) 0 else (s.tile arg).stretch

/-- The sample of a STRETCH histogram is what has been stretched since its last one (R514); of another subject it is the value measured. -/
def State.histValue (s : State) (hist subject arg : Nat) (value : Int) : Int :=
  if subject = 7 then s.stretches arg - KeyMap.get s.recorder.stretchSeen 0 hist else value

/-- A periodic sample of a histogram's subject (Tables 15.5, 15.6). -/
def execHistSample (hist : Nat) (x : Measured) (s : State) : Host.Outcome State Fault Refusal :=
  runOn s fun s =>
    let cfg := s.cfg F_HIST_CONFIG hist
    let subject := field cfg 0 2
    let arg := field cfg 4 4
    let periodic := subject == 2 || subject == 3 || subject == 5 || subject == 6 || subject == 7 || subject == 9 || subject == 0xA
    if 64 ≤ hist ∨ periodic = false ∨ s.recorder.running = false then s
    else if subject = 5 ∧ s.laneUp arg = false then s
    else
      let v := s.histValue hist subject arg x.value
      let s := if subject = 7 then { s with recorder := { s.recorder with stretchSeen := KeyMap.put s.recorder.stretchSeen hist (s.stretches arg) } } else s
      (s.observe subject arg v x.mv).sample hist v

/-- 10 s have passed since the last checkpoint (R494). -/
def execHistCheckpoint (s : State) : Host.Outcome State Fault Refusal :=
  runOn s fun s =>
    if s.recorder.running then
      let s := s.advance s.recorder.checkpointAt
      let s := { s with recorder := { s.recorder with checkpointAt := s.now + 10000000000 } }
      s.checkpointHists
    else s

/-! ### Opcodes of group 0x09 (R500 to R502; the forms of the reports: log 66) -/

/-- REC_STATUS. -/
def execRecStatus (p : Port) (s : State) : Host.Outcome State Fault Refusal :=
  runOn s fun s => serve s p 0x0901 fun s q => noPayload s q fun s =>
    let r := s.recorder
    s.answer q ST_OK (u64 r.nextRseq ++ u64 s.oldestRseq ++ u32 (s.recordsOf 1).length ++ u32 r.staging.length ++ u32 r.losses ++ u32 r.suppressed
      ++ u64 r.lastFlush.1 ++ u16 r.lastFlush.2 ++ u16 r.carried)

/-- REC_READ. -/
def execRecRead (p : Port) (s : State) : Host.Outcome State Fault Refusal :=
  runOn s fun s => serve s p 0x0902 fun s q =>
    let first := field q.payload 0 8
    let n := field q.payload 8 4
    if q.payload.length ≠ 12 then s.answer q ST_BAD_LENGTH []
    else if n = 0 ∨ 31 < n then s.answer q ST_BAD_VALUE []
    else s.answer q ST_OK ((s.recordsIn first (first + n - 1)).flatMap (·.bytes))

/-- REC_HIST_READ. -/
def execRecHistRead (p : Port) (s : State) : Host.Outcome State Fault Refusal :=
  runOn s fun s => serve s p 0x0903 fun s q =>
    let first := byteAt q.payload 0
    let n := field q.payload 1 4
    if q.payload.length ≠ 5 then s.answer q ST_BAD_LENGTH []
    else if n = 0 ∨ 20 < n ∨ 64 < first + n then s.answer q ST_BAD_VALUE []
    else s.answer q ST_OK (s.histBlocks first n)

/-- LAST_RSEQ as it resolves: 0 means the last sealed record. -/
def State.exportLast (s : State) (p : Bytes) : Nat := if field p 8 8 = 0 then s.recorder.sealed else field p 8 8

/-- What refuses a REC_EXPORT (R501). -/
def State.exportCheck (s : State) (p : Bytes) : Nat :=
  let first := field p 0 8
  let last := s.exportLast p
  if p.length ≠ 49 then ST_BAD_LENGTH
  else if last < first ∨ 8192 < last + 1 - first ∨ s.recorder.sealed < last ∨ 3 < byteAt p 16 then ST_BAD_VALUE
  else ST_OK

/-- REC_EXPORT, a class C act. -/
def execRecExport (p : Port) (s : State) : Host.Outcome State Fault Refusal :=
  runOn s fun s => serve s p 0x0904 fun s q =>
    if s.exportCheck q.payload ≠ ST_OK then s.answer q (s.exportCheck q.payload) [] else s.requestDevice q 0x0C

/-- The export's header and body, from the journal as it stands (R501, R502, Table 15.12). -/
def State.makeExport (s : State) (p : Bytes) : Bytes × Bytes :=
  let first := field p 0 8
  let last := s.exportLast p
  let recs := s.recordsIn first last
  let old := s.oldestRseq
  -- RSEQ values from 1,025 to OLDEST_RSEQ - 1 have gone by circulation
  let gone := (min (last + 1) old) - (max first 1025)
  let missing := last + 1 - first - recs.length
  let body := (recs.flatMap (·.bytes)) ++ (if bit (byteAt p 16) 0 then s.histBlocks 0 64 else []) ++ (if bit (byteAt p 16) 1 then s.sentinelLog else [])
  let flags := flag (!s.ident.keys) + 2 * flag (decide (gone < missing)) + 4 * (byteAt p 16 % 4)
  (ascii "JGLOCUSX" ++ u8 1 ++ u8 flags ++ u16 0 ++ u32 recs.length ++ s.serial ++ slice 17 32 p ++ u64 first ++ u64 last ++ u64 old
    ++ u64 s.now ++ u64 s.rtcSeconds ++ sha384 body ++ zeros 8, body)

/-- REC_RESULT_READ. -/
def execRecResultRead (p : Port) (s : State) : Host.Outcome State Fault Refusal :=
  runOn s fun s => serve s p 0x0905 fun s q => s.readOutput q

/-- REC_HIST_RESET, a class B act. -/
def execRecHistReset (p : Port) (s : State) : Host.Outcome State Fault Refusal :=
  runOn s fun s => serve s p 0x0906 fun s q => if q.payload.length ≠ 8 then s.answer q ST_BAD_LENGTH [] else s.requestDevice q 0x0B

/-- The histograms that a mask names are cleared (R492). -/
def State.resetHists (s : State) (mask : Nat) : State :=
  (List.range 64).foldl (fun s h => if bit mask h then
    { s with recorder := { s.recorder with hists := KeyMap.put s.recorder.hists h (Hist.clear (s.hist h).config s.now) } } else s) s

end Sys2Proof.Machine
end

