-- ==== Sys2Proof/Machine/Tiles.lean ====
section
/-!
DEFINITION. Crossings that time out, the adaptive loops, clock stretches, and the AVSBus exchange (R510, R513 to R521, R524).
-/

namespace Sys2Proof.Machine

/-- A tile of Table 16.1. -/
def isTile (t : Nat) : Bool := t ≤ 23

/-! ### Crossings (R510) -/

/-- A crossing from tile `src` into tile `dst` times out: `dst` has waited 1,024 of its cycles. `items` names the items, by channel and number,
whose work needed an abandoned transfer, on channel 0 the digest feeds by theirs; they end with ST_CDC_TIMEOUT, unless an alarm has aborted them (R291,
R510, R524, trigger 14). A crossing that passes nothing yet times out anew for whoever waits on it next. -/
def execCrossingTimeout (src dst : Nat) (items : List (Nat × Nat)) (s : State) : Host.Outcome State Fault Refusal :=
  runOn s fun s =>
    if !isTile src ∨ !isTile dst ∨ src = dst then s
    else
      let s := { s with tiles := { s.tiles with stuck := KeyMap.put s.tiles.stuck (32 * src + dst) true } }
      let s := s.updTile dst fun x => { x with cdcTimeouts := min 65535 (x.cdcTimeouts + 1) }
      let s := s.trigger 14 ST_CDC_TIMEOUT (src + 256 * dst)
      -- the feeds of channel 0 by their numbers (R291)
      let s := (items.filter fun p => p.1 == 0).foldl (fun s p => s.endFeed p.2 (((KeyMap.find s.cipher.feeds p.2).map (·.received)).getD 0) ST_CDC_TIMEOUT) s
      s.mapAdmitted fun c x =>
        let spared : Bool := x.cls == .refused || x.result.any fun r => r.status == ST_ABORTED || r.status == ST_MODE
        if items.contains (c, x.seq) && !spared then { x with result := some (Result.none_ ST_CDC_TIMEOUT), doneAt := s.now } else x

/-- Tile at which the count crossings end and Table 16.3's totals are kept: Apex (log 75). -/
def countTile : Nat := 0

/-- A pulse joins the accumulator of a count crossing, which saturates (R511). -/
def CountCrossing.add (x : CountCrossing) : CountCrossing := ⟨min 65535 (x.acc + 1), x.sat || decide (65535 ≤ x.acc)⟩

/-- The handshake of tile `t`'s clock-swallow crossing: it carries the accumulator's value, with SAT after a saturation; the destination adds the value to
its running total, and with the acknowledge the source subtracts it (R511). A crossing that has timed out carries nothing (R510). -/
def State.carryCount (s : State) (t : Nat) : State :=
  match KeyMap.find s.tiles.counts t with
  | none => s
  | some x =>
    if s.stuck t countTile then s
    else
      let carried := x.acc
      let left : CountCrossing := ⟨x.acc - carried, false⟩
      let s := { s with tiles := { s.tiles with counts := if left.acc = 0 then KeyMap.del s.tiles.counts t else KeyMap.put s.tiles.counts t left } }
      let s := s.updTile t fun y => { y with stretch := min (2 ^ 32 - 1) (y.stretch + carried) }
      if x.sat then s.updTile countTile fun y => { y with sat := true } else s

/-- A pulse of a tile's clock-swallow crossing; the total that it reaches is what the STRETCH histograms sample (R511, R514). -/
def State.countStretch (s : State) (t : Nat) : State :=
  let x := (KeyMap.get s.tiles.counts ⟨0, false⟩ t).add
  ({ s with tiles := { s.tiles with counts := KeyMap.put s.tiles.counts t x } }).carryCount t

/-- The peer's liveness toggle changes again: the crossing passes transfers from its initial phase (R510), the pulses counted meanwhile among them (R511). -/
def execLivenessToggleResumes (src dst : Nat) (s : State) : Host.Outcome State Fault Refusal :=
  runOn s fun s =>
    let s := { s with tiles := { s.tiles with stuck := KeyMap.del s.tiles.stuck (32 * src + dst) } }
    if dst = countTile then s.carryCount src else s

/-! ### The AVS controller (R519, R521) -/

/-- When S may be lowered: D has stayed at or below S − 15 mV for 1 ms, and 100 µs have passed since the last lowering (R519). -/
def AvsState.lowerDue (a : AvsState) : Option Nat :=
  a.lowSince.map fun t => max (t + 1000000) ((a.loweredAt.map fun l => l + 100000).getD 0)

/-- A lowering write (R519). -/
def State.avsLower (s : State) : State :=
  ({ s with tiles := { s.tiles with avs := { s.tiles.avs with loweredAt := some s.now } } }).avsWrite (max s.tiles.avs.demand (s.tiles.avs.mv - 10))

/-- The time for a lowering has come (R519). -/
def execAvsLowerTimer (s : State) : Host.Outcome State Fault Refusal :=
  runOn s fun s =>
    let a := s.tiles.avs
    match a.lowerDue with
    | some due => if a.write.isSome ∨ a.retryAt.isSome then s else (s.advance due).avsLower
    | none => s

/-- A write has failed: it is repeated after 10 µs; when the third repeat has failed too, FAULT is set, AVS_FAULT is sent, and the next try
follows 100 ms later (R519; log 71). -/
def State.avsFailed (s : State) (w : AvsWrite) : State :=
  let a := s.tiles.avs
  if w.repeats < 3 then { s with tiles := { s.tiles with avs := { a with write := some { w with readback := false }, retryAt := some (s.now + 10000) } } }
  else
    let s := { s with tiles := { s.tiles with avs := { a with write := none, fault := true, retryAt := some (s.now + 100000000) } } }
    s.notify 0 0x0B00 0 w.target

/-- An AVSBus frame completes: the write's, or the readback's with the target that the regulator reports (R519). -/
def execAvsFrameComplete (good : Bool) (readback : Nat) (s : State) : Host.Outcome State Fault Refusal :=
  runOn s fun s =>
    let a := s.tiles.avs
    match a.write with
    | none => s
    | some w =>
      if a.retryAt.isSome then s
      else if !w.readback then
        if good then ({ s with tiles := { s.tiles with avs := { a with write := some { w with readback := true } } } }).emit (.avs w.target true)
        else s.avsFailed w
      else
        let s := { s with tiles := { s.tiles with avs := { a with readback := readback % 65536 } } }
        if good ∧ readback = w.target then
          ({ s with tiles := { s.tiles with avs := { s.tiles.avs with write := none, mv := w.target } } }).avsUpdate
        else s.avsFailed w

/-- A failed write is repeated (R519). -/
def execAvsWriteRetry (s : State) : Host.Outcome State Fault Refusal :=
  runOn s fun s =>
    match s.tiles.avs.write, s.tiles.avs.retryAt with
    | some w, some t =>
      let s := s.advance t
      let a := s.tiles.avs
      ({ s with tiles := { s.tiles with avs := { a with
        write := some { w with repeats := w.repeats + 1 }, retryAt := none, retries := min 255 (a.retries + 1) } } }).avsSend w.target
    | _, _ => s

/-- After a fault the controller tries again with the demand as it stands: a raise at once, a lowering where its time has come (R519). -/
def execAvsFaultRetry (s : State) : Host.Outcome State Fault Refusal :=
  runOn s fun s =>
    match s.tiles.avs.write, s.tiles.avs.retryAt with
    | none, some t =>
      let s := s.advance t
      let a := s.tiles.avs
      if a.mv < a.demand then s.avsWrite a.demand
      else if a.lowerDue.any fun due => decide (due ≤ s.now) then s.avsLower
      else { s with tiles := { s.tiles with avs := { a with retryAt := none } } }
    | _, _ => s

/-! ### The adaptive loops (R513 to R517) -/

/-- A crypto tile is failing its timing: a DEGRADE alarm of unfinished work names it, and it leaves service (R516, Table 13.5). -/
def State.failTile (s : State) (t : Nat) : State :=
  (s.faultDegrade ST_ENGINE_FAULT t (unitsOf t)).tileOut t

/-- A 1 µs loop interval of a tile ends; `slack` is the least slack in it, in percent, and `vdd` the VDD_CORE in mV that the tile's header sees
(Table 16.2; log 72). V_t stays between 0.68 V and its ceiling whatever VDD_CORE has become (R513). -/
def execLoopInterval (tile : Nat) (slack : Int) (vdd : Nat) (s : State) : Host.Outcome State Fault Refusal :=
  runOn s fun s =>
    if !isTile tile then s
    else
      let s := s.advance (ceilDiv s.now 1000 * 1000)
      let x := s.tile tile
      let top := ceilingMv vdd
      let x :=
        if slack < 5 then
          let stuck := decide (top ≤ x.vlocal)
          { x with
            vlocal := clampMv vdd (x.vlocal + 5), high := 0, atCeiling := stuck
            ceilingSince := if stuck then some (x.ceilingSince.getD s.now) else none }
        else
          let up := if 11 < slack then x.high + 1 else 0
          { x with
            vlocal := clampMv vdd (if up = 100 then x.vlocal - 5 else x.vlocal), high := if up = 100 then 0 else up, atCeiling := false, ceilingSince := none }
      let s := (s.updTile tile fun _ => x).avsUpdate
      if cryptoTile tile ∧ x.inService ∧ x.ceilingSince.any fun t => decide (t + 10000000 ≤ s.now) then s.failTile tile else s

/-- One clock edge of a tile is swallowed (R513 to R516). -/
def execClockStretch (tile : Nat) (s : State) : Host.Outcome State Fault Refusal :=
  runOn s fun s =>
    if !isTile tile then s
    else
      let sector := s.now / 256
      let s := s.countStretch tile
      let x := s.tile tile
      if !cryptoTile tile then s
      else
        let n := if x.sector.1 = sector then x.sector.2 + 1 else 1
        let x := { x with sector := (sector, n) }
        if n ≠ 13 then s.updTile tile fun _ => x
        else
          let run := if x.overRun ≠ 0 ∧ x.lastOver + 1 = sector then x.overRun + 1 else 1
          let x := { x with overBudget := min 65535 (x.overBudget + 1), overRun := run, lastOver := sector }
          let s := s.updTile tile fun _ => x
          if 16 ≤ run ∧ x.inService then s.failTile tile else s

end Sys2Proof.Machine
end

