-- ==== Sys2Proof/Machine/Acts.lean ====
section
/-!
DEFINITION. CFG_COMMIT, the officers' signatures, what an act does once its quorum has assembled, and Apex's signatures
(R88 to R95, R101 to R106, R363, R557).
-/

namespace Sys2Proof.Machine

/-! ### CFG_COMMIT (R101 to R106) -/

/-- Class of a commit: the highest among its fields, 0 where none has one (R103). -/
def commitClass (entries : KeyMap Bytes) : Nat :=
  let has (c : Nat) : Bool := entries.any fun e => fieldClass (keyField e.1) == c
  if has 0x0A then 0x0A else if has 0x0B then 0x0B else if has 0x0C then 0x0C else 0

/-- A realm's transaction changed. -/
def State.updTxn (s : State) (realm : Nat) (f : Txn → Txn) : State := s.updRealm realm fun r => { r with txn := r.txn.map f }

/-- CFG_COMMIT (R101 to R106): validation, then an act where the commit has a class, else the way to its boundary at once. A refusal under R103
leaves the transaction validated, with its 10 s running again. -/
def execCfgCommit (p : Port) (s : State) : Host.Outcome State Fault Refusal :=
  runOn s fun s => serve s p 0x0204 fun s q =>
    let id := leNat q.payload
    if q.payload.length ≠ 4 then s.answer q ST_BAD_LENGTH []
    else match s.txnFor q id with
      | .inl st => s.answer q st []
      | .inr t =>
        if t.state = .act ∨ t.state = .boundary then s.answer q ST_TXN_STATE []
        else if t.timer.any fun d => decide (d ≤ s.now) then s.answer q ST_NO_TXN []
        else match s.firstBad t.entries with
          | some b => (s.rollback q.realm false).answer q ST_BAD_VALUE (badField b)
          | none =>
            let cls := commitClass t.entries
            if cls = 0 then
              (s.updTxn q.realm fun t => { t with state := .boundary, timer := none, waiting := some q }).submit ⟨q.realm, 0, none, [], .commit t.entries⟩
            else
              s.makeAct q q.realm cls q.realm false (commitEncoding t.entries) (some id)
                (fun s => s.updTxn q.realm fun t => { t with state := .validated, timer := some (s.now + 10000000000) })
                (fun s => s.updTxn q.realm fun t => { t with state := .act, timer := none })

/-! ### Officers (R88, R91, R92) -/

/-- A role qualifies for a class (Table 3.6). -/
def roleOk (cls role : Nat) : Bool :=
  if cls = 0x0A then role == 1 else if cls = 0x0B then role == 1 || role == 2 else 1 ≤ role && role ≤ 3

/-- The statement that an officer signs (Table 3.7). -/
def State.officerStatement (s : State) (a : Act) (index : Nat) : Bytes :=
  ascii "ORFERACT" ++ s.serial ++ u16 a.realm ++ u8 a.cls ++ u8 index ++ u32 a.id ++ fit 16 a.nonce ++ fit 48 a.digest

/-- An officer's signature verifies: over the statement's SHA-384 digest, or over the statement itself (R91). -/
def Officer.verifies (o : Officer) (statement sig : Bytes) : Bool :=
  if o.alg = 1 then sig.length == 96 && ecdsaVerify 384 o.key (sha384 statement) sig
  else sig.length == 17088 && slhVerify 0x132 o.key 0 [] statement sig

/-- Who may sign an act, and how many must: the officers of its realm and its class's M; for LC_COMMISSION every officer of its own roster (R88, R466). -/
def State.signers (s : State) (a : Act) : KeyMap Officer × Nat :=
  if a.opcode = 0x0803 then match commissionParts a.payload with
    | some (_, _, _, officers, _) => (officers, officers.length)
    | none => ([], 1)
  else ((s.realm a.realm).roster, s.quorum a.realm a.cls)

/-- ACT_STATUS (R92, Table 3.13). LC_COMMISSION requires every officer of its own roster (R466). -/
def execActStatus (p : Port) (s : State) : Host.Outcome State Fault Refusal :=
  runOn s fun s => serve s p 0x0304 fun s q =>
    if q.payload.length ≠ 4 then s.answer q ST_BAD_LENGTH []
    else match s.act q.realm (leNat q.payload) with
      | none => s.answer q ST_BAD_VALUE []
      | some a =>
        let code := match a.state with
          | .awaiting => 1 | .assembled => 2 | .done => 3 | .cancelled => 4
        s.answer q ST_OK (u8 code ++ u8 a.cls ++ u8 a.signed.length ++ u8 (s.signers a).2
          ++ u16 (if code < 3 then 0 else a.ended) ++ u16 0)

/-- A qualifying officer with the index has signed the act's statement. -/
def State.signatureOk (s : State) (a : Act) (index : Nat) (sig : Bytes) : Bool :=
  match KeyMap.find (s.signers a).1 index with
  | some o => roleOk a.cls o.role && o.verifies (s.officerStatement a index) sig
  | none => false

/-! ### Acts carried out (R557). A status where the act ends at once; none where it ends later. -/

/-- The act's output is kept (R373). -/
def State.withOutput (s : State) (a : Act) (out : Bytes) : State := s.setOutput a.realm a.id out

/-- `n` signatures by Apex are needed, one after another: the act waits for them, or ends where the queue is full (R363; log 54). -/
def State.awaitSignature (s : State) (a : Act) (n bad : Nat) (body rest : Bytes) : Option Nat × State :=
  if bad ≠ ST_OK then (some bad, s)
  else match s.enqueue ⟨3, none, (a.realm, a.id), body, rest, n * signatureWork, n * signatureWork⟩ with
    | some s => (none, s)
    | none => (some ST_ADMIN_BUSY, s)

/-- A change of an act goes its way (R105, R106, R197). -/
def State.submitAct (s : State) (a : Act) (out : Bytes) (m : Mirrored) : Option Nat × State := (none, s.submit ⟨a.realm, a.id, none, out, m⟩)

/-- A status and the state as the outcome of an act. -/
def ended (r : Nat × State) : Option Nat × State := (some r.1, r.2)

/-- A commit's act has assembled: the transaction goes to its boundary (R105, R106). -/
def State.carryCommit (s : State) (a : Act) : Option Nat × State :=
  match (s.realm a.realm).txn with
  | some t => (s.updTxn a.realm fun t => { t with state := .boundary }).submitAct a [] (.commit t.entries)
  | none => (some ST_NO_TXN, s)

/-- An administrative session opens; with the first the device enters STEWARD, whose BASE is the mode that held (R94, R95). -/
def State.openAdmin (s : State) (a : Act) : Option Nat × State :=
  let chans : BitVec 256 := if a.realm = 0 then BitVec.ofNat 256 (leNat a.payload) else BitVec.ofNat 256 (2 ^ a.realm)
  let s := s.updRealm a.realm fun r => { r with admin := some ⟨a.session, a.id, chans, s.now + 900000000000⟩ }
  (some ST_OK, if s.ms.mode = .steward then s else s.setMode .steward (if s.ms.mode = .serve then .serve else .watch) 9)

/-- OFFICER_ENROL is carried out; a realm's first roster takes the reset values of its quorum fields (R113). -/
def State.enrol (s : State) (a : Act) : Nat × State :=
  match parseOfficers 12 a.payload with
  | none => (ST_BAD_LENGTH, s)
  | some m =>
    let roster := (s.realm a.target).roster
    if m.any fun o => (KeyMap.find roster o.1).isSome then (ST_BAD_VALUE, s)
    else
      let s := if roster.isEmpty then [F_QUORUM_A, F_QUORUM_B, F_QUORUM_C].foldl (fun s f => s.setCfg f a.target (cfgReset f a.target)) s else s
      (ST_OK, s.updRealm a.target fun r => { r with roster := m.foldl (fun x o => KeyMap.put x o.1 o.2) r.roster })

/-- OFFICER_REMOVE is carried out (R113). -/
def State.removeOfficer (s : State) (a : Act) : Nat × State :=
  let r := s.realm a.realm
  let left := { r with roster := KeyMap.del r.roster (byteAt a.payload 0) }
  if [0x0A, 0x0B, 0x0C].any fun c => decide (left.count c < s.quorum a.realm c) then (ST_BAD_VALUE, s)
  else (ST_OK, s.updRealm a.realm fun _ => left)

/-- The roster as OFFICER_LIST gives it: index, role, algorithm and key of each officer (log 34). -/
def rosterList (m : KeyMap Officer) : Bytes := m.flatMap fun o => u8 o.1 ++ u8 o.2.role ++ u8 o.2.alg ++ o.2.key

/-- ROOT_STAGE is carried out: the staged key's GEN and KCV are its output (R192, R195). -/
def State.carryStage (s : State) (a : Act) : Option Nat × State :=
  let (st, key, s) := s.stageKey a.realm a.payload
  if 0x100 ≤ st then (some st, s) else s.submitAct a (u32 key.gen ++ fit 8 key.kcv) (.stage (byteAt a.payload 0) key)

/-- A root act on CHANNEL and SLOT (R196, R197). -/
def State.carryRoot (s : State) (a : Act) : Option Nat × State :=
  let c := byteAt a.payload 0
  let i := byteAt a.payload 1
  if s.rootCheck a.opcode c i ≠ ST_OK then (some (s.rootCheck a.opcode c i), s) else s.submitAct a [] (.root a.opcode c i)

/-- PEER_KEY_LOAD is carried out: the blob is its output. -/
def State.carryPeer (s : State) (a : Act) : Option Nat × State :=
  let (st, blob, s) := s.peerKey a.realm a.payload
  if 0x100 ≤ st then (some st, s) else (some st, s.withOutput a blob)

/-- PAIR_REKEY is carried out (R389). -/
def State.carryRekey (s : State) (a : Act) : Option Nat × State :=
  if s.rekeyCheck ≠ ST_OK then (some s.rekeyCheck, s)
  else
    let (k, s) := s.draw 32
    s.submitAct a [] (.rekey k)

/-- A binding or its end, which is never mirrored, waits for the next boundary (R388, R389). -/
def State.ownChange (s : State) (a : Act) (bad : Nat) (m : Mirrored) : Option Nat × State :=
  if bad ≠ ST_OK then (some bad, s)
  else
    let c : Change := ⟨a.realm, a.id, none, [], m⟩
    (none, { s with pair := { s.pair with changes := s.pair.changes ++ [c] } })

/-- REC_EXPORT is carried out: the export is assembled now, and its header is signed (R501, R362). -/
def State.carryExport (s : State) (a : Act) : Option Nat × State :=
  let bad := s.exportCheck a.payload
  let (header, body) := s.makeExport a.payload
  if bad ≠ ST_OK then (some bad, s)
  else if s.ident.keys then s.awaitSignature a 1 ST_OK header body
  else (some ST_OK, s.withOutput a (header ++ body))

/-- PLAT_RECOVER is carried out: the act ends, and the drain before RECOVER starts (R357, Table 2.8). -/
def State.carryRecover (s : State) (a : Act) : Option Nat × State :=
  let m := byteAt a.payload 0
  if s.recoverCheck m ≠ ST_OK then (some (s.recoverCheck m), s) else (none, (s.endAct a.realm a.id ST_OK s.now).startDrain m)

/-- What an act does once its quorum has assembled, by its opcode. -/
def State.carry (s : State) (a : Act) : Option Nat × State :=
  match a.opcode with
  | 0x0204 => s.carryCommit a
  | 0x0301 => s.openAdmin a
  | 0x0306 => ended (s.enrol a)
  | 0x0307 => ended (s.removeOfficer a)
  | 0x0308 => (some ST_OK, s.withOutput a (rosterList (s.realm a.realm).roster))
  | 0x0312 => s.carryStage a
  | 0x0313 => s.carryRoot a
  | 0x0314 => s.carryRoot a
  | 0x0315 => s.carryRoot a
  | 0x0316 => s.carryRoot a
  | 0x031A => s.carryPeer a
  | 0x0404 => s.carryRecover a
  | 0x0406 => s.capture a.id (byteAt a.payload 0)
  | 0x0407 => ended (s.advanceSvn a.payload)
  | 0x0502 => ended (s.writeChain a.payload)
  | 0x0512 => s.awaitSignature a 2 (s.createCheck a.payload) [] []
  | 0x0513 => s.awaitSignature a 2 ST_OK [] []
  | 0x0514 => s.awaitSignature a 1 (s.admitCheck a.payload) [] []
  | 0x0517 => s.awaitSignature a 3 (s.rollCheck a.payload) [] []
  | 0x051B => if s.ident.domain.isNone then (some ST_BAD_VALUE, s) else s.submitAct a [] .leave
  | 0x0602 => s.awaitSignature a 1 (s.pairBindCheck a.payload) [] []
  | 0x0603 => let r := s.acceptBinding a.payload
              (s.skipDraws mlkemDraws).ownChange a r.1 r.2
  | 0x0604 => s.ownChange a s.pairRefusal .unbind
  | 0x0605 => ended s.takeoverAct
  | 0x0606 => ended s.unfenceAct
  | 0x0607 => s.carryRekey a
  | 0x0705 => (none, (s.endAct a.realm a.id ST_OK s.now).zeroiseAct)
  | 0x0706 => (some ST_OK, s.rtcAct a.payload)
  | 0x0803 => s.commission a.id a.payload
  | 0x0804 => s.startRecommission a.id a.payload
  | 0x0805 => s.scrap a.id a.payload
  | 0x0807 => ended (s.openDebug a.payload)
  | 0x0809 => s.disableDebug a.id
  | 0x0904 => s.carryExport a
  | 0x0906 => (some ST_OK, s.resetHists (leNat a.payload))
  | 0x0A05 => ended (s.activateImage a.payload)
  | 0x0A06 => s.commitSvn a.id
  | 0x0A07 => s.revokeKey a.id a.payload
  | _ => (some ST_BAD_OPCODE, s)

/-- The quorum has assembled: where the mode no longer permits the act it ends with ST_MODE; else it is carried out (R557, R94). -/
def State.assemble (s : State) (a : Act) : State :=
  let s := s.updAct a.realm a.id fun a => { a with state := .assembled }
  if modePermits s.ms.mode a.opcode = false then s.endAct a.realm a.id ST_MODE s.now
  else match s.carry a with
    | (some st, t) => t.endAct a.realm a.id st t.now
    | (none, t) => t

/-- OFFICER_SIGN (R79, R91, R92). -/
def execOfficerSign (p : Port) (s : State) : Host.Outcome State Fault Refusal :=
  runOn s fun s => serve s p 0x0303 fun s q =>
    if q.payload.length < 5 then s.answer q ST_BAD_LENGTH []
    else
      let index := byteAt q.payload 4
      match s.act q.realm (field q.payload 0 4) with
      | none => s.answer q ST_BAD_VALUE []
      | some a =>
        if a.state = .done ∨ a.state = .cancelled then s.answer q ST_BAD_VALUE []
        else if a.state = .assembled then s.answer q ST_TXN_STATE []
        else if s.signatureOk a index (q.payload.drop 5) = false then
          let s := (s.updAct q.realm a.id fun a => { a with refused := a.refused + 1 }).answer q ST_OFFICER_AUTH []
          if 2 ≤ a.refused then s.endAct q.realm a.id ST_OFFICER_AUTH s.now else s
        else if a.signed.contains index then s.answer q ST_OFFICER_DUP []
        else
          let need := (s.signers a).2
          let a := { a with signed := a.signed ++ [index] }
          let s := (s.updAct q.realm a.id fun x => { x with signed := a.signed }).answer q ST_OK (u8 a.signed.length ++ u8 need ++ u16 0)
          if need ≤ a.signed.length then s.assemble a else s

/-! ### Apex's signatures (R363) -/

/-- A prepared domain or pair act: it ends with its status, or its change goes its way with its output. -/
def State.carryMade (a : Act) (r : Nat × Bytes × Mirrored × State) : Option Nat × State :=
  if 0x100 ≤ r.1 then (some r.1, r.2.2.2) else r.2.2.2.submitAct a r.2.1 r.2.2.1

/-- What an act that waited for its signatures does when they are made (R374 to R376, R388, R501; log 54). -/
def State.afterSignature (s : State) (a : Act) (j : SigJob) : Option Nat × State :=
  match a.opcode with
  | 0x0512 => State.carryMade a (s.makeDomain a.payload)
  | 0x0513 => let r := s.openTicket a.payload
              (some ST_OK, r.2.withOutput a r.1)
  | 0x0514 => State.carryMade a (s.makeAdmission a.payload)
  | 0x0517 => State.carryMade a (s.makeRoll a.payload)
  | 0x0602 => State.carryMade a (s.makeBinding a.payload)
  | _ => let r := s.signed s.idMaterial j.body
         (some ST_OK, r.2.withOutput a (j.body ++ j.rest ++ r.1.drop j.body.length))

/-- Apex completes a signature, or all the signatures of an act; the next job of the queue follows (R363, log 54). DOMAIN_CARD adds the partner's
card on a paired device (R373). Lane work still left is done at channel 0's pace (R162, R363). -/
def execApexSignatureComplete (s : State) : Host.Outcome State Fault Refusal :=
  runOn s fun s =>
    match s.ident.signing with
    | [] => s
    | j :: rest =>
      let feed := ((KeyMap.find s.cipher.feeds 2).map (·.work)).getD 0
      let s := s.zeroPace (ceilDiv feed 18 + ceilDiv (s.ident.treeWork + j.work) 1008)
      let s := { s with ident := { s.ident with treeWork := 0, signing := rest } }.startSignature
      match j.request with
      | some q =>
        let r := s.signed s.idMaterial j.body
        r.2.answer q ST_OK (r.1 ++ (if q.opcode = 0x0511 ∧ s.isPaired then s.partnersCard else []))
      | none =>
        match s.act j.act.1 j.act.2 with
        | some a =>
          if a.state = .assembled then match s.afterSignature a j with
            | (some st, t) => t.endAct a.realm a.id st t.now
            | (none, t) => t
          else s
        | none => s

end Sys2Proof.Machine
end

