-- ==== Sys2Proof/Machine/Boundary.lean ====
section
/-!
DEFINITION. A revolution starts: what waits for its boundary takes effect, and the service gates decide the mode
(R39, R61, R106, R154, R179, R399, R400, R409, R412, R429).
-/

namespace Sys2Proof.Machine

/-! ### Exchanges whose T has come (R399, R400) -/

/-- Place of a mirrored change among those of one boundary: its opcode; of two opcodes that ask for the same change, the lower (R222; log 138). -/
def Mirrored.order : Mirrored → Nat
  | .commit _ => 0x0204
  | .stage _ _ => 0x0312
  | .root op _ _ => op
  | .join _ _ => 0x0512
  | .roster _ => 0x0514
  | .roll _ _ => 0x0517
  | .activate => 0x051A
  | .leave => 0x051B
  | .bind _ _ _ _ => 0x0602
  | .unbind => 0x0604
  | .rekey _ => 0x0607
  | .nothing => 0x0204

/-- An exchange whose T has come; `mine` says that this member originated it. -/
structure DueExchange where
  /-- this member is the originator -/
  mine : Bool
  /-- exchange number -/
  number : Nat
  /-- the exchange -/
  exchange : Exchange
deriving DecidableEq, Repr

/-- A due exchange stands before another: by opcode, then by realm, so that a binding of the device realm settles before a tenant's ring group that
takes effect at the same boundary (R129, R222). -/
def DueExchange.before (x y : DueExchange) : Bool :=
  let a := x.exchange.change
  let b := y.exchange.change
  decide (a.what.order < b.what.order ∨ (a.what.order = b.what.order ∧ a.realm < b.realm))

/-- A due exchange put in its place; equal ones keep their order. -/
def insertDue (x : DueExchange) : List DueExchange → List DueExchange
  | [] => [x]
  | y :: ys => if x.before y then x :: y :: ys else y :: insertDue x ys

/-- Exchanges that apply now, in one order on both members: by opcode and realm, then member 0's first (R129, R222, R399). -/
def State.dueExchanges (s : State) : List DueExchange :=
  let own := (s.pair.own.filter fun e => e.2.phase == .confirmed && decide (e.2.time ≤ s.now)).map fun e => DueExchange.mk true e.1 e.2
  let theirs := (s.pair.theirs.filter fun e => e.2.phase == .committed && decide (e.2.time ≤ s.now)).map fun e => DueExchange.mk false e.1 e.2
  (if s.cfgNat F_PAIR_ROLE 0 = 0 then own ++ theirs else theirs ++ own).foldl (fun l x => insertDue x l) []

/-- A confirmed exchange of this member applies at T; the partner's applies here, and is remembered until the partner is known to have it; a survivor
of a fenced partner tells its sessions at once (R399, R400). -/
def State.applyDue (s : State) (x : DueExchange) : State :=
  let c := x.exchange.change
  if x.mine then
    let s := s.updPair fun p => { p with own := KeyMap.del p.own x.number }
    if s.wanted c then
      let r := s.applyChange true false c.what
      r.2.finishChange c r.1 s.now
    else s
  else
    let s := s.updPair fun p => { p with theirs := KeyMap.del p.theirs x.number }
    let r := s.applyChange false false c.what
    if 0x100 ≤ r.1 then r.2
    else
      let s := r.2.updPair fun p => { p with applied := KeyMap.put p.applied x.number (c.realm, c.act) }
      if s.pair.mode = .solo then s.tellApplied else s

/-- Exchanges at a boundary: those confirmed apply, those whose COMMIT_ACK did not come before T are in doubt (R399, R400). -/
def State.settleExchanges (s : State) : State :=
  let s := s.updPair fun p => { p with own := KeyMap.mapVals p.own fun _ e =>
    if e.phase = .committed ∧ e.time ≤ s.now then { e with phase := .doubt } else e }
  s.dueExchanges.foldl State.applyDue s

/-! ### Homes (R409, R412) -/

/-- One channel under handover. The old home gives it up once it holds no admitted item and every REL is acknowledged: it drops what it decoded, and
its heads are the confirmed ones. The new home, which has followed its ADMITs, RELs and checkpoints so far, serves once it knows of no such item, with the
completion ring's credits as they stand. CHANNEL_MOVED says so on both. -/
def State.settleHandover (s : State) (c home : Nat) : State :=
  let mine : Bool := home == s.cfgNat F_PAIR_ROLE 0
  let ready : Bool := if mine then !(s.pair.ledger.any fun e => e.chan == c)
    else s.drained c && !(s.pair.rels.any fun e => e.2 == c) && !(s.pair.admits.any fun a => a.2.1 == c)
  if !ready then s
  else
    let s := s.updPair fun p => { p with handover := KeyMap.del p.handover c }
    let s := if mine then (s.updChan c fun x => { x with used := ringDist (2 ^ x.cq.sizeLog2) x.cq.head x.cq.writeIdx }).startServing c
      else
        let s := (List.range (s.chan c).binding.rings).foldl (fun s r => s.updSq c r fun q => { q with head := s.confirmedHead c r }) s
        let s := (s.chan c).decoded.foldl (fun s x => x.refs.foldl (fun s k => if k.hit then s.unpin c k.tag else s) s) s
        s.updChan c fun x => { x with decoded := [], stale := x.stale || x.fetching.isSome }
    s.notifyAt (fun _ x => x.realm == 0 || x.realm == c) 0x0601 0 (c + 256 * home) s.now

/-- Channels that change their home at a boundary (R409 step 5, R412). -/
def State.settleHomes (s : State) : State :=
  let s := s.pair.handover.foldl (fun s e => s.settleHandover e.1 e.2) s
  let next := s.pair.nextServing
  next.foldl State.startServing (s.updPair fun p => { p with nextServing := [] })

/-! ### Gates and mode (R39, R40, R41) -/

/-- Causes for which service closes, in the order of Table 2.4. -/
def Gates.causes (g : Gates) : List Nat :=
  (if g.fenced then [6] else []) ++ (if g.cellLow then [7] else [])
    ++ (if g.noVault || g.noChannel || g.lifecycle || g.selftest || g.held then [8] else [])

/-- The gates decide the mode at a boundary (R39 to R41): out of GATE once its release sequence is complete, between WATCH and SERVE, and BASE in
STEWARD, which is no mode change (log 59). -/
def State.evaluateGates (s : State) : State :=
  let s := s.cellGate
  let shut := s.ms.gates.any
  match s.ms.mode with
  | .gate =>
    if s.rel.phase = .complete ∧ s.boot.step = 10 then
      ({ s with boot := { s.boot with step := 0 } }).setMode (if shut then .watch else .serve) .none 10
    else s
  | .watch => if shut then s else s.setMode .serve .none 11
  | .serve =>
    if shut then
      let cs := s.ms.gates.causes
      let s := s.setMode .watch .none (cs.headD 8)
      { s with ms := { s.ms with causes := cs } }
    else s
  | .steward => { s with ms := { s.ms with base := if shut then .watch else .serve } }
  | _ => s

/-- Channels under administration while the device is in STEWARD (R37, R61, R95). -/
def State.underAdmin (s : State) : List Nat :=
  if s.ms.mode = .steward then
    tenants.filter fun c => s.orfer.realms.any fun r => match r.2.admin with
      | some a => a.channels.getLsbD c
      | none => false
  else []

/-- Bus timings that wait take effect where their flash side is idle (R341). -/
def State.settleTimings (s : State) : State :=
  let s := (s.settleTiming 0).settleTiming 1
  if s.priv.busy then s else { s with priv := { s.priv with timing := s.cfg F_BUS_TIMING 2 } }

/-- A revolution boundary (R154): the next one that device time has not passed. -/
def execRevolutionBoundary (s : State) : Host.Outcome State Fault Refusal :=
  runOn s fun s =>
    let r := max s.wheel.revolution (ceilDiv s.now revNs)
    let s := s.advance (r * revNs)
    let s := { s with wheel := { s.wheel with revolution := r + 1 } }
    let s := s.settleAll.settleExchanges.applyWaiting.settleAll.settleHomes
    -- admission resumes at the second boundary after an alarm that stopped every crypto tile (R429)
    let s := match s.tamper.isolateUntil with
      | some t => if t ≤ s.now then { s with tamper := { s.tamper with isolateUntil := none } } else s
      | none => s
    let s := s.evaluateGates
    ({ s with wheel := { s.wheel with paused := s.underAdmin } }).settleTimings.kickAll

end Sys2Proof.Machine
end

