-- ==== Sys2Proof/Machine/Items.lean ====
section
/-!
DEFINITION. The descriptor opcodes of Table 4.14: each acts when its descriptor has been fetched (stages 1 and 2 of
Table 4.12) and again when its admitted item does its work (stage 3).
-/

namespace Sys2Proof.Machine

/-- The two ways in which a descriptor opcode acts (Table 4.12): a fetched descriptor that carries it is decoded; an
admitted item of it does its work with the opcode's operation. -/
def descriptor (op : Nat) (ph : ItemPhase) (f : State → Item → ExecIn → ExecOut) (s : State) :
    Host.Outcome State Fault Refusal :=
  runOn s fun s => match ph with
    | .fetched c ring desc => if dOpcode desc = op then s.fetched c ring desc else s
    | .work c seq input inList outList => s.work op c seq input inList outList f

/-- PIN_TRANSLATE, opcode 0x10 (R238). -/
def execPinTranslate (ph : ItemPhase) (s : State) : Host.Outcome State Fault Refusal :=
  descriptor 0x10 ph (fun _ _ x => runTranslate x) s

/-- PIN_TRANSLATE_TDUKPT, opcode 0x11 (R238). -/
def execPinTranslateTdukpt (ph : ItemPhase) (s : State) : Host.Outcome State Fault Refusal :=
  descriptor 0x11 ph (fun _ _ x => runTranslate x) s

/-- PIN_TRANSLATE_ADUKPT, opcode 0x12 (R238). -/
def execPinTranslateAdukpt (ph : ItemPhase) (s : State) : Host.Outcome State Fault Refusal :=
  descriptor 0x12 ph (fun _ _ x => runTranslate x) s

/-- PIN_VERIFY_3624, opcode 0x14 (R239). -/
def execPinVerify3624 (ph : ItemPhase) (s : State) : Host.Outcome State Fault Refusal :=
  descriptor 0x14 ph (fun _ _ x => runVerify3624 x) s

/-- PIN_VERIFY_3624_TDUKPT, opcode 0x15 (R239). -/
def execPinVerify3624Tdukpt (ph : ItemPhase) (s : State) : Host.Outcome State Fault Refusal :=
  descriptor 0x15 ph (fun _ _ x => runVerify3624 x) s

/-- PIN_VERIFY_3624_ADUKPT, opcode 0x16 (R239). -/
def execPinVerify3624Adukpt (ph : ItemPhase) (s : State) : Host.Outcome State Fault Refusal :=
  descriptor 0x16 ph (fun _ _ x => runVerify3624 x) s

/-- PIN_VERIFY_PVV, opcode 0x18 (R240). -/
def execPinVerifyPvv (ph : ItemPhase) (s : State) : Host.Outcome State Fault Refusal :=
  descriptor 0x18 ph (fun _ _ x => runVerifyPvv x) s

/-- PIN_VERIFY_PVV_TDUKPT, opcode 0x19 (R240). -/
def execPinVerifyPvvTdukpt (ph : ItemPhase) (s : State) : Host.Outcome State Fault Refusal :=
  descriptor 0x19 ph (fun _ _ x => runVerifyPvv x) s

/-- PIN_VERIFY_PVV_ADUKPT, opcode 0x1A (R240). -/
def execPinVerifyPvvAdukpt (ph : ItemPhase) (s : State) : Host.Outcome State Fault Refusal :=
  descriptor 0x1A ph (fun _ _ x => runVerifyPvv x) s

/-- MAC_GENERATE_ALG1, opcode 0x20 (R250). -/
def execMacGenerateAlg1 (ph : ItemPhase) (s : State) : Host.Outcome State Fault Refusal :=
  descriptor 0x20 ph (fun _ _ x => runMacGenerate x) s

/-- MAC_VERIFY_ALG1, opcode 0x21 (R252). -/
def execMacVerifyAlg1 (ph : ItemPhase) (s : State) : Host.Outcome State Fault Refusal :=
  descriptor 0x21 ph (fun _ _ x => runMacVerify x) s

/-- MAC_GENERATE_ALG3, opcode 0x22 (R250). -/
def execMacGenerateAlg3 (ph : ItemPhase) (s : State) : Host.Outcome State Fault Refusal :=
  descriptor 0x22 ph (fun _ _ x => runMacGenerate x) s

/-- MAC_VERIFY_ALG3, opcode 0x23 (R252). -/
def execMacVerifyAlg3 (ph : ItemPhase) (s : State) : Host.Outcome State Fault Refusal :=
  descriptor 0x23 ph (fun _ _ x => runMacVerify x) s

/-- MAC_GENERATE_CMAC, opcode 0x24 (R250). -/
def execMacGenerateCmac (ph : ItemPhase) (s : State) : Host.Outcome State Fault Refusal :=
  descriptor 0x24 ph (fun _ _ x => runMacGenerate x) s

/-- MAC_VERIFY_CMAC, opcode 0x25 (R252). -/
def execMacVerifyCmac (ph : ItemPhase) (s : State) : Host.Outcome State Fault Refusal :=
  descriptor 0x25 ph (fun _ _ x => runMacVerify x) s

/-- MAC_GENERATE_ALG3_TDUKPT, opcode 0x26 (R250). -/
def execMacGenerateAlg3Tdukpt (ph : ItemPhase) (s : State) : Host.Outcome State Fault Refusal :=
  descriptor 0x26 ph (fun _ _ x => runMacGenerate x) s

/-- MAC_VERIFY_ALG3_TDUKPT, opcode 0x27 (R252). -/
def execMacVerifyAlg3Tdukpt (ph : ItemPhase) (s : State) : Host.Outcome State Fault Refusal :=
  descriptor 0x27 ph (fun _ _ x => runMacVerify x) s

/-- MAC_GENERATE_CMAC_ADUKPT, opcode 0x28 (R250). -/
def execMacGenerateCmacAdukpt (ph : ItemPhase) (s : State) : Host.Outcome State Fault Refusal :=
  descriptor 0x28 ph (fun _ _ x => runMacGenerate x) s

/-- MAC_VERIFY_CMAC_ADUKPT, opcode 0x29 (R252). -/
def execMacVerifyCmacAdukpt (ph : ItemPhase) (s : State) : Host.Outcome State Fault Refusal :=
  descriptor 0x29 ph (fun _ _ x => runMacVerify x) s

/-- ARQC_VERIFY, opcode 0x2A (R256). -/
def execArqcVerify (ph : ItemPhase) (s : State) : Host.Outcome State Fault Refusal :=
  descriptor 0x2A ph (fun _ _ x => runArqcVerify x) s

/-- ARQC_GENERATE, opcode 0x2B (R256). -/
def execArqcGenerate (ph : ItemPhase) (s : State) : Host.Outcome State Fault Refusal :=
  descriptor 0x2B ph (fun _ _ x => runArqcGenerate x) s

/-- CVV_GENERATE, opcode 0x2C (R260). -/
def execCvvGenerate (ph : ItemPhase) (s : State) : Host.Outcome State Fault Refusal :=
  descriptor 0x2C ph (fun _ _ x => runCvvGenerate x) s

/-- CVV_VERIFY, opcode 0x2D (R260). -/
def execCvvVerify (ph : ItemPhase) (s : State) : Host.Outcome State Fault Refusal :=
  descriptor 0x2D ph (fun _ _ x => runCvvVerify x) s

/-- DUKPT_IK_DERIVE, opcode 0x30 (R248). -/
def execDukptIkDerive (ph : ItemPhase) (s : State) : Host.Outcome State Fault Refusal :=
  descriptor 0x30 ph (fun s _ x => s.runIkDerive x) s

/-- EMV_ICC_DERIVE, opcode 0x31 (R258). -/
def execEmvIccDerive (ph : ItemPhase) (s : State) : Host.Outcome State Fault Refusal :=
  descriptor 0x31 ph (fun s _ x => s.runIccDerive x) s

/-- DUKPT_DATA_TDES, opcode 0x32 (R249). -/
def execDukptDataTdes (ph : ItemPhase) (s : State) : Host.Outcome State Fault Refusal :=
  descriptor 0x32 ph (fun _ _ x => runDukptData x) s

/-- DUKPT_DATA_AES, opcode 0x33 (R249). -/
def execDukptDataAes (ph : ItemPhase) (s : State) : Host.Outcome State Fault Refusal :=
  descriptor 0x33 ph (fun _ _ x => runDukptData x) s

/-- AES_ECB, opcode 0x40 (R271). -/
def execAesEcb (ph : ItemPhase) (s : State) : Host.Outcome State Fault Refusal :=
  descriptor 0x40 ph (fun _ _ x => runAesEcb x) s

/-- AES_CBC_ENCRYPT, opcode 0x41 (R271). -/
def execAesCbcEncrypt (ph : ItemPhase) (s : State) : Host.Outcome State Fault Refusal :=
  descriptor 0x41 ph (fun _ _ x => runAesCbcEnc x) s

/-- AES_CBC_DECRYPT, opcode 0x42 (R271). -/
def execAesCbcDecrypt (ph : ItemPhase) (s : State) : Host.Outcome State Fault Refusal :=
  descriptor 0x42 ph (fun _ _ x => runAesCbcDec x) s

/-- AES_CTR, opcode 0x43 (R275). -/
def execAesCtr (ph : ItemPhase) (s : State) : Host.Outcome State Fault Refusal :=
  descriptor 0x43 ph (fun _ _ x => runAesCtr x) s

/-- AES_CFB_ENCRYPT, opcode 0x44 (R271). -/
def execAesCfbEncrypt (ph : ItemPhase) (s : State) : Host.Outcome State Fault Refusal :=
  descriptor 0x44 ph (fun _ _ x => runAesCfbEnc x) s

/-- AES_CFB_DECRYPT, opcode 0x45 (R271). -/
def execAesCfbDecrypt (ph : ItemPhase) (s : State) : Host.Outcome State Fault Refusal :=
  descriptor 0x45 ph (fun _ _ x => runAesCfbDec x) s

/-- AES_OFB, opcode 0x46 (R271). -/
def execAesOfb (ph : ItemPhase) (s : State) : Host.Outcome State Fault Refusal :=
  descriptor 0x46 ph (fun _ _ x => runAesOfb x) s

/-- AES_XTS, opcode 0x47 (R275). -/
def execAesXts (ph : ItemPhase) (s : State) : Host.Outcome State Fault Refusal :=
  descriptor 0x47 ph (fun _ _ x => runAesXts x) s

/-- AES_GCM_ENCRYPT, opcode 0x48 (R271). -/
def execAesGcmEncrypt (ph : ItemPhase) (s : State) : Host.Outcome State Fault Refusal :=
  descriptor 0x48 ph (fun _ _ x => runGcmEncrypt x) s

/-- AES_GCM_DECRYPT, opcode 0x49 (R284). -/
def execAesGcmDecrypt (ph : ItemPhase) (s : State) : Host.Outcome State Fault Refusal :=
  descriptor 0x49 ph (fun _ _ x => runGcmDecrypt x) s

/-- AES_GCM_DECRYPT_RBV, opcode 0x4A (R285). -/
def execAesGcmDecryptRbv (ph : ItemPhase) (s : State) : Host.Outcome State Fault Refusal :=
  descriptor 0x4A ph (fun _ _ x => runGcmDecryptRbv x) s

/-- TDES_ECB, opcode 0x4B (R271). -/
def execTdesEcb (ph : ItemPhase) (s : State) : Host.Outcome State Fault Refusal :=
  descriptor 0x4B ph (fun _ _ x => runTdesEcb x) s

/-- TDES_CBC_ENCRYPT, opcode 0x4C (R271). -/
def execTdesCbcEncrypt (ph : ItemPhase) (s : State) : Host.Outcome State Fault Refusal :=
  descriptor 0x4C ph (fun _ _ x => runTdesCbcEnc x) s

/-- TDES_CBC_DECRYPT, opcode 0x4D (R271). -/
def execTdesCbcDecrypt (ph : ItemPhase) (s : State) : Host.Outcome State Fault Refusal :=
  descriptor 0x4D ph (fun _ _ x => runTdesCbcDec x) s

/-- SHA256, opcode 0x50 (R292). -/
def execSha256 (ph : ItemPhase) (s : State) : Host.Outcome State Fault Refusal :=
  descriptor 0x50 ph (fun _ _ x => runSha256 x) s

/-- SHA384, opcode 0x51 (R292). -/
def execSha384 (ph : ItemPhase) (s : State) : Host.Outcome State Fault Refusal :=
  descriptor 0x51 ph (fun _ _ x => runSha384 x) s

/-- SHA512, opcode 0x52 (R292). -/
def execSha512 (ph : ItemPhase) (s : State) : Host.Outcome State Fault Refusal :=
  descriptor 0x52 ph (fun _ _ x => runSha512 x) s

/-- HMAC_SHA256_GENERATE, opcode 0x53 (R294). -/
def execHmacSha256Generate (ph : ItemPhase) (s : State) : Host.Outcome State Fault Refusal :=
  descriptor 0x53 ph (fun _ _ x => runHmacGenerate x) s

/-- HMAC_SHA256_VERIFY, opcode 0x54 (R294). -/
def execHmacSha256Verify (ph : ItemPhase) (s : State) : Host.Outcome State Fault Refusal :=
  descriptor 0x54 ph (fun _ _ x => runHmacVerify x) s

/-- ECDSA_P256_SIGN, opcode 0x60 (R312). -/
def execEcdsaP256Sign (ph : ItemPhase) (s : State) : Host.Outcome State Fault Refusal :=
  descriptor 0x60 ph (fun _ _ x => runEcdsaSign 256 x) s

/-- ECDSA_P256_VERIFY, opcode 0x61 (R322). -/
def execEcdsaP256Verify (ph : ItemPhase) (s : State) : Host.Outcome State Fault Refusal :=
  descriptor 0x61 ph (fun _ _ x => runEcdsaVerify 256 x) s

/-- ECDSA_P384_SIGN, opcode 0x62 (R312). -/
def execEcdsaP384Sign (ph : ItemPhase) (s : State) : Host.Outcome State Fault Refusal :=
  descriptor 0x62 ph (fun _ _ x => runEcdsaSign 384 x) s

/-- ECDSA_P384_VERIFY, opcode 0x63 (R322). -/
def execEcdsaP384Verify (ph : ItemPhase) (s : State) : Host.Outcome State Fault Refusal :=
  descriptor 0x63 ph (fun _ _ x => runEcdsaVerify 384 x) s

/-- ECDH_DERIVE, opcode 0x64 (R307). -/
def execEcdhDerive (ph : ItemPhase) (s : State) : Host.Outcome State Fault Refusal :=
  descriptor 0x64 ph (fun s _ x => s.runEcdh x) s

/-- MLKEM_ENCAPS, opcode 0x65 (R307). -/
def execMlkemEncaps (ph : ItemPhase) (s : State) : Host.Outcome State Fault Refusal :=
  descriptor 0x65 ph (fun s _ x => s.runEncaps x) s

/-- MLKEM_DECAPS, opcode 0x66 (R307). -/
def execMlkemDecaps (ph : ItemPhase) (s : State) : Host.Outcome State Fault Refusal :=
  descriptor 0x66 ph (fun s _ x => s.runDecaps x) s

/-- RSA_SIGN, opcode 0x67 (R311). -/
def execRsaSign (ph : ItemPhase) (s : State) : Host.Outcome State Fault Refusal :=
  descriptor 0x67 ph (fun _ _ x => runRsaSign x) s

/-- RSA_PUBLIC, opcode 0x68 (R320). -/
def execRsaPublic (ph : ItemPhase) (s : State) : Host.Outcome State Fault Refusal :=
  descriptor 0x68 ph (fun _ _ x => runRsaPublic x) s

/-- SLH128S_SIGN, opcode 0x69 (R313). -/
def execSlh128sSign (ph : ItemPhase) (s : State) : Host.Outcome State Fault Refusal :=
  descriptor 0x69 ph (fun _ _ x => runSlhSign x) s

/-- SLH128F_SIGN, opcode 0x6A (R313). -/
def execSlh128fSign (ph : ItemPhase) (s : State) : Host.Outcome State Fault Refusal :=
  descriptor 0x6A ph (fun _ _ x => runSlhSign x) s

/-- SLH256S_SIGN, opcode 0x6B (R313). -/
def execSlh256sSign (ph : ItemPhase) (s : State) : Host.Outcome State Fault Refusal :=
  descriptor 0x6B ph (fun _ _ x => runSlhSign x) s

/-- SLH128S_VERIFY, opcode 0x6C (R321). -/
def execSlh128sVerify (ph : ItemPhase) (s : State) : Host.Outcome State Fault Refusal :=
  descriptor 0x6C ph (fun _ _ x => runSlhVerify x) s

/-- SLH128F_VERIFY, opcode 0x6D (R321). -/
def execSlh128fVerify (ph : ItemPhase) (s : State) : Host.Outcome State Fault Refusal :=
  descriptor 0x6D ph (fun _ _ x => runSlhVerify x) s

/-- SLH256S_VERIFY, opcode 0x6E (R321). -/
def execSlh256sVerify (ph : ItemPhase) (s : State) : Host.Outcome State Fault Refusal :=
  descriptor 0x6E ph (fun _ _ x => runSlhVerify x) s

/-- SLH_TOP_TREE, opcode 0x6F (R313). -/
def execSlhTopTree (ph : ItemPhase) (s : State) : Host.Outcome State Fault Refusal :=
  descriptor 0x6F ph (fun _ _ x => runSlhTopTree x) s

/-- KEY_GENERATE, opcode 0x70 (R214). -/
def execKeyGenerate (ph : ItemPhase) (s : State) : Host.Outcome State Fault Refusal :=
  descriptor 0x70 ph (fun s _ x => s.runGenerate x) s

/-- KEY_GENERATE_PAIR, opcode 0x71 (R215). -/
def execKeyGeneratePair (ph : ItemPhase) (s : State) : Host.Outcome State Fault Refusal :=
  descriptor 0x71 ph (fun s _ x => s.runGeneratePair x) s

/-- KEY_REWRAP, opcode 0x72 (R214). -/
def execKeyRewrap (ph : ItemPhase) (s : State) : Host.Outcome State Fault Refusal :=
  descriptor 0x72 ph (fun s y x => s.runRewrap y x) s

/-- KEY_EXPORT_KB, opcode 0x73 (R217). -/
def execKeyExportKb (ph : ItemPhase) (s : State) : Host.Outcome State Fault Refusal :=
  descriptor 0x73 ph (fun s _ x => s.runExport x) s

/-- KEY_IMPORT_KB, opcode 0x74 (R216). -/
def execKeyImportKb (ph : ItemPhase) (s : State) : Host.Outcome State Fault Refusal :=
  descriptor 0x74 ph (fun s _ x => s.runImport x) s

/-- KEY_IMPORT_TR34, opcode 0x75 (R218). -/
def execKeyImportTr34 (ph : ItemPhase) (s : State) : Host.Outcome State Fault Refusal :=
  descriptor 0x75 ph (fun s _ x => s.runImportTr34 x) s

/-- KEY_EXPORT_TR34, opcode 0x76 (R218). -/
def execKeyExportTr34 (ph : ItemPhase) (s : State) : Host.Outcome State Fault Refusal :=
  descriptor 0x76 ph (fun s _ x => s.runExportTr34 x) s

/-- KEY_CHECK, opcode 0x77 (R212). -/
def execKeyCheck (ph : ItemPhase) (s : State) : Host.Outcome State Fault Refusal :=
  descriptor 0x77 ph (fun _ _ x => runKeyCheck x) s

/-- LEGACY_IMPORT, opcode 0x78 (R219). -/
def execLegacyImport (ph : ItemPhase) (s : State) : Host.Outcome State Fault Refusal :=
  descriptor 0x78 ph (fun s _ x => s.runLegacy x) s

end Sys2Proof.Machine
end

