-- ==== Sys2Proof/Machine/Registers.lean ====
section
/-!
DEFINITION. A write to a register by its access type (R9, R11, R12): the BAR0 of a function (Tables 4.3 to 4.6), the settings that a host
makes in configuration space (log 73), and the registers of the private flash and of the tiles (Tables 10.12, 16.3).
-/

namespace Sys2Proof.Machine

/-- A write to a channel page (Table 4.6): the error bits are W1C, the doorbells act, the rest ignores writes. -/
def State.pageWrite (s : State) (fn c off v : Nat) : State :=
  if !s.showsPage fn c then s
  else if off = 0x00C then
    s.updChan c fun x => { x with
      sqs := KeyMap.mapVals x.sqs fun r q => { q with errDb := q.errDb && !bit v r, errFetch := q.errFetch && !bit v (5 + r) }
      cq := { x.cq with errDb := x.cq.errDb && !bit v 4, errWrite := x.cq.errWrite && !bit v 9 } }
  else if off = 0x1020 then s.headDoorbell fn c v
  else if 0x1000 ≤ off ∧ off < 0x1020 ∧ off % 8 = 0 then s.tailDoorbell fn c ((off - 0x1000) / 8) v
  else s

/-- A write to the function registers (Table 4.5). -/
def State.fnWrite (s : State) (fn off v : Nat) : State :=
  if off = 0x004 then s.updFn fn fun x => { x with errVec := BitVec.ofNat 6 (if fn = 0 then v else v % 4) }
  else if off = 0x008 then s.updFn fn fun x => { x with errEn := bit v 0 }
  else if off = 0x00C then s.updFn fn fun x => { x with errAny := x.errAny && !bit v 0 }
  else s

/-- The channel of slot `k` of a virtual function: its `k`-th lowest bound one (R121); 0 where the slot is empty. -/
def State.slotChannel (s : State) (fn k : Nat) : Nat := (s.bound.filter fun c => (s.chan c).binding.function == fn).getD k 0

/-- What Table 4.1 says of a function (R114). -/
structure PcieIdentity where
  /-- Vendor ID -/
  vendor : Nat
  /-- Device ID -/
  device : Nat
  /-- Class code -/
  classCode : Nat
  /-- size of BAR0 -/
  bar0 : Nat
  /-- BAR0 is 64 bits wide -/
  bar0Wide : Bool
  /-- BAR0 is prefetchable -/
  bar0Prefetchable : Bool
  /-- BARs beside BAR0 -/
  otherBars : Nat
  /-- MSI-X vectors -/
  vectors : Nat
  /-- MSI is implemented -/
  msi : Bool
  /-- INTx is implemented -/
  intx : Bool
  /-- function-level reset is supported -/
  flr : Bool
  /-- TotalVFs -/
  totalVFs : Nat
deriving DecidableEq, Repr

/-- The identity of a function (Table 4.1, R114): 0 is the physical one. -/
def pcieIdentity (fn : Nat) : PcieIdentity :=
  if fn = 0 then ⟨0x1D72, 0x8400, 0x108000, 0x400000, true, false, 0, 64, false, false, true, 127⟩
  else ⟨0x1D72, 0x8401, 0x108000, 0x10000, true, false, 0, 4, false, false, true, 0⟩

/-- The identity as configuration space presents it: Vendor and Device ID at 0x00, revision and class code at 0x08, the type bits of BAR0 at 0x10 (those of
a virtual function stand in the SR-IOV capability), no other BAR and no interrupt pin (R114; offsets PRESUMED from the PCI Express Base Specification,
log 73). -/
def pcieConfigWord (fn off : Nat) : Nat :=
  let x := pcieIdentity fn
  if off = 0x00 then x.vendor + 65536 * x.device
  else if off = 0x08 then 0xB0 + 256 * x.classCode
  else if off = 0x10 then (if fn = 0 then 4 * flag x.bar0Wide + 8 * flag x.bar0Prefetchable else 0)
  else if off = 0x3C then 256 * flag x.intx
  else 0

/-- Where a function's BAR0 holds its MSI-X table; its pending bits lie 0x800 above (Tables 4.3, 4.4). -/
def msixBase (fn : Nat) : Nat := if fn = 0 then 0x10000 else 0x4000
/-- Where its channel pages begin. -/
def pagesBase (fn : Nat) : Nat := if fn = 0 then 0x100000 else 0x8000

/-- The channel whose page a BAR0 offset above the pages' base lies in; none where the page belongs to no channel bound to the function (R121). -/
def State.pageChannel (s : State) (fn off : Nat) : Option Nat :=
  let k := (off - pagesBase fn) / 0x2000
  let c := if fn = 0 then k else if k < 4 then s.slotChannel fn k else 0
  if 1 ≤ c ∧ c ≤ 255 ∧ s.showsPage fn c then some c else none

/-- A word of the MSI-X table is written; a vector that becomes unmasked sends what its pending bit holds (log 8). -/
def State.msixWrite (s : State) (fn i v : Nat) : State :=
  let s := s.updFn fn fun x => { x with msix := KeyMap.put x.msix i v }
  if bit (s.fn fn).pba (i / 4) && s.vectorOpen fn (i / 4) then
    (s.updFn fn fun x => { x with pba := x.pba - 2 ^ (i / 4) }).emit (.msix fn (i / 4))
  else s

/-- A word of a channel page as it is read (Table 4.6); the doorbells and what the table does not list read 0. -/
def State.pageWord (s : State) (c off : Nat) : Nat :=
  let x := s.chan c
  let i := 8 * c + 4
  if off = 0x000 then c + 256 * x.binding.rings + 2048 * flag x.binding.isolated
  else if off = 0x004 then s.chState c
  else if off = 0x008 then s.chCredit c
  else if off = 0x00C then s.chErr c
  else if off = 0x010 then x.cq.writeIdx + 65536 * flag x.cq.phase
  else if off = 0x014 then x.cq.head + 65536 * flag x.cq.armed
  else if off = 0x018 then x.cq.base % 2 ^ 32
  else if off = 0x01C then x.cq.base / 2 ^ 32
  else if off = 0x020 then x.cq.sizeLog2 + 256 * x.cq.vector + 65536 * s.cfgNat F_CQ_MOD_COUNT i
  else if off = 0x024 then s.cfgNat F_CQ_MOD_TIMER i
  else if 0x040 ≤ off ∧ off < 0x0C0 then
    let q := s.sq c ((off - 0x040) / 0x20)
    match (off - 0x040) % 0x20 with
    | 0x00 => q.base % 2 ^ 32
    | 0x04 => q.base / 2 ^ 32
    | 0x08 => q.sizeLog2 + 256 * q.format
    | 0x0C => s.deviceHead c ((off - 0x040) / 0x20)
    | 0x10 => q.tail
    | _ => 0
  else 0

/-- A word of the function registers as it is read (Table 4.5). -/
def State.fnWord (s : State) (fn off : Nat) : Nat :=
  let x := s.fn fn
  let mine := s.bound.filter fun c => (s.chan c).binding.function == fn
  if off = 0x000 then fn + 256 * (mine.length % 256)
  else if off = 0x004 then x.errVec.toNat
  else if off = 0x008 then flag x.errEn
  else if off = 0x00C then flag x.errAny
  else if 0x010 ≤ off ∧ off < 0x030 then
    if fn = 0 then mine.foldl (fun acc c => acc + 2 ^ c) 0 / 2 ^ (8 * (off - 0x010)) % 2 ^ 32
    else if off = 0x010 then leNat ((List.range 4).map fun k => BitVec.ofNat 8 (s.slotChannel fn k)) else 0
  else if off = 0x030 then s.now % 2 ^ 32
  else if off = 0x034 then x.timeHi
  else 0

/-- A word of a function's BAR0 as it is read (Tables 4.3, 4.4); unlisted offsets, and pages of no channel bound to the function, read 0 (R120, R121).
The read of FN_TIME.LO also latches HI, which its command does (`execFnTimeLoRead`). -/
def State.barWord (s : State) (fn off : Nat) : Nat :=
  let port : Port := if fn = 0 then .mb0 else .mb3 fn
  if off < 0x3000 then leNat (slice off 4 (s.windowBytes port))
  else if off < 0x4000 then s.fnWord fn (off - 0x3000)
  else if msixBase fn ≤ off ∧ off < msixBase fn + 16 * (pcieIdentity fn).vectors then (s.fn fn).msixWord ((off - msixBase fn) / 4)
  else if off = msixBase fn + 0x800 then (s.fn fn).pba % 2 ^ 32
  else if off = msixBase fn + 0x804 then (s.fn fn).pba / 2 ^ 32
  else if pagesBase fn ≤ off then match s.pageChannel fn off with
    | some c => s.pageWord c ((off - pagesBase fn) % 0x2000)
    | none => 0
  else 0

/-- A 32-bit write to a function's BAR0 (Tables 4.3, 4.4); unlisted offsets ignore writes (R120). -/
def State.barWrite (s : State) (fn off v : Nat) : State :=
  let port : Port := if fn = 0 then .mb0 else .mb3 fn
  if off < 0x3000 then s.windowWrite port off v
  else if off < 0x4000 then s.fnWrite fn (off - 0x3000) v
  else if msixBase fn ≤ off ∧ off < msixBase fn + 16 * (pcieIdentity fn).vectors then s.msixWrite fn ((off - msixBase fn) / 4) v
  else if pagesBase fn ≤ off then match s.pageChannel fn off with
    | some c => s.pageWrite fn c ((off - pagesBase fn) % 0x2000) v
    | none => s
  else s

/-- Where the model puts the settings of configuration space, whose offsets the manual does not give (log 73): NumVFs, then Max Payload Size and Max
Read Request Size in bytes. -/
abbrev configSpace : Nat := 0x100_0000_0000

/-- A setting of configuration space (R114, R277, Table 4.2); a value that PCIe or the device does not know is ignored. -/
def State.configWrite (s : State) (fn off v : Nat) : State :=
  if off = 0 then if fn = 0 ∧ v ≤ 127 then { s with pcie := { s.pcie with numVFs := v } } else s
  else if off = 4 then if [128, 256, 512].contains v then s.updFn fn fun x => { x with mps := v } else s
  else if off = 8 then if [128, 256, 512, 1024, 2048, 4096].contains v then s.updFn fn fun x => { x with mrrs := v } else s
  else s

/-- A write to the private-flash registers (Table 10.12): PF_WP by APEX only, and not once locked (R347). -/
def State.privWrite (s : State) (who : Master) (off v : Nat) : State :=
  if off = 0x000 then { s with priv := { s.priv with timeout := s.priv.timeout && !bit v 1, wpFault := s.priv.wpFault && !bit v 2 } }
  else if off = 0x004 then { s with priv := { s.priv with eraseAddr := v % 2 ^ 28 } }
  else if off = 0x008 then { s with priv := { s.priv with eraseSize := v % 4 } }
  else if off = 0x00C then if bit v 0 then s.eraseGo who else s
  else if 0x010 ≤ off ∧ off < 0x050 then
    if who ≠ .apex then { s with priv := { s.priv with wpFault := true } }
    else if s.priv.lock then s
    else
      let n := (off - 0x010) / 8
      let old := KeyMap.get s.priv.wp (0, 0, false) n
      let block := v / 4096 % 65536
      let new := if off % 8 = 0 then (block, old.2) else (old.1, block, bit v 31)
      { s with priv := { s.priv with wp := KeyMap.put s.priv.wp n new } }
  else if off = 0x050 then if who ≠ .apex ∨ bit v 0 then s.lockPriv who else s
  else s

/-- A write to the tile and AVS registers (Table 16.3): APEX clears W1C bits; every other write is ignored (R522). -/
def State.tileWrite (s : State) (who : Master) (off v : Nat) : State :=
  if who ≠ .apex ∨ bit v 0 = false then s
  else if off < 0x300 then if off % 0x20 = 0x10 then s.updTile (off / 0x20) fun x => { x with sat := false } else s
  else if off = 0x304 then { s with tiles := { s.tiles with avs := { s.tiles.avs with fault := false } } }
  else s

/-- One aligned 32-bit write. A function writes its BAR0 while the link is up; the device's own masters write the registers at Apex and Facet
addresses, of which a master other than APEX only moves PF_STATUS.WP_FAULT or what is open to Facet. -/
def State.regWrite (s : State) (who : Master) (addr v : Nat) : State :=
  match who with
  | .host fn =>
    if !s.pcie.up || decide (127 < fn) then s
    else if configSpace ≤ addr then s.configWrite fn (addr - configSpace) v
    else s.barWrite fn addr v
  | _ =>
    if 0x3FF0_0000 ≤ addr ∧ addr < 0x3FF0_1000 then
      let off := addr - 0x3FF0_0000
      if reachesPriv who ∨ (0x010 ≤ off ∧ off ≤ 0x050) then s.privWrite who off v else s
    else if 0x3FE0_0000 ≤ addr ∧ addr < 0x3FE0_1000 then s.tileWrite who (addr - 0x3FE0_0000) v
    else s

/-- A byte that is written by itself reaches the request buffer of a mailbox window alone: the registers are written as whole words (Table 3.1; log 74). -/
def State.byteWrite (s : State) (who : Master) (addr : Nat) (b : Byte) : State :=
  match who with
  | .host fn =>
    if s.pcie.up ∧ fn ≤ 127 ∧ 0x1000 ≤ addr ∧ addr < 0x2000 then s.bufferWrite (if fn = 0 then .mb0 else .mb3 fn) (addr - 0x1000) [b] else s
  | _ => s

/-- A write of any length and alignment, lowest address first: whole aligned words, and single bytes where there is none. The first argument bounds
the parts. -/
def State.writeAt (who : Master) : Nat → Nat → Bytes → State → State
  | 0, _, _, s => s
  | _, _, [], s => s
  | fuel + 1, addr, b :: rest, s =>
    if addr % 4 = 0 ∧ 4 ≤ (b :: rest).length then State.writeAt who fuel (addr + 4) (rest.drop 3) (s.regWrite who addr (leNat (b :: rest.take 3)))
    else State.writeAt who fuel (addr + 1) rest (s.byteWrite who addr b)

/-- REGISTER_WRITE: aligned 32-bit writes, lowest address first; the bytes at an end that fill no word reach the request buffers alone (log 74). -/
def execRegisterWrite (who : Master) (addr : Nat) (data : Bytes) (s : State) : Host.Outcome State Fault Refusal :=
  runOn s fun s => State.writeAt who data.length addr data s

end Sys2Proof.Machine
end

