-- ==== Sys2Proof/Machine/Dispatch.lean ====
section
/-!
DEFINITION. One arm per command, each one direct call of its meaning.
-/

namespace Sys2Proof.Machine

def exec (i : Instr) (s : State) : Host.Outcome State Fault Refusal :=
  match i with
  | .sysPwrgdRise rails elapsed => Sys2Proof.Machine.execSysPwrgdRise rails elapsed s
  | .sysPwrgdFall rails => Sys2Proof.Machine.execSysPwrgdFall rails s
  | .mainPowerLost loss partLow partHigh => Sys2Proof.Machine.execMainPowerLost loss partLow partHigh s
  | .deviceReset => Sys2Proof.Machine.execDeviceReset s
  | .platformResetRequest => Sys2Proof.Machine.execPlatformResetRequest s
  | .pllLockComplete addrSel => Sys2Proof.Machine.execPllLockComplete addrSel s
  | .otpSenseComplete weak => Sys2Proof.Machine.execOtpSenseComplete weak s
  | .rootVertexReconstructed value corrected => Sys2Proof.Machine.execRootVertexReconstructed value corrected s
  | .apexImageVerified slot0 slot1 => Sys2Proof.Machine.execApexImageVerified slot0 slot1 s
  | .facetImageVerified slot0 slot1 => Sys2Proof.Machine.execFacetImageVerified slot0 slot1 s
  | .unitSelftestDone unit pass => Sys2Proof.Machine.execUnitSelftestDone unit pass s
  | .revolutionBoundary => Sys2Proof.Machine.execRevolutionBoundary s
  | .sectorStart => Sys2Proof.Machine.execSectorStart s
  | .releaseDelayExpire => Sys2Proof.Machine.execReleaseDelayExpire s
  | .releaseInputStable => Sys2Proof.Machine.execReleaseInputStable s
  | .releaseTimeout => Sys2Proof.Machine.execReleaseTimeout s
  | .releaseUnwindStep => Sys2Proof.Machine.execReleaseUnwindStep s
  | .releaseRestart => Sys2Proof.Machine.execReleaseRestart s
  | .recoverDrainEnd => Sys2Proof.Machine.execRecoverDrainEnd s
  | .mbDoorbell p len => Sys2Proof.Machine.execMbDoorbell p len s
  | .mbResponseReady p => Sys2Proof.Machine.execMbResponseReady p s
  | .mbRspAck p => Sys2Proof.Machine.execMbRspAck p s
  | .mbGrantRequest fn => Sys2Proof.Machine.execMbGrantRequest fn s
  | .mbGrantRelease fn => Sys2Proof.Machine.execMbGrantRelease fn s
  | .grantDoorbellTimeout => Sys2Proof.Machine.execGrantDoorbellTimeout s
  | .fragmentAckTimeout => Sys2Proof.Machine.execFragmentAckTimeout s
  | .mb1MctpMessage msg => Sys2Proof.Machine.execMb1MctpMessage msg s
  | .i3cPrivateWrite data => Sys2Proof.Machine.execI3cPrivateWrite data s
  | .i3cPrivateRead len => Sys2Proof.Machine.execI3cPrivateRead len s
  | .sessionOpen p => Sys2Proof.Machine.execSessionOpen p s
  | .sessionClose p => Sys2Proof.Machine.execSessionClose p s
  | .identityQuery p => Sys2Proof.Machine.execIdentityQuery p s
  | .stateQuery p => Sys2Proof.Machine.execStateQuery p s
  | .noticeFetch p => Sys2Proof.Machine.execNoticeFetch p s
  | .cfgBegin p => Sys2Proof.Machine.execCfgBegin p s
  | .cfgSet p => Sys2Proof.Machine.execCfgSet p s
  | .cfgGet p => Sys2Proof.Machine.execCfgGet p s
  | .cfgCommit p => Sys2Proof.Machine.execCfgCommit p s
  | .cfgRollback p => Sys2Proof.Machine.execCfgRollback p s
  | .cfgStatus p => Sys2Proof.Machine.execCfgStatus p s
  | .txnTimeout realm => Sys2Proof.Machine.execTxnTimeout realm s
  | .adminOpen p => Sys2Proof.Machine.execAdminOpen p s
  | .adminClose p => Sys2Proof.Machine.execAdminClose p s
  | .officerSign p => Sys2Proof.Machine.execOfficerSign p s
  | .actStatus p => Sys2Proof.Machine.execActStatus p s
  | .actCancel p => Sys2Proof.Machine.execActCancel p s
  | .officerEnrol p => Sys2Proof.Machine.execOfficerEnrol p s
  | .officerRemove p => Sys2Proof.Machine.execOfficerRemove p s
  | .officerList p => Sys2Proof.Machine.execOfficerList p s
  | .sessionTimeout id => Sys2Proof.Machine.execSessionTimeout id s
  | .quorumTimeout realm => Sys2Proof.Machine.execQuorumTimeout realm s
  | .adminSessionTimeout realm => Sys2Proof.Machine.execAdminSessionTimeout realm s
  | .sqTailDoorbell fn c ring value => Sys2Proof.Machine.execSqTailDoorbell fn c ring value s
  | .cqHeadDoorbell fn c value => Sys2Proof.Machine.execCqHeadDoorbell fn c value s
  | .fnTimeLoRead fn => Sys2Proof.Machine.execFnTimeLoRead fn s
  | .registerWrite who addr data => Sys2Proof.Machine.execRegisterWrite who addr data s
  | .descriptorUndefinedOpcode c ring desc => Sys2Proof.Machine.execDescriptorUndefinedOpcode c ring desc s
  | .descriptorFetchFailed c ring => Sys2Proof.Machine.execDescriptorFetchFailed c ring s
  | .keyBlobHeaderRead c tag data => Sys2Proof.Machine.execKeyBlobHeaderRead c tag data s
  | .keyBlobLoaded c tag data => Sys2Proof.Machine.execKeyBlobLoaded c tag data s
  | .anchor c miss => Sys2Proof.Machine.execAnchor c miss s
  | .keyCheckInstant c => Sys2Proof.Machine.execKeyCheckInstant c s
  | .itemRelease c => Sys2Proof.Machine.execItemRelease c s
  | .cqModTimerExpire c => Sys2Proof.Machine.execCqModTimerExpire c s
  | .outputWriteFailed c written => Sys2Proof.Machine.execOutputWriteFailed c written s
  | .completionWriteFailed c => Sys2Proof.Machine.execCompletionWriteFailed c s
  | .busMasterEnableClear fn => Sys2Proof.Machine.execBusMasterEnableClear fn s
  | .functionLevelReset fn => Sys2Proof.Machine.execFunctionLevelReset fn s
  | .pcieLinkDown perst => Sys2Proof.Machine.execPcieLinkDown perst s
  | .perstRise => Sys2Proof.Machine.execPerstRise s
  | .pcieLinkTrained width speed => Sys2Proof.Machine.execPcieLinkTrained width speed s
  | .pinTranslate ph => Sys2Proof.Machine.execPinTranslate ph s
  | .pinTranslateTdukpt ph => Sys2Proof.Machine.execPinTranslateTdukpt ph s
  | .pinTranslateAdukpt ph => Sys2Proof.Machine.execPinTranslateAdukpt ph s
  | .pinVerify3624 ph => Sys2Proof.Machine.execPinVerify3624 ph s
  | .pinVerify3624Tdukpt ph => Sys2Proof.Machine.execPinVerify3624Tdukpt ph s
  | .pinVerify3624Adukpt ph => Sys2Proof.Machine.execPinVerify3624Adukpt ph s
  | .pinVerifyPvv ph => Sys2Proof.Machine.execPinVerifyPvv ph s
  | .pinVerifyPvvTdukpt ph => Sys2Proof.Machine.execPinVerifyPvvTdukpt ph s
  | .pinVerifyPvvAdukpt ph => Sys2Proof.Machine.execPinVerifyPvvAdukpt ph s
  | .macGenerateAlg1 ph => Sys2Proof.Machine.execMacGenerateAlg1 ph s
  | .macVerifyAlg1 ph => Sys2Proof.Machine.execMacVerifyAlg1 ph s
  | .macGenerateAlg3 ph => Sys2Proof.Machine.execMacGenerateAlg3 ph s
  | .macVerifyAlg3 ph => Sys2Proof.Machine.execMacVerifyAlg3 ph s
  | .macGenerateCmac ph => Sys2Proof.Machine.execMacGenerateCmac ph s
  | .macVerifyCmac ph => Sys2Proof.Machine.execMacVerifyCmac ph s
  | .macGenerateAlg3Tdukpt ph => Sys2Proof.Machine.execMacGenerateAlg3Tdukpt ph s
  | .macVerifyAlg3Tdukpt ph => Sys2Proof.Machine.execMacVerifyAlg3Tdukpt ph s
  | .macGenerateCmacAdukpt ph => Sys2Proof.Machine.execMacGenerateCmacAdukpt ph s
  | .macVerifyCmacAdukpt ph => Sys2Proof.Machine.execMacVerifyCmacAdukpt ph s
  | .arqcVerify ph => Sys2Proof.Machine.execArqcVerify ph s
  | .arqcGenerate ph => Sys2Proof.Machine.execArqcGenerate ph s
  | .cvvGenerate ph => Sys2Proof.Machine.execCvvGenerate ph s
  | .cvvVerify ph => Sys2Proof.Machine.execCvvVerify ph s
  | .dukptIkDerive ph => Sys2Proof.Machine.execDukptIkDerive ph s
  | .emvIccDerive ph => Sys2Proof.Machine.execEmvIccDerive ph s
  | .dukptDataTdes ph => Sys2Proof.Machine.execDukptDataTdes ph s
  | .dukptDataAes ph => Sys2Proof.Machine.execDukptDataAes ph s
  | .aesEcb ph => Sys2Proof.Machine.execAesEcb ph s
  | .aesCbcEncrypt ph => Sys2Proof.Machine.execAesCbcEncrypt ph s
  | .aesCbcDecrypt ph => Sys2Proof.Machine.execAesCbcDecrypt ph s
  | .aesCtr ph => Sys2Proof.Machine.execAesCtr ph s
  | .aesCfbEncrypt ph => Sys2Proof.Machine.execAesCfbEncrypt ph s
  | .aesCfbDecrypt ph => Sys2Proof.Machine.execAesCfbDecrypt ph s
  | .aesOfb ph => Sys2Proof.Machine.execAesOfb ph s
  | .aesXts ph => Sys2Proof.Machine.execAesXts ph s
  | .aesGcmEncrypt ph => Sys2Proof.Machine.execAesGcmEncrypt ph s
  | .aesGcmDecrypt ph => Sys2Proof.Machine.execAesGcmDecrypt ph s
  | .aesGcmDecryptRbv ph => Sys2Proof.Machine.execAesGcmDecryptRbv ph s
  | .tdesEcb ph => Sys2Proof.Machine.execTdesEcb ph s
  | .tdesCbcEncrypt ph => Sys2Proof.Machine.execTdesCbcEncrypt ph s
  | .tdesCbcDecrypt ph => Sys2Proof.Machine.execTdesCbcDecrypt ph s
  | .sha256 ph => Sys2Proof.Machine.execSha256 ph s
  | .sha384 ph => Sys2Proof.Machine.execSha384 ph s
  | .sha512 ph => Sys2Proof.Machine.execSha512 ph s
  | .hmacSha256Generate ph => Sys2Proof.Machine.execHmacSha256Generate ph s
  | .hmacSha256Verify ph => Sys2Proof.Machine.execHmacSha256Verify ph s
  | .digestFeedSilence c item received => Sys2Proof.Machine.execDigestFeedSilence c item received s
  | .ecdsaP256Sign ph => Sys2Proof.Machine.execEcdsaP256Sign ph s
  | .ecdsaP256Verify ph => Sys2Proof.Machine.execEcdsaP256Verify ph s
  | .ecdsaP384Sign ph => Sys2Proof.Machine.execEcdsaP384Sign ph s
  | .ecdsaP384Verify ph => Sys2Proof.Machine.execEcdsaP384Verify ph s
  | .ecdhDerive ph => Sys2Proof.Machine.execEcdhDerive ph s
  | .mlkemEncaps ph => Sys2Proof.Machine.execMlkemEncaps ph s
  | .mlkemDecaps ph => Sys2Proof.Machine.execMlkemDecaps ph s
  | .rsaSign ph => Sys2Proof.Machine.execRsaSign ph s
  | .rsaPublic ph => Sys2Proof.Machine.execRsaPublic ph s
  | .slh128sSign ph => Sys2Proof.Machine.execSlh128sSign ph s
  | .slh128fSign ph => Sys2Proof.Machine.execSlh128fSign ph s
  | .slh256sSign ph => Sys2Proof.Machine.execSlh256sSign ph s
  | .slh128sVerify ph => Sys2Proof.Machine.execSlh128sVerify ph s
  | .slh128fVerify ph => Sys2Proof.Machine.execSlh128fVerify ph s
  | .slh256sVerify ph => Sys2Proof.Machine.execSlh256sVerify ph s
  | .slhTopTree ph => Sys2Proof.Machine.execSlhTopTree ph s
  | .keyGenerate ph => Sys2Proof.Machine.execKeyGenerate ph s
  | .keyGeneratePair ph => Sys2Proof.Machine.execKeyGeneratePair ph s
  | .keyRewrap ph => Sys2Proof.Machine.execKeyRewrap ph s
  | .keyExportKb ph => Sys2Proof.Machine.execKeyExportKb ph s
  | .keyImportKb ph => Sys2Proof.Machine.execKeyImportKb ph s
  | .keyImportTr34 ph => Sys2Proof.Machine.execKeyImportTr34 ph s
  | .keyExportTr34 ph => Sys2Proof.Machine.execKeyExportTr34 ph s
  | .keyCheck ph => Sys2Proof.Machine.execKeyCheck ph s
  | .legacyImport ph => Sys2Proof.Machine.execLegacyImport ph s
  | .vaultStatus p => Sys2Proof.Machine.execVaultStatus p s
  | .keyTransportOpen p => Sys2Proof.Machine.execKeyTransportOpen p s
  | .rootStage p => Sys2Proof.Machine.execRootStage p s
  | .rootSwap p => Sys2Proof.Machine.execRootSwap p s
  | .rootUnstage p => Sys2Proof.Machine.execRootUnstage p s
  | .rootInvalidate p => Sys2Proof.Machine.execRootInvalidate p s
  | .rootErase p => Sys2Proof.Machine.execRootErase p s
  | .keyAttest p => Sys2Proof.Machine.execKeyAttest p s
  | .cacheFlush p => Sys2Proof.Machine.execCacheFlush p s
  | .keyGenerateRsa p => Sys2Proof.Machine.execKeyGenerateRsa p s
  | .peerKeyLoad p => Sys2Proof.Machine.execPeerKeyLoad p s
  | .hostCsFall bus cs => Sys2Proof.Machine.execHostCsFall bus cs s
  | .spiRead bus opcode f => Sys2Proof.Machine.execSpiRead bus opcode f s
  | .spiRead4byte bus opcode f => Sys2Proof.Machine.execSpiRead4byte bus opcode f s
  | .spiFastRead bus opcode f => Sys2Proof.Machine.execSpiFastRead bus opcode f s
  | .spiDualOutputRead bus opcode f => Sys2Proof.Machine.execSpiDualOutputRead bus opcode f s
  | .spiDualIoRead bus opcode f => Sys2Proof.Machine.execSpiDualIoRead bus opcode f s
  | .spiQuadOutputRead bus opcode f => Sys2Proof.Machine.execSpiQuadOutputRead bus opcode f s
  | .spiQuadIoRead bus opcode f => Sys2Proof.Machine.execSpiQuadIoRead bus opcode f s
  | .spiReadId bus opcode f => Sys2Proof.Machine.execSpiReadId bus opcode f s
  | .spiReadSfdp bus opcode f => Sys2Proof.Machine.execSpiReadSfdp bus opcode f s
  | .spiReadStatus1 bus opcode f => Sys2Proof.Machine.execSpiReadStatus1 bus opcode f s
  | .spiReadStatus2 bus opcode f => Sys2Proof.Machine.execSpiReadStatus2 bus opcode f s
  | .spiReadFlagStatus bus opcode f => Sys2Proof.Machine.execSpiReadFlagStatus bus opcode f s
  | .spiWriteEnable bus opcode f => Sys2Proof.Machine.execSpiWriteEnable bus opcode f s
  | .spiWriteDisable bus opcode f => Sys2Proof.Machine.execSpiWriteDisable bus opcode f s
  | .spiPageProgram bus opcode f => Sys2Proof.Machine.execSpiPageProgram bus opcode f s
  | .spiQuadPageProgram bus opcode f => Sys2Proof.Machine.execSpiQuadPageProgram bus opcode f s
  | .spiSectorErase bus opcode f => Sys2Proof.Machine.execSpiSectorErase bus opcode f s
  | .spiBlockErase32k bus opcode f => Sys2Proof.Machine.execSpiBlockErase32k bus opcode f s
  | .spiBlockErase64k bus opcode f => Sys2Proof.Machine.execSpiBlockErase64k bus opcode f s
  | .spiChipErase bus opcode f => Sys2Proof.Machine.execSpiChipErase bus opcode f s
  | .spiWriteStatus1 bus opcode f => Sys2Proof.Machine.execSpiWriteStatus1 bus opcode f s
  | .spiWriteStatus2 bus opcode f => Sys2Proof.Machine.execSpiWriteStatus2 bus opcode f s
  | .spiEnter4byteMode bus opcode f => Sys2Proof.Machine.execSpiEnter4byteMode bus opcode f s
  | .spiExit4byteMode bus opcode f => Sys2Proof.Machine.execSpiExit4byteMode bus opcode f s
  | .spiResetEnable bus opcode f => Sys2Proof.Machine.execSpiResetEnable bus opcode f s
  | .spiReset bus opcode f => Sys2Proof.Machine.execSpiReset bus opcode f s
  | .spiClearFlagStatus bus opcode f => Sys2Proof.Machine.execSpiClearFlagStatus bus opcode f s
  | .deniedOpcodeFrame bus opcode f => Sys2Proof.Machine.execDeniedOpcodeFrame bus opcode f s
  | .mb2Read off len => Sys2Proof.Machine.execMb2Read off len s
  | .mb2Write off data => Sys2Proof.Machine.execMb2Write off data s
  | .flashStatusPoll bus cs sr1 sr2 => Sys2Proof.Machine.execFlashStatusPoll bus cs sr1 sr2 s
  | .flashOperationTimeout bus cs => Sys2Proof.Machine.execFlashOperationTimeout bus cs s
  | .pfWindowWrite who addr data => Sys2Proof.Machine.execPfWindowWrite who addr data s
  | .pfGatherTimeout => Sys2Proof.Machine.execPfGatherTimeout s
  | .pfStallTimeout => Sys2Proof.Machine.execPfStallTimeout s
  | .pfEraseGo who => Sys2Proof.Machine.execPfEraseGo who s
  | .pfEraseDone pass => Sys2Proof.Machine.execPfEraseDone pass s
  | .pfLockWrite who => Sys2Proof.Machine.execPfLockWrite who s
  | .regionDigestComplete bus region digest => Sys2Proof.Machine.execRegionDigestComplete bus region digest s
  | .restoreAreaDone bus status => Sys2Proof.Machine.execRestoreAreaDone bus status s
  | .platStatus p => Sys2Proof.Machine.execPlatStatus p s
  | .platVerify p => Sys2Proof.Machine.execPlatVerify p s
  | .platReset p => Sys2Proof.Machine.execPlatReset p s
  | .platRecover p => Sys2Proof.Machine.execPlatRecover p s
  | .platReleaseRetry p => Sys2Proof.Machine.execPlatReleaseRetry p s
  | .platGoldenCapture p => Sys2Proof.Machine.execPlatGoldenCapture p s
  | .platSvnAdvance p => Sys2Proof.Machine.execPlatSvnAdvance p s
  | .platDenials p => Sys2Proof.Machine.execPlatDenials p s
  | .platManifestRead p => Sys2Proof.Machine.execPlatManifestRead p s
  | .idCertRead p => Sys2Proof.Machine.execIdCertRead p s
  | .idCertWrite p => Sys2Proof.Machine.execIdCertWrite p s
  | .attestReport p => Sys2Proof.Machine.execAttestReport p s
  | .spdmGetVersion p => Sys2Proof.Machine.execSpdmGetVersion p s
  | .spdmGetCapabilities p => Sys2Proof.Machine.execSpdmGetCapabilities p s
  | .spdmNegotiateAlgorithms p => Sys2Proof.Machine.execSpdmNegotiateAlgorithms p s
  | .spdmGetDigests p => Sys2Proof.Machine.execSpdmGetDigests p s
  | .spdmGetCertificate p => Sys2Proof.Machine.execSpdmGetCertificate p s
  | .spdmChallenge p => Sys2Proof.Machine.execSpdmChallenge p s
  | .spdmGetMeasurements p => Sys2Proof.Machine.execSpdmGetMeasurements p s
  | .spdmUnsupportedRequest p => Sys2Proof.Machine.execSpdmUnsupportedRequest p s
  | .apexSignatureComplete => Sys2Proof.Machine.execApexSignatureComplete s
  | .domainStatus p => Sys2Proof.Machine.execDomainStatus p s
  | .domainCard p => Sys2Proof.Machine.execDomainCard p s
  | .domainCreate p => Sys2Proof.Machine.execDomainCreate p s
  | .domainJoinRequest p => Sys2Proof.Machine.execDomainJoinRequest p s
  | .domainAdmit p => Sys2Proof.Machine.execDomainAdmit p s
  | .domainAccept p => Sys2Proof.Machine.execDomainAccept p s
  | .domainRosterUpdate p => Sys2Proof.Machine.execDomainRosterUpdate p s
  | .domainRoll p => Sys2Proof.Machine.execDomainRoll p s
  | .domainPackageFetch p => Sys2Proof.Machine.execDomainPackageFetch p s
  | .domainPackageLoad p => Sys2Proof.Machine.execDomainPackageLoad p s
  | .domainActivate p => Sys2Proof.Machine.execDomainActivate p s
  | .domainLeave p => Sys2Proof.Machine.execDomainLeave p s
  | .domainReport p => Sys2Proof.Machine.execDomainReport p s
  | .domainNoticeFetch p => Sys2Proof.Machine.execDomainNoticeFetch p s
  | .domainNoticeIn p => Sys2Proof.Machine.execDomainNoticeIn p s
  | .domainFaults p => Sys2Proof.Machine.execDomainFaults p s
  | .domainResultRead p => Sys2Proof.Machine.execDomainResultRead p s
  | .coalesceEntryClose => Sys2Proof.Machine.execCoalesceEntryClose s
  | .joinTicketExpire => Sys2Proof.Machine.execJoinTicketExpire s
  | .actOutputExpire realm => Sys2Proof.Machine.execActOutputExpire realm s
  | .linkTrained lanes margins => Sys2Proof.Machine.execLinkTrained lanes margins s
  | .laneRetrain lane => Sys2Proof.Machine.execLaneRetrain lane s
  | .chordHello frame => Sys2Proof.Machine.execChordHello frame s
  | .chordBeat frame => Sys2Proof.Machine.execChordBeat frame s
  | .chordAdmit frame => Sys2Proof.Machine.execChordAdmit frame s
  | .chordRel frame => Sys2Proof.Machine.execChordRel frame s
  | .chordAck frame => Sys2Proof.Machine.execChordAck frame s
  | .chordPrepare frame => Sys2Proof.Machine.execChordPrepare frame s
  | .chordReady frame => Sys2Proof.Machine.execChordReady frame s
  | .chordCommit frame => Sys2Proof.Machine.execChordCommit frame s
  | .chordCommitAck frame => Sys2Proof.Machine.execChordCommitAck frame s
  | .chordNack frame => Sys2Proof.Machine.execChordNack frame s
  | .chordAbort frame => Sys2Proof.Machine.execChordAbort frame s
  | .chordResolve frame => Sys2Proof.Machine.execChordResolve frame s
  | .chordSync frame => Sys2Proof.Machine.execChordSync frame s
  | .chordFenceTest frame => Sys2Proof.Machine.execChordFenceTest frame s
  | .readyTimeout => Sys2Proof.Machine.execReadyTimeout s
  | .commitWaitTimeout => Sys2Proof.Machine.execCommitWaitTimeout s
  | .heartbeatWindow => Sys2Proof.Machine.execHeartbeatWindow s
  | .pairDeadline reads => Sys2Proof.Machine.execPairDeadline reads s
  | .fenceInAsserted => Sys2Proof.Machine.execFenceInAsserted s
  | .fenceInReleased => Sys2Proof.Machine.execFenceInReleased s
  | .fenceTestPulse => Sys2Proof.Machine.execFenceTestPulse s
  | .timeStep => Sys2Proof.Machine.execTimeStep s
  | .resyncComplete => Sys2Proof.Machine.execResyncComplete s
  | .pairStatus p => Sys2Proof.Machine.execPairStatus p s
  | .pairBind p => Sys2Proof.Machine.execPairBind p s
  | .pairAccept p => Sys2Proof.Machine.execPairAccept p s
  | .pairUnbind p => Sys2Proof.Machine.execPairUnbind p s
  | .pairTakeover p => Sys2Proof.Machine.execPairTakeover p s
  | .pairUnfence p => Sys2Proof.Machine.execPairUnfence p s
  | .pairRekey p => Sys2Proof.Machine.execPairRekey p s
  | .pairResultRead p => Sys2Proof.Machine.execPairResultRead p s
  | .detectorTrip ds clock m => Sys2Proof.Machine.execDetectorTrip ds clock m s
  | .lockstepDisagree => Sys2Proof.Machine.execLockstepDisagree s
  | .busIntegrityMismatch master target => Sys2Proof.Machine.execBusIntegrityMismatch master target s
  | .detectorStimulationTest d tripped tile => Sys2Proof.Machine.execDetectorStimulationTest d tripped tile s
  | .sentinelPowerOn => Sys2Proof.Machine.execSentinelPowerOn s
  | .cellStateChange vbat current ntc => Sys2Proof.Machine.execCellStateChange vbat current ntc s
  | .chargerTimerExpire => Sys2Proof.Machine.execChargerTimerExpire s
  | .chargeEstimate vbat => Sys2Proof.Machine.execChargeEstimate vbat s
  | .gaugeLevelCross remaining => Sys2Proof.Machine.execGaugeLevelCross remaining s
  | .tamperStatus p => Sys2Proof.Machine.execTamperStatus p s
  | .cellStatus p => Sys2Proof.Machine.execCellStatus p s
  | .sentinelLogRead p => Sys2Proof.Machine.execSentinelLogRead p s
  | .detectorTest p tripped tile => Sys2Proof.Machine.execDetectorTest p tripped tile s
  | .zeroiseCommand p => Sys2Proof.Machine.execZeroiseCommand p s
  | .rtcSet p => Sys2Proof.Machine.execRtcSet p s
  | .otpWordProgram word bits low high => Sys2Proof.Machine.execOtpWordProgram word bits low high s
  | .factoryBlankToTest => Sys2Proof.Machine.execFactoryBlankToTest s
  | .factoryEnrolment copy data => Sys2Proof.Machine.execFactoryEnrolment copy data s
  | .factoryTestToProduction => Sys2Proof.Machine.execFactoryTestToProduction s
  | .factoryScrap => Sys2Proof.Machine.execFactoryScrap s
  | .lcStatus p => Sys2Proof.Machine.execLcStatus p s
  | .otpRead p => Sys2Proof.Machine.execOtpRead p s
  | .lcCommission p => Sys2Proof.Machine.execLcCommission p s
  | .lcRecommission p => Sys2Proof.Machine.execLcRecommission p s
  | .lcScrap p => Sys2Proof.Machine.execLcScrap p s
  | .debugChallenge p => Sys2Proof.Machine.execDebugChallenge p s
  | .debugOpen p => Sys2Proof.Machine.execDebugOpen p s
  | .debugClose p => Sys2Proof.Machine.execDebugClose p s
  | .debugLifetimeExpire => Sys2Proof.Machine.execDebugLifetimeExpire s
  | .debugDisablePermanent p => Sys2Proof.Machine.execDebugDisablePermanent p s
  | .fwStatus p => Sys2Proof.Machine.execFwStatus p s
  | .fwSlotErase p => Sys2Proof.Machine.execFwSlotErase p s
  | .fwSlotEraseDone pass => Sys2Proof.Machine.execFwSlotEraseDone pass s
  | .fwStage p => Sys2Proof.Machine.execFwStage p s
  | .fwStageEnd p => Sys2Proof.Machine.execFwStageEnd p s
  | .fwActivate p => Sys2Proof.Machine.execFwActivate p s
  | .fwActivateRestart => Sys2Proof.Machine.execFwActivateRestart s
  | .fwSvnCommit p => Sys2Proof.Machine.execFwSvnCommit p s
  | .fwKeyRevoke p => Sys2Proof.Machine.execFwKeyRevoke p s
  | .periodicTrigger trigger => Sys2Proof.Machine.execPeriodicTrigger trigger s
  | .journalFlush pass => Sys2Proof.Machine.execJournalFlush pass s
  | .journalFlushRetry pass => Sys2Proof.Machine.execJournalFlushRetry pass s
  | .recorderRoomReturns => Sys2Proof.Machine.execRecorderRoomReturns s
  | .histSample hist x => Sys2Proof.Machine.execHistSample hist x s
  | .histCheckpoint => Sys2Proof.Machine.execHistCheckpoint s
  | .recStatus p => Sys2Proof.Machine.execRecStatus p s
  | .recRead p => Sys2Proof.Machine.execRecRead p s
  | .recHistRead p => Sys2Proof.Machine.execRecHistRead p s
  | .recExport p => Sys2Proof.Machine.execRecExport p s
  | .recResultRead p => Sys2Proof.Machine.execRecResultRead p s
  | .recHistReset p => Sys2Proof.Machine.execRecHistReset p s
  | .crossingTimeout src dst items => Sys2Proof.Machine.execCrossingTimeout src dst items s
  | .loopInterval tile slack vdd => Sys2Proof.Machine.execLoopInterval tile slack vdd s
  | .avsLowerTimer => Sys2Proof.Machine.execAvsLowerTimer s
  | .avsFrameComplete good readback => Sys2Proof.Machine.execAvsFrameComplete good readback s
  | .avsWriteRetry => Sys2Proof.Machine.execAvsWriteRetry s
  | .avsFaultRetry => Sys2Proof.Machine.execAvsFaultRetry s
  | .railEntersWindow x => Sys2Proof.Machine.execRailEntersWindow x s
  | .deviceResetRelease => Sys2Proof.Machine.execDeviceResetRelease s
  | .awaitedInputChange level => Sys2Proof.Machine.execAwaitedInputChange level s
  | .flashSideUp bus sfdp0 sfdp1 octal => Sys2Proof.Machine.execFlashSideUp bus sfdp0 sfdp1 octal s
  | .manifestCheckComplete bus manifest => Sys2Proof.Machine.execManifestCheckComplete bus manifest s
  | .detectorQuiet d => Sys2Proof.Machine.execDetectorQuiet d s
  | .livenessToggleResumes src dst => Sys2Proof.Machine.execLivenessToggleResumes src dst s
  | .clockStretch tile => Sys2Proof.Machine.execClockStretch tile s
  | .busMasterEnableSet fn => Sys2Proof.Machine.execBusMasterEnableSet fn s
  | .chgSupplyChange present => Sys2Proof.Machine.execChgSupplyChange present s

end Sys2Proof.Machine
end

