-- ==== Sys2Proof/Machine/Step.lean ====
section
/-!
DEFINITION. One step of the block, and where the host puts a command.
-/

namespace Sys2Proof.Machine

/-- One step: the command at the front of the queue acts on the state with the queue's rest; on an empty queue the block
idles (log 18). The output side of the previous command is cleared first (log 13). -/
def step (s : State) : Host.Outcome State Fault Refusal :=
  match s.pending with
  | [] => .next s
  | c :: rest => exec c { s with pending := rest }

/-- The state with the command that a word spells put in front of its queue. No row of the table carries bits, so no word
spells a command and the state is unchanged. -/
def State.withFetchWord (s : State) (nbits w : Nat) : State :=
  match Sys2Proof.decodeTableWord nbits w with
  | some c => { s with pending := c :: s.pending }
  | none => s

end Sys2Proof.Machine
end

