-- ==== Sys2Proof/Safety.lean ====
section
/-!
DEFINITION. What claims call safe: the canonical form of sparse tables, the secrets that a zeroised device no longer holds, and the service that
the gates allow.
-/

namespace Sys2Proof.Safety

open Sys2Proof.Machine

/-- A table of words is in canonical form: numbers strictly rising, and no word listed that equals what an unlisted one reads as. -/
def wordsCanonical (m : KeyMap Nat) : Prop := KeyMap.wf m = true ∧ (∀ p ∈ m, p.2 ≠ 0)

/-- The OTP array is in canonical form at both margins, and each bit that reads 1 at high margin reads 1 at low margin (R448, R452). -/
def otpCanonical (s : State) : Prop :=
  wordsCanonical s.otp.low ∧ wordsCanonical s.otp.high ∧ ∀ w b, bit (s.otpHigh w) b = true → bit (s.otpLow w) b = true

/-- Every bit that reads 1 at low margin in one state reads 1 in another: OTP bits never return to 0 (R448). -/
def otpKept (s t : State) : Prop := ∀ w b, bit (s.otpLow w) b = true → bit (t.otpLow w) b = true

/-- Nothing is left in the stores that the hardware zeroise line clears (R221): the vault, the key cache with its staging area, the hold buffers,
the context store and the operand memory. -/
def zeroised (s : State) : Prop :=
  s.keys.vault = [] ∧ s.keys.staged = [] ∧ s.keys.cache = [] ∧ s.cipher.pageData = [] ∧ s.cipher.store = [] ∧ s.operand.mem = []

/-- Transaction service is open only with every service gate 0 (R35, R39). -/
def serviceClosed (s : State) : Prop := s.serving = false

end Sys2Proof.Safety
end

