-- ==== Sys2Proof/Certificates/Slice0/Obligations.lean ====
section
/-!
DEFINITION. The statements for the provers. The first part states rules of the manual, frames and invariants; the second says of every command
where it completes, and with what next state.
-/

namespace Sys2Proof.Slice0

open Sys2Proof Sys2Proof.Machine

/-- The state with the output side empty, as every command finds it (log 13). -/
def quiet (s : State) : State := { s with outbox := [] }

/-- A command's next state: what it made, with the queue as it was. -/
def after (s t : State) : State := { t with pending := s.pending }

/-- A request with an opcode is in flight on a port of a device that serves. -/
abbrev Asked (s : State) (p : Port) (op : Nat) (q : Request) : Prop := s.alive = true ∧ s.taken p op = some q

/-- The state in which a request's execution begins: the request has left the mailbox. -/
def begun (s : State) (p : Port) (q : Request) : State := (quiet s).take p q

/-- An SPDM request whose code passes a test is in flight on a port, in an open session. -/
abbrev SpdmAsked (s : State) (p : Port) (codes : Nat → Bool) (q : Request) (x : Session) : Prop :=
  s.alive = true ∧ ((s.mbox p).inFlight.find? fun r => r.opcode == 0x0504 && r.port == p && codes (byteAt r.payload 1)) = some q
    ∧ s.session q.session = some x

/-- The next item of a channel to be checked: the earliest check instant among those not yet judged. -/
def nextCheck (x : Channel) : Option Item :=
  (x.admitted.filter fun y => !y.judged).foldl (fun (best : Option Item) y =>
    match best with
    | none => some y
    | some b => if y.checkAt < b.checkAt then some y else some b) none

/-- A host frame is in progress on an open bus. -/
abbrev Framed (s : State) (b : Nat) (x : Frame) : Prop := s.alive = true ∧ b < 2 ∧ (s.bus b).frame = some x ∧ x.opened = true

/-- The address of a read frame. -/
def readAddr (s : State) (b op : Nat) (f : HostFrame) (x : Frame) : Nat := beNat (f.sent.take (s.addrLen x b (x.opClass b op)))

/-- A protected Chord frame: one that does not open, or whose sequence number is not new, is dropped and counted; another acts, and all
but ACK are acknowledged (R393, R396). -/
def received (s : State) (type : Nat) (frame : Bytes) (act : Bytes → State → State) : State :=
  match s.openFrame type frame with
  | none => s.updPair fun p => { p with droppedFrames := p.droppedFrames + 1 }
  | some (seq, body) =>
    if seq ≤ s.pair.rxOrder ∨ seq ∈ s.pair.rxAhead then s.updPair fun p => { p with droppedFrames := p.droppedFrames + 1 }
    else
      let u := act body (s.updPair fun p => { p with
        rxOrder := (inOrder p.rxOrder (seq :: p.rxAhead)).1, rxAhead := (inOrder p.rxOrder (seq :: p.rxAhead)).2 })
      if type = 5 then u else u.sendFrame 0x05 (u64 u.pair.rxOrder)

/-- An item of an opcode is admitted on a channel, its key check has passed and its work has not run. -/
abbrev Admitted (s : State) (ch n op : Nat) (x : Item) : Prop :=
  (s.chan ch).admitted.find? (fun y => y.seq == n) = some x ∧ dOpcode x.desc = op ∧ x.judged = true ∧ x.status = 0 ∧ x.result = none
    ∧ x.cls ≠ .refused

/-- The input bytes that an item's work sees: none where its input list cannot be used (R132). -/
def inputRead (x : Item) (input inList : Option Bytes) : Option Bytes :=
  if dInSgl x.desc && dInLen x.desc != 0 then
    match sglOf (dInIova x.desc) (dInLen x.desc) inList with
    | .inl _ => none
    | .inr _ => input
  else input

/-- A fetched descriptor with an opcode is decoded by stages 1 and 2 (Table 4.12). -/
def Fetches (row : ItemPhase → Instr) (op : Nat) : Prop :=
  ∀ (s : State) (ch ring : Nat) (d : Bytes), s.alive = true → dOpcode d = op →
    exec (row (.fetched ch ring d)) s = .next (after s ((quiet s).fetched ch ring d))

/-- An admitted item of an opcode runs the opcode's operation (Table 4.12, stage 3); where no crossing between the host tile and the tiles of its plan
passes anything it ends with ST_CDC_TIMEOUT (R510; which crossings an item needs: log 163). -/
def Works (row : ItemPhase → Instr) (op : Nat) (f : State → Item → ExecIn → ExecOut) : Prop :=
  ∀ (s : State) (ch n : Nat) (input inList outList : Option Bytes) (x : Item), s.alive = true → Admitted s ch n op x →
    (s.cutOff x = false → exec (row (.work ch n input inList outList)) s =
      .next (after s ((quiet s).workOn ch x inList outList (f (quiet s) x ((quiet s).execIn ch x (inputRead x input inList))))))
    ∧ (s.cutOff x = true → exec (row (.work ch n input inList outList)) s =
      .next (after s ((quiet s).updItem ch n fun y => { y with result := some (Result.none_ ST_CDC_TIMEOUT), doneAt := s.now })))

/-- Sessions open on a port. -/
def sessionsOn (s : State) (p : Port) : Nat := (s.orfer.sessions.filter fun x => x.2.port == p).length

/-- Sessions open on MB3 in all. -/
def virtualSessions (s : State) : Nat := (s.orfer.sessions.filter fun x => portNum x.2.port == 3).length

end Sys2Proof.Slice0

open Sys2Proof Sys2Proof.Machine Sys2Proof.Slice0

/-- For every state, command and rest of the queue: where the queue is the command followed by the rest, a step is exec of that command on the same state
with the queue's rest. (From 00, 95.) -/
def Obligations.StepRunsFrontCommand : Prop :=
  ∀ (s : State) (c : Instr) (rest : List Instr), s.pending = c :: rest → step s = exec c { s with pending := rest }

/-- The manual gives no command queue; with no command waiting the model's step leaves the state as it is. This is the model's choice, log entry 18. (From
00.) -/
def Obligations.EmptyQueueIdles : Prop :=
  ∀ s : State, s.pending = [] → step s = .next s

/-- For every command with any operands and every state, exec answers a next state, never a fault or a refusal, and that state's queue is the queue it
started from. (From 95, 00.) -/
def Obligations.EveryCommandEndsInANextState : Prop :=
  ∀ (c : Instr) (s : State), ∃ t, exec c s = .next t ∧ t.pending = s.pending

/-- After main power-on: the mode word reads GATE with every gate that holds service closed and CAUSE 0; every mailbox is idle with no error bit; the I3C
error bits are 0; no channel is bound and CH_OPCODE_PERMIT permits nothing; every sector lies in the pool; the vault, the staged keys, the key cache,
the hold buffers, the context store and the operand memory are empty; no OTP bit is 1; PAIR_STATE is UNPAIRED and the fence is low; RSEQ starts at 1.
(From 02, 03, 04, 05, 06, 12, 14, 15.) -/
def Obligations.ResetLeavesStatedValues : Prop :=
  State.reset.modeWord = 0x00007F02 ∧ State.reset.serving = false
  ∧ (∀ p : Port, (State.reset.mbox p).busy = false ∧ (State.reset.mbox p).rspValid = false ∧ (State.reset.window p).dbIgnored = false ∧ (State.reset.window p).lenErr = false)
  ∧ State.reset.i3c.rdOverrun = false ∧ State.reset.i3c.wrIgnored = false
  ∧ (∀ c op, State.reset.permits c op = false) ∧ (∀ c, (State.reset.chan c).binding.rings = 0) ∧ (∀ i, State.reset.sectorOwner i = 0)
  ∧ Safety.zeroised State.reset ∧ (∀ w, State.reset.otpLow w = 0 ∧ State.reset.otpHigh w = 0)
  ∧ State.reset.pair.mode = .unpaired ∧ State.reset.pair.fenceOut = false ∧ State.reset.recorder.nextRseq = 1

/-- At reset the OTP array lists each programmed word once, in ascending order and never as 0, at both margins, and no bit reads 1 at high margin that
does not read 1 at low margin. (From 14.) -/
def Obligations.OtpArrayCanonicalAtReset : Prop :=
  Safety.otpCanonical State.reset

/-- Both margins of the OTP array change only in OTP_WORD_PROGRAM and, by a pulse that a power loss cuts short, in MAIN_POWER_LOST. Every other command
leaves every word of the array as it was at both margins; in particular OTP_SENSE_COMPLETE, whose operand names the bits that only the low-margin read
reports, changes none. (From 14.) -/
def Obligations.OtpArrayFrame : Prop :=
  ∀ (c : Instr) (s t : State), exec c s = .next t → (∀ w b l h, c ≠ .otpWordProgram w b l h) → (∀ a l h, c ≠ .mainPowerLost a l h) →
  t.otp.low = s.otp.low ∧ t.otp.high = s.otp.high

/-- From every state whose OTP array has its canonical form (words listed once, in ascending order and never as 0; no bit 1 at high margin and 0 at low
margin), a step that answers a next state gives a state whose array has it too. (From 14.) -/
def Obligations.OtpArrayStaysCanonical : Prop :=
  ∀ s t : State, Safety.otpCanonical s → step s = .next t → Safety.otpCanonical t

/-- From every state, a step that answers a next state keeps every OTP bit that reads 1 at low margin: each bit reads 0 until it is programmed, and 1
after. (From 14.) -/
def Obligations.OtpBitsNeverReturnToZero : Prop :=
  ∀ s t : State, step s = .next t → Safety.otpKept s t

/-- On MB0, MB2 and MB3: while requests are not yet served, while BUSY or RSP_VALID is 1, or on MB3 GRANTED is 0, a doorbell is ignored and sets
DB_IGNORED; a length outside 32 to 4,096 is ignored and sets LEN_ERR, whether or not the mailbox could take a request; both change nothing else.
Otherwise the request of that length is delivered. (Rule R68.) -/
def Obligations.DoorbellsActOnlyWhenReady : Prop :=
  ∀ (s : State) (p : Port) (len : Nat), s.alive = true → p ≠ .mb1 →
  (s.portServed p = false ∨ s.granted p = false ∨ (s.mbox p).busy = true ∨ (s.mbox p).rspValid = true →
    exec (.mbDoorbell p len) s = .next (after s ((quiet s).updWindow p fun w => { w with
      dbIgnored := true, lenErr := w.lenErr || decide (len < 32 ∨ 4096 < len) })))
  ∧ (s.portServed p = true → s.granted p = true → (s.mbox p).busy = false → (s.mbox p).rspValid = false →
    exec (.mbDoorbell p len) s = .next (after s
      (if len < 32 ∨ 4096 < len then (quiet s).updWindow p fun w => { w with lenErr := true }
       else ((quiet s).updMbox p fun m => { m with grantLimit := none }).deliver p (fit len (s.mbox p).request))))
  ∧ (∀ fn, p = .mb3 fn → s.granted p = (s.orfer.mb3.holder == some fn)) ∧ (p = .mb0 ∨ p = .mb2 → s.granted p = true)

/-- A private write sets the pointer by its first byte and writes the others from there onward. Bytes that fall on offsets other than 0x1E change nothing
but WR_IGNORED, which they set; the byte that falls on 0x1E clears RD_OVERRUN by bit 0 and WR_IGNORED by bit 1. Nothing else changes. (Rule R111.) -/
def Obligations.PrivateWritesReachOneByte : Prop :=
  ∀ (s : State) (a : Byte) (rest : Bytes), s.alive = true →
  ∃ t, exec (.i3cPrivateWrite (a :: rest)) s = .next t
    ∧ t = { s with outbox := [], i3c := { s.i3c with pointer := t.i3c.pointer, rdOverrun := t.i3c.rdOverrun, wrIgnored := t.i3c.wrIgnored } }
    ∧ t.i3c.pointer = min 0x80 (a.toNat + rest.length)
    ∧ (match (if a.toNat ≤ 0x1E then rest[0x1E - a.toNat]? else none) with
      | none => t.i3c.rdOverrun = s.i3c.rdOverrun ∧ t.i3c.wrIgnored = (s.i3c.wrIgnored || !rest.isEmpty)
      | some v => t.i3c.rdOverrun = (s.i3c.rdOverrun && !v.getLsbD 0)
          ∧ t.i3c.wrIgnored = (((s.i3c.wrIgnored || decide (a.toNat < 0x1E)) && !v.getLsbD 1) || decide (0x1F - a.toNat < rest.length)))

/-- A private read of a length returns that many bytes from the pointer on: the register file's byte where the offset is below 0x80, else 0xEE. The
pointer moves past them and stops at 0x80, and RD_OVERRUN becomes 1 where a byte lay past the end. Nothing else changes. (From 03.) -/
def Obligations.PrivateReadsPastTheEnd : Prop :=
  ∀ (s : State) (len : Nat), s.alive = true →
  ∃ (t : State) (bytes : Bytes), exec (.i3cPrivateRead len) s = .next t
    ∧ t = { s with outbox := [.data bytes], i3c := { s.i3c with
        pointer := min 0x80 (s.i3c.pointer + len), rdOverrun := s.i3c.rdOverrun || decide (0x80 < s.i3c.pointer + len) } }
    ∧ bytes.length = len
    ∧ ∀ k, k < len → bytes[k]? = some (if s.i3c.pointer + k < 0x80 then s.registerFile.getD (s.i3c.pointer + k) 0 else 0xEE#8)

/-- On a channel page that the function shows: where the ring's group is present and the new head lies on the way from the old head to WRITE_IDX, both
ends included, it becomes the head. Otherwise the whole write is ignored, ARM included, and only CH_ERR.CQ_DB becomes 1 in the channel. (Rule R125.) -/
def Obligations.HeadDoorbellsLieOnTheWay : Prop :=
  ∀ (s : State) (fn ch v : Nat), s.alive = true → s.showsPage fn ch = true →
  let q := (s.chan ch).cq
  let size := 2 ^ q.sizeLog2
  let onWay := v % 65536 < size ∧ ∃ k d, k ≤ d ∧ d < size ∧ (q.head + d) % size = q.writeIdx % size ∧ (q.head + k) % size = v % 65536
  ∃ t, exec (.cqHeadDoorbell fn ch v) s = .next t
    ∧ ((q.base ≠ 0 ∧ onWay → (t.chan ch).cq.head = v % 65536 ∧ (t.chan ch).cq.errDb = q.errDb)
      ∧ (q.base = 0 ∨ ¬ onWay → t.chan ch = { s.chan ch with cq := { q with errDb := true } }))

/-- A valid head doorbell with ARM 1 sets ARMED. Where WRITE_IDX then differs from the new head the vector is raised at once (its message goes out, or its
pending bit is set while it is masked; a function that cannot write sends none, log 8), ARMED and the pending count become 0 and the timer stops;
where it does not, the vector is raised only if a condition of R141 already holds for the pending records, and ARMED stays 1 otherwise. (Rule R142.) -/
def Obligations.ArmedHeadDoorbellsRaiseTheVector : Prop :=
  ∀ (s : State) (fn ch v : Nat), s.alive = true → s.showsPage fn ch = true → v.testBit 31 = true →
  let q := (s.chan ch).cq
  let size := 2 ^ q.sizeLog2
  q.base ≠ 0 → v % 65536 < size → ringDist size q.head (v % 65536) ≤ ringDist size q.head q.writeIdx →
  ∃ t, exec (.cqHeadDoorbell fn ch v) s = .next t ∧ (t.chan ch).cq.head = v % 65536
    ∧ (if q.writeIdx ≠ v % 65536 ∨ (0 < q.pendingCount ∧
          (q.modCount ≤ q.pendingCount ∨ (∃ d, q.timer = some d ∧ d + 1000 * q.modTimer ≤ s.now) ∨ q.irqNow = true)) then
        (s.vectorOpen fn q.vector = true → .msix fn q.vector ∈ t.outbox)
        ∧ (s.vectorOpen fn q.vector = false → (∀ f n, .msix f n ∉ t.outbox) ∧ ((s.fn fn).masked q.vector = true → (t.fn fn).pba = (s.fn fn).pba ||| 2 ^ q.vector))
        ∧ (t.chan ch).cq.armed = false ∧ (t.chan ch).cq.pendingCount = 0 ∧ (t.chan ch).cq.timer = none
      else (∀ f n, .msix f n ∉ t.outbox) ∧ (t.chan ch).cq.armed = true ∧ (t.chan ch).cq.pendingCount = q.pendingCount)

/-- In every state an owned sector serves its owner, and the sector that is number j among the pool sectors, in ascending order, serves member j mod n of
the n pool members. (From 05.) -/
def Obligations.PoolSectorsAreDealtInTurn : Prop :=
  ∀ (s : State) (i : Nat), i < revSectors →
  s.sectorMember i =
    (if s.sectorOwner i ≠ 0 then s.sectorOwner i
     else s.poolMembers.getD (((List.range i).countP fun j => s.sectorOwner j == 0) % s.poolMembers.length) 0)

/-- The value of a thermometer is 0 when none of its bits reads 1, and k + 1 when bit k is the highest that reads 1. At its turn a waiting step programs
the bit whose index the value then is, so a gap below the highest bit is never filled, and a full thermometer has no bit for it; a step of the
evidence counter then gives way to the next bit of the QUARANTINE marker (R439). (Rule R451.) -/
def Obligations.ThermometersReadTheirHighestStep : Prop :=
  (∀ (words : KeyMap Nat) (first n k : Nat), thermometer words first n = k + 1 ↔
      k < 32 * n ∧ (KeyMap.get words 0 (first + k / 32)).testBit (k % 32) = true
        ∧ ∀ j, k < j → j < 32 * n → (KeyMap.get words 0 (first + j / 32)).testBit (j % 32) = false)
  ∧ (∀ (words : KeyMap Nat) (first n : Nat), thermometer words first n = 0 ↔
      ∀ j, j < 32 * n → (KeyMap.get words 0 (first + j / 32)).testBit (j % 32) = false)
  ∧ (∀ (s : State) (first n : Nat) (act : Option (Nat × Nat)) (next : OtpThen), n ≠ 0 →
      s.jobBits ⟨first, 0, n, act, next⟩ =
        (if thermometer s.otp.shadow first n < 32 * n then
          some (first + thermometer s.otp.shadow first n / 32, 2 ^ (thermometer s.otp.shadow first n % 32))
        else if first = 8 ∧ thermometer s.otp.shadow 24 2 < 64 then
          some (24 + thermometer s.otp.shadow 24 2 / 32, 2 ^ (thermometer s.otp.shadow 24 2 % 32))
        else none))

/-- CFG_BEGIN opens a transaction that belongs to its session where the realm has none, and returns ST_TXN_BUSY while one is open. CFG_COMMIT and
CFG_ROLLBACK of 4 bytes, and a CFG_SET with a nonzero TXN_ID whose entries can be read, return ST_TXN_BUSY from another session and ST_NO_TXN where
TXN_ID names no open transaction; the transaction is then as it was. (Rule R100.) -/
def Obligations.OneTransactionInEachRealm : Prop :=
  (∀ (s : State) (p : Port) (q : Request), Asked s p 0x0201 q → q.payload = [] →
    match (s.realm q.realm).txn with
    | some _ => exec (.cfgBegin p) s = .next (after s ((begun s p q).answer q ST_TXN_BUSY []))
    | none => ∃ t y, exec (.cfgBegin p) s = .next t ∧ (t.realm q.realm).txn = some y ∧ y.session = q.session)
  ∧ (∀ (s : State) (p : Port) (q : Request) (row : Instr), q.payload.length = 4 →
      ((row = .cfgCommit p ∧ Asked s p 0x0204 q) ∨ (row = .cfgRollback p ∧ Asked s p 0x0205 q)) →
      (∀ y, (s.realm q.realm).txn = some y → y.session ≠ q.session → exec row s = .next (after s ((begun s p q).answer q ST_TXN_BUSY [])))
      ∧ ((∀ y, (s.realm q.realm).txn = some y → y.session = q.session ∧ y.id ≠ leNat q.payload) →
          exec row s = .next (after s ((begun s p q).answer q ST_NO_TXN []))))
  ∧ (∀ (s : State) (p : Port) (q : Request), Asked s p 0x0202 q → 4 ≤ q.payload.length → field q.payload 0 4 ≠ 0 →
      (parseEntries q.payload.length (q.payload.drop 4)).isSome = true →
      (∀ y, (s.realm q.realm).txn = some y → y.session ≠ q.session → exec (.cfgSet p) s = .next (after s ((begun s p q).answer q ST_TXN_BUSY [])))
      ∧ ((∀ y, (s.realm q.realm).txn = some y → y.session = q.session ∧ y.id ≠ field q.payload 0 4) →
          exec (.cfgSet p) s = .next (after s ((begun s p q).answer q ST_NO_TXN []))))

/-- Where the limit of the mailbox is reached (16 on MB0, 4 on MB1, 2 on MB2, 2 for each virtual function and 128 in all on MB3), a well-formed
SESSION_OPEN returns ST_SESSION_LIMIT and opens none. In every state SESSION_OPEN leaves the sessions of each mailbox at or below the larger of their
number before and the limit, and those of MB3 at or below the larger of their number before and 128. (Rule R81.) -/
def Obligations.SessionLimitsHold : Prop :=
  (∀ (s : State) (p : Port) (q : Request) (n : Nat), Asked s p 0x0101 q → byteAt q.payload 0 = n → 1 ≤ n → n ≤ 8 → q.payload.length = 3 + 2 * n →
    (bestVersion (blocks 2 (slice 1 (2 * n) q.payload))).isSome = true →
    ((match p with | .mb0 => 16 | .mb1 => 4 | .mb2 => 2 | .mb3 _ => 2) ≤ sessionsOn s p ∨ (portNum p = 3 ∧ 128 ≤ virtualSessions s)) →
    exec (.sessionOpen p) s = .next (after s ((begun s p q).answer q ST_SESSION_LIMIT [])))
  ∧ (∀ (s t : State) (p r : Port), exec (.sessionOpen p) s = .next t →
      sessionsOn t r ≤ max (sessionsOn s r) (match r with | .mb0 => 16 | .mb1 => 4 | .mb2 => 2 | .mb3 _ => 2)
      ∧ virtualSessions t ≤ max (virtualSessions s) 128)

/-- A notice for an open session with fewer than 64 queued joins the end of its queue and leaves DROPPED as it was; with 64 queued the oldest is dropped,
the notice joins the end, and DROPPED of the session's mailbox counts one more, up to 255. Other sessions' queues are unchanged. (From 03.) -/
def Obligations.NoticeQueueHoldsSixtyFour : Prop :=
  ∀ (s : State) (id : Nat) (n : Notice) (x : Session), s.session id = some x → x.notices.length ≤ 64 →
  ∃ y, (s.push id n).session id = some y ∧ y.notices.length ≤ 64
    ∧ (if x.notices.length = 64 then y.notices = x.notices.drop 1 ++ [n] ∧ ((s.push id n).window x.port).dropped = min 255 ((s.window x.port).dropped + 1)
       else y.notices = x.notices ++ [n] ∧ ((s.push id n).window x.port).dropped = (s.window x.port).dropped)
    ∧ ∀ k, k ≠ id → (s.push id n).session k = s.session k

/-- For each of the formats 0, 1, 3 and 4, every PIN of 4 to 12 digits and every random fill: the field that the device builds passes the checks that it
makes on a deciphered block, and gives the same PIN. A field whose control nibble is another format, whose length lies outside 4 to 12 or whose PIN
holds a nibble above 9 passes none. (From 07.) -/
def Obligations.BuiltPinFieldsCarryTheirPin : Prop :=
  (∀ (fmt : Nat) (pin : List Nat) (rnd : Bytes), (fmt = 0 ∨ fmt = 1 ∨ fmt = 3 ∨ fmt = 4) → 4 ≤ pin.length → pin.length ≤ 12 → (∀ d ∈ pin, d ≤ 9) →
    pinOf fmt (fmt :: pin.length :: pin ++ pinFill fmt (14 - pin.length) rnd) = some pin)
  ∧ (∀ (fmt : Nat) (ns : List Nat), (ns.getD 0 0 ≠ fmt ∨ ns.getD 1 0 < 4 ∨ 12 < ns.getD 1 0 ∨ ∃ d ∈ (ns.drop 2).take (ns.getD 1 0), 9 < d) → pinOf fmt ns = none)

/-- For every operation of the PIN, MAC, cryptogram, card-value and DUKPT data groups, DUKPT_IK_DERIVE, EMV_ICC_DERIVE and AES_GCM_DECRYPT, in every state
and on every input: where the status lies outside class 0x00, the operation gives no output byte. (From 07, 08.) -/
def Obligations.FailedPaymentItemsWriteNothing : Prop :=
  (∀ f ∈ [runTranslate, runVerify3624, runVerifyPvv, runMacGenerate, runMacVerify, runArqcVerify, runArqcGenerate, runCvvGenerate, runCvvVerify, runDukptData,
    runGcmDecrypt], ∀ x : ExecIn, (f x).status / 256 ≠ 0 → (f x).out = [])
  ∧ (∀ (s : State) (x : ExecIn), (s.runIkDerive x).status / 256 ≠ 0 → (s.runIkDerive x).out = [])
  ∧ (∀ (s : State) (x : ExecIn), (s.runIccDerive x).status / 256 ≠ 0 → (s.runIccDerive x).out = [])

/-- In the main-power modes, a sample that finds an armed, quiet detector of severity ZEROISE tripped ends in a state whose vault, staged keys, key cache,
hold buffers, context store and operand memory are empty, in which no hold page is reserved, and with TAMPER_STATE high. (From 06, 13.) -/
def Obligations.ZeroiseAlarmsClearEveryStore : Prop :=
  ∀ (s : State) (d : Nat) (k : TileClock) (m : Sample), s.ms.mode ≠ .off → s.ms.mode ≠ .sentinel → d < 22 → s.armed d = true → (s.det d).tripped = false → s.severityOf d = 4 →
  (s.sampled k m).compares m d = true →
  ∃ t, exec (.detectorTrip [d] k m) s = .next t ∧ Safety.zeroised t ∧ t.cipher.pagesUsed = [] ∧ t.tamper.tamperState = true

/-- Where the program at the front of the queue touches the lock field of a region that is not complete, its end leaves the whole OTP array at both
margins as it was, and the act that it belongs to has no further program. (From 14.) -/
def Obligations.LocksNeedACompleteRegion : Prop :=
  ∀ (s : State) (w b lo hi n : Nat) (j : OtpJob) (rest : List OtpJob), s.alive = true → s.otp.jobs = j :: rest → n ∈ lockedBy j →
  s.complete n = false →
  ∃ t, exec (.otpWordProgram w b lo hi) s = .next t ∧ t.otp.low = s.otp.low ∧ t.otp.high = s.otp.high
    ∧ (∀ a, j.act = some a → ∀ x ∈ t.otp.jobs, x.act ≠ some a)

/-- While the recorder runs: a record that finds fewer than 64 staged joins the end of the buffer with the next RSEQ, which rises by 1; one that finds the
buffer full is dropped and counted, and takes no RSEQ. Nothing outside the recorder changes. (From 15.) -/
def Obligations.RecordsAreNumberedInTurn : Prop :=
  ∀ (s : State) (trig status arg time rtc : Nat) (inSentinel : Bool), s.recorder.running = true →
  let u := s.stage trig status arg time rtc inSentinel
  u = { s with recorder := u.recorder }
    ∧ (s.recorder.staging.length < 64 → ∃ r : Rec, u.recorder.staging = s.recorder.staging ++ [r] ∧ r.rseq = s.recorder.nextRseq
        ∧ u.recorder.nextRseq = s.recorder.nextRseq + 1 ∧ u.recorder.dropped = s.recorder.dropped)
    ∧ (64 ≤ s.recorder.staging.length → u.recorder = { s.recorder with dropped := s.recorder.dropped + 1, losses := s.recorder.losses + 1 })

/-- For each mailbox request named, in every state: the next state equals the state before in every piece, and within a piece in every field, that is not
named for it. Queries change the mailboxes and the sessions alone; a request that creates an act also the realms' records, the next ACT_ID, the kept
act outputs and the random generator; and so on by group. (From 03, 06, 10, 11, 12, 13, 14, 15.) -/
def Obligations.MailboxRequestsChangeOnlyTheirState : Prop :=
  ∀ (c : Instr) (s t : State), exec c s = .next t →
  match c with
  | .mb1MctpMessage .. =>
    t = { s with
      orfer := { s.orfer with
        mb0 := t.orfer.mb0, mb1 := t.orfer.mb1, mb2 := t.orfer.mb2, mb3 := t.orfer.mb3, loose := t.orfer.loose, sessions :=
        t.orfer.sessions, realms := t.orfer.realms },
      outbox := t.outbox }
  | .identityQuery .. | .stateQuery .. | .cfgGet .. | .cfgStatus .. | .vaultStatus ..
  | .platStatus .. | .platDenials .. | .idCertRead .. | .spdmGetVersion .. | .spdmUnsupportedRequest ..
  | .domainStatus .. | .domainFaults .. | .domainResultRead .. | .pairStatus .. | .pairResultRead ..
  | .tamperStatus .. | .sentinelLogRead .. | .lcStatus .. | .otpRead .. | .fwStatus ..
  | .fwStageEnd .. | .recStatus .. | .recRead .. | .recHistRead .. | .recResultRead .. =>
    t = { s with
      orfer := { s.orfer with
        mb0 := t.orfer.mb0, mb1 := t.orfer.mb1, mb2 := t.orfer.mb2, mb3 := t.orfer.mb3, sessions := t.orfer.sessions },
      outbox := t.outbox }
  | .sessionOpen .. =>
    t = { s with
      orfer := { s.orfer with
        mb0 := t.orfer.mb0, mb1 := t.orfer.mb1, mb2 := t.orfer.mb2, mb3 := t.orfer.mb3, sessions := t.orfer.sessions, nextSession :=
        t.orfer.nextSession },
      outbox := t.outbox }
  | .cfgSet .. =>
    t = { s with
      orfer := { s.orfer with
        mb0 := t.orfer.mb0, mb1 := t.orfer.mb1, mb2 := t.orfer.mb2, mb3 := t.orfer.mb3, sessions := t.orfer.sessions, realms :=
        t.orfer.realms, cfg := t.orfer.cfg },
      outbox := t.outbox }
  | .cfgBegin .. =>
    t = { s with
      orfer := { s.orfer with
        mb0 := t.orfer.mb0, mb1 := t.orfer.mb1, mb2 := t.orfer.mb2, mb3 := t.orfer.mb3, sessions := t.orfer.sessions, realms :=
        t.orfer.realms, nextTxn := t.orfer.nextTxn },
      outbox := t.outbox }
  | .mbGrantRequest .. | .mbGrantRelease .. =>
    t = { s with
      orfer := { s.orfer with
        mb0 := t.orfer.mb0, mb1 := t.orfer.mb1, mb2 := t.orfer.mb2, mb3 := t.orfer.mb3, mb2Window := t.orfer.mb2Window, mb1Dropped :=
        t.orfer.mb1Dropped },
      pcie := { s.pcie with fns := t.pcie.fns }, outbox := t.outbox }
  | .noticeFetch .. =>
    t = { s with
      orfer := { s.orfer with
        mb0 := t.orfer.mb0, mb1 := t.orfer.mb1, mb2 := t.orfer.mb2, mb3 := t.orfer.mb3, mb2Window := t.orfer.mb2Window, mb1Dropped :=
        t.orfer.mb1Dropped, sessions := t.orfer.sessions },
      pcie := { s.pcie with fns := t.pcie.fns }, outbox := t.outbox }
  | .cellStatus .. =>
    t = { s with
      orfer := { s.orfer with
        mb0 := t.orfer.mb0, mb1 := t.orfer.mb1, mb2 := t.orfer.mb2, mb3 := t.orfer.mb3, sessions := t.orfer.sessions },
      free := t.free, outbox := t.outbox }
  | .fwSlotErase .. =>
    t = { s with
      orfer := { s.orfer with
        mb0 := t.orfer.mb0, mb1 := t.orfer.mb1, mb2 := t.orfer.mb2, mb3 := t.orfer.mb3, sessions := t.orfer.sessions },
      fw := { s.fw with slots := t.fw.slots, erasing := t.fw.erasing }, outbox := t.outbox }
  | .fwStage .. =>
    t = { s with
      orfer := { s.orfer with
        mb0 := t.orfer.mb0, mb1 := t.orfer.mb1, mb2 := t.orfer.mb2, mb3 := t.orfer.mb3, sessions := t.orfer.sessions },
      fw := { s.fw with slots := t.fw.slots }, outbox := t.outbox }
  | .domainNoticeFetch .. =>
    t = { s with
      orfer := { s.orfer with
        mb0 := t.orfer.mb0, mb1 := t.orfer.mb1, mb2 := t.orfer.mb2, mb3 := t.orfer.mb3, sessions := t.orfer.sessions },
      ident := { s.ident with outgoing := t.ident.outgoing }, outbox := t.outbox }
  | .cacheFlush .. =>
    t = { s with
      orfer := { s.orfer with
        mb0 := t.orfer.mb0, mb1 := t.orfer.mb1, mb2 := t.orfer.mb2, mb3 := t.orfer.mb3, sessions := t.orfer.sessions },
      keys := { s.keys with cache := t.keys.cache }, outbox := t.outbox }
  | .platManifestRead .. =>
    t = { s with
      orfer := { s.orfer with
        mb0 := t.orfer.mb0, mb1 := t.orfer.mb1, mb2 := t.orfer.mb2, mb3 := t.orfer.mb3, sessions := t.orfer.sessions },
      priv := { s.priv with cache := t.priv.cache }, outbox := t.outbox }
  | .spdmGetCapabilities .. | .spdmNegotiateAlgorithms .. | .spdmGetDigests .. | .spdmGetCertificate .. =>
    t = { s with
      orfer := { s.orfer with
        mb0 := t.orfer.mb0, mb1 := t.orfer.mb1, mb2 := t.orfer.mb2, mb3 := t.orfer.mb3, sessions := t.orfer.sessions },
      recorder := { s.recorder with
        nextRseq := t.recorder.nextRseq, staging := t.recorder.staging, flushBy := t.recorder.flushBy, dropped := t.recorder.dropped,
        losses := t.recorder.losses },
      outbox := t.outbox }
  | .actStatus .. | .domainPackageFetch .. | .debugChallenge .. =>
    t = { s with
      orfer := { s.orfer with
        mb0 := t.orfer.mb0, mb1 := t.orfer.mb1, mb2 := t.orfer.mb2, mb3 := t.orfer.mb3, sessions := t.orfer.sessions },
      rng := t.rng, outbox := t.outbox }
  | .keyTransportOpen .. =>
    t = { s with
      orfer := { s.orfer with
        mb0 := t.orfer.mb0, mb1 := t.orfer.mb1, mb2 := t.orfer.mb2, mb3 := t.orfer.mb3, sessions := t.orfer.sessions, realms :=
        t.orfer.realms },
      rng := t.rng, outbox := t.outbox }
  | .platReleaseRetry .. =>
    t = { s with
      boot := { s.boot with step := t.boot.step }, rel := { s.rel with phase := t.rel.phase, step := t.rel.step, attempts := t.rel.attempts },
      orfer := { s.orfer with
        mb0 := t.orfer.mb0, mb1 := t.orfer.mb1, mb2 := t.orfer.mb2, mb3 := t.orfer.mb3, sessions := t.orfer.sessions },
      outbox := t.outbox }
  | .mbResponseReady .. | .mbRspAck .. =>
    t = { s with
      orfer := { s.orfer with
        mb0 := t.orfer.mb0, mb1 := t.orfer.mb1, mb2 := t.orfer.mb2, mb3 := t.orfer.mb3, mb2Window := t.orfer.mb2Window, mb1Dropped :=
        t.orfer.mb1Dropped },
      pcie := { s.pcie with fns := t.pcie.fns },
      recorder := { s.recorder with
        nextRseq := t.recorder.nextRseq, staging := t.recorder.staging, flushBy := t.recorder.flushBy, dropped := t.recorder.dropped,
        losses := t.recorder.losses, suppressed := t.recorder.suppressed, rate := t.recorder.rate },
      outbox := t.outbox }
  | .keyAttest .. | .attestReport .. | .domainCard .. =>
    t = { s with
      orfer := { s.orfer with
        mb0 := t.orfer.mb0, mb1 := t.orfer.mb1, mb2 := t.orfer.mb2, mb3 := t.orfer.mb3, sessions := t.orfer.sessions },
      cipher := { s.cipher with feeds := t.cipher.feeds }, ident := { s.ident with signing := t.ident.signing }, outbox := t.outbox }
  | .keyGenerateRsa .. =>
    t = { s with
      orfer := { s.orfer with
        mb0 := t.orfer.mb0, mb1 := t.orfer.mb1, mb2 := t.orfer.mb2, mb3 := t.orfer.mb3, sessions := t.orfer.sessions },
      keys := { s.keys with created := t.keys.created }, rng := t.rng, outbox := t.outbox }
  | .spdmChallenge .. | .spdmGetMeasurements .. =>
    t = { s with
      orfer := { s.orfer with
        mb0 := t.orfer.mb0, mb1 := t.orfer.mb1, mb2 := t.orfer.mb2, mb3 := t.orfer.mb3, sessions := t.orfer.sessions },
      recorder := { s.recorder with
        nextRseq := t.recorder.nextRseq, staging := t.recorder.staging, flushBy := t.recorder.flushBy, dropped := t.recorder.dropped,
        losses := t.recorder.losses },
      rng := t.rng, outbox := t.outbox }
  | .adminOpen .. | .officerEnrol .. | .officerRemove .. | .officerList .. | .rootStage ..
  | .rootSwap .. | .rootUnstage .. | .rootInvalidate .. | .rootErase .. | .peerKeyLoad ..
  | .platRecover .. | .platGoldenCapture .. | .platSvnAdvance .. | .idCertWrite .. | .domainCreate ..
  | .domainJoinRequest .. | .domainAdmit .. | .domainRoll .. | .domainLeave .. | .pairBind ..
  | .pairAccept .. | .pairUnbind .. | .pairTakeover .. | .pairUnfence .. | .pairRekey ..
  | .zeroiseCommand .. | .rtcSet .. | .lcCommission .. | .debugOpen .. | .debugDisablePermanent ..
  | .fwActivate .. | .fwSvnCommit .. | .fwKeyRevoke .. | .recExport .. | .recHistReset .. =>
    t = { s with
      orfer := { s.orfer with
        mb0 := t.orfer.mb0, mb1 := t.orfer.mb1, mb2 := t.orfer.mb2, mb3 := t.orfer.mb3, sessions := t.orfer.sessions, realms :=
        t.orfer.realms, nextAct := t.orfer.nextAct },
      ident := { s.ident with outputs := t.ident.outputs }, rng := t.rng, outbox := t.outbox }
  | .recorderRoomReturns .. =>
    t = { s with
      orfer := { s.orfer with mb2Window := t.orfer.mb2Window, mb1Dropped := t.orfer.mb1Dropped, sessions := t.orfer.sessions },
      pcie := { s.pcie with fns := t.pcie.fns },
      recorder := { s.recorder with
        nextRseq := t.recorder.nextRseq, staging := t.recorder.staging, flushBy := t.recorder.flushBy, dropped := t.recorder.dropped,
        losses := t.recorder.losses, suppressed := t.recorder.suppressed, rate := t.recorder.rate },
      outbox := t.outbox }
  | .mbDoorbell .. =>
    t = { s with
      orfer := { s.orfer with
        mb0 := t.orfer.mb0, mb1 := t.orfer.mb1, mb2 := t.orfer.mb2, mb3 := t.orfer.mb3, mb2Window := t.orfer.mb2Window, mb1Dropped :=
        t.orfer.mb1Dropped, loose := t.orfer.loose, sessions := t.orfer.sessions, realms := t.orfer.realms, nextAct := t.orfer.nextAct },
      pcie := { s.pcie with fns := t.pcie.fns }, ident := { s.ident with outputs := t.ident.outputs }, rng := t.rng, outbox := t.outbox }
  | .domainNoticeIn .. =>
    t = { s with
      orfer := { s.orfer with
        mb0 := t.orfer.mb0, mb1 := t.orfer.mb1, mb2 := t.orfer.mb2, mb3 := t.orfer.mb3, mb2Window := t.orfer.mb2Window, mb1Dropped :=
        t.orfer.mb1Dropped, sessions := t.orfer.sessions },
      pcie := { s.pcie with fns := t.pcie.fns },
      ident := { s.ident with
        lastSeq := t.ident.lastSeq, table := t.ident.table, summaries := t.ident.summaries, counters := t.ident.counters },
      recorder := { s.recorder with
        nextRseq := t.recorder.nextRseq, staging := t.recorder.staging, flushBy := t.recorder.flushBy, dropped := t.recorder.dropped,
        losses := t.recorder.losses, suppressed := t.recorder.suppressed, rate := t.recorder.rate },
      outbox := t.outbox }
  | .domainReport .. =>
    t = { s with
      orfer := { s.orfer with
        mb0 := t.orfer.mb0, mb1 := t.orfer.mb1, mb2 := t.orfer.mb2, mb3 := t.orfer.mb3, mb2Window := t.orfer.mb2Window, mb1Dropped :=
        t.orfer.mb1Dropped, sessions := t.orfer.sessions },
      pcie := { s.pcie with fns := t.pcie.fns },
      ident := { s.ident with
        noticeSeq := t.ident.noticeSeq, issued := t.ident.issued, outgoing := t.ident.outgoing, table := t.ident.table, summaries :=
        t.ident.summaries },
      recorder := { s.recorder with
        nextRseq := t.recorder.nextRseq, staging := t.recorder.staging, flushBy := t.recorder.flushBy, dropped := t.recorder.dropped,
        losses := t.recorder.losses, suppressed := t.recorder.suppressed, rate := t.recorder.rate },
      outbox := t.outbox }
  | _ => True

/-- For each of the 71 opcodes, an undefined one and the two key-blob events, in every state: decoding or running it changes only the channels, the key
cache, its loads and counters, the contents of the hold-buffer pages, the model's random and free-value counters and the output side, each only where
it is named for the command; in particular it leaves the vault, OTP, the configuration, the platform buses, the identity and every other piece as it
was. (From 04, 05, 06.) -/
def Obligations.ItemsChangeOnlyChannelsAndKeys : Prop :=
  ∀ (c : Instr) (s t : State), exec c s = .next t →
  match c with
  | .keyBlobHeaderRead .. =>
    t = { s with chans := t.chans, keys := { s.keys with cache := t.keys.cache, loads := t.keys.loads }, outbox := t.outbox }
  | .keyBlobLoaded .. =>
    t = { s with
      chans := t.chans, keys := { s.keys with cache := t.keys.cache, loads := t.keys.loads, loadCount := t.keys.loadCount }, outbox := t.outbox }
  | .descriptorUndefinedOpcode .. =>
    t = { s with chans := t.chans, keys := { s.keys with cache := t.keys.cache }, outbox := t.outbox }
  | .pinTranslate .. | .pinTranslateTdukpt .. | .pinTranslateAdukpt .. | .pinVerify3624 .. | .pinVerify3624Tdukpt ..
  | .pinVerify3624Adukpt .. | .pinVerifyPvv .. | .pinVerifyPvvTdukpt .. | .pinVerifyPvvAdukpt .. | .macGenerateAlg1 ..
  | .macVerifyAlg1 .. | .macGenerateAlg3 .. | .macVerifyAlg3 .. | .macGenerateCmac .. | .macVerifyCmac ..
  | .macGenerateAlg3Tdukpt .. | .macVerifyAlg3Tdukpt .. | .macGenerateCmacAdukpt .. | .macVerifyCmacAdukpt .. | .arqcVerify ..
  | .arqcGenerate .. | .cvvGenerate .. | .cvvVerify .. | .dukptIkDerive .. | .emvIccDerive ..
  | .dukptDataTdes .. | .dukptDataAes .. | .aesEcb .. | .aesCbcEncrypt .. | .aesCbcDecrypt ..
  | .aesCtr .. | .aesCfbEncrypt .. | .aesCfbDecrypt .. | .aesOfb .. | .aesXts ..
  | .aesGcmEncrypt .. | .aesGcmDecrypt .. | .aesGcmDecryptRbv .. | .tdesEcb .. | .tdesCbcEncrypt ..
  | .tdesCbcDecrypt .. | .sha256 .. | .sha384 .. | .sha512 .. | .hmacSha256Generate ..
  | .hmacSha256Verify .. | .ecdsaP256Sign .. | .ecdsaP256Verify .. | .ecdsaP384Sign .. | .ecdsaP384Verify ..
  | .ecdhDerive .. | .mlkemEncaps .. | .mlkemDecaps .. | .rsaSign .. | .rsaPublic ..
  | .slh128sSign .. | .slh128fSign .. | .slh256sSign .. | .slh128sVerify .. | .slh128fVerify ..
  | .slh256sVerify .. | .slhTopTree .. | .keyGenerate .. | .keyGeneratePair .. | .keyRewrap ..
  | .keyExportKb .. | .keyImportKb .. | .keyImportTr34 .. | .keyExportTr34 .. | .keyCheck ..
  | .legacyImport .. =>
    t = { s with
      chans := t.chans, keys := { s.keys with cache := t.keys.cache, created := t.keys.created },
      cipher := { s.cipher with pageData := t.cipher.pageData }, rng := t.rng, free := t.free, outbox := t.outbox }
  | _ => True

/-- For each host frame that only reads, for a denied frame, for the fall of a chip select and for MB2 reads, in every state: only the two buses' records
and, for what a denial reports, the notices of the sessions with their mailbox flags and function vectors, and the records that the recorder stages
may change. (From 10.) -/
def Obligations.HostReadsChangeOnlyTheBuses : Prop :=
  ∀ (c : Instr) (s t : State), exec c s = .next t →
  match c with
  | .hostCsFall .. | .mb2Read .. =>
    t = { s with busA := t.busA, busB := t.busB, outbox := t.outbox }
  | .spiRead .. | .spiRead4byte .. | .spiFastRead .. | .spiDualOutputRead .. | .spiDualIoRead ..
  | .spiQuadOutputRead .. | .spiQuadIoRead .. | .spiReadId .. | .spiReadSfdp .. | .spiReadStatus1 ..
  | .spiReadStatus2 .. | .spiReadFlagStatus .. | .deniedOpcodeFrame .. =>
    t = { s with
      orfer := { s.orfer with mb2Window := t.orfer.mb2Window, mb1Dropped := t.orfer.mb1Dropped, sessions := t.orfer.sessions },
      pcie := { s.pcie with fns := t.pcie.fns }, busA := t.busA, busB := t.busB,
      recorder := { s.recorder with
        nextRseq := t.recorder.nextRseq, staging := t.recorder.staging, flushBy := t.recorder.flushBy, dropped := t.recorder.dropped,
        losses := t.recorder.losses, suppressed := t.recorder.suppressed, rate := t.recorder.rate },
      outbox := t.outbox }
  | _ => True

/-- For each event named, in every state: the next state equals the state before in every piece, and within a piece in every field, that is not named for
it. Most frames of the Chord link change only the pair state; the regulator's timers change only time and the AVS state; a write to the private flash
changes the private port and the stored images and journal that lie in it; and so on by group. (From 10, 12, 13, 14, 15, 16, 17.) -/
def Obligations.EventsChangeOnlyTheirUnit : Prop :=
  ∀ (c : Instr) (s t : State), exec c s = .next t →
  match c with
  | .deviceResetRelease .. =>
    t = { s with boot := { s.boot with inReset := t.boot.inReset }, outbox := t.outbox }
  | .outputWriteFailed .. =>
    t = { s with chans := t.chans, outbox := t.outbox }
  | .i3cPrivateRead .. =>
    t = { s with i3c := { s.i3c with pointer := t.i3c.pointer, rdOverrun := t.i3c.rdOverrun }, outbox := t.outbox }
  | .i3cPrivateWrite .. =>
    t = { s with
      i3c := { s.i3c with pointer := t.i3c.pointer, rdOverrun := t.i3c.rdOverrun, wrIgnored := t.i3c.wrIgnored }, outbox := t.outbox }
  | .factoryBlankToTest .. | .factoryEnrolment .. | .factoryTestToProduction .. =>
    t = { s with otp := { s.otp with jobs := t.otp.jobs, jobSince := t.otp.jobSince }, outbox := t.outbox }
  | .laneRetrain .. | .chordReady .. | .chordCommit .. | .chordCommitAck .. | .chordAbort ..
  | .chordResolve .. | .chordFenceTest .. =>
    t = { s with pair := t.pair, outbox := t.outbox }
  | .fnTimeLoRead .. | .busMasterEnableClear .. =>
    t = { s with pcie := { s.pcie with fns := t.pcie.fns }, outbox := t.outbox }
  | .perstRise .. =>
    t = { s with pcie := { s.pcie with perst := t.pcie.perst, readyAt := t.pcie.readyAt }, outbox := t.outbox }
  | .pfLockWrite .. =>
    t = { s with priv := { s.priv with wpFault := t.priv.wpFault, lock := t.priv.lock }, outbox := t.outbox }
  | .awaitedInputChange .. =>
    t = { s with rel := { s.rel with phase := t.rel.phase, inputs := t.rel.inputs }, outbox := t.outbox }
  | .chgSupplyChange .. =>
    t = { s with tamper := { s.tamper with cell := t.tamper.cell }, outbox := t.outbox }
  | .detectorQuiet .. =>
    t = { s with tamper := { s.tamper with detectors := t.tamper.detectors }, outbox := t.outbox }
  | .livenessToggleResumes .. =>
    t = { s with tiles := t.tiles, outbox := t.outbox }
  | .chordAdmit .. | .chordRel .. =>
    t = { s with chans := t.chans, pair := t.pair, outbox := t.outbox }
  | .unitSelftestDone .. =>
    t = { s with
      ms := { s.ms with gates := t.ms.gates }, boot := { s.boot with units := t.boot.units, testing := t.boot.testing }, outbox := t.outbox }
  | .chargeEstimate .. | .gaugeLevelCross .. =>
    t = { s with ms := { s.ms with gates := t.ms.gates }, tamper := { s.tamper with cell := t.tamper.cell }, outbox := t.outbox }
  | .busMasterEnableSet .. =>
    t = { s with pcie := { s.pcie with fns := t.pcie.fns }, chans := t.chans, outbox := t.outbox }
  | .apexImageVerified .. =>
    t = { s with
      ms := { s.ms with gates := t.ms.gates }, boot := { s.boot with step := t.boot.step, apex := t.boot.apex, stopped := t.boot.stopped },
      fw := { s.fw with
        slots := t.fw.slots, active := t.fw.active, running := t.fw.running, images := t.fw.images, fallback := t.fw.fallback },
      outbox := t.outbox }
  | .actOutputExpire .. =>
    t = { s with
      now := t.now, ident := { s.ident with outputs := t.ident.outputs }, tamper := { s.tamper with rtc := t.tamper.rtc }, outbox := t.outbox }
  | .joinTicketExpire .. =>
    t = { s with
      now := t.now, ident := { s.ident with ticket := t.ident.ticket }, tamper := { s.tamper with rtc := t.tamper.rtc }, outbox := t.outbox }
  | .commitWaitTimeout .. =>
    t = { s with now := t.now, pair := t.pair, tamper := { s.tamper with rtc := t.tamper.rtc }, outbox := t.outbox }
  | .pfStallTimeout .. =>
    t = { s with
      now := t.now,
      priv := { s.priv with
        timeout := t.priv.timeout, gathered := t.priv.gathered, waiting := t.priv.waiting, waitSince := t.priv.waitSince },
      tamper := { s.tamper with rtc := t.tamper.rtc }, outbox := t.outbox }
  | .releaseUnwindStep .. =>
    t = { s with
      now := t.now, rel := { s.rel with phase := t.rel.phase, released := t.rel.released, driven := t.rel.driven },
      tamper := { s.tamper with rtc := t.tamper.rtc }, outbox := t.outbox }
  | .histCheckpoint .. =>
    t = { s with
      now := t.now, tamper := { s.tamper with rtc := t.tamper.rtc },
      recorder := { s.recorder with
        journal := t.recorder.journal, checkpointPos := t.recorder.checkpointPos, sectorSeq := t.recorder.sectorSeq, sealed :=
        t.recorder.sealed, chain := t.recorder.chain, checkpointAt := t.recorder.checkpointAt },
      outbox := t.outbox }
  | .periodicTrigger .. =>
    t = { s with
      now := t.now, tamper := { s.tamper with rtc := t.tamper.rtc },
      recorder := { s.recorder with
        nextRseq := t.recorder.nextRseq, staging := t.recorder.staging, flushBy := t.recorder.flushBy, dropped := t.recorder.dropped,
        losses := t.recorder.losses, suppressed := t.recorder.suppressed, rate := t.recorder.rate },
      outbox := t.outbox }
  | .journalFlush .. | .journalFlushRetry .. =>
    t = { s with
      now := t.now, tamper := { s.tamper with rtc := t.tamper.rtc },
      recorder := { s.recorder with
        staging := t.recorder.staging, journal := t.recorder.journal, circPos := t.recorder.circPos, keptPos := t.recorder.keptPos,
        sectorSeq := t.recorder.sectorSeq, sealed := t.recorder.sealed, chain := t.recorder.chain, flushBy := t.recorder.flushBy, retryAt
        := t.recorder.retryAt, lastFlush := t.recorder.lastFlush },
      outbox := t.outbox }
  | .avsLowerTimer .. | .avsWriteRetry .. | .avsFaultRetry .. =>
    t = { s with
      now := t.now, tamper := { s.tamper with rtc := t.tamper.rtc }, tiles := { s.tiles with avs := t.tiles.avs }, outbox := t.outbox }
  | .sqTailDoorbell .. | .cqHeadDoorbell .. | .descriptorFetchFailed .. =>
    t = { s with
      pcie := { s.pcie with fns := t.pcie.fns }, chans := t.chans,
      recorder := { s.recorder with
        nextRseq := t.recorder.nextRseq, staging := t.recorder.staging, flushBy := t.recorder.flushBy, dropped := t.recorder.dropped,
        losses := t.recorder.losses, suppressed := t.recorder.suppressed, rate := t.recorder.rate },
      outbox := t.outbox }
  | .pfWindowWrite .. =>
    t = { s with
      priv := t.priv, fw := { s.fw with slots := t.fw.slots, headers := t.fw.headers },
      recorder := { s.recorder with journal := t.recorder.journal }, outbox := t.outbox }
  | .pfEraseGo .. =>
    t = { s with
      priv := { s.priv with
        busy := t.priv.busy, wpFault := t.priv.wpFault, cache := t.priv.cache, golden := t.priv.golden, block0 := t.priv.block0, block1 :=
        t.priv.block1 },
      fw := { s.fw with slots := t.fw.slots, headers := t.fw.headers }, recorder := { s.recorder with journal := t.recorder.journal },
      outbox := t.outbox }
  | .otpSenseComplete .. =>
    t = { s with
      boot := { s.boot with
        step := t.boot.step, stopped := t.boot.stopped, shadowFailed := t.boot.shadowFailed, restricted := t.boot.restricted, toQuarantine
        := t.boot.toQuarantine },
      tamper := { s.tamper with log := t.tamper.log, seeds := t.tamper.seeds },
      otp := { s.otp with
        shadow := t.otp.shadow, life := t.otp.life, torn := t.otp.torn, testDisable := t.otp.testDisable, debugDisable :=
        t.otp.debugDisable, bootKeys := t.otp.bootKeys, weak := t.otp.weak, jobs := t.otp.jobs, jobSince := t.otp.jobSince },
      rng := t.rng, outbox := t.outbox }
  | .pllLockComplete .. =>
    t = { s with
      boot := { s.boot with step := t.boot.step }, pcie := { s.pcie with readyAt := t.pcie.readyAt },
      supply := { s.supply with i3cSel := t.supply.i3cSel }, tiles := t.tiles, outbox := t.outbox }
  | .sentinelPowerOn .. =>
    t = { s with
      ms := { s.ms with mode := t.ms.mode }, supply := { s.supply with sentinel := t.supply.sentinel }, tamper := t.tamper, rng := t.rng,
      outbox := t.outbox }
  | .keyCheckInstant .. =>
    t = { s with
      now := t.now, chans := t.chans, keys := { s.keys with cache := t.keys.cache, loads := t.keys.loads, loadCount := t.keys.loadCount },
      tamper := { s.tamper with rtc := t.tamper.rtc }, outbox := t.outbox }
  | .grantDoorbellTimeout .. | .fragmentAckTimeout .. =>
    t = { s with
      now := t.now,
      orfer := { s.orfer with
        mb0 := t.orfer.mb0, mb1 := t.orfer.mb1, mb2 := t.orfer.mb2, mb3 := t.orfer.mb3, mb2Window := t.orfer.mb2Window, mb1Dropped :=
        t.orfer.mb1Dropped },
      pcie := { s.pcie with fns := t.pcie.fns }, tamper := { s.tamper with rtc := t.tamper.rtc }, outbox := t.outbox }
  | .cqModTimerExpire .. =>
    t = { s with
      now := t.now, pcie := { s.pcie with fns := t.pcie.fns }, chans := t.chans, tamper := { s.tamper with rtc := t.tamper.rtc },
      outbox := t.outbox }
  | .releaseTimeout .. =>
    t = { s with
      now := t.now, rel := { s.rel with phase := t.rel.phase, attempts := t.rel.attempts }, tamper := { s.tamper with rtc := t.tamper.rtc },
      recorder := { s.recorder with
        nextRseq := t.recorder.nextRseq, staging := t.recorder.staging, flushBy := t.recorder.flushBy, dropped := t.recorder.dropped,
        losses := t.recorder.losses },
      outbox := t.outbox }
  | .cfgRollback .. | .actCancel .. =>
    t = { s with
      orfer := { s.orfer with
        mb0 := t.orfer.mb0, mb1 := t.orfer.mb1, mb2 := t.orfer.mb2, mb3 := t.orfer.mb3, mb2Window := t.orfer.mb2Window, mb1Dropped :=
        t.orfer.mb1Dropped, sessions := t.orfer.sessions, realms := t.orfer.realms },
      pcie := { s.pcie with fns := t.pcie.fns }, pair := { s.pair with own := t.pair.own },
      recorder := { s.recorder with
        nextRseq := t.recorder.nextRseq, staging := t.recorder.staging, flushBy := t.recorder.flushBy, dropped := t.recorder.dropped,
        losses := t.recorder.losses, suppressed := t.recorder.suppressed, rate := t.recorder.rate },
      outbox := t.outbox }
  | .avsFrameComplete .. =>
    t = { s with
      orfer := { s.orfer with mb2Window := t.orfer.mb2Window, mb1Dropped := t.orfer.mb1Dropped, sessions := t.orfer.sessions },
      pcie := { s.pcie with fns := t.pcie.fns },
      recorder := { s.recorder with
        nextRseq := t.recorder.nextRseq, staging := t.recorder.staging, flushBy := t.recorder.flushBy, dropped := t.recorder.dropped,
        losses := t.recorder.losses, suppressed := t.recorder.suppressed, rate := t.recorder.rate },
      tiles := { s.tiles with avs := t.tiles.avs }, outbox := t.outbox }
  | .chordAck .. =>
    t = { s with
      pcie := { s.pcie with fns := t.pcie.fns }, chans := t.chans, pair := t.pair,
      recorder := { s.recorder with
        nextRseq := t.recorder.nextRseq, staging := t.recorder.staging, flushBy := t.recorder.flushBy, dropped := t.recorder.dropped,
        losses := t.recorder.losses, suppressed := t.recorder.suppressed, rate := t.recorder.rate },
      outbox := t.outbox }
  | _ => True

/-- For the supply and its pins, the debug state, the firmware slots, the I3C register file's own state and the sector wheel: every command that is not
named for the piece leaves it as it was, in every state. (From 02, 03, 05, 14, 17.) -/
def Obligations.ComponentsChangeOnlyInTheirCommands : Prop :=
  ∀ (c : Instr) (s t : State), exec c s = .next t →
  (match c with
    | .sysPwrgdRise .. | .sysPwrgdFall .. | .mainPowerLost .. | .deviceReset .. | .pllLockComplete ..
    | .sentinelPowerOn .. | .railEntersWindow .. | .flashSideUp .. => True
    | _ => t.supply = s.supply)
  ∧ (match c with
    | .sysPwrgdRise .. | .deviceReset .. | .officerSign .. | .otpWordProgram .. | .debugClose ..
    | .debugLifetimeExpire .. | .fwActivateRestart .. | .railEntersWindow .. => True
    | _ => t.jtag = s.jtag)
  ∧ (match c with
    | .sysPwrgdRise .. | .deviceReset .. | .apexImageVerified .. | .facetImageVerified .. | .officerSign ..
    | .registerWrite .. | .flashStatusPoll .. | .pfWindowWrite .. | .pfGatherTimeout .. | .pfEraseGo ..
    | .pfEraseDone .. | .otpWordProgram .. | .debugClose .. | .debugLifetimeExpire .. | .fwSlotErase ..
    | .fwSlotEraseDone .. | .fwStage .. | .fwActivateRestart .. | .railEntersWindow .. => True
    | _ => t.fw = s.fw)
  ∧ (match c with
    | .sysPwrgdRise .. | .deviceReset .. | .i3cPrivateWrite .. | .i3cPrivateRead .. | .otpWordProgram ..
    | .debugClose .. | .debugLifetimeExpire .. | .fwActivateRestart .. | .histSample .. | .railEntersWindow .. => True
    | _ => t.i3c = s.i3c)
  ∧ (match c with
    | .sysPwrgdRise .. | .deviceReset .. | .facetImageVerified .. | .revolutionBoundary .. | .sectorStart ..
    | .cfgCommit .. | .officerSign .. | .anchor .. | .apexSignatureComplete .. | .domainAccept ..
    | .domainRosterUpdate .. | .domainPackageLoad .. | .domainActivate .. | .chordHello .. | .heartbeatWindow ..
    | .pairDeadline .. | .timeStep .. | .resyncComplete .. | .otpWordProgram .. | .debugClose ..
    | .debugLifetimeExpire .. | .fwActivateRestart .. | .railEntersWindow .. => True
    | _ => t.wheel = s.wheel)

/-- Main power good from OFF or SENTINEL, which takes SYS_PWRGD high and every main rail within its window, starts a cold GATE at step 1 with device time
0; the warning at SYS_PWRGD floats the outputs; lost main power leads to SENTINEL with a cell and OFF without one; DEV_RST_N leads to a cold GATE with
CAUSE 3; a platform reset request starts a warm GATE with CAUSE 4. (From 02, 17.) -/
def Obligations.PowerCommandsComplete : Prop :=
  (∀ (s : State) (r : Rails) (el : Nat), (s.ms.mode = .off ∨ s.ms.mode = .sentinel) → railsGood r = true → ∃ t, exec (.sysPwrgdRise r el) s = .next t ∧ t.ms.mode = .gate ∧ t.boot.step = 1 ∧ t.now = 0 ∧ t.supply.pwrgd = true ∧ t.supply.rails = r ∧ t.supply.sentinel = true)
  ∧ (∀ (s : State) (r : Rails) (el : Nat), railsGood r = false → exec (.sysPwrgdRise r el) s = .next (after s ({ (quiet s) with supply := { s.supply with pwrgd := true, rails := r } })))
  ∧ (∀ (s : State) (r : Rails) (el : Nat), s.ms.mode ≠ .off → s.ms.mode ≠ .sentinel → exec (.sysPwrgdRise r el) s = .next (after s ({ (quiet s) with supply := { s.supply with pwrgd := true, rails := r } })))
  ∧ (∀ (s : State) (r : Rails) (el : Nat), (s.ms.mode = .off ∨ s.ms.mode = .sentinel) → s.supply.pwrgd = true → railsGood r = true → ∃ t, exec (.railEntersWindow ⟨r, el⟩) s = .next t ∧ t.ms.mode = .gate ∧ t.boot.step = 1 ∧ t.now = 0 ∧ t.supply.rails = r)
  ∧ (∀ (s : State) (r : Rails), s.ms.mode ≠ .off → s.ms.mode ≠ .sentinel → ∃ t, exec (.sysPwrgdFall r) s = .next t ∧ t.supply.pwrgd = false ∧ t.supply.rails = r ∧ t.busA.frame = none ∧ t.busB.frame = none ∧ t.pair.fenceOut = false ∧ t.rel.driven = [] ∧ t.ms = s.ms)
  ∧ (∀ (s : State) (r : Rails) (cell : Bool) (lo hi : Nat), s.supply.pwrgd = true → railsGood r = true → exec (.mainPowerLost ⟨r, cell⟩ lo hi) s = .next (after s ({ (quiet s) with supply := { s.supply with rails := r } })))
  ∧ (∀ (s : State) (r : Rails) (cell : Bool) (lo hi : Nat), s.ms.mode ≠ .off → s.ms.mode ≠ .sentinel → (s.supply.pwrgd = false ∨ railsGood r = false) → ∃ t, exec (.mainPowerLost ⟨r, cell⟩ lo hi) s = .next t ∧ t.ms.mode = (if cell then .sentinel else .off) ∧ t.ms.cause = 2 ∧ t.orfer.sessions = [] ∧ t.keys.cache = [] ∧ t.keys.staged = [] ∧ t.otp.jobs = [] ∧ (cell = false → t.keys.vault = []))
  ∧ (∀ (s : State), s.ms.mode ≠ .off → s.ms.mode ≠ .sentinel → ∃ t, exec (.deviceReset) s = .next t ∧ t.boot.inReset = true ∧ t.boot.step = 1 ∧ t.ms.mode = .gate ∧ t.ms.cause = 3 ∧ t.now = 0)
  ∧ (∀ (s : State), exec (.deviceResetRelease) s = .next (after s ({ (quiet s) with boot := { s.boot with inReset := false } })))
  ∧ (∀ (s : State), s.alive = true → (s.ms.mode = .watch ∨ s.ms.mode = .serve ∨ s.ms.mode = .steward ∨ s.ms.mode = .recover) → exec (.platformResetRequest) s = .next (after s ((quiet s).warmGate 0 4)))
  ∧ (∀ (s : State), s.alive = true → s.ms.mode = .quarantine → exec (.platformResetRequest) s = .next (after s ((quiet s))))

/-- Each step of Table 2.5 acts when the boot ROM stands at it: PLL lock samples the address strap and starts the 10 ms of the host tile; the sense read
draws the 224 bytes of seeds; the root vertex is compared with ROOT_CHECK, with one retry; the images are tried in both slots; each unit's self-test
sets its state and G_SELFTEST. (From 02, 06, 14.) -/
def Obligations.ColdGateCommandsComplete : Prop :=
  (∀ (s : State) (sel : Bool), s.alive = true → s.boot.step = 1 → ∃ t, exec (.pllLockComplete sel) s = .next t ∧ t.boot.step = 2 ∧ t.supply.i3cSel = sel ∧ t.pcie.readyAt = (if s.pcie.perst then some (s.now + 10000000) else none) ∧ t.ms = s.ms)
  ∧ (∀ (s : State) (weak : List (Nat × Nat)), s.alive = true → s.boot.step = 2 → ∃ t, exec (.otpSenseComplete weak) s = .next t ∧ (t.boot.step = 3 ∨ t.boot.step = 4) ∧ t.tamper.seeds = (s.draw 224).1 ∧ (t.boot.step = 4 → t.otp.jobs = [] ∧ t.boot.stopped = false))
  ∧ (∀ (s : State) (value : Bytes) (n : Nat), s.alive = true → s.boot.step = 4 → exec (.rootVertexReconstructed value n) s = .next (after s ((match s.helperCopy with | none => (quiet s).vertexFault | some first => let b := { s.boot with reconstructed := n :: s.boot.reconstructed }; if fit 8 (Config.rootCheck (fit 32 value)) = s.otpBytes (first + 508) 2 then State.deriveIdentity { (quiet s) with boot := { b with step := 5, vertex := true, vertexValue := fit 32 value, vertexAt := s.now, corrected := n } } else if s.boot.vertexRetry then State.vertexFault { (quiet s) with boot := b } else { (quiet s) with boot := { b with vertexRetry := true } }))))
  ∧ (∀ (s : State) (a b : Bytes), s.alive = true → s.boot.step = 5 → s.boot.stopped = false → exec (.apexImageVerified a b) s = .next (after s ((if (KeyMap.find ((quiet s).loadImages 1 a b).fw.running 1).isSome then { (quiet s).loadImages 1 a b with boot := { s.boot with step := 6, apex := true } } else ((quiet s).loadImages 1 a b).stopInGate))))
  ∧ (∀ (s : State) (a b : Bytes), s.alive = true → s.boot.step = 6 → s.boot.stopped = false → exec (.facetImageVerified a b) s = .next (after s ((if (KeyMap.find ((quiet s).loadImages 2 a b).fw.running 2).isSome then ((quiet s).loadImages 2 a b).enterStep7 else ((quiet s).loadImages 2 a b).stopInGate))))
  ∧ (∀ (s : State) (u : Nat) (pass : Bool), s.alive = true → s.boot.testing = true → u < 45 → KeyMap.find s.boot.units u = none → ∃ t, exec (.unitSelftestDone u pass) s = .next t ∧ KeyMap.find t.boot.units u = some (if pass then .inService else .outOfService) ∧ t.ms.gates.selftest = t.selftestGate ∧ t.ms.mode = s.ms.mode)

/-- A delay that ends with its NEEDS met releases the step's outputs and waits for its input or completes the step; an awaited input at its level for 100
µs completes the step; a TIMEOUT counts an attempt and unwinds the outputs one by one; after the third attempt the device is held in GATE. (From 02.) -/
def Obligations.ReleaseCommandsComplete : Prop :=
  (∀ (s : State) (d : Nat), s.alive = true → s.rel.phase = .delay d → s.needsMet (stepNeeds (s.relStep s.rel.step)) = true → exec (.releaseDelayExpire) s = .next (after s ((let r := s.relStep s.rel.step; let u := ((quiet s).advance d).releaseOut fun n => bit (stepMask r) n; if stepWaitIn r = 31 then u.stepDone else u.setPhase (.input (if bit u.rel.inputs (stepWaitIn r) == stepWaitLevel r then some u.now else none) (u.now + stepTimeout r))))))
  ∧ (∀ (s : State) (d : Nat), s.alive = true → s.rel.phase = .delay d → s.needsMet (stepNeeds (s.relStep s.rel.step)) = false → exec (.releaseDelayExpire) s = .next (after s ((quiet s))))
  ∧ (∀ (s : State) (level : Bool) (since : Option Nat) (limit : Nat), s.alive = true → s.rel.phase = .input since limit → exec (.awaitedInputChange level) s = .next (after s (((quiet s).withInput (stepWaitIn (s.relStep s.rel.step)) level).setPhase (.input (if level = stepWaitLevel (s.relStep s.rel.step) then some (since.getD s.now) else none) limit))))
  ∧ (∀ (s : State) (level : Bool) (d : Nat), s.alive = true → s.rel.phase = .delay d → exec (.awaitedInputChange level) s = .next (after s ((if stepWaitIn (s.relStep s.rel.step) = 31 then (quiet s) else (quiet s).withInput (stepWaitIn (s.relStep s.rel.step)) level))))
  ∧ (∀ (s : State) (d limit : Nat), s.alive = true → s.rel.phase = .input (some d) limit → exec (.releaseInputStable) s = .next (after s (((quiet s).advance (d + 100000)).stepDone)))
  ∧ (∀ (s : State) (since : Option Nat) (limit : Nat), s.alive = true → s.rel.phase = .input since limit → since.any (fun d => decide (d ≤ limit)) = false → ∃ t, exec (.releaseTimeout) s = .next t ∧ t.rel.attempts = s.rel.attempts + 1 ∧ t.rel.phase = (if s.rel.released.isEmpty then .restart (max s.now limit + 1000000000) else .unwind (max s.now limit)) ∧ t.now = max s.now limit)
  ∧ (∀ (s : State) (d n : Nat) (rest : List Nat), s.alive = true → s.rel.phase = .unwind d → s.rel.released = n :: rest → ∃ t, exec (.releaseUnwindStep) s = .next t ∧ t.rel.released = rest ∧ t.now = max s.now d ∧ t.rel.phase = (if rest.isEmpty then .restart (max s.now d + 1000000000) else .unwind (max s.now d + 1000000)) ∧ KeyMap.find t.rel.driven n = some (s.heldLevel n))
  ∧ (∀ (s : State) (d : Nat), s.alive = true → s.rel.phase = .restart d → exec (.releaseRestart) s = .next (after s ((if 3 ≤ s.rel.attempts then ((quiet s).advance d).holdInGate else ((quiet s).advance d).startRelease))))

/-- A tail or head doorbell on a page that the function does not show changes nothing, an invalid value marks the ring, a valid one moves its index and a
fetch may follow; FN_TIME_LO latches the upper half; bus mastering, resets and the link act as chapters 4 and 17 say. A page that belongs to no
channel bound to the function reads 0. (From 04, 17.) -/
def Obligations.DoorbellAndLinkCommandsComplete : Prop :=
  (∀ (s : State) (fn ch ring v : Nat), s.alive = true → s.showsPage fn ch = true → ring < 4 → ring < (s.chan ch).binding.rings → (s.sq ch ring).base ≠ 0 → v < 2 ^ (s.sq ch ring).sizeLog2 → (s.sq ch ring).sizeLog2 ≤ 16 → ringDist (2 ^ (s.sq ch ring).sizeLog2) (s.deviceHead ch ring) (s.sq ch ring).tail ≤ ringDist (2 ^ (s.sq ch ring).sizeLog2) (s.deviceHead ch ring) v → exec (.sqTailDoorbell fn ch ring v) s = .next (after s (((quiet s).updSq ch ring fun q => { q with tail := v }).kick ch)))
  ∧ (∀ (s : State) (fn ch ring v : Nat), s.alive = true → s.showsPage fn ch = true → ring < 4 → ((s.chan ch).binding.rings ≤ ring ∨ (s.sq ch ring).base = 0 ∨ 2 ^ (s.sq ch ring).sizeLog2 ≤ v) → v < 65536 → ∃ t, exec (.sqTailDoorbell fn ch ring v) s = .next t ∧ (KeyMap.get (t.chan ch).sqs Sq.reset ring).errDb = true ∧ (KeyMap.get (t.chan ch).sqs Sq.reset ring).tail = (KeyMap.get (s.chan ch).sqs Sq.reset ring).tail)
  ∧ (∀ (s : State) (fn ch ring v : Nat), s.alive = true → (s.showsPage fn ch = false ∨ 4 ≤ ring) → exec (.sqTailDoorbell fn ch ring v) s = .next (after s ((quiet s))))
  ∧ (∀ (s : State) (fn ch v : Nat), s.alive = true → s.showsPage fn ch = true → ((s.chan ch).cq.base = 0 ∨ 2 ^ (s.chan ch).cq.sizeLog2 ≤ v % 65536) → ∃ t, exec (.cqHeadDoorbell fn ch v) s = .next t ∧ (t.chan ch).cq.errDb = true ∧ (t.chan ch).cq.head = (s.chan ch).cq.head)
  ∧ (∀ (s : State) (fn ch v : Nat), s.alive = true → s.showsPage fn ch = true → (s.chan ch).cq.base ≠ 0 → v < 2 ^ (s.chan ch).cq.sizeLog2 → v < 65536 → ringDist (2 ^ (s.chan ch).cq.sizeLog2) (s.chan ch).cq.head v ≤ ringDist (2 ^ (s.chan ch).cq.sizeLog2) (s.chan ch).cq.head (s.chan ch).cq.writeIdx → exec (.cqHeadDoorbell fn ch v) s = .next (after s (((quiet s).updChan ch fun x => { x with used := x.used - ringDist (2 ^ x.cq.sizeLog2) x.cq.head v, cq := { x.cq with head := v, armed := x.cq.armed } }).kick ch)))
  ∧ (∀ (s : State) (fn ch v : Nat), s.alive = true → s.showsPage fn ch = false → exec (.cqHeadDoorbell fn ch v) s = .next (after s ((quiet s))))
  ∧ (∀ (s : State) (fn : Nat), s.alive = true → ∃ t, exec (.fnTimeLoRead fn) s = .next t ∧ t.outbox = [.data (u32 (s.now % 2 ^ 32))] ∧ (t.fn fn).timeHi = s.now / 2 ^ 32 % 2 ^ 32)
  ∧ (∀ (s : State) (fn : Nat), s.alive = true → ∃ t, exec (.busMasterEnableClear fn) s = .next t ∧ (t.fn fn).busMaster = false ∧ t.chans = s.chans)
  ∧ (∀ (s : State) (fn : Nat), s.alive = true → exec (.busMasterEnableSet fn) s = .next (after s (((quiet s).updFn fn fun x => { x with busMaster := true }).kickAll)))
  ∧ (∀ (s : State) (fn : Nat), s.alive = true → exec (.functionLevelReset fn) s = .next (after s ((quiet s).resetFunction fn)))
  ∧ (∀ (s : State) (perst : Bool), s.alive = false → exec (.pcieLinkDown perst) s = .next (after s ({ (quiet s) with pcie := { s.pcie with perst := s.pcie.perst && !perst } })))
  ∧ (∀ (s : State), s.alive = false → exec (.perstRise) s = .next (after s ({ (quiet s) with pcie := { s.pcie with perst := true, readyAt := none } })))
  ∧ (∀ (s : State) (perst : Bool), s.alive = true → ∃ t, exec (.pcieLinkDown perst) s = .next t ∧ t.pcie.up = false ∧ t.pcie.width = 0 ∧ t.pcie.speed = 0 ∧ (perst = true → t.pcie.perst = false ∧ t.pcie.readyAt = none) ∧ t.ms = s.ms)
  ∧ (∀ (s : State), s.alive = true → exec (.perstRise) s = .next (after s ({ (quiet s) with pcie := { s.pcie with perst := true, readyAt := if s.boot.step = 1 then none else some (s.now + 10000000) } })))
  ∧ (∀ (s : State) (d : Nat), s.alive = true → s.pcie.readyAt = some d → s.pcie.perst = true → ∃ t, exec (.pcieLinkTrained 8 32) s = .next t ∧ t.pcie.up = true ∧ t.pcie.width = 8 ∧ t.pcie.speed = 32 ∧ t.now = max s.now d)
  ∧ (∀ (s : State) (d w v : Nat), s.alive = true → s.pcie.readyAt = some d → s.pcie.perst = true → (w = 2 ∨ w = 4) → (v = 8 ∨ v = 16 ∨ v = 32) → exec (.pcieLinkTrained w v) s = .next (after s ((State.noteAlarm { (quiet s).advance d with pcie := { s.pcie with up := true, width := w, speed := v }, pair := { s.pair with pcieLost := false } }).kickAll)))
  ∧ (∀ (s : State) (d w v : Nat), s.alive = true → s.pcie.readyAt = some d → s.pcie.perst = true → (w = 1 ∧ (v = 2 ∨ v = 5 ∨ v = 8 ∨ v = 16 ∨ v = 32) ∨ (w = 2 ∨ w = 4 ∨ w = 8) ∧ (v = 2 ∨ v = 5)) → exec (.pcieLinkTrained w v) s = .next (after s (State.kickAll { (quiet s).advance d with pcie := { s.pcie with up := true, width := w, speed := v }, pair := { s.pair with pcieLost := false } })))
  ∧ (∀ (s : State) (d v : Nat), s.alive = true → s.pcie.readyAt = some d → s.pcie.perst = true → (v = 8 ∨ v = 16) → exec (.pcieLinkTrained 8 v) s = .next (after s ((State.noteAlarm { (quiet s).advance d with pcie := { s.pcie with up := true, width := 8, speed := v }, pair := { s.pair with pcieLost := false } }).kickAll)))
  ∧ (∀ (s : State) (fn off : Nat), pagesBase fn ≤ off → s.pageChannel fn off = none → s.barWord fn off = 0)

/-- A descriptor with an undefined opcode is handled as fetched; a failed fetch halts its ring; a key blob's header and body lead to the next read or to
the key in the cache; a check instant judges the next item; an anchor admits; a release gives the completion in order. (From 04, 05, 06.) -/
def Obligations.RingCommandsComplete : Prop :=
  (∀ (s : State) (ch ring : Nat) (d : Bytes), s.alive = true → opDefined (dOpcode d) = false → exec (.descriptorUndefinedOpcode ch ring d) s = .next (after s ((quiet s).fetched ch ring d)))
  ∧ (∀ (s : State) (ch ring : Nat), s.alive = true → (s.chan ch).fetching = some ring → (s.chan ch).stale = true → exec (.descriptorFetchFailed ch ring) s = .next (after s (((quiet s).endFetch ch).kick ch)))
  ∧ (∀ (s : State) (ch ring : Nat), s.alive = true → (s.chan ch).fetching = some ring → (s.chan ch).stale = false → exec (.descriptorFetchFailed ch ring) s = .next (after s (((quiet s).markErr ch fun x => { x with fetching := none, sqs := KeyMap.put x.sqs ring { KeyMap.get x.sqs Sq.reset ring with halted := true, errFetch := true } }).kick ch)))
  ∧ (∀ (s : State) (ch tag n k : Nat) (z : Option Bytes), s.alive = true → KeyMap.find s.keys.loads (cacheKey ch tag) = some ⟨none, n, k, z⟩ → exec (.keyBlobHeaderRead ch tag none) s = .next (after s ((quiet s).failLoad ch tag ST_KEY_FETCH)))
  ∧ (∀ (s : State) (ch tag n k : Nat) (z : Option Bytes) (b : Bytes), s.alive = true → KeyMap.find s.keys.loads (cacheKey ch tag) = some ⟨none, n, k, z⟩ → s.reaches ch = true → exec (.keyBlobHeaderRead ch tag (some b)) s = .next (after s ((let h := fit 48 b; let m := entriesOf (headerView h); if stageB h then (let u := (quiet s).room (s.region ch) (m - k); let y := if u.regionUsed (s.region ch) + (m - k) ≤ s.regionSize (s.region ch) then m else min m n; State.readHost { u with keys := { u.keys with loads := KeyMap.put u.keys.loads (cacheKey ch tag) ⟨some h, y, y, none⟩ } } (s.chan ch).binding.function (u.iovaOf ch tag + 48) ((headerView h).totalLen - 48)) else (quiet s).failLoad ch tag ST_KEY_UNWRAP))))
  ∧ (∀ (s : State) (ch tag n k : Nat) (h : Bytes), s.alive = true → KeyMap.find s.keys.loads (cacheKey ch tag) = some ⟨some h, n, k, none⟩ → exec (.keyBlobLoaded ch tag none) s = .next (after s ((quiet s).failLoad ch tag ST_KEY_FETCH)))
  ∧ (∀ (s : State) (ch tag n k : Nat) (h b : Bytes), s.alive = true → KeyMap.find s.keys.loads (cacheKey ch tag) = some ⟨some h, n, k, none⟩ → exec (.keyBlobLoaded ch tag (some b)) s = .next (after s ((let x := h ++ fit ((headerView h).totalLen - 48) b; match s.openBlob x (some tag) with | .inl st => (quiet s).failLoad ch tag st | .inr v => if s.fits ch tag v then (quiet s).insertKey ch tag v else { (quiet s) with keys := { s.keys with loads := KeyMap.put s.keys.loads (cacheKey ch tag) ⟨some h, n, k, some x⟩ } }))))
  ∧ (∀ (s : State) (ch tag n k : Nat) (h x : Bytes) (d : Option Bytes), s.alive = true → KeyMap.find s.keys.loads (cacheKey ch tag) = some ⟨some h, n, k, some x⟩ → exec (.keyBlobLoaded ch tag d) s = .next (after s ((quiet s))))
  ∧ (∀ (s : State) (ch : Nat) (x : Item), s.alive = true → nextCheck (s.chan ch) = some x → exec (.keyCheckInstant ch) s = .next (after s ((let u := (x.refs.filter fun r => !r.hit && r.status == 0).foldl (fun u r => u.settleLoad ch r.tag) ((quiet s).advance x.checkAt); let y := ((u.chan ch).admitted.find? fun y => y.seq == x.seq).getD x; u.updItem ch x.seq fun _ => u.judged ch y (u.judgeRefs ch y fun r => !r.hit)))))
  ∧ (∀ (s : State) (ch : Nat) (miss : Bool), s.alive = true → s.serviceSet ch ≠ [] → ch ≠ 0 → exec (.anchor ch miss) s = .next (after s ((let a := nextOf (s.serviceSet ch) (ceilDiv (s.now + leadNs miss) sectorNs) * sectorNs - leadNs miss; (State.anchorLoop ch miss a (s.chan ch).decoded.length ((quiet s).advance a)).kick ch))))
  ∧ (∀ (s : State) (ch : Nat) (x : Item), s.alive = true → nextRelease (s.chan ch) = some x → exec (.itemRelease ch) s = .next (after s (((quiet s).releaseItem ch x true).kick ch)))
  ∧ (∀ (s : State) (ch : Nat) (x : Item), s.alive = true → nextRelease (s.chan ch) = some x → exec (.completionWriteFailed ch) s = .next (after s ((quiet s).releaseItem ch x false)))
  ∧ (∀ (s : State) (ch n : Nat) (x : Item) (r : Result), s.alive = true → nextRelease (s.chan ch) = some x → x.result = some r → x.sent ≤ n → n < r.out.length → exec (.outputWriteFailed ch n) s = .next (after s ((quiet s).updItem ch x.seq fun y => { y with result := some { r with status := ST_DMA, out := r.out.take n, written := n } })))
  ∧ (∀ (s : State) (ch d : Nat), s.alive = true → (s.chan ch).cq.timer = some d → exec (.cqModTimerExpire ch) s = .next (after s (((quiet s).advance (d + 1000 * (s.chan ch).cq.modTimer)).moderate ch)))

/-- A sector start moves device time to the first sector not yet started. A released sector adds 256,000 ps to the pool budget, up to 4,096,000; one of a
member's own adds 256,000 ps to that member's budget, up to its cap, and none to the pool; one of channel 0 changes no budget. A revolution boundary
moves device time to the first revolution not yet started; then settled changes, due exchanges, waiting changes and homes take effect in this order, a
stop of all tiles ends where its time has come, the gates decide the mode, the channels under administration are paused and bus timings settle. The
end of a drain, at once where no channel holds an admitted item and else at its limit, leads to RECOVER; with no drain it changes nothing. (From 02,
05.) -/
def Obligations.WheelCommandsComplete : Prop :=
  (∀ (s : State) (n : Nat), s.alive = true → n = max s.wheel.sector (ceilDiv s.now sectorNs) → ((quiet s).advance (n * sectorNs)).sectorFree n = true → ∃ t, exec (.sectorStart) s = .next t ∧ t.now = max s.now (n * sectorNs) ∧ t.wheel.sector = n + 1 ∧ t.wheel.released = true ∧ t.wheel.pool = min 4096000 (s.wheel.pool + 256000) ∧ t.ms = s.ms)
  ∧ (∀ (s : State) (n m : Nat), s.alive = true → n = max s.wheel.sector (ceilDiv s.now sectorNs) → ((quiet s).advance (n * sectorNs)).sectorFree n = false → s.sectorMember (n % revSectors) = m → m ≠ 0 → ∃ t, exec (.sectorStart) s = .next t ∧ t.now = max s.now (n * sectorNs) ∧ t.wheel.sector = n + 1 ∧ t.wheel.released = false ∧ t.wheel.pool = s.wheel.pool ∧ (t.chan m).budget = min (s.capPs m : Int) ((s.chan m).budget + 256000) ∧ t.ms = s.ms)
  ∧ (∀ (s : State) (n : Nat), s.alive = true → n = max s.wheel.sector (ceilDiv s.now sectorNs) → ((quiet s).advance (n * sectorNs)).sectorFree n = false → s.sectorMember (n % revSectors) = 0 → ∃ t, exec (.sectorStart) s = .next t ∧ t.now = max s.now (n * sectorNs) ∧ t.wheel.sector = n + 1 ∧ t.wheel.released = false ∧ t.wheel.pool = s.wheel.pool ∧ t.chans = s.chans ∧ t.ms = s.ms)
  ∧ (∀ (s : State) (d : Nat), s.alive = true → s.recov.drain = some d → (s.bound.all fun ch => (s.chan ch).admitted.isEmpty) = true → exec (.recoverDrainEnd) s = .next (after s ((((quiet s).mapAdmitted fun _ x => { x with silent := true }).enterRecover s.recov.wanted 5).finishRestore)))
  ∧ (∀ (s : State) (d : Nat), s.alive = true → s.recov.drain = some d → (s.bound.all fun ch => (s.chan ch).admitted.isEmpty) = false → exec (.recoverDrainEnd) s = .next (after s (((((quiet s).advance d).mapAdmitted fun _ x => { x with silent := true }).enterRecover s.recov.wanted 5).finishRestore)))
  ∧ (∀ (s : State), s.alive = true → s.recov.drain = none → exec (.recoverDrainEnd) s = .next (after s ((quiet s))))
  ∧ (∀ (s : State) (r : Nat), s.alive = true → r = max s.wheel.revolution (ceilDiv s.now revNs) → exec (.revolutionBoundary) s = .next (after s ((let u := State.settleHomes (State.settleAll (State.applyWaiting (State.settleExchanges (State.settleAll { (quiet s).advance (r * revNs) with wheel := { s.wheel with revolution := r + 1 } })))); let v := match u.tamper.isolateUntil with | some d => (if d ≤ u.now then { u with tamper := { u.tamper with isolateUntil := none } } else u) | none => u; let x := v.evaluateGates; (State.settleTimings { x with wheel := { x.wheel with paused := x.underAdmin } }).kickAll))))

/-- A formed response enters the free buffer; ACK releases it and the next fragment follows; MB3's grants follow REQUEST, RELEASE and the two 10 ms
limits; a doorbell while the mailbox is taken sets DB_IGNORED, one with a bad length LEN_ERR, any other delivers REQ_LEN bytes; MB2 and target F read
and write their windows. (From 03, 10.) -/
def Obligations.TransportCommandsComplete : Prop :=
  (∀ (s : State) (p : Port) (r : Reply) (rest : List Reply), s.alive = true → (s.mbox p).rspValid = false → (s.mbox p).formed = r :: rest → exec (.mbResponseReady p) s = .next (after s ((let u := (quiet s).updMbox p fun m => { m with formed := rest }; if u.granted r.port then u.sendReply r.port r else u))))
  ∧ (∀ (s : State) (p : Port), s.alive = true → (s.mbox p).rspValid = true → s.granted p = true → (s.mbox p).sending = none → ∃ t, exec (.mbRspAck p) s = .next t ∧ (t.mbox p).rspValid = false ∧ (t.mbox p).rspLen = 0 ∧ t.ms = s.ms ∧ t.outbox = [])
  ∧ (∀ (s : State) (p : Port) (r : Reply), s.alive = true → (s.mbox p).rspValid = true → s.granted p = true → (s.mbox p).sending = some r → r.payload ≠ [] → exec (.mbRspAck p) s = .next (after s (((quiet s).updMbox p fun m => { m with rspValid := false, rspLen := 0, sending := none, fragLimit := none }).sendReply p r)))
  ∧ (∀ (s : State) (fn : Nat), s.alive = true → 1 ≤ fn → fn ≤ 127 → s.orfer.mb3.holder = none → s.orfer.mb3.queue = [] → ∃ t, exec (.mbGrantRequest fn) s = .next t ∧ t.orfer.mb3.holder = some fn ∧ t.orfer.mb3.queue = [] ∧ t.orfer.mb3.grantLimit = some (s.now + 10000000))
  ∧ (∀ (s : State) (fn h : Nat), s.alive = true → 1 ≤ fn → fn ≤ 127 → s.orfer.mb3.holder = some h → h ≠ fn → fn ∉ s.orfer.mb3.queue → ∃ t, exec (.mbGrantRequest fn) s = .next t ∧ t.orfer.mb3.holder = some h ∧ t.orfer.mb3.queue = s.orfer.mb3.queue ++ [fn])
  ∧ (∀ (s : State) (fn : Nat), s.alive = true → s.orfer.mb3.holder = some fn → exec (.mbGrantRelease fn) s = .next (after s ((quiet s).endGrant)))
  ∧ (∀ (s : State) (d : Nat), s.alive = true → s.orfer.mb3.grantLimit = some d → exec (.grantDoorbellTimeout) s = .next (after s (((quiet s).advance d).endGrant)))
  ∧ (∀ (s : State) (d : Nat), s.alive = true → s.orfer.mb3.fragLimit = some d → exec (.fragmentAckTimeout) s = .next (after s (((quiet s).advance d).endGrant)))
  ∧ (∀ (s : State) (p : Port) (len : Nat), s.alive = true → p ≠ .mb1 → s.granted p = true → s.portServed p = true → (s.mbox p).busy = false → (s.mbox p).rspValid = false → 32 ≤ len → len ≤ 4096 → exec (.mbDoorbell p len) s = .next (after s (((quiet s).updMbox p fun m => { m with grantLimit := none }).deliver p (fit len (s.mbox p).request))))
  ∧ (∀ (s : State) (len : Nat), s.alive = true → (s.orfer.mb0.busy = true ∨ s.orfer.mb0.rspValid = true) → exec (.mbDoorbell .mb0 len) s = .next (after s ((quiet s).updWindow .mb0 fun w => { w with dbIgnored := true, lenErr := w.lenErr || decide (len < 32 ∨ 4096 < len) })))
  ∧ (∀ (s : State) (len : Nat), s.alive = true → s.boot.facet = true → s.orfer.mb0.busy = false → s.orfer.mb0.rspValid = false → (len < 32 ∨ 4096 < len) → exec (.mbDoorbell .mb0 len) s = .next (after s ((quiet s).updWindow .mb0 fun w => { w with lenErr := true })))
  ∧ (∀ (s : State) (p : Port) (len : Nat), s.alive = true → p ≠ .mb1 → (s.granted p = false ∨ s.portServed p = false ∨ (s.mbox p).busy = true ∨ (s.mbox p).rspValid = true) → exec (.mbDoorbell p len) s = .next (after s ((quiet s).updWindow p fun w => { w with dbIgnored := true, lenErr := w.lenErr || decide (len < 32 ∨ 4096 < len) })))
  ∧ (∀ (s : State) (p : Port) (len : Nat), s.alive = true → p ≠ .mb1 → s.granted p = true → s.portServed p = true → (s.mbox p).busy = false → (s.mbox p).rspValid = false → (len < 32 ∨ 4096 < len) → exec (.mbDoorbell p len) s = .next (after s ((quiet s).updWindow p fun w => { w with lenErr := true })))
  ∧ (∀ (s : State) (msg : Bytes), s.alive = true → byteAt msg 0 = 0x7F → 37 ≤ msg.length → msg.length ≤ 4101 → s.portServed .mb1 = true → exec (.mb1MctpMessage msg) s = .next (after s ((if beNat (slice 1 4 msg) = Config.enterprise then (quiet s).deliver .mb1 (msg.drop 5) else (quiet s)))))
  ∧ (∀ (s : State) (off len : Nat), s.alive = true → s.busA.frame = none → s.portServed .mb2 = true → ∃ t, exec (.mb2Read off len) s = .next t ∧ t.outbox = [.data (fit len (slice off len (s.windowBytes .mb2)))] ∧ t.orfer = s.orfer ∧ t.busA = s.busA)
  ∧ (∀ (s : State) (off : Nat) (data : Bytes), s.alive = true → s.busA.frame = none → s.portServed .mb2 = true → off % 4 = 0 → data.length = 4 → exec (.mb2Write off data) s = .next (after s ((quiet s).windowWrite .mb2 off (leNat data))))
  ∧ (∀ (s : State) (a : Byte), s.alive = true → ∃ t, exec (.i3cPrivateWrite [a]) s = .next t ∧ t.i3c.pointer = min 0x80 a.toNat ∧ t.i3c.wrIgnored = s.i3c.wrIgnored)
  ∧ (∀ (s : State) (a b : Byte), s.alive = true → a.toNat ≠ 0x1E → ∃ t, exec (.i3cPrivateWrite [a, b]) s = .next t ∧ t.i3c.pointer = min 0x80 (min 0x80 a.toNat + 1) ∧ t.i3c.wrIgnored = true)
  ∧ (∀ (s : State) (len : Nat), s.alive = true → ∃ t, exec (.i3cPrivateRead len) s = .next t ∧ t.i3c.pointer = min 0x80 (s.i3c.pointer + len) ∧ t.i3c.rdOverrun = (s.i3c.rdOverrun || decide (128 < s.i3c.pointer + len)) ∧ t.outbox = [.data (slice s.i3c.pointer len s.registerFile ++ List.replicate (len - (slice s.i3c.pointer len s.registerFile).length) 0xEE#8)])

/-- SESSION_OPEN answers the chosen version and a new session id; SESSION_CLOSE answers and closes; the queries answer the register file, the mode history
and the queued notices; a session with no request for 120 s closes. (From 03.) -/
def Obligations.SessionCommandsComplete : Prop :=
  (∀ (s : State) (p : Port) (q : Request) (n : Nat) (v : Nat × Nat), Asked s p 0x0101 q → byteAt q.payload 0 = n → 1 ≤ n → n ≤ 8 → q.payload.length = 3 + 2 * n → bestVersion (blocks 2 (slice 1 (2 * n) q.payload)) = some v → s.sessionRoom p = true → ∃ t, exec (.sessionOpen p) s = .next t ∧ (∃ x, t.session s.orfer.nextSession = some x ∧ x.port = p ∧ x.realm = q.realm ∧ x.version = v ∧ x.deadline = s.now + 120000000000 ∧ x.notices = []) ∧ t.orfer.nextSession = s.orfer.nextSession + 1 ∧ (t.mbox p).inFlight = (s.mbox p).inFlight.erase q)
  ∧ (∀ (s : State) (p : Port) (q : Request), Asked s p 0x0102 q → exec (.sessionClose p) s = .next (after s ((if q.payload.isEmpty then ((begun s p q).answer q ST_OK []).closeSession q.session else (begun s p q).answer q ST_BAD_LENGTH []))))
  ∧ (∀ (s : State) (p : Port) (q : Request), Asked s p 0x0103 q → exec (.identityQuery p) s = .next (after s ((if q.payload.isEmpty then (begun s p q).answer q ST_OK ((begun s p q).registerFile.take 0x60) else (begun s p q).answer q ST_BAD_LENGTH []))))
  ∧ (∀ (s : State) (p : Port) (q : Request), Asked s p 0x0104 q → exec (.stateQuery p) s = .next (after s ((if q.payload.isEmpty then (begun s p q).answer q ST_OK (u32 s.modeWord ++ u32 s.ms.history.length ++ s.ms.history.flatMap fun h => (Notice.bytes ⟨1, 0, h.1, h.2⟩)) else (begun s p q).answer q ST_BAD_LENGTH []))))
  ∧ (∀ (s : State) (p : Port) (q : Request) (x : Session), Asked s p 0x0105 q → q.payload.length = 2 → s.session q.session = some x → exec (.noticeFetch p) s = .next (after s ((let got := x.notices.take (min 200 (leNat q.payload)); (State.updWindow ((begun s p q).updSession q.session fun y => { y with notices := y.notices.drop got.length }) p fun w => { w with dropped := 0 }).answer q ST_OK (u16 got.length ++ u8 (s.window p).dropped ++ u8 0 ++ got.flatMap Notice.bytes)))))
  ∧ (∀ (s : State) (i : Nat) (x : Session), s.alive = true → s.session i = some x → exec (.sessionTimeout i) s = .next (after s (((quiet s).advance x.deadline).closeSession i)))

/-- CFG_BEGIN opens the realm's one transaction; CFG_SET stages in it, or acts at once on ungrouped fields without a class; CFG_GET answers the value;
CFG_COMMIT leads to the boundary or to an act; CFG_ROLLBACK drops it; its 10 s end rolls it back. (From 03.) -/
def Obligations.ConfigurationCommandsComplete : Prop :=
  (∀ (s : State) (p : Port) (q : Request), Asked s p 0x0201 q → (s.realm q.realm).txn = none → exec (.cfgBegin p) s = .next (after s ((if q.payload.isEmpty then State.answer { (begun s p q).updRealm q.realm (fun r => { r with txn := some ⟨s.orfer.nextTxn, q.session, [], .opened, some (s.now + 10000000000), none⟩ }) with orfer := { ((begun s p q).updRealm q.realm (fun r => { r with txn := some ⟨s.orfer.nextTxn, q.session, [], .opened, some (s.now + 10000000000), none⟩ })).orfer with nextTxn := s.orfer.nextTxn + 1 } } q ST_OK (u32 s.orfer.nextTxn) else (begun s p q).answer q ST_BAD_LENGTH []))))
  ∧ (∀ (s : State) (p : Port) (q : Request), Asked s p 0x0201 q → (s.realm q.realm).txn.isSome = true → q.payload = [] → exec (.cfgBegin p) s = .next (after s ((begun s p q).answer q ST_TXN_BUSY [])))
  ∧ (∀ (s : State) (p : Port) (q : Request) (e : Nat × Nat × Bytes × Bool), Asked s p 0x0202 q → 4 ≤ q.payload.length → field q.payload 0 4 = 0 → parseEntries q.payload.length (q.payload.drop 4) = some [e] → e.2.2.2 = true → fieldSettable e.1 e.2.1 = true → fieldRealm e.1 e.2.1 = q.realm → fieldGrouped e.1 = false → fieldClass e.1 = 0 → s.firstBad [(cfgKey e.1 e.2.1, e.2.2.1)] = none → exec (.cfgSet p) s = .next (after s (((begun s p q).applyPlain (keyField (cfgKey e.1 e.2.1)) (keyInst (cfgKey e.1 e.2.1)) e.2.2.1).answer q ST_OK [])))
  ∧ (∀ (s : State) (p : Port) (q : Request) (x : Txn) (e : Nat × Nat × Bytes × Bool), Asked s p 0x0202 q → 4 ≤ q.payload.length → field q.payload 0 4 ≠ 0 → s.txnFor q (field q.payload 0 4) = .inr x → x.state = .opened → parseEntries q.payload.length (q.payload.drop 4) = some [e] → e.2.2.2 = true → fieldSettable e.1 e.2.1 = true → fieldRealm e.1 e.2.1 = q.realm → x.entries.length < 512 → (KeyMap.put x.entries (cfgKey e.1 e.2.1) e.2.2.1).length ≤ 512 → ((KeyMap.put x.entries (cfgKey e.1 e.2.1) e.2.2.1).foldl (fun acc y => acc + y.2.length) 0) ≤ 65536 → exec (.cfgSet p) s = .next (after s (((begun s p q).updRealm q.realm fun r => { r with txn := some { x with entries := KeyMap.put x.entries (cfgKey e.1 e.2.1) e.2.2.1 } }).answer q ST_OK [])))
  ∧ (∀ (s : State) (p : Port) (q : Request), Asked s p 0x0203 q → q.payload.length = 7 → byteAt q.payload 6 = 0 → fieldExists (field q.payload 0 4) (field q.payload 4 2) = true → (q.realm = 0 ∨ fieldRealm (field q.payload 0 4) (field q.payload 4 2) = q.realm) → exec (.cfgGet p) s = .next (after s ((begun s p q).answer q ST_OK (s.readField (field q.payload 0 4) (field q.payload 4 2)))))
  ∧ (∀ (s : State) (p : Port) (q : Request), Asked s p 0x0203 q → q.payload.length = 7 → byteAt q.payload 6 = 1 → fieldExists (field q.payload 0 4) (field q.payload 4 2) = true → fieldRealm (field q.payload 0 4) (field q.payload 4 2) = q.realm → readOnlyField (field q.payload 0 4) = false → exec (.cfgGet p) s = .next (after s ((begun s p q).answer q ST_OK (((s.realm q.realm).txn.bind fun x => KeyMap.find x.entries (cfgKey (field q.payload 0 4) (field q.payload 4 2))).getD (s.readField (field q.payload 0 4) (field q.payload 4 2))))))
  ∧ (∀ (s : State) (p : Port) (q : Request), Asked s p 0x0203 q → q.payload.length = 7 → byteAt q.payload 6 ≤ 1 → fieldExists (field q.payload 0 4) (field q.payload 4 2) = true → fieldRealm (field q.payload 0 4) (field q.payload 4 2) ≠ q.realm → (q.realm = 0 ∨ (tenantReadable (field q.payload 0 4) = true ∧ field q.payload 4 2 = q.realm)) → exec (.cfgGet p) s = .next (after s ((begun s p q).answer q ST_OK (s.readField (field q.payload 0 4) (field q.payload 4 2)))))
  ∧ (∀ (s : State) (p : Port) (q : Request), Asked s p 0x0203 q → q.payload.length = 7 → byteAt q.payload 6 ≤ 1 → fieldExists (field q.payload 0 4) (field q.payload 4 2) = true → fieldRealm (field q.payload 0 4) (field q.payload 4 2) ≠ q.realm → q.realm ≠ 0 → (tenantReadable (field q.payload 0 4) = false ∨ field q.payload 4 2 ≠ q.realm) → exec (.cfgGet p) s = .next (after s ((begun s p q).answer q ST_REALM [])))
  ∧ (∀ (s : State) (p : Port) (q : Request) (x : Txn), Asked s p 0x0204 q → q.payload.length = 4 → s.txnFor q (leNat q.payload) = .inr x → (x.state = .opened ∨ x.state = .validated) → (x.timer.any fun d => decide (d ≤ s.now)) = false → s.firstBad x.entries = none → commitClass x.entries = 0 → exec (.cfgCommit p) s = .next (after s (((begun s p q).updTxn q.realm fun y => { y with state := .boundary, timer := none, waiting := some q }).submit ⟨q.realm, 0, none, [], .commit x.entries⟩)))
  ∧ (∀ (s : State) (p : Port) (q : Request) (x : Txn), Asked s p 0x0204 q → q.payload.length = 4 → s.txnFor q (leNat q.payload) = .inr x → (x.state = .opened ∨ x.state = .validated) → (x.timer.any fun d => decide (d ≤ s.now)) = false → s.firstBad x.entries = none → commitClass x.entries ≠ 0 → exec (.cfgCommit p) s = .next (after s ((begun s p q).makeAct q q.realm (commitClass x.entries) q.realm false (commitEncoding x.entries) (some (leNat q.payload)) (fun u => u.updTxn q.realm fun y => { y with state := .validated, timer := some (u.now + 10000000000) }) (fun u => u.updTxn q.realm fun y => { y with state := .act, timer := none }))))
  ∧ (∀ (s : State) (p : Port) (q : Request) (x : Txn), Asked s p 0x0205 q → q.payload.length = 4 → s.txnFor q (leNat q.payload) = .inr x → s.waitsBoundary q.realm = false → exec (.cfgRollback p) s = .next (after s (((begun s p q).answer q ST_OK []).giveUp q.realm ST_ACT_CANCELLED false)))
  ∧ (∀ (s : State) (p : Port) (q : Request), Asked s p 0x0206 q → (s.realm q.realm).txn = none → exec (.cfgStatus p) s = .next (after s ((if q.payload.isEmpty then (begun s p q).answer q ST_OK (zeros 16) else (begun s p q).answer q ST_BAD_LENGTH []))))
  ∧ (∀ (s : State) (p : Port) (q : Request) (x : Txn), Asked s p 0x0206 q → (s.realm q.realm).txn = some x → q.payload = [] → exec (.cfgStatus p) s = .next (after s ((begun s p q).answer q ST_OK (u8 (match x.state with | .opened => 1 | .validated => 2 | .act => 3 | .boundary => 4) ++ zeros 3 ++ u32 x.id ++ u32 x.session ++ u32 (match x.timer with | some d => (d - s.now) / 1000000 | none => 0)))))
  ∧ (∀ (s : State) (r d : Nat) (x : Txn), s.alive = true → (s.realm r).txn = some x → x.timer = some d → exec (.txnTimeout r) s = .next (after s (((quiet s).advance d).rollback r true)))

/-- A request for an act is accepted pending with its ACT_ID, class, nonce and digest; an officer's valid signature is counted and the quorum assembles
the act; a refused one is counted and the third ends the act; status, cancellation, timeouts and the kept output act as stated. (From 03, 11.) -/
def Obligations.ActCommandsComplete : Prop :=
  (∀ (s : State) (p : Port) (q : Request), Asked s p 0x0301 q → q.payload.length = 32 → (s.realm q.realm).admin = none → exec (.adminOpen p) s = .next (after s ((begun s p q).requestFree q 0x0B)))
  ∧ (∀ (s : State) (p : Port) (q : Request), Asked s p 0x0301 q → q.payload.length = 32 → (s.realm q.realm).admin = none → s.pendingAct q.realm = none → ∃ t, exec (.adminOpen p) s = .next t ∧ (∃ a, t.act q.realm s.orfer.nextAct = some a ∧ a.opcode = q.opcode ∧ a.cls = 0x0B ∧ a.state = .awaiting ∧ a.deadline = s.now + 300000000000 ∧ a.digest = sha384 q.payload) ∧ t.orfer.nextAct = s.orfer.nextAct + 1)
  ∧ (∀ (s : State) (p : Port) (q : Request), Asked s p 0x0301 q → q.payload.length = 32 → (s.realm q.realm).admin.isSome = true → exec (.adminOpen p) s = .next (after s ((begun s p q).answer q ST_ADMIN_BUSY [])))
  ∧ (∀ (s : State) (p : Port) (q : Request) (a : Admin), Asked s p 0x0302 q → (s.realm q.realm).admin = some a → q.payload = [] → exec (.adminClose p) s = .next (after s ((if a.session = q.session then ((begun s p q).closeAdmin q.realm).answer q ST_OK [] else (begun s p q).answer q ST_DUAL_CONTROL []))))
  ∧ (∀ (s : State) (p : Port) (q : Request) (a : Act), Asked s p 0x0303 q → 5 ≤ q.payload.length → s.act q.realm (field q.payload 0 4) = some a → a.state = .awaiting → exec (.officerSign p) s = .next (after s ((let i := byteAt q.payload 4; let n := ((begun s p q).signers a).2; if (begun s p q).signatureOk a i (q.payload.drop 5) = false then (let u := ((begun s p q).updAct q.realm a.id fun x => { x with refused := x.refused + 1 }).answer q ST_OFFICER_AUTH []; if 2 ≤ a.refused then u.endAct q.realm a.id ST_OFFICER_AUTH u.now else u) else if a.signed.contains i then (begun s p q).answer q ST_OFFICER_DUP [] else (let a' : Act := { a with signed := a.signed ++ [i] }; let u := ((begun s p q).updAct q.realm a.id fun x => { x with signed := a.signed ++ [i] }).answer q ST_OK (u8 (a.signed ++ [i]).length ++ u8 n ++ u16 0); if n ≤ (a.signed ++ [i]).length then u.assemble a' else u)))))
  ∧ (∀ (s : State) (p : Port) (q : Request) (a : Act), Asked s p 0x0304 q → q.payload.length = 4 → s.act q.realm (leNat q.payload) = some a → a.state = .awaiting → exec (.actStatus p) s = .next (after s ((begun s p q).answer q ST_OK (u8 1 ++ u8 a.cls ++ u8 a.signed.length ++ u8 (s.signers a).2 ++ u16 0 ++ u16 0))))
  ∧ (∀ (s : State) (p : Port) (q : Request) (a : Act), Asked s p 0x0304 q → q.payload.length = 4 → s.act q.realm (leNat q.payload) = some a → a.state = .assembled → exec (.actStatus p) s = .next (after s ((begun s p q).answer q ST_OK (u8 2 ++ u8 a.cls ++ u8 a.signed.length ++ u8 (s.signers a).2 ++ u16 0 ++ u16 0))))
  ∧ (∀ (s : State) (p : Port) (q : Request) (a : Act), Asked s p 0x0304 q → q.payload.length = 4 → s.act q.realm (leNat q.payload) = some a → (a.state = .done ∨ a.state = .cancelled) → exec (.actStatus p) s = .next (after s ((begun s p q).answer q ST_OK (u8 (if a.state = .done then 3 else 4) ++ u8 a.cls ++ u8 a.signed.length ++ u8 (s.signers a).2 ++ u16 a.ended ++ u16 0))))
  ∧ (∀ (s : State) (p : Port) (q : Request), Asked s p 0x0304 q → q.payload.length = 4 → s.act q.realm (leNat q.payload) = none → exec (.actStatus p) s = .next (after s ((begun s p q).answer q ST_BAD_VALUE [])))
  ∧ (∀ (s : State) (p : Port) (q : Request) (a : Act), Asked s p 0x0305 q → q.payload.length = 4 → s.act q.realm (leNat q.payload) = some a → a.state = .awaiting → exec (.actCancel p) s = .next (after s (((begun s p q).answer q ST_OK []).endAct q.realm a.id ST_ACT_CANCELLED s.now)))
  ∧ (∀ (s : State) (p : Port) (q : Request) (m : KeyMap Officer), Asked s p 0x0306 q → parseOfficers 12 q.payload = some m → m ≠ [] → (s.realm q.realm).roster = [] → officersOk m = true → exec (.officerEnrol p) s = .next (after s ((begun s p q).makeAct q 0 0x0A q.realm false q.payload none id id)))
  ∧ (∀ (s : State) (p : Port) (q : Request), Asked s p 0x0307 q → q.payload.length = 1 → (KeyMap.find (s.realm q.realm).roster (byteAt q.payload 0)).isSome = true → (∀ k ∈ [0x0A, 0x0B, 0x0C], s.quorum q.realm k ≤ ({ s.realm q.realm with roster := KeyMap.del (s.realm q.realm).roster (byteAt q.payload 0) } : Realm).count k) → exec (.officerRemove p) s = .next (after s ((begun s p q).request q 0x0A)))
  ∧ (∀ (s : State) (p : Port) (q : Request), Asked s p 0x0308 q → exec (.officerList p) s = .next (after s ((if q.payload.isEmpty then (begun s p q).request q 0x0C else (begun s p q).answer q ST_BAD_LENGTH []))))
  ∧ (∀ (s : State) (r : Nat) (a : Act), s.alive = true → s.pendingAct r = some a → a.state = .awaiting → exec (.quorumTimeout r) s = .next (after s (((quiet s).advance a.deadline).endAct r a.id ST_QUORUM_TIMEOUT ((quiet s).advance a.deadline).now)))
  ∧ (∀ (s : State) (r : Nat) (a : Admin), s.alive = true → (s.realm r).admin = some a → exec (.adminSessionTimeout r) s = .next (after s (((quiet s).advance a.deadline).closeAdmin r)))
  ∧ (∀ (s : State) (r : Nat) (o : Nat × Bytes × Nat), s.alive = true → KeyMap.find s.ident.outputs r = some o → ∃ t, exec (.actOutputExpire r) s = .next t ∧ KeyMap.find t.ident.outputs r = none ∧ t.now = max s.now o.2.2)
  ∧ (∀ (s : State) (j : SigJob) (q : Request) (rest : List SigJob), s.alive = true → s.ident.signing = j :: rest → j.request = some q → exec (.apexSignatureComplete) s = .next (after s ((let v := (quiet s).zeroPace (ceilDiv (((KeyMap.find s.cipher.feeds 2).map (·.work)).getD 0) 18 + ceilDiv (s.ident.treeWork + j.work) 1008); let u := State.startSignature { v with ident := { v.ident with treeWork := 0, signing := rest } }; let r := u.signed u.idMaterial j.body; r.2.answer q ST_OK (r.1 ++ (if q.opcode = 0x0511 ∧ u.isPaired then r.2.partnersCard else []))))))

/-- VAULT_STATUS answers the slots; KEY_TRANSPORT_OPEN draws a key pair within the administrative session; the root commands become class A acts after
their checks; KEY_ATTEST joins the signing queue; CACHE_FLUSH answers the entries removed; KEY_GENERATE_RSA answers the blobs; PEER_KEY_LOAD becomes
an act. (From 06.) -/
def Obligations.VaultCommandsComplete : Prop :=
  (∀ (s : State) (p : Port) (q : Request), Asked s p 0x0310 q → q.payload.length = 1 → (q.realm = 0 ∨ q.realm = byteAt q.payload 0) → exec (.vaultStatus p) s = .next (after s ((begun s p q).answer q ST_OK (s.vaultStatus (byteAt q.payload 0)))))
  ∧ (∀ (s : State) (p : Port) (q : Request), Asked s p 0x0311 q → (s.realm q.realm).admin.isSome = true → exec (.keyTransportOpen p) s = .next (after s ((if q.payload.isEmpty then (((begun s p q).draw 64).2.updRealm q.realm fun r => { r with transport := some (((begun s p q).draw 64).1, fit 1184 (Config.mlkemPublic ((begun s p q).draw 64).1)) }).answer q ST_OK (fit 1184 (Config.mlkemPublic ((begun s p q).draw 64).1)) else (begun s p q).answer q ST_BAD_LENGTH []))))
  ∧ (∀ (s : State) (p : Port) (q : Request), Asked s p 0x0311 q → (s.realm q.realm).admin = none → q.payload = [] → exec (.keyTransportOpen p) s = .next (after s ((begun s p q).answer q ST_DUAL_CONTROL [])))
  ∧ (∀ (s : State) (p : Port) (q : Request), Asked s p 0x0312 q → q.payload.length = 18 + 1144 * byteAt q.payload 3 → rootRealmOk q.realm (byteAt q.payload 0) 0x0312 = true → byteAt q.payload 1 ≤ 3 → slotAlgOk (byteAt q.payload 0) (byteAt q.payload 1) (field q.payload 4 2) = true → ((byteAt q.payload 2 = 1 ∧ byteAt q.payload 3 = 0 ∧ allZero (slice 10 8 q.payload) = true) ∨ (byteAt q.payload 2 = 2 ∧ (byteAt q.payload 3 = 2 ∨ byteAt q.payload 3 = 3))) → s.stageCheck q.payload = ST_OK → exec (.rootStage p) s = .next (after s ((begun s p q).request q 0x0A)))
  ∧ (∀ (s : State) (p : Port) (q : Request), Asked s p 0x0313 q → q.payload.length = 2 → rootRealmOk q.realm (byteAt q.payload 0) q.opcode = true → byteAt q.payload 1 ≤ 3 → s.rootCheck q.opcode (byteAt q.payload 0) (byteAt q.payload 1) = ST_OK → exec (.rootSwap p) s = .next (after s ((begun s p q).request q 0x0A)))
  ∧ (∀ (s : State) (p : Port) (q : Request), Asked s p 0x0314 q → q.payload.length = 2 → rootRealmOk q.realm (byteAt q.payload 0) q.opcode = true → byteAt q.payload 1 ≤ 3 → s.rootCheck q.opcode (byteAt q.payload 0) (byteAt q.payload 1) = ST_OK → exec (.rootUnstage p) s = .next (after s ((begun s p q).request q 0x0A)))
  ∧ (∀ (s : State) (p : Port) (q : Request), Asked s p 0x0315 q → q.payload.length = 2 → rootRealmOk q.realm (byteAt q.payload 0) q.opcode = true → byteAt q.payload 1 ≤ 3 → s.rootCheck q.opcode (byteAt q.payload 0) (byteAt q.payload 1) = ST_OK → exec (.rootInvalidate p) s = .next (after s ((begun s p q).request q 0x0A)))
  ∧ (∀ (s : State) (p : Port) (q : Request), Asked s p 0x0316 q → q.payload.length = 2 → rootRealmOk q.realm (byteAt q.payload 0) q.opcode = true → byteAt q.payload 1 ≤ 3 → s.rootCheck q.opcode (byteAt q.payload 0) (byteAt q.payload 1) = ST_OK → exec (.rootErase p) s = .next (after s ((begun s p q).request q 0x0A)))
  ∧ (∀ (s : State) (p : Port) (q : Request), Asked s p 0x0317 q → 64 ≤ q.payload.length → stageB (fit 48 (q.payload.take (q.payload.length - 16))) = true → (headerView (fit 48 (q.payload.take (q.payload.length - 16)))).totalLen = (q.payload.take (q.payload.length - 16)).length → exec (.keyAttest p) s = .next (after s ((match (begun s p q).openFor_ q.realm (q.payload.take (q.payload.length - 16)) with | .inl e => (begun s p q).answer q e [] | .inr k => if ¬ bit k.flags 1 ∨ k.exportAttr ≠ 0 then (begun s p q).answer q ST_KEY_ATTR [] else match (begun s p q).enqueue ⟨2, some q, (0, 0), (begun s p q).keyStatement k (slice (q.payload.length - 16 - 16) 8 q.payload) (q.payload.drop (q.payload.length - 16)), [], signatureWork, signatureWork⟩ with | none => (begun s p q).answer q ST_ADMIN_BUSY [] | some u => u))))
  ∧ (∀ (s : State) (p : Port) (q : Request), Asked s p 0x0318 q → q.payload.length = 1 → (q.realm = 0 ∨ q.realm = byteAt q.payload 0) → exec (.cacheFlush p) s = .next (after s (((begun s p q).flushCache (byteAt q.payload 0)).1.answer q ST_OK (u32 ((begun s p q).flushCache (byteAt q.payload 0)).2))))
  ∧ (∀ (s : State) (p : Port) (q : Request), Asked s p 0x0319 q → q.payload.length = 58 → mailboxParams q.realm (q.payload.drop 2) = ST_OK → cAlg (q.payload.drop 2) = 0x111 → cBits (q.payload.drop 2) = field q.payload 0 2 → (materialLen 2 0x111 (field q.payload 0 2)).isSome = true → exec (.keyGenerateRsa p) s = .next (after s ((match Config.rsaKeyPair (field q.payload 0 2) ((begun s p q).draw 512).1 with | none => ((begun s p q).draw 512).2.answer q ST_ENGINE_FAULT [] | some (m, pub) => (let bits := field q.payload 0 2; let x := q.payload.drop 2; let out := ((begun s p q).draw 512).2.create q.realm 2 0x111 bits 1 (byteAt (cTemplate x) 0) (byteAt (cTemplate x) 1) .generated x (fit ((materialLen 2 0x111 bits).getD 0) m) (fun _ => fit ((materialLen 3 0x111 bits).getD 0) pub); (if out.status = ST_OK then State.blobMade ((begun s p q).draw 512).2 else ((begun s p q).draw 512).2).answer q out.status out.out)))))
  ∧ (∀ (s : State) (p : Port) (q : Request), Asked s p 0x031A q → 56 < q.payload.length → mailboxParams q.realm (q.payload.drop (q.payload.length - 56)) = ST_OK → cSlot (q.payload.drop (q.payload.length - 56)) = 3 → exec (.peerKeyLoad p) s = .next (after s ((if (Config.derPublicKey (q.payload.take (q.payload.length - 56))).isNone then (begun s p q).answer q ST_BAD_VALUE [] else (begun s p q).request q 0x0A))))
  ∧ (∀ (s : State) (who : Master) (a : Nat) (d : Bytes), s.alive = true → a % 4 = 0 → d.length = 4 → exec (.registerWrite who a d) s = .next (after s ((quiet s).regWrite who a (leNat d))))
  ∧ (∀ (s : State) (who : Master) (a : Nat) (d : Bytes), s.alive = true → (a % 4 ≠ 0 ∨ d.length < 4) → d.length = 1 → exec (.registerWrite who a d) s = .next (after s ((quiet s).byteWrite who a (d.headD 0))))

/-- On an open bus a read frame that OP_PERM and the length let through is passed to the flash, bytes without R reach the host as 0xFF, and the frame
ends; READ_ID passes; READ_SFDP reads the adjusted image; status reads give the shadow registers; a frame of class DENY is denied with 0xFF data.
HOST_CS_FALL begins a frame. (From 10.) -/
def Obligations.FlashReadFramesComplete : Prop :=
  (∀ (s : State) (b cs : Nat), s.alive = true → b < 2 → cs < 2 → (s.bus b).frame = none → exec (.hostCsFall b cs) s = .next (after s ((quiet s).updBus b fun y => { y with frame := some ⟨cs, (y.shadow cs).wip, y.opened, s.flashTables, false⟩ })))
  ∧ (∀ (s : State) (b cs : Nat), s.alive = true → (2 ≤ b ∨ 2 ≤ cs ∨ (s.bus b).frame.isSome = true) → exec (.hostCsFall b cs) s = .next (after s ((quiet s))))
  ∧ (∀ (s : State) (b op : Nat) (f : HostFrame) (x : Frame) (k : Nat), Framed s b x → x.opClass b op = 0x10 → x.opPermits b op s.modeSet = true → x.wip = false → s.addrLen x b (x.opClass b op) ≤ f.sent.length → (s.bus b).readCommand x.cs (x.opClass b op % 8) = some k → ∃ t, exec (.spiRead b op f) s = .next t ∧ t.outbox = [.flash b x.cs k (readAddr s b op f x % 2 ^ 32) [], .data (f.data.zipIdx.map fun d => if s.mayTouch x b 0 (readAddr s b op f x + d.2) then d.1 else 0xFF#8)] ∧ (t.bus b).frame = none ∧ (t.bus b).denied = (s.bus b).denied ∧ t.orfer = s.orfer)
  ∧ (∀ (s : State) (b op : Nat) (f : HostFrame) (x : Frame) (k : Nat), Framed s b x → x.opClass b op = 0x18 → x.opPermits b op s.modeSet = true → x.wip = false → s.addrLen x b (x.opClass b op) ≤ f.sent.length → (s.bus b).readCommand x.cs (x.opClass b op % 8) = some k → ∃ t, exec (.spiRead4byte b op f) s = .next t ∧ t.outbox = [.flash b x.cs k (readAddr s b op f x % 2 ^ 32) [], .data (f.data.zipIdx.map fun d => if s.mayTouch x b 0 (readAddr s b op f x + d.2) then d.1 else 0xFF#8)] ∧ (t.bus b).frame = none ∧ (t.bus b).denied = (s.bus b).denied ∧ t.orfer = s.orfer)
  ∧ (∀ (s : State) (b op : Nat) (f : HostFrame) (x : Frame) (k : Nat), Framed s b x → (x.opClass b op = 0x11 ∨ x.opClass b op = 0x19) → x.opPermits b op s.modeSet = true → x.wip = false → s.addrLen x b (x.opClass b op) ≤ f.sent.length → (s.bus b).readCommand x.cs (x.opClass b op % 8) = some k → ∃ t, exec (.spiFastRead b op f) s = .next t ∧ t.outbox = [.flash b x.cs k (readAddr s b op f x % 2 ^ 32) [], .data (f.data.zipIdx.map fun d => if s.mayTouch x b 0 (readAddr s b op f x + d.2) then d.1 else 0xFF#8)] ∧ (t.bus b).frame = none ∧ (t.bus b).denied = (s.bus b).denied ∧ t.orfer = s.orfer)
  ∧ (∀ (s : State) (b op : Nat) (f : HostFrame) (x : Frame) (k : Nat), Framed s b x → (x.opClass b op = 0x12 ∨ x.opClass b op = 0x1A) → x.opPermits b op s.modeSet = true → x.wip = false → s.addrLen x b (x.opClass b op) ≤ f.sent.length → (s.bus b).readCommand x.cs (x.opClass b op % 8) = some k → ∃ t, exec (.spiDualOutputRead b op f) s = .next t ∧ t.outbox = [.flash b x.cs k (readAddr s b op f x % 2 ^ 32) [], .data (f.data.zipIdx.map fun d => if s.mayTouch x b 0 (readAddr s b op f x + d.2) then d.1 else 0xFF#8)] ∧ (t.bus b).frame = none ∧ (t.bus b).denied = (s.bus b).denied ∧ t.orfer = s.orfer)
  ∧ (∀ (s : State) (b op : Nat) (f : HostFrame) (x : Frame) (k : Nat), Framed s b x → (x.opClass b op = 0x13 ∨ x.opClass b op = 0x1B) → x.opPermits b op s.modeSet = true → x.wip = false → s.addrLen x b (x.opClass b op) ≤ f.sent.length → (s.bus b).readCommand x.cs (x.opClass b op % 8) = some k → ∃ t, exec (.spiDualIoRead b op f) s = .next t ∧ t.outbox = [.flash b x.cs k (readAddr s b op f x % 2 ^ 32) [], .data (f.data.zipIdx.map fun d => if s.mayTouch x b 0 (readAddr s b op f x + d.2) then d.1 else 0xFF#8)] ∧ (t.bus b).frame = none ∧ (t.bus b).denied = (s.bus b).denied ∧ t.orfer = s.orfer)
  ∧ (∀ (s : State) (b op : Nat) (f : HostFrame) (x : Frame) (k : Nat), Framed s b x → (x.opClass b op = 0x14 ∨ x.opClass b op = 0x1C) → x.opPermits b op s.modeSet = true → x.wip = false → s.addrLen x b (x.opClass b op) ≤ f.sent.length → (s.bus b).readCommand x.cs (x.opClass b op % 8) = some k → ∃ t, exec (.spiQuadOutputRead b op f) s = .next t ∧ t.outbox = [.flash b x.cs k (readAddr s b op f x % 2 ^ 32) [], .data (f.data.zipIdx.map fun d => if s.mayTouch x b 0 (readAddr s b op f x + d.2) then d.1 else 0xFF#8)] ∧ (t.bus b).frame = none ∧ (t.bus b).denied = (s.bus b).denied ∧ t.orfer = s.orfer)
  ∧ (∀ (s : State) (b op : Nat) (f : HostFrame) (x : Frame) (k : Nat), Framed s b x → (x.opClass b op = 0x15 ∨ x.opClass b op = 0x1D) → x.opPermits b op s.modeSet = true → x.wip = false → s.addrLen x b (x.opClass b op) ≤ f.sent.length → (s.bus b).readCommand x.cs (x.opClass b op % 8) = some k → ∃ t, exec (.spiQuadIoRead b op f) s = .next t ∧ t.outbox = [.flash b x.cs k (readAddr s b op f x % 2 ^ 32) [], .data (f.data.zipIdx.map fun d => if s.mayTouch x b 0 (readAddr s b op f x + d.2) then d.1 else 0xFF#8)] ∧ (t.bus b).frame = none ∧ (t.bus b).denied = (s.bus b).denied ∧ t.orfer = s.orfer)
  ∧ (∀ (s : State) (b op : Nat) (f : HostFrame) (x : Frame), Framed s b x → x.opClass b op = 0x20 → x.opPermits b op s.modeSet = true → x.wip = false → (s.bus b).quad = true → ∃ t, exec (.spiReadId b op f) s = .next t ∧ t.outbox = [.flash b x.cs 0x9F 0 [], .data f.data] ∧ (t.bus b).frame = none ∧ t.orfer = s.orfer)
  ∧ (∀ (s : State) (b op : Nat) (f : HostFrame) (x : Frame), Framed s b x → x.opClass b op = 0x20 → x.opPermits b op s.modeSet = true → (x.wip = true ∨ (s.bus b).quad = false) → ∃ t, exec (.spiReadId b op f) s = .next t ∧ t.outbox = [.data (ones f.data.length)] ∧ (t.bus b).frame = none ∧ t.orfer = s.orfer)
  ∧ (∀ (s : State) (b op : Nat) (f : HostFrame) (x : Frame), Framed s b x → x.opClass b op = 0x30 → x.opPermits b op s.modeSet = true → 3 ≤ f.sent.length → ∃ t, exec (.spiReadSfdp b op f) s = .next t ∧ t.outbox = [.data (f.data.zipIdx.map fun d => (((KeyMap.find (s.bus b).sfdp x.cs).map (sfdpAdjusted (byteAt (s.bus b).timing 5))).getD []).getD (beNat (f.sent.take 3) + d.2) 0xFF#8)] ∧ (t.bus b).frame = none ∧ t.orfer = s.orfer)
  ∧ (∀ (s : State) (b op : Nat) (f : HostFrame) (x : Frame), Framed s b x → x.opClass b op = 0x40 → x.opPermits b op s.modeSet = true → ∃ t, exec (.spiReadStatus1 b op f) s = .next t ∧ t.outbox = [.data (List.replicate f.data.length (BitVec.ofNat 8 (((s.bus b).shadow x.cs).sr1Byte)))] ∧ (t.bus b).frame = none ∧ t.orfer = s.orfer)
  ∧ (∀ (s : State) (b op : Nat) (f : HostFrame) (x : Frame), Framed s b x → x.opClass b op = 0x41 → x.opPermits b op s.modeSet = true → ∃ t, exec (.spiReadStatus2 b op f) s = .next t ∧ t.outbox = [.data (List.replicate f.data.length (BitVec.ofNat 8 (((s.bus b).shadow x.cs).sr2)))] ∧ (t.bus b).frame = none ∧ t.orfer = s.orfer)
  ∧ (∀ (s : State) (b op : Nat) (f : HostFrame) (x : Frame), Framed s b x → x.opClass b op = 0x42 → x.opPermits b op s.modeSet = true → ∃ t, exec (.spiReadFlagStatus b op f) s = .next t ∧ t.outbox = [.data (List.replicate f.data.length (BitVec.ofNat 8 (((s.bus b).shadow x.cs).flags)))] ∧ (t.bus b).frame = none ∧ t.orfer = s.orfer)
  ∧ (∀ (s : State) (b op : Nat) (f : HostFrame) (x : Frame), Framed s b x → x.opClass b op = 0 → exec (.deniedOpcodeFrame b op f) s = .next (after s ((((quiet s).deny b op x.cs 0 0).emit (.data (ones f.data.length))).endFrame b x.cs false)))

/-- A whole frame of its class's length that the tables let through sets or clears WEL, the address mode or the error bits, arms or performs the reset,
or, with WEL 1, is issued to the flash with its time limit; the frame ends. (From 10.) -/
def Obligations.FlashWriteFramesComplete : Prop :=
  (∀ (s : State) (b op : Nat) (f : HostFrame) (x : Frame), Framed s b x → f.whole = true → s.frameLenOk x b (x.opClass b op) f = true → x.wip = false → x.opPermits b op s.modeSet = true → s.ms.mode ≠ .quarantine → x.opClass b op = 0x51 → ∃ t, exec (.spiWriteEnable b op f) s = .next t ∧ ((t.bus b).shadow x.cs).wel = true ∧ (t.bus b).frame = none ∧ t.outbox = [] ∧ t.orfer = s.orfer)
  ∧ (∀ (s : State) (b op : Nat) (f : HostFrame) (x : Frame), Framed s b x → f.whole = true → s.frameLenOk x b (x.opClass b op) f = true → x.wip = false → x.opPermits b op s.modeSet = true → s.ms.mode ≠ .quarantine → x.opClass b op = 0x50 → ∃ t, exec (.spiWriteDisable b op f) s = .next t ∧ ((t.bus b).shadow x.cs).wel = false ∧ (t.bus b).frame = none ∧ t.outbox = [] ∧ t.orfer = s.orfer)
  ∧ (∀ (s : State) (b op : Nat) (f : HostFrame) (x : Frame), Framed s b x → f.whole = true → s.frameLenOk x b (x.opClass b op) f = true → x.wip = false → x.opPermits b op s.modeSet = true → s.ms.mode ≠ .quarantine → (x.opClass b op = 0x60 ∨ x.opClass b op = 0x68) → ((s.bus b).shadow x.cs).wel = true → s.frameAllowed x b (x.opClass b op) f = true → exec (.spiPageProgram b op f) s = .next (after s (((quiet s).issueOp x b (x.opClass b op) f).endFrame b x.cs false)))
  ∧ (∀ (s : State) (b op : Nat) (f : HostFrame) (x : Frame), Framed s b x → f.whole = true → s.frameLenOk x b (x.opClass b op) f = true → x.wip = false → x.opPermits b op s.modeSet = true → s.ms.mode ≠ .quarantine → (x.opClass b op = 0x64 ∨ x.opClass b op = 0x6C) → ((s.bus b).shadow x.cs).wel = true → s.frameAllowed x b (x.opClass b op) f = true → exec (.spiQuadPageProgram b op f) s = .next (after s (((quiet s).issueOp x b (x.opClass b op) f).endFrame b x.cs false)))
  ∧ (∀ (s : State) (b op : Nat) (f : HostFrame) (x : Frame), Framed s b x → f.whole = true → s.frameLenOk x b (x.opClass b op) f = true → x.wip = false → x.opPermits b op s.modeSet = true → s.ms.mode ≠ .quarantine → (x.opClass b op = 0x70 ∨ x.opClass b op = 0x78) → ((s.bus b).shadow x.cs).wel = true → s.frameAllowed x b (x.opClass b op) f = true → exec (.spiSectorErase b op f) s = .next (after s (((quiet s).issueOp x b (x.opClass b op) f).endFrame b x.cs false)))
  ∧ (∀ (s : State) (b op : Nat) (f : HostFrame) (x : Frame), Framed s b x → f.whole = true → s.frameLenOk x b (x.opClass b op) f = true → x.wip = false → x.opPermits b op s.modeSet = true → s.ms.mode ≠ .quarantine → (x.opClass b op = 0x71 ∨ x.opClass b op = 0x79) → ((s.bus b).shadow x.cs).wel = true → s.frameAllowed x b (x.opClass b op) f = true → exec (.spiBlockErase32k b op f) s = .next (after s (((quiet s).issueOp x b (x.opClass b op) f).endFrame b x.cs false)))
  ∧ (∀ (s : State) (b op : Nat) (f : HostFrame) (x : Frame), Framed s b x → f.whole = true → s.frameLenOk x b (x.opClass b op) f = true → x.wip = false → x.opPermits b op s.modeSet = true → s.ms.mode ≠ .quarantine → (x.opClass b op = 0x72 ∨ x.opClass b op = 0x7A) → ((s.bus b).shadow x.cs).wel = true → s.frameAllowed x b (x.opClass b op) f = true → exec (.spiBlockErase64k b op f) s = .next (after s (((quiet s).issueOp x b (x.opClass b op) f).endFrame b x.cs false)))
  ∧ (∀ (s : State) (b op : Nat) (f : HostFrame) (x : Frame), Framed s b x → f.whole = true → s.frameLenOk x b (x.opClass b op) f = true → x.wip = false → x.opPermits b op s.modeSet = true → s.ms.mode ≠ .quarantine → x.opClass b op = 0x80 → ((s.bus b).shadow x.cs).wel = true → s.frameAllowed x b (x.opClass b op) f = true → exec (.spiChipErase b op f) s = .next (after s (((quiet s).issueOp x b (x.opClass b op) f).endFrame b x.cs false)))
  ∧ (∀ (s : State) (b op : Nat) (f : HostFrame) (x : Frame), Framed s b x → f.whole = true → s.frameLenOk x b (x.opClass b op) f = true → x.wip = false → x.opPermits b op s.modeSet = true → s.ms.mode ≠ .quarantine → (x.opClass b op = 0x90 ∨ x.opClass b op = 0x91) → ((s.bus b).shadow x.cs).wel = true → exec (.spiWriteStatus1 b op f) s = .next (after s (((quiet s).issueOp x b (x.opClass b op) f).endFrame b x.cs false)))
  ∧ (∀ (s : State) (b op : Nat) (f : HostFrame) (x : Frame), Framed s b x → f.whole = true → s.frameLenOk x b (x.opClass b op) f = true → x.wip = false → x.opPermits b op s.modeSet = true → s.ms.mode ≠ .quarantine → x.opClass b op = 0x92 → ((s.bus b).shadow x.cs).wel = true → exec (.spiWriteStatus2 b op f) s = .next (after s (((quiet s).issueOp x b (x.opClass b op) f).endFrame b x.cs false)))
  ∧ (∀ (s : State) (b op : Nat) (f : HostFrame) (x : Frame), Framed s b x → f.whole = true → s.frameLenOk x b (x.opClass b op) f = true → x.wip = false → x.opPermits b op s.modeSet = true → s.ms.mode ≠ .quarantine → x.opClass b op = 0xA1 → ∃ t, exec (.spiEnter4byteMode b op f) s = .next t ∧ ((t.bus b).shadow x.cs).addr4 = true ∧ (t.bus b).frame = none ∧ t.outbox = [] ∧ t.orfer = s.orfer)
  ∧ (∀ (s : State) (b op : Nat) (f : HostFrame) (x : Frame), Framed s b x → f.whole = true → s.frameLenOk x b (x.opClass b op) f = true → x.wip = false → x.opPermits b op s.modeSet = true → s.ms.mode ≠ .quarantine → x.opClass b op = 0xA0 → ∃ t, exec (.spiExit4byteMode b op f) s = .next t ∧ ((t.bus b).shadow x.cs).addr4 = false ∧ (t.bus b).frame = none ∧ t.outbox = [] ∧ t.orfer = s.orfer)
  ∧ (∀ (s : State) (b op : Nat) (f : HostFrame) (x : Frame), Framed s b x → f.whole = true → s.frameLenOk x b (x.opClass b op) f = true → x.wip = false → x.opPermits b op s.modeSet = true → s.ms.mode ≠ .quarantine → x.opClass b op = 0xB0 → ∃ t, exec (.spiResetEnable b op f) s = .next t ∧ ((t.bus b).shadow x.cs).resetEnabled = true ∧ (t.bus b).frame = none ∧ t.outbox = [] ∧ t.orfer = s.orfer)
  ∧ (∀ (s : State) (b op : Nat) (f : HostFrame) (x : Frame), Framed s b x → f.whole = true → s.frameLenOk x b (x.opClass b op) f = true → x.wip = false → x.opPermits b op s.modeSet = true → s.ms.mode ≠ .quarantine → x.opClass b op = 0xB1 → ((s.bus b).shadow x.cs).resetEnabled = true → (s.bus b).ops = [] → (s.bus b).resetWait = [] → ∃ t, exec (.spiReset b op f) s = .next t ∧ ((t.bus b).shadow x.cs).wel = false ∧ ((t.bus b).shadow x.cs).addr4 = false ∧ ((t.bus b).shadow x.cs).resetEnabled = false ∧ t.outbox = [.flash b x.cs 0x66 0 [], .flash b x.cs 0x99 0 []] ∧ t.orfer = s.orfer)
  ∧ (∀ (s : State) (b op : Nat) (f : HostFrame) (x : Frame), Framed s b x → f.whole = true → s.frameLenOk x b (x.opClass b op) f = true → x.wip = false → x.opPermits b op s.modeSet = true → s.ms.mode ≠ .quarantine → x.opClass b op = 0xB1 → ((s.bus b).shadow x.cs).resetEnabled = false → ∃ t, exec (.spiReset b op f) s = .next t ∧ ((t.bus b).shadow x.cs).wel = ((s.bus b).shadow x.cs).wel ∧ t.outbox = [] ∧ (t.bus b).frame = none)
  ∧ (∀ (s : State) (b op : Nat) (f : HostFrame) (x : Frame), Framed s b x → f.whole = true → s.frameLenOk x b (x.opClass b op) f = true → x.wip = false → x.opPermits b op s.modeSet = true → s.ms.mode ≠ .quarantine → x.opClass b op = 0xC0 → ∃ t, exec (.spiClearFlagStatus b op f) s = .next t ∧ ((t.bus b).shadow x.cs).eraseErr = false ∧ ((t.bus b).shadow x.cs).programErr = false ∧ ((t.bus b).shadow x.cs).protect = false ∧ (t.bus b).frame = none ∧ t.orfer = s.orfer)

/-- A flash side that answers comes up; manifests and regions are checked one after another; silence on a digest feed ends it with ST_LEN_SHORT; a
restored area leads to the next or to a warm GATE, one that fails twice to GATE; a poll without WIP and the time limit end an operation; the private
window gathers, stalls, erases and locks. (From 08, 10.) -/
def Obligations.FlashEventsComplete : Prop :=
  (∀ (s : State) (image : Option Bytes), s.alive = true → s.ms.mode = .gate → s.priv.ready = false → byteAt s.priv.timing 0 ≠ 2 → exec (.flashSideUp 2 image none false) s = .next (after s ((let u := (quiet s).startFlash 2 false [(0, image)]; { u with priv := { u.priv with ready := true, density := (image.map sfdpDensity).getD 0 } }))))
  ∧ (∀ (s : State) (image : Bytes), s.alive = true → s.ms.mode = .gate → s.priv.ready = false → byteAt s.priv.timing 0 = 2 → exec (.flashSideUp 2 (some image) none true) s = .next (after s ((let u := (quiet s).startFlash 2 true [(0, some image)]; { u with priv := { u.priv with ready := Config.sfdpOctal image, density := sfdpDensity image } }))))
  ∧ (∀ (s : State) (image : Option Bytes) (octal : Bool), s.alive = true → s.ms.mode = .gate → s.priv.ready = false → byteAt s.priv.timing 0 = 2 → (octal = false ∨ image = none) → exec (.flashSideUp 2 image none octal) s = .next (after s ((let u := (quiet s).startFlash 2 true [(0, image)]; { u with priv := { u.priv with ready := false, density := (image.map sfdpDensity).getD 0 } }))))
  ∧ (∀ (s : State) (b : Nat), s.alive = true → s.ms.mode = .gate → b < 2 → (s.bus b).flashUp = false → s.boot.step = 8 → byteAt (s.bus b).timing 0 ≠ 2 → (s.bus b).verifying ≠ 1 → exec (.flashSideUp b none none false) s = .next (after s (((quiet s).startFlash b false [(0, none), (1, none)]).updBus b fun y => { y with flashUp := true, sfdp := [], density := [] })))
  ∧ (∀ (s : State) (b : Nat) (i j : Bytes) (octal : Bool), s.alive = true → s.ms.mode = .gate → b < 2 → (s.bus b).flashUp = false → s.boot.step = 8 → byteAt (s.bus b).timing 0 ≠ 2 → (s.bus b).verifying ≠ 1 → exec (.flashSideUp b (some i) (some j) octal) s = .next (after s (((quiet s).startFlash b false [(0, some i), (1, some j)]).updBus b fun y => { y with flashUp := true, sfdp := [(0, fit 512 i), (1, fit 512 j)], density := [(0, sfdpDensity i), (1, sfdpDensity j)] })))
  ∧ (∀ (s : State) (b : Nat) (i j : Bytes), s.alive = true → s.ms.mode = .gate → b < 2 → (s.bus b).flashUp = false → s.boot.step = 8 → byteAt (s.bus b).timing 0 = 2 → (s.bus b).verifying ≠ 1 → exec (.flashSideUp b (some i) (some j) true) s = .next (after s (((quiet s).startFlash b true [(0, some i), (1, some j)]).updBus b fun y => { y with flashUp := Config.sfdpOctal i && Config.sfdpOctal j, sfdp := [(0, fit 512 i), (1, fit 512 j)], density := [(0, sfdpDensity i), (1, sfdpDensity j)] })))
  ∧ (∀ (s : State) (b : Nat) (i j : Bytes), s.alive = true → s.ms.mode = .gate → b < 2 → (s.bus b).flashUp = false → s.boot.step = 8 → byteAt (s.bus b).timing 0 = 2 → (s.bus b).verifying = 1 → exec (.flashSideUp b (some i) (some j) false) s = .next (after s ((((quiet s).startFlash b true [(0, some i), (1, some j)]).updBus b fun y => { y with flashUp := false, sfdp := [(0, fit 512 i), (1, fit 512 j)], density := [(0, sfdpDensity i), (1, sfdpDensity j)] }).failBus b ST_FLASH_TIMEOUT)))
  ∧ (∀ (s : State) (b : Nat) (m : Option Bytes), s.alive = true → b < 2 → (s.bus b).verifying ≠ 0 → bit (s.platPolicy b) 0 = true → (s.bus b).flashUp = true → (s.bus b).ops = [] → (s.bus b).toCheck = [] → s.hashReady = true → exec (.manifestCheckComplete b m) s = .next (after s ((let st := s.manifestStatus b m; let u := (quiet s).updBus b fun y => { y with manifest := m, manifestOk := st == ST_OK || st == ST_SVN_ROLLBACK, failing := 0, last := ST_OK }; if st ≠ ST_OK then u.failBus b st else (u.updBus b fun y => { y with toCheck := List.range ((m.map regionCount).getD 0) }).nextRegion b))))
  ∧ (∀ (s : State) (b r : Nat) (d m : Bytes) (rest : List Nat), s.alive = true → b < 2 → (s.bus b).toCheck = r :: rest → (s.bus b).manifest = some m → s.hashReady = true → (s.ms.mode ≠ .recover ∨ (s.bus b).restoring = none) → exec (.regionDigestComplete b r d) s = .next (after s (((quiet s).zeroPace (ceilDiv (((KeyMap.find s.cipher.feeds b).map (·.work)).getD 0) 18)).regionDone b (if fit 48 (d.take (if byteAt (regionEntry m r) 9 = 1 then 32 else 48)) = slice 0x10 48 (regionEntry m r) then ST_OK else ST_DIGEST_MISMATCH))))
  ∧ (∀ (s : State) (i n : Nat) (x : Feed), s.alive = true → KeyMap.find s.cipher.feeds i = some x → 2 ≤ i → ∃ t, exec (.digestFeedSilence 0 i n) s = .next t ∧ KeyMap.find t.cipher.feeds i = some { x with received := min n x.declared, status := ST_LEN_SHORT } ∧ t.now = max s.now (x.lastBeat + 1000000))
  ∧ (∀ (s : State) (i n : Nat) (x : Feed), s.alive = true → KeyMap.find s.cipher.feeds i = some x → i < 2 → exec (.digestFeedSilence 0 i n) s = .next (after s (((quiet s).advance (x.lastBeat + 1000000)).regionDone i ST_LEN_SHORT)))
  ∧ (∀ (s : State) (b a k : Nat) (rest : List Nat) (o : Bool), s.alive = true → b < 2 → s.ms.mode = .recover → (s.bus b).restoring = some ⟨a :: k :: rest, o⟩ → exec (.restoreAreaDone b ST_OK) s = .next (after s (((quiet s).updBus b fun y => { y with restoring := some ⟨k :: rest, false⟩ }).startArea b)))
  ∧ (∀ (s : State) (b a : Nat) (o : Bool), s.alive = true → b < 2 → s.ms.mode = .recover → (s.bus b).restoring = some ⟨[a], o⟩ → exec (.restoreAreaDone b ST_OK) s = .next (after s ((State.areasDone ((quiet s).updBus b fun y => { y with restoring := some ⟨[], false⟩ }) b).finishRestore)))
  ∧ (∀ (s : State) (b st a : Nat) (rest : List Nat), s.alive = true → b < 2 → s.ms.mode = .recover → (s.bus b).restoring = some ⟨a :: rest, false⟩ → (st = ST_LEN_SHORT ∨ st = ST_DIGEST_MISMATCH ∨ st = ST_FLASH_TIMEOUT) → exec (.restoreAreaDone b st) s = .next (after s (((quiet s).updBus b fun y => { y with restoring := some ⟨a :: rest, true⟩ }).startArea b)))
  ∧ (∀ (s : State) (b st a : Nat) (rest : List Nat), s.alive = true → b < 2 → s.ms.mode = .recover → (s.bus b).restoring = some ⟨a :: rest, true⟩ → (st = ST_LEN_SHORT ∨ st = ST_DIGEST_MISMATCH ∨ st = ST_FLASH_TIMEOUT) → exec (.restoreAreaDone b st) s = .next (after s (((((quiet s).updBus b fun y => { y with restoring := none, plat := 2, passed := false, last := st }).trigger 6 st (b + 512)).notify 0 0x0402 st b).gateAfterFailure b)))
  ∧ (∀ (s : State) (b cs v w : Nat) (o : FlashOp), s.alive = true → b < 2 → cs < 2 → KeyMap.find (s.bus b).ops cs = some o → bit v 0 = false → ∃ t, exec (.flashStatusPoll b cs v w) s = .next t ∧ KeyMap.find (t.bus b).ops cs = none ∧ ((t.bus b).shadow cs).wip = false ∧ ((t.bus b).shadow cs).wel = false ∧ ((t.bus b).shadow cs).sr1 = v % 256)
  ∧ (∀ (s : State) (cs v w : Nat), s.alive = true → s.priv.ready = true → bit v 0 = true → exec (.flashStatusPoll 2 cs v w) s = .next (after s ((quiet s))))
  ∧ (∀ (s : State) (cs v w : Nat), s.alive = true → s.priv.ready = true → bit v 0 = false → exec (.flashStatusPoll 2 cs v w) s = .next (after s ((quiet s).privAnswers)))
  ∧ (∀ (s : State) (b cs : Nat) (o : FlashOp), s.alive = true → b < 2 → cs < 2 → KeyMap.find (s.bus b).ops cs = some o → ∃ t, exec (.flashOperationTimeout b cs) s = .next t ∧ KeyMap.find (t.bus b).ops cs = none ∧ ((t.bus b).shadow cs).wip = false ∧ ((t.bus b).shadow cs).programErr = (((s.bus b).shadow cs).programErr || o.cls == 6 || o.cls == 9) ∧ (t.bus b).timeouts = (s.bus b).timeouts + 1 ∧ (t.bus b).last = ST_FLASH_TIMEOUT ∧ t.now = max s.now o.deadline)
  ∧ (∀ (s : State) (who : Master) (off : Nat) (d : Bytes), s.alive = true → reachesPriv who = true → d ≠ [] → off + d.length - 1 < s.priv.density → off + d.length - 1 < 0x10000000 → (who = .facet → s.protects (off / 4096) = false ∧ s.protects ((off + d.length - 1) / 4096) = false) → exec (.pfWindowWrite who (0x40000000 + off) d) s = .next (after s ((quiet s).windowBytesIn off d)))
  ∧ (∀ (s : State), s.alive = true → s.priv.gathered.isSome = true → s.priv.busy = false → exec (.pfGatherTimeout) s = .next (after s (((quiet s).advance (s.priv.gatheredAt + 1000)).issuePage)))
  ∧ (∀ (s : State) (cs : Nat), s.alive = true → s.priv.ready = true → exec (.flashOperationTimeout 2 cs) s = .next (after s (State.endCapture { (quiet s) with priv := { s.priv with failing := true } } false)))
  ∧ (∀ (s : State) (b cs : Nat), s.alive = true → b < 2 → KeyMap.find (s.bus b).ops cs = none → exec (.flashOperationTimeout b cs) s = .next (after s ((quiet s).flashSilent b cs)))
  ∧ (∀ (s : State) (d : Nat), s.alive = true → s.priv.waitSince = some d → ∃ t, exec (.pfStallTimeout) s = .next t ∧ t.priv.timeout = true ∧ t.priv.waiting = [] ∧ t.priv.waitSince = none ∧ t.priv.gathered = none ∧ t.outbox = [.busError] ∧ t.now = max s.now (d + 10000000))
  ∧ (∀ (s : State) (who : Master), s.alive = true → reachesPriv who = true → s.priv.busy = false → s.priv.eraseSize = 0 → (who = .facet → s.protects (s.priv.eraseAddr / 4096 * 4096 / 4096) = false) → ∃ t, exec (.pfEraseGo who) s = .next t ∧ t.priv.busy = true ∧ t.outbox = [.flash 2 0 0x06 0 [], .flash 2 0 0x21 (s.priv.eraseAddr / 4096 * 4096) []] ∧ t.orfer = s.orfer)
  ∧ (∀ (s : State) (pass : Bool) (e : ChipErase), s.alive = true → s.priv.chipErase = some e → exec (.pfEraseDone pass) s = .next (after s ((quiet s).endChipErase e pass)))
  ∧ (∀ (s : State) (pass : Bool), s.alive = true → s.priv.chipErase = none → s.priv.busy = true → s.priv.stalled = none → exec (.pfEraseDone pass) s = .next (after s (State.resumeWindow { (quiet s) with priv := { s.priv with timeout := s.priv.timeout || !pass } })))
  ∧ (∀ (s : State), s.alive = true → exec (.pfLockWrite .apex) s = .next (after s ({ (quiet s) with priv := { s.priv with lock := true } })))
  ∧ (∀ (s : State) (who : Master), s.alive = true → who ≠ .apex → exec (.pfLockWrite who) s = .next (after s ({ (quiet s) with priv := { s.priv with wpFault := true } })))

/-- PLAT_STATUS answers both buses; PLAT_VERIFY starts verification; PLAT_RESET starts a warm GATE; PLAT_RECOVER, PLAT_GOLDEN_CAPTURE and PLAT_SVN_ADVANCE
become class B acts of the device realm; PLAT_RELEASE_RETRY restarts a release held after its attempts; denials and manifests are read. (From 10.) -/
def Obligations.PlatformCommandsComplete : Prop :=
  (∀ (s : State) (p : Port) (q : Request), Asked s p 0x0401 q → exec (.platStatus p) s = .next (after s ((if q.payload.isEmpty then (begun s p q).answer q ST_OK (s.platStatus 0 ++ s.platStatus 1) else (begun s p q).answer q ST_BAD_LENGTH []))))
  ∧ (∀ (s : State) (p : Port) (q : Request), Asked s p 0x0402 q → q.payload.length = 1 → 1 ≤ byteAt q.payload 0 → byteAt q.payload 0 ≤ 3 → exec (.platVerify p) s = .next (after s ([0, 1].foldl (fun u b => if bit (byteAt q.payload 0) b then u.verifyNow b else u) ((begun s p q).answer q ST_OK []))))
  ∧ (∀ (s : State) (p : Port) (q : Request), Asked s p 0x0403 q → exec (.platReset p) s = .next (after s ((if q.payload.isEmpty then ((begun s p q).answer q ST_OK []).platformReset else (begun s p q).answer q ST_BAD_LENGTH []))))
  ∧ (∀ (s : State) (p : Port) (q : Request), Asked s p 0x0404 q → q.payload.length = 1 → 1 ≤ byteAt q.payload 0 → byteAt q.payload 0 ≤ 3 → exec (.platRecover p) s = .next (after s ((if s.recoverCheck (byteAt q.payload 0) ≠ ST_OK then (begun s p q).answer q (s.recoverCheck (byteAt q.payload 0)) [] else (begun s p q).requestDevice q 0x0B))))
  ∧ (∀ (s : State) (p : Port) (q : Request), Asked s p 0x0404 q → q.payload.length = 1 → 1 ≤ byteAt q.payload 0 → byteAt q.payload 0 ≤ 3 → s.recoverCheck (byteAt q.payload 0) = ST_OK → q.realm = 0 → (s.realm 0).admin.isSome = true → s.pendingAct 0 = none → ∃ t, exec (.platRecover p) s = .next t ∧ (∃ a, t.act 0 s.orfer.nextAct = some a ∧ a.opcode = q.opcode ∧ a.cls = 0x0B ∧ a.state = .awaiting) ∧ t.orfer.nextAct = s.orfer.nextAct + 1)
  ∧ (∀ (s : State) (p : Port) (q : Request), Asked s p 0x0405 q → s.rel.phase = .held → 3 ≤ s.rel.attempts → q.payload = [] → exec (.platReleaseRetry p) s = .next (after s (State.startRelease { (begun s p q).answer q ST_OK [] with rel := { s.rel with attempts := 0 } })))
  ∧ (∀ (s : State) (p : Port) (q : Request), Asked s p 0x0406 q → q.payload.length = 1 → byteAt q.payload 0 < 2 → exec (.platGoldenCapture p) s = .next (after s ((begun s p q).requestDevice q 0x0B)))
  ∧ (∀ (s : State) (p : Port) (q : Request), Asked s p 0x0407 q → q.payload.length = 5 → byteAt q.payload 0 < 2 → exec (.platSvnAdvance p) s = .next (after s ((if s.svnOk (byteAt q.payload 0) (field q.payload 1 4) then (begun s p q).requestDevice q 0x0B else (begun s p q).answer q ST_BAD_VALUE []))))
  ∧ (∀ (s : State) (p : Port) (q : Request), Asked s p 0x0407 q → q.payload.length = 5 → byteAt q.payload 0 < 2 → s.svnOk (byteAt q.payload 0) (field q.payload 1 4) = true → q.realm = 0 → (s.realm 0).admin.isSome = true → s.pendingAct 0 = none → ∃ t, exec (.platSvnAdvance p) s = .next t ∧ (∃ a, t.act 0 s.orfer.nextAct = some a ∧ a.opcode = q.opcode ∧ a.cls = 0x0B ∧ a.state = .awaiting) ∧ t.orfer.nextAct = s.orfer.nextAct + 1)
  ∧ (∀ (s : State) (p : Port) (q : Request), Asked s p 0x0408 q → q.payload.length = 1 → byteAt q.payload 0 < 2 → exec (.platDenials p) s = .next (after s ((begun s p q).answer q ST_OK (let x := s.bus (byteAt q.payload 0); u32 x.denied ++ u32 x.malformed ++ u32 x.timeouts ++ x.denials.reverse.flatMap Denial.bytes))))
  ∧ (∀ (s : State) (p : Port) (q : Request) (m : Bytes), Asked s p 0x0409 q → q.payload.length = 2 → byteAt q.payload 0 < 2 → byteAt q.payload 1 = 0 → (s.bus (byteAt q.payload 0)).gateManifest = some m → exec (.platManifestRead p) s = .next (after s ((begun s p q).answer q ST_OK m)))
  ∧ (∀ (s : State) (p : Port) (q : Request), Asked s p 0x0409 q → q.payload.length = 2 → byteAt q.payload 0 < 2 → byteAt q.payload 1 = 0 → (s.bus (byteAt q.payload 0)).gateManifest = none → exec (.platManifestRead p) s = .next (after s ((begun s p q).answer q ST_BAD_VALUE [])))
  ∧ (∀ (s : State) (p : Port) (q : Request), Asked s p 0x0409 q → q.payload.length = 2 → byteAt q.payload 0 < 2 → byteAt q.payload 1 = 1 → KeyMap.find s.priv.golden (byteAt q.payload 0) = none → exec (.platManifestRead p) s = .next (after s ((begun s p q).answer q ST_NO_GOLDEN [])))
  ∧ (∀ (s : State) (p : Port) (q : Request) (g : Golden), Asked s p 0x0409 q → q.payload.length = 2 → byteAt q.payload 0 < 2 → byteAt q.payload 1 = 1 → KeyMap.find s.priv.golden (byteAt q.payload 0) = some g → exec (.platManifestRead p) s = .next (after s ((let r := (begun s p q).readWindow g.place g.manifest.length; r.2.answer q ST_OK r.1))))

/-- Certificates are read in parts and written by a class B act; ATTEST_REPORT is signed with the identity keys; each SPDM request is answered at its
stage, with the connection it leaves, and an unknown one with UnsupportedRequest. (From 11.) -/
def Obligations.AttestationCommandsComplete : Prop :=
  (∀ (s : State) (p : Port) (q : Request), Asked s p 0x0501 q → q.payload.length = 5 → byteAt q.payload 0 ≤ 7 → field q.payload 3 2 ≤ 4000 → field q.payload 1 2 ≤ (s.chain (byteAt q.payload 0)).length → exec (.idCertRead p) s = .next (after s ((begun s p q).answer q ST_OK (slice (field q.payload 1 2) (field q.payload 3 2) (s.chain (byteAt q.payload 0))))))
  ∧ (∀ (s : State) (p : Port) (q : Request), Asked s p 0x0502 q → q.payload ≠ [] → 1 ≤ byteAt q.payload 0 → byteAt q.payload 0 ≤ 7 → exec (.idCertWrite p) s = .next (after s ((if s.chainOk (q.payload.drop 1) then (begun s p q).requestDevice q 0x0B else (begun s p q).answer q ST_BAD_VALUE []))))
  ∧ (∀ (s : State) (p : Port) (q : Request), Asked s p 0x0503 q → q.payload.length = 32 → exec (.attestReport p) s = .next (after s ((if s.ident.keys then (begun s p q).signAnswer q ((begun s p q).report q.realm q.payload) else (begun s p q).answer q ST_OK ((begun s p q).report q.realm q.payload)))))
  ∧ (∀ (s : State) (p : Port) (q : Request) (x : Session), SpdmAsked s p (· == 0x84) q x → q.payload.length = 4 → byteAt q.payload 0 = 0x10 → exec (.spdmGetVersion p) s = .next (after s ((let r := u8 0x10 ++ u8 0x04 ++ zeros 2 ++ u8 0 ++ u8 2 ++ u16 0x1200 ++ u16 0x1300; (begun s p q).spdmReply q ⟨1, q.payload ++ r, [], []⟩ r))))
  ∧ (∀ (s : State) (p : Port) (q : Request) (x : Session), SpdmAsked s p (· == 0x84) q x → q.payload.length ≠ 4 → exec (.spdmGetVersion p) s = .next (after s ((begun s p q).spdmReply q SpdmConn.reset (spdmError 0x10 0x01 0))))
  ∧ (∀ (s : State) (p : Port) (q : Request) (x : Session), SpdmAsked s p (· == 0x84) q x → q.payload.length = 4 → byteAt q.payload 0 ≠ 0x10 → exec (.spdmGetVersion p) s = .next (after s ((begun s p q).spdmReply q SpdmConn.reset (spdmError 0x10 0x41 0))))
  ∧ (∀ (s : State) (p : Port) (q : Request) (x : Session), SpdmAsked s p (· == 0xE1) q x → s.ident.keys = true → (byteAt q.payload 0 = 0x12 ∨ byteAt q.payload 0 = 0x13) → q.payload.length = 20 → x.spdm.stage = 1 → exec (.spdmGetCapabilities p) s = .next (after s ((let r := u8 (byteAt q.payload 0) ++ u8 0x61 ++ zeros 2 ++ u8 0 ++ u8 20 ++ zeros 2 ++ u32 0x36 ++ u32 4032 ++ u32 4032; (begun s p q).spdmReply q { x.spdm with stage := 2, vca := x.spdm.vca ++ q.payload ++ r } r))))
  ∧ (∀ (s : State) (p : Port) (q : Request) (x : Session), SpdmAsked s p (· == 0xE3) q x → s.ident.keys = true → x.spdm.stage = 2 → byteAt q.payload 0 = x.spdm.version → (x.spdm.version = 0x12 ∨ x.spdm.version = 0x13) → 32 ≤ q.payload.length → field q.payload 4 2 = q.payload.length → exec (.spdmNegotiateAlgorithms p) s = .next (after s ((let b := q.payload; let asym := if bit (field b 8 4) 7 then 0x80 else 0; let hash := if bit (field b 12 4) 1 then 0x02 else 0; let meas := byteAt b 6 % 2; let r := u8 (byteAt b 0) ++ u8 0x63 ++ zeros 2 ++ u16 36 ++ u8 meas ++ u8 0 ++ u32 (if meas = 1 then 0x04 else 0) ++ u32 asym ++ u32 hash ++ zeros 16; (begun s p q).spdmReply q { x.spdm with stage := if asym ≠ 0 ∧ hash ≠ 0 then 3 else 2, vca := x.spdm.vca ++ b ++ r } r))))
  ∧ (∀ (s : State) (p : Port) (q : Request) (x : Session), SpdmAsked s p (· == 0x81) q x → s.ident.keys = true → x.spdm.stage = 3 → byteAt q.payload 0 = x.spdm.version → (x.spdm.version = 0x12 ∨ x.spdm.version = 0x13) → q.payload.length = 4 → exec (.spdmGetDigests p) s = .next (after s ((let v := byteAt q.payload 0; let r := u8 v ++ u8 0x01 ++ u8 (if v = 0x13 then 0xFF else 0) ++ u8 s.slotMask ++ s.slotsPresent.flatMap fun i => sha384 (s.spdmChain i); (begun s p q).spdmReply q { x.spdm with transcript := x.spdm.transcript ++ q.payload ++ r, measured := [] } r))))
  ∧ (∀ (s : State) (p : Port) (q : Request) (x : Session), SpdmAsked s p (· == 0x82) q x → s.ident.keys = true → x.spdm.stage = 3 → byteAt q.payload 0 = x.spdm.version → (x.spdm.version = 0x12 ∨ x.spdm.version = 0x13) → q.payload.length = 8 → s.slotsPresent.contains (byteAt q.payload 2 % 16) = true → field q.payload 4 2 < (s.spdmChain (byteAt q.payload 2 % 16)).length → exec (.spdmGetCertificate p) s = .next (after s ((let b := q.payload; let i := byteAt b 2 % 16; let chain := s.spdmChain i; let off := field b 4 2; let n := min (min (field b 6 2) 4024) (chain.length - off); let r := u8 (byteAt b 0) ++ u8 0x02 ++ u8 i ++ u8 0 ++ u16 n ++ u16 (chain.length - off - n) ++ slice off n chain; (begun s p q).spdmReply q { x.spdm with transcript := x.spdm.transcript ++ b ++ r, measured := [] } r))))
  ∧ (∀ (s : State) (p : Port) (q : Request) (x : Session), SpdmAsked s p (· == 0x83) q x → s.ident.keys = true → x.spdm.stage = 3 → byteAt q.payload 0 = x.spdm.version → (x.spdm.version = 0x12 ∨ x.spdm.version = 0x13) → q.payload.length = (if byteAt q.payload 0 = 0x13 then 44 else 36) → s.slotsPresent.contains (byteAt q.payload 2) = true → (byteAt q.payload 3 = 0 ∨ byteAt q.payload 3 = 1 ∨ byteAt q.payload 3 = 0xFF) → exec (.spdmChallenge p) s = .next (after s ((let b := q.payload; let v := byteAt b 0; let i := byteAt b 2; let kind := byteAt b 3; let u := ((begun s p q).draw 32).2; let blocks := blockIndices.filter fun k => kind == 0xFF || Config.inTcb k; let r := u8 v ++ u8 0x03 ++ u8 i ++ u8 (2 ^ i) ++ sha384 (u.spdmChain i) ++ ((begun s p q).draw 32).1 ++ (if kind = 0 then [] else sha384 (blocks.flatMap u.block)) ++ u16 0 ++ (if v = 0x13 then slice 36 8 b else []); let y := u.spdmSign (spdmSigned v "responder-challenge_auth signing" (x.spdm.vca ++ x.spdm.transcript ++ b ++ r)); y.2.spdmReply q { x.spdm with transcript := [], measured := [] } (r ++ y.1)))))
  ∧ (∀ (s : State) (p : Port) (q : Request) (x : Session), SpdmAsked s p (· == 0xE0) q x → s.ident.keys = true → x.spdm.stage = 3 → byteAt q.payload 0 = x.spdm.version → (x.spdm.version = 0x12 ∨ x.spdm.version = 0x13) → bit (byteAt q.payload 2) 0 = false → byteAt q.payload 3 = 0 → q.payload.length = 4 + (if byteAt q.payload 0 = 0x13 then 8 else 0) → exec (.spdmGetMeasurements p) s = .next (after s ((let v := byteAt q.payload 0; let u := ((begun s p q).draw 32).2; let ctx := if v = 0x13 then 8 else 0; let r := u8 v ++ u8 0x60 ++ u8 11 ++ u8 0 ++ u8 0 ++ leBytes 3 0 ++ [] ++ ((begun s p q).draw 32).1 ++ u16 0 ++ q.payload.drop (q.payload.length - ctx); u.spdmReply q { x.spdm with measured := x.spdm.measured ++ q.payload ++ r } r))))
  ∧ (∀ (s : State) (p : Port) (q : Request) (x : Session), SpdmAsked s p (fun code => !spdmKnown code) q x → exec (.spdmUnsupportedRequest p) s = .next (after s ((if s.ident.keys then (begun s p q).spdmReply q x.spdm (spdmError x.spdm.version 0x07 (byteAt q.payload 1)) else (begun s p q).spdmReply q x.spdm (spdmError x.spdm.version 0x05 0)))))

/-- DOMAIN_STATUS, FAULTS, NOTICE_FETCH and RESULT_READ answer what the device holds; CREATE, JOIN_REQUEST, ADMIT, ROLL and LEAVE become acts of the
device realm after their checks; ACCEPT, ROSTER_UPDATE, PACKAGE_LOAD and ACTIVATE become mirrored changes; reports and notices move the tables; their
timers act. (From 11.) -/
def Obligations.DomainCommandsComplete : Prop :=
  (∀ (s : State) (p : Port) (q : Request), Asked s p 0x0510 q → exec (.domainStatus p) s = .next (after s ((if q.payload.isEmpty then (begun s p q).answer q ST_OK (s.domainId ++ u32 s.domainEpoch ++ u64 s.rosterSeqNow ++ u16 ((s.member.map (·.index)).getD 0) ++ u32 ((s.ident.roll.map fun r => rosterEpoch r.roster).getD 0) ++ s.noticeCounters) else (begun s p q).answer q ST_BAD_LENGTH []))))
  ∧ (∀ (s : State) (p : Port) (q : Request), Asked s p 0x0511 q → exec (.domainCard p) s = .next (after s ((if q.payload.isEmpty then (begun s p q).signAnswer q (begun s p q).cardBody else (begun s p q).answer q ST_BAD_LENGTH []))))
  ∧ (∀ (s : State) (p : Port) (q : Request), Asked s p 0x0512 q → q.payload.length = 40 → exec (.domainCreate p) s = .next (after s ((if s.createCheck q.payload ≠ ST_OK then (begun s p q).answer q (s.createCheck q.payload) [] else (begun s p q).requestDevice q 0x0A))))
  ∧ (∀ (s : State) (p : Port) (q : Request), Asked s p 0x0513 q → q.payload.length = 48 → exec (.domainJoinRequest p) s = .next (after s ((begun s p q).requestDevice q 0x0A)))
  ∧ (∀ (s : State) (p : Port) (q : Request), Asked s p 0x0514 q → 48 ≤ q.payload.length → (q.payload.length = blobLenOf q.payload + reportLen + cardLen ∨ q.payload.length = blobLenOf q.payload + reportLen + 2 * cardLen) → exec (.domainAdmit p) s = .next (after s ((if s.admitCheck q.payload ≠ ST_OK then (begun s p q).answer q (s.admitCheck q.payload) [] else (begun s p q).requestDevice q 0x0A))))
  ∧ (∀ (s : State) (p : Port) (q : Request), Asked s p 0x0515 q → exec (.domainAccept p) s = .next (after s ((begun s p q).domainChange q ((begun s p q).acceptDomain q.payload))))
  ∧ (∀ (s : State) (p : Port) (q : Request), Asked s p 0x0516 q → 128 ≤ q.payload.length → q.payload.length = rosterLen q.payload → exec (.domainRosterUpdate p) s = .next (after s ((begun s p q).domainChange q (s.rosterCheck q.payload))))
  ∧ (∀ (s : State) (p : Port) (q : Request), Asked s p 0x0517 q → 48 ≤ q.payload.length → blobLenOf q.payload ≤ q.payload.length → (q.payload.length - blobLenOf q.payload) % 2 = 0 → q.payload.length - blobLenOf q.payload ≤ 8190 → exec (.domainRoll p) s = .next (after s ((if s.rollCheck q.payload ≠ ST_OK then (begun s p q).answer q (s.rollCheck q.payload) [] else (begun s p q).requestDevice q 0x0A))))
  ∧ (∀ (s : State) (p : Port) (q : Request) (d : Domain) (r : Roll), Asked s p 0x0518 q → q.payload.length = cardLen → s.member = some d → s.ident.roll = some r → exec (.domainPackageFetch p) s = .next (after s ((if r.roller = false ∨ cardOk q.payload = false ∨ (rosterFind r.roster (cardDigest q.payload)).isNone then (begun s p q).answer q ST_BAD_VALUE [] else ((begun s p q).package d.id (rosterEpoch r.roster) ((begun s p q).stagedKeys (rosterChannels r.roster)) q.payload).2.answer q ST_OK ((begun s p q).package d.id (rosterEpoch r.roster) ((begun s p q).stagedKeys (rosterChannels r.roster)) q.payload).1))))
  ∧ (∀ (s : State) (p : Port) (q : Request), Asked s p 0x0519 q → exec (.domainPackageLoad p) s = .next (after s ((begun s p q).domainChange q ((begun s p q).loadRoll q.payload))))
  ∧ (∀ (s : State) (p : Port) (q : Request), Asked s p 0x051A q → q.payload.length = 64 + idSigLen → exec (.domainActivate p) s = .next (after s ((begun s p q).domainChange q (s.activationCheck q.payload, .activate))))
  ∧ (∀ (s : State) (p : Port) (q : Request), Asked s p 0x051B q → q.payload = [] → exec (.domainLeave p) s = .next (after s ((if s.ident.domain.isNone then (begun s p q).answer q ST_BAD_VALUE [] else (begun s p q).requestDevice q 0x0A))))
  ∧ (∀ (s : State) (p : Port) (q : Request) (d : Domain), Asked s p 0x051C q → q.payload.length = 7 → s.member = some d → (byteAt q.payload 2 = 1 ∨ byteAt q.payload 2 = 4 ∨ byteAt q.payload 2 = 5) → rosterHas d.roster (field q.payload 0 2) = true → exec (.domainReport p) s = .next (after s (((begun s p q).issueNotice (field q.payload 0 2) (byteAt q.payload 2) (field q.payload 3 4)).answer q ST_OK [])))
  ∧ (∀ (s : State) (p : Port) (q : Request), Asked s p 0x051D q → q.payload.length = 4 → 1 ≤ leNat q.payload → leNat q.payload ≤ 63 → exec (.domainNoticeFetch p) s = .next (after s (State.answer { (begun s p q) with ident := { s.ident with outgoing := s.ident.outgoing.drop (leNat q.payload) } } q ST_OK (s.ident.outgoing.take (leNat q.payload)).flatten)))
  ∧ (∀ (s : State) (p : Port) (q : Request), Asked s p 0x051E q → q.payload.length % 64 = 0 → 1 ≤ q.payload.length / 64 → q.payload.length / 64 ≤ 63 → (blocks 64 q.payload).all noticeClean = true → exec (.domainNoticeIn p) s = .next (after s ((let u := (blocks 64 q.payload).foldl State.takeNotice (begun s p q); u.answer q ST_OK ((List.range 5).flatMap fun i => u32 (KeyMap.get u.ident.counters 0 i - KeyMap.get s.ident.counters 0 i))))))
  ∧ (∀ (s : State) (p : Port) (q : Request), Asked s p 0x051F q → q.payload.length = 4 → 1 ≤ leNat q.payload → leNat q.payload ≤ 64 → exec (.domainFaults p) s = .next (after s ((begun s p q).answer q ST_OK (s.ident.summaries.take (leNat q.payload)).flatten)))
  ∧ (∀ (s : State) (p : Port) (q : Request) (o : Nat × Bytes × Nat), Asked s p 0x0520 q → q.payload.length = 8 → KeyMap.find s.ident.outputs q.realm = some o → o.1 = field q.payload 0 4 → field q.payload 4 4 ≤ o.2.1.length → exec (.domainResultRead p) s = .next (after s ((begun s p q).answer q ST_OK (slice (field q.payload 4 4) 4000 o.2.1))))
  ∧ (∀ (s : State) (e : Coalesce) (rest : List Coalesce), s.alive = true → s.ident.table = e :: rest → exec (.coalesceEntryClose) s = .next (after s (((quiet s).advance (e.first + 1000000000)).closeEntry false)))
  ∧ (∀ (s : State) (k : Bytes × Bytes × Nat), s.alive = true → s.ident.ticket = some k → ∃ t, exec (.joinTicketExpire) s = .next t ∧ t.ident.ticket = none ∧ t.now = max s.now k.2.2)

/-- PAIR_STATUS answers the pair's state; BIND, ACCEPT, UNBIND, TAKEOVER and REKEY become class A acts and UNFENCE a class B act of the device realm after
their checks, and UNBIND, TAKEOVER and UNFENCE are refused where the link lets no act; PAIR_RESULT_READ answers the kept output. (From 12.) -/
def Obligations.PairMailboxCommandsComplete : Prop :=
  (∀ (s : State) (p : Port) (q : Request), Asked s p 0x0601 q → exec (.pairStatus p) s = .next (after s ((if q.payload.isEmpty then (begun s p q).answer q ST_OK s.pairStatusBytes else (begun s p q).answer q ST_BAD_LENGTH []))))
  ∧ (∀ (s : State) (p : Port) (q : Request), Asked s p 0x0602 q → q.payload.length = cardLen → exec (.pairBind p) s = .next (after s ((if s.pairBindCheck q.payload ≠ ST_OK then (begun s p q).answer q (s.pairBindCheck q.payload) [] else (begun s p q).requestDevice q 0x0A))))
  ∧ (∀ (s : State) (p : Port) (q : Request), Asked s p 0x0603 q → q.payload.length = cardLen + pairPackageLen → exec (.pairAccept p) s = .next (after s ((if (s.acceptBinding q.payload).1 ≠ ST_OK then ((begun s p q).skipDraws mlkemDraws).answer q (s.acceptBinding q.payload).1 [] else ((begun s p q).skipDraws mlkemDraws).requestDevice q 0x0A))))
  ∧ (∀ (s : State) (p : Port) (q : Request), Asked s p 0x0604 q → s.pairRefusal = ST_OK → q.payload = [] → exec (.pairUnbind p) s = .next (after s ((begun s p q).requestDevice q 0x0A)))
  ∧ (∀ (s : State) (p : Port) (q : Request), Asked s p 0x0604 q → s.pairRefusal ≠ ST_OK → q.payload = [] → exec (.pairUnbind p) s = .next (after s ((begun s p q).answer q s.pairRefusal [])))
  ∧ (∀ (s : State) (p : Port) (q : Request), Asked s p 0x0605 q → s.pairRefusal = ST_OK → q.payload = [] → exec (.pairTakeover p) s = .next (after s ((begun s p q).requestDevice q 0x0A)))
  ∧ (∀ (s : State) (p : Port) (q : Request), Asked s p 0x0605 q → s.pairRefusal ≠ ST_OK → q.payload = [] → exec (.pairTakeover p) s = .next (after s ((begun s p q).answer q s.pairRefusal [])))
  ∧ (∀ (s : State) (p : Port) (q : Request), Asked s p 0x0606 q → s.pairRefusal = ST_OK → q.payload = [] → exec (.pairUnfence p) s = .next (after s ((begun s p q).requestDevice q 0x0B)))
  ∧ (∀ (s : State) (p : Port) (q : Request), Asked s p 0x0606 q → s.pairRefusal ≠ ST_OK → q.payload = [] → exec (.pairUnfence p) s = .next (after s ((begun s p q).answer q s.pairRefusal [])))
  ∧ (∀ (s : State) (p : Port) (q : Request), Asked s p 0x0607 q → q.payload = [] → exec (.pairRekey p) s = .next (after s ((if s.rekeyCheck ≠ ST_OK then (begun s p q).answer q s.rekeyCheck [] else (begun s p q).requestDevice q 0x0A))))
  ∧ (∀ (s : State) (p : Port) (q : Request) (o : Nat × Bytes × Nat), Asked s p 0x0608 q → q.payload.length = 8 → KeyMap.find s.ident.outputs q.realm = some o → o.1 = field q.payload 0 4 → field q.payload 4 4 ≤ o.2.1.length → exec (.pairResultRead p) s = .next (after s ((begun s p q).answer q ST_OK (slice (field q.payload 4 4) 4000 o.2.1))))

/-- A protected frame that opens and whose sequence number is new acts and is acknowledged; any other is dropped and counted. ADMIT and REL move the
ledger, ACK frees what it confirms, FENCE_TEST marks the pulse as seen, BEAT keeps the link alive. (From 12.) -/
def Obligations.ChordCommandsComplete : Prop :=
  (∀ (s : State) (frame : Bytes), s.alive = true → s.pair.hello = true → s.pair.lanes ≠ 0 → exec (.chordAdmit frame) s = .next (after s (received (quiet s) 3 frame (fun body u => ((blocks 32 body).filter fun b => b.length == 32).foldl (fun u b => let e := ledgerOf b; let rest := u.pair.ledger.filter fun x => !(x.chan == e.chan && x.ring == e.ring && x.slot == e.slot); let size := 2 ^ (u.sq e.chan e.ring).sizeLog2; let head (k : Checkpoint) : Checkpoint := { k with heads := KeyMap.put k.heads e.ring ((e.slot + 1) % size) }; let known := u.pair.ledger.any fun x => x.chan == e.chan && x.ring == e.ring && x.slot == e.slot && x.tag == e.tag; let v := (if u.holds e.chan ∨ known then u else u.updSq e.chan e.ring fun k => let h := (e.slot + 1) % size; { k with head := h, tail := if ringDist size k.head h ≤ ringDist size k.head k.tail then k.tail else h }); v.updPair fun p => { p with ledger := if rest.length < 32768 then rest ++ [e] else rest, checkpoints := match KeyMap.find p.checkpoints e.chan with | some k => KeyMap.put p.checkpoints e.chan (head k) | none => p.checkpoints }) u))))
  ∧ (∀ (s : State) (frame : Bytes), s.alive = true → s.pair.hello = true → s.pair.lanes ≠ 0 → exec (.chordRel frame) s = .next (after s (received (quiet s) 4 frame (fun body u => ((blocks 4 body).filter fun b => b.length == 4).foldl (fun u b => let ch := byteAt b 0; let u := u.updPair fun p => { p with ledger := p.ledger.filter fun x => !(x.chan == ch && x.ring == byteAt b 1 % 4 && x.slot == field b 2 2) }; if u.holds ch then u else u.updCq ch fun k => let w := (k.writeIdx + 1) % 2 ^ k.sizeLog2; { k with writeIdx := w, phase := if w = 0 then !k.phase else k.phase }) u))))
  ∧ (∀ (s : State) (frame : Bytes), s.alive = true → s.pair.hello = true → s.pair.lanes ≠ 0 → exec (.chordAck frame) s = .next (after s (received (quiet s) 5 frame (fun body u => (let n := field body 0 8; let u := u.updPair fun p => { p with acked := max p.acked n, admits := p.admits.filter fun a => decide (n < a.1), rels := p.rels.filter fun r => decide (n < r.1) }; u.bound.foldl State.flushRecords u)))))
  ∧ (∀ (s : State) (frame : Bytes), s.alive = true → s.pair.hello = true → s.pair.lanes ≠ 0 → exec (.chordFenceTest frame) s = .next (after s (received (quiet s) 8 frame (fun _ u => u.updPair fun p => { p with pulseSeen := true, pulseMissed := 0, fenceFault := false, lastTest := some (u.now, true) }))))
  ∧ (∀ (s : State) (frame : Bytes), s.alive = true → s.pair.hello = true → s.pair.lanes ≠ 0 → exec (.chordSync frame) s = .next (after s (received (quiet s) 7 frame (fun body u => if byteAt body 0 = 0 then u.updPair fun p => { p with failback := byteAt body 1 != 0 } else if byteAt body 0 = 10 then u.dropStaged else if byteAt body 0 = 4 ∨ byteAt body 0 = 5 then u.takeRecord body else if u.pair.source = some false then u.updPair fun p => { p with sync := p.sync ++ [body] } else if u.pair.fenceIn ∧ u.pair.source = none then u.updPair fun p => { p with source := some false, synced := false, sync := [body] } else u))))
  ∧ (∀ (s : State) (frame : Bytes), s.alive = true → s.pair.hello = true → s.pair.lanes ≠ 0 → exec (.chordBeat frame) s = .next (after s (received (quiet s) 2 frame (fun body u => (let u := u.slew (field body 8 8); let mseq := field body 0 8; let fenceMe := bit (byteAt body 21) 0; let was := u.pair.fenceMe; let u := u.updPair fun p => { p with beat := true, theirMseq := mseq, fenceMe := fenceMe, checkpoints := [], applied := if p.mseq ≤ mseq then [] else p.applied }; let u := ((blocks checkpointLen (body.drop 22)).filter fun b => b.length == checkpointLen).foldl State.takeCheckpoint u; let u := if discardsStaged (field body 17 4) then u.dropStaged else u; let u := if u.pair.mode = .linkLost then u.resumePaired else u; if fenceMe then (if u.pair.mode = .solo ∨ u.pair.mode = .fenced then u else u.updPair fun p => { p with deadline := some (64000 * p.window) }) else if was && u.pair.mode == .solo && u.pair.fenceOut then u.startSync mseq else if was && u.pair.everPaired && u.pair.mode == .paired then u.updPair fun p => { p with deadline := none } else u)))))
  ∧ (∀ (s : State) (frame : Bytes), s.alive = true → (s.isPaired = false ∨ s.pair.lanes = 0 ∨ s.pair.nonce = []) → exec (.chordHello frame) s = .next (after s ((quiet s).updPair fun p => { p with early := frame })))
  ∧ (∀ (s : State) (frame k : Bytes), s.alive = true → s.isPaired = true → s.pair.lanes ≠ 0 → s.pair.nonce ≠ [] → s.linkKey = some k → exec (.chordHello frame) s = .next (after s ((let u := (quiet s).updPair fun p => { p with early := [] }; if byteAt frame 0 ≠ 2 then u.helloFails .version else if frame.length ≠ 99 ∨ hmac k (frame.take 67) ≠ frame.drop 67 ∨ byteAt frame 2 = s.cfgNat F_PAIR_ROLE 0 ∨ slice 3 16 frame ≠ cardSerial s.pair.card then u.helloFails .linkDown else u.helloAgrees k frame))))

/-- PREPARE is validated, stored and answered READY or NACK; READY names the boundary and sends COMMIT; COMMIT in time is stored and acknowledged;
COMMIT_ACK confirms; NACK and the timeouts end the change with ST_MIRROR_FAIL; ABORT discards; RESOLVE is answered by what this member will do. (From
12.) -/
def Obligations.ExchangeCommandsComplete : Prop :=
  (∀ (s : State) (frame : Bytes), s.alive = true → s.pair.hello = true → s.pair.lanes ≠ 0 → exec (.chordPrepare frame) s = .next (after s (received (quiet s) 6 frame (fun body u => if byteAt body 0 = 1 then (let n := field body 1 8; let rest := body.drop 9; let m := mirroredOf (rest.drop 6); let st := if u.ms.mode = .quarantine then ST_MODE else u.validateMirrored m; if st ≠ ST_OK then u.sendFrame 0x06 (exchangeBody 5 n (u16 st)) else (u.updTheirs n ⟨.prepared, ⟨field rest 0 2, field rest 2 4, none, [], m⟩, 0, u.now + 5000000⟩).sendFrame 0x06 (exchangeBody 2 n [])) else u))))
  ∧ (∀ (s : State) (frame : Bytes), s.alive = true → s.pair.hello = true → s.pair.lanes ≠ 0 → exec (.chordReady frame) s = .next (after s (received (quiet s) 6 frame (fun body u => if byteAt body 0 = 2 then (let n := field body 1 8; match KeyMap.find u.pair.own n with | some e => (if e.phase = .prepared ∧ u.wanted e.change = false then (u.updPair fun p => { p with own := KeyMap.del p.own n }).sendFrame 0x06 (exchangeBody 6 n []) else if e.phase = .prepared then (u.updOwn n { e with phase := .committed, time := ceilDiv (u.now + 16000) revNs * revNs }).sendFrame 0x06 (exchangeBody 3 n (u64 (ceilDiv (u.now + 16000) revNs * revNs))) else u) | none => u.sendFrame 0x06 (exchangeBody 6 n [])) else u))))
  ∧ (∀ (s : State) (frame : Bytes), s.alive = true → s.pair.hello = true → s.pair.lanes ≠ 0 → exec (.chordCommit frame) s = .next (after s (received (quiet s) 6 frame (fun body u => if byteAt body 0 = 3 then (let n := field body 1 8; let rest := body.drop 9; match KeyMap.find u.pair.theirs n with | some e => (if e.phase ≠ .prepared then u else if u.now < field rest 0 8 then (u.updTheirs n { e with phase := .committed, time := field rest 0 8 }).sendFrame 0x06 (exchangeBody 4 n []) else (u.updPair fun p => { p with theirs := KeyMap.del p.theirs n }).sendFrame 0x06 (exchangeBody 5 n (u16 ST_MIRROR_FAIL))) | none => u.sendFrame 0x06 (exchangeBody 5 n (u16 ST_MIRROR_FAIL))) else u))))
  ∧ (∀ (s : State) (frame : Bytes), s.alive = true → s.pair.hello = true → s.pair.lanes ≠ 0 → exec (.chordCommitAck frame) s = .next (after s (received (quiet s) 6 frame (fun body u => if byteAt body 0 = 4 then (let n := field body 1 8; match KeyMap.find u.pair.own n with | some e => (if e.phase = .committed ∧ u.now < e.time then u.updOwn n { e with phase := .confirmed } else if e.phase = .doubt then u.updOwn n { e with phase := .confirmed, time := ceilDiv u.now revNs * revNs } else u) | none => u) else u))))
  ∧ (∀ (s : State) (frame : Bytes), s.alive = true → s.pair.hello = true → s.pair.lanes ≠ 0 → exec (.chordNack frame) s = .next (after s (received (quiet s) 6 frame (fun body u => if byteAt body 0 = 5 then (let n := field body 1 8; match KeyMap.find u.pair.own n with | some e => (if e.phase = .waiting ∨ e.phase = .confirmed then u else (if e.phase = .prepared then u else u.sendFrame 0x06 (exchangeBody 6 n [])).endExchange n e ST_MIRROR_FAIL) | none => u) else u))))
  ∧ (∀ (s : State) (frame : Bytes), s.alive = true → s.pair.hello = true → s.pair.lanes ≠ 0 → exec (.chordAbort frame) s = .next (after s (received (quiet s) 6 frame (fun body u => if byteAt body 0 = 6 then (let n := field body 1 8; match KeyMap.find u.pair.theirs n with | some e => (if e.phase = .prepared then u.updPair fun p => { p with theirs := KeyMap.del p.theirs n } else u) | none => u) else u))))
  ∧ (∀ (s : State) (frame : Bytes), s.alive = true → s.pair.hello = true → s.pair.lanes ≠ 0 → exec (.chordResolve frame) s = .next (after s (received (quiet s) 6 frame (fun body u => if byteAt body 0 = 7 then (let n := field body 1 8; if (match KeyMap.find u.pair.theirs n with | some e => e.phase == .committed | none => false) || (KeyMap.find u.pair.applied n).isSome then u.sendFrame 0x06 (exchangeBody 4 n []) else (u.updPair fun p => { p with theirs := KeyMap.del p.theirs n }).sendFrame 0x06 (exchangeBody 5 n (u16 ST_MIRROR_FAIL))) else u))))
  ∧ (∀ (s : State) (n : Nat) (e : Exchange), s.alive = true → earliest s.pair.own .prepared = some (n, e) → exec (.readyTimeout) s = .next (after s ((((quiet s).advance e.limit).sendFrame 0x06 (exchangeBody 6 n [])).endExchange n e ST_MIRROR_FAIL)))
  ∧ (∀ (s : State) (n : Nat) (e : Exchange), s.alive = true → earliest s.pair.theirs .prepared = some (n, e) → ∃ t, exec (.commitWaitTimeout) s = .next t ∧ KeyMap.find t.pair.theirs n = none ∧ t.now = max s.now e.limit ∧ t.pair.own = s.pair.own)

/-- A trained link takes its good lanes, a lane retrain takes one away; each heartbeat window counts a beat as missed or heard; the fence wire, the
deadline, the test pulse, the time step and the end of resynchronisation change the pair as chapter 12 says. (From 12.) -/
def Obligations.PairEventCommandsComplete : Prop :=
  (∀ (s : State) (a m : Nat × Nat), s.alive = true → s.pair.lanes ≠ 0 → 250 ≤ a.1 → 20 ≤ a.2 → 250 ≤ m.1 → 20 ≤ m.2 → exec (.linkTrained 3 [a, m]) s = .next (after s ((quiet s).updPair fun p => { p with lanes := 3, hello := p.hello, margins := [(0, a), (1, m)] })))
  ∧ (∀ (s : State) (a m : Nat × Nat), s.alive = true → s.pair.lanes = 0 → 250 ≤ a.1 → 20 ≤ a.2 → 250 ≤ m.1 → 20 ≤ m.2 → exec (.linkTrained 3 [a, m]) s = .next (after s (((quiet s).updPair fun p => { p with lanes := 3, hello := false, margins := [(0, a), (1, m)] }).sendHello)))
  ∧ (∀ (s : State) (a m : Nat × Nat), s.alive = true → s.pair.lanes ≠ 0 → 250 ≤ a.1 → 20 ≤ a.2 → (m.1 < 250 ∨ m.2 < 20) → exec (.linkTrained 3 [a, m]) s = .next (after s (((quiet s).updPair fun p => { p with lanes := 1, hello := p.hello, margins := [(0, a), (1, m)] }).noteAlarm)))
  ∧ (∀ (s : State) (a m : Nat × Nat), s.alive = true → s.pair.lanes = 0 → 250 ≤ a.1 → 20 ≤ a.2 → (m.1 < 250 ∨ m.2 < 20) → exec (.linkTrained 3 [a, m]) s = .next (after s ((((quiet s).updPair fun p => { p with lanes := 1, hello := false, margins := [(0, a), (1, m)] }).noteAlarm).sendHello)))
  ∧ (∀ (s : State) (k : Nat) (a m : Nat × Nat), s.alive = true → (a.1 < 250 ∨ a.2 < 20) → (m.1 < 250 ∨ m.2 < 20) → exec (.linkTrained k [a, m]) s = .next (after s ((quiet s))))
  ∧ (∀ (s : State) (i : Nat), s.alive = true → i < 2 → bit s.pair.lanes i = true → exec (.laneRetrain i) s = .next (after s ((quiet s).updPair fun p => { p with lanes := p.lanes - 2 ^ i, hello := p.hello && p.lanes != 2 ^ i })))
  ∧ (∀ (s : State) (i : Nat), s.alive = true → (2 ≤ i ∨ bit s.pair.lanes i = false) → exec (.laneRetrain i) s = .next (after s ((quiet s))))
  ∧ (∀ (s : State), s.alive = true → s.isPaired = false → ∃ t, exec (.heartbeatWindow) s = .next t ∧ t.now = max s.now (64000 * s.pair.window) ∧ t.pair.window = s.pair.window + 1 ∧ t.pair.beat = false ∧ t.pair.missed = (if s.pair.beat then 0 else s.pair.missed + 1) ∧ t.outbox = [])
  ∧ (∀ (s : State), s.alive = true → s.isPaired = true → s.pair.beat = true → s.pair.mode = .paired → s.pair.early = [] → exec (.heartbeatWindow) s = .next (after s ((let u := ((quiet s).advance (64000 * s.pair.window)).updPair fun p => { p with window := p.window + 1, beat := false, missed := 0 }; u.sendFrame 0x02 u.beatBody))))
  ∧ (∀ (s : State), s.alive = true → s.isPaired = true → s.pair.beat = false → s.pair.mode = .paired → s.pair.early = [] → s.pair.missed + 1 ≠ (if s.cfgNat F_PAIR_ROLE 0 = 0 then 16 else 24) → ∃ t, exec (.heartbeatWindow) s = .next t ∧ t.pair.mode = .linkLost ∧ t.pair.missed = s.pair.missed + 1 ∧ t.pair.window = s.pair.window + 1 ∧ t.pair.beat = false ∧ t.ms.mode = s.ms.mode)
  ∧ (∀ (s : State) (d : Nat), s.alive = true → s.pair.deadline = some d → (s.isPaired = false ∨ s.pair.fenceIn = true) → exec (.pairDeadline []) s = .next (after s (((quiet s).advance d).updPair fun p => { p with deadline := none })))
  ∧ (∀ (s : State) (d : Nat) (reads : List (Nat × Bytes)), s.alive = true → s.pair.deadline = some d → s.isPaired = true → s.pair.fenceIn = false → s.pair.mode ≠ .solo → (s.pair.mode ≠ .paired ∨ s.pair.fenceMe = true ∨ s.pair.fenceOut = true) → (s.pair.fenceFault = false ∨ s.pair.fenceOut = true) → exec (.pairDeadline reads) s = .next (after s ((let u := (((quiet s).advance d).updPair fun p => { p with deadline := none }).driveFence true; (u.advance (u.now + 10000)).becomeSolo reads))))
  ∧ (∀ (s : State), s.alive = true → (¬ (s.pair.fenceOut = true ∧ s.cfgNat F_PAIR_ROLE 0 = 0)) → s.pair.mode ≠ .fenced → exec (.fenceInAsserted) s = .next (after s ((((quiet s).updPair fun p => { p with fenceIn := true }).driveFence false).fence)))
  ∧ (∀ (s : State), s.alive = true → s.pair.fenceOut = true → s.cfgNat F_PAIR_ROLE 0 = 0 → ∃ t, exec (.fenceInAsserted) s = .next t ∧ t.pair.fenceIn = true ∧ t.pair.mode = s.pair.mode ∧ t.pair.fenceOut = true ∧ t.ms = s.ms)
  ∧ (∀ (s : State), s.alive = true → s.pair.mode = .fenced → exec (.fenceInReleased) s = .next (after s ((quiet s).unfence.kickAll)))
  ∧ (∀ (s : State), s.alive = true → s.pair.mode ≠ .fenced → s.pair.fenceIn = true → s.ms.gates.fenced = false → exec (.fenceInReleased) s = .next (after s (((quiet s).updPair fun p => { p with fenceIn := false }).kickAll)))
  ∧ (∀ (s : State), s.alive = true → s.pair.mode ≠ .fenced → s.pair.fenceIn = false → exec (.fenceInReleased) s = .next (after s ((quiet s).sendFrame 0x08 [])))
  ∧ (∀ (s : State) (d : Nat), s.alive = true → s.pair.pulseAt = some d → s.pair.mode = .paired → s.pair.pulseSeen = true → ∃ t, exec (.fenceTestPulse) s = .next t ∧ t.outbox = [.drive .fenceOut true, .drive .fenceOut false] ∧ t.pair.pulseMissed = 0 ∧ t.pair.pulseSeen = false ∧ t.pair.pulseAt = some (d + 1000000000))
  ∧ (∀ (s : State) (d : Nat), s.alive = true → s.pair.pulseAt = some d → s.pair.mode = .paired → s.pair.pulseSeen = false → s.pair.pulseMissed = 0 → ∃ t, exec (.fenceTestPulse) s = .next t ∧ t.outbox = [.drive .fenceOut true, .drive .fenceOut false] ∧ t.pair.pulseMissed = 1 ∧ t.pair.fenceFault = s.pair.fenceFault ∧ t.pair.lastTest = some (d, false) ∧ t.pair.pulseAt = some (d + 1000000000))
  ∧ (∀ (s : State), s.alive = true → (s.pair.pulseAt = none ∨ s.pair.mode ≠ .paired) → exec (.fenceTestPulse) s = .next (after s ((quiet s))))
  ∧ (∀ (s : State) (d : Int), s.alive = true → s.pair.timeStep = some d → (s.bound.any fun ch => !(s.chan ch).admitted.isEmpty) = false → exec (.timeStep) s = .next (after s ((let n := ((s.now : Int) + d).toNat; State.kickAll (State.trigger { (quiet s) with now := n, wheel := { s.wheel with revolution := ceilDiv n revNs, sector := ceilDiv n sectorNs }, pair := { s.pair with timeStep := none, window := ceilDiv n 64000 } } 7 0 (s.pair.mode.code + 256))))))
  ∧ (∀ (s : State), s.alive = true → (s.pair.timeStep = none ∨ (s.bound.any fun ch => !(s.chan ch).admitted.isEmpty) = true) → exec (.timeStep) s = .next (after s ((quiet s))))
  ∧ (∀ (s : State), s.alive = true → s.pair.hello = true → s.pair.timeStep = none → s.pair.source = some true → exec (.resyncComplete) s = .next (after s ((((quiet s).advance (ceilDiv s.now revNs * revNs)).driveFence false).enterPaired.kickAll)))
  ∧ (∀ (s : State), s.alive = true → s.pair.hello = true → s.pair.timeStep = none → s.pair.source = some false → syncOf s.pair.sync 9 ≠ [] → exec (.resyncComplete) s = .next (after s ((let u := ((quiet s).advance (ceilDiv s.now revNs * revNs)).applySync; if u.pair.fenceIn then u.updPair fun p => { p with source := none } else u.enterPaired.kickAll))))
  ∧ (∀ (s : State), s.alive = true → (s.pair.hello = false ∨ s.pair.timeStep.isSome = true ∨ s.pair.source = none ∨ (s.pair.source = some false ∧ syncOf s.pair.sync 9 = [])) → exec (.resyncComplete) s = .next (after s ((quiet s))))

/-- A new trip of an armed detector is an alarm event at its severity; a stimulation test is judged; a lockstep or bus mismatch is a fault of its tile;
the cell's states, timers and gauge move, and G_CELL_LOW follows. (From 13.) -/
def Obligations.SentinelEventsComplete : Prop :=
  (∀ (s : State) (d : Nat) (k : TileClock) (m : Sample), s.ms.mode ≠ .off → d < 22 → ((quiet s).sampled k m).armed d = true → (s.det d).tripped = false → ((quiet s).sampled k m).compares m d = true → exec (.detectorTrip [d] k m) s = .next (after s ((((quiet s).sampled k m).updDet d fun x => { x with tripped := true }).alarmEvent [d] 1 k.tile)))
  ∧ (∀ (s : State) (k : TileClock) (m : Sample), s.ms.mode ≠ .off → ((quiet s).sampled k m).glitchSpan.1 ≤ m.core + 80 → m.core ≤ ((quiet s).sampled k m).glitchSpan.2 + 80 → exec (.detectorTrip [15] k m) s = .next (after s ((quiet s).sampled k m)))
  ∧ (∀ (s : State) (d : Nat) (k : TileClock) (m : Sample), s.ms.mode = .sentinel → d < 22 → s.armed d = true → (s.det d).tripped = false → d ≠ 15 → d ≠ 16 → exec (.detectorTrip [d] k m) s = .next (after s ((State.updDet { (quiet s) with tamper := { s.tamper with rtc := s.tamper.rtc + m.elapsed } } d fun x => { x with tripped := true }).alarmEvent [d] 1 k.tile)))
  ∧ (∀ (s : State) (ds : List Nat) (k : TileClock) (m : Sample), s.ms.mode = .off → exec (.detectorTrip ds k m) s = .next (after s ((quiet s))))
  ∧ (∀ (s : State) (d : Nat), d < 22 → s.armed d = true → ∃ t, exec (.detectorQuiet d) s = .next t ∧ (t.det d).tripped = false ∧ t.ms = s.ms ∧ t.outbox = [])
  ∧ (∀ (s : State) (d tile n : Nat) (x : Bool), 6 ≤ d → d < 22 → s.armed d = true → (s.det d).testDue = some n → exec (.detectorStimulationTest d x tile) s = .next (after s ((let u := if s.ms.mode = .sentinel then { (quiet s) with tamper := { s.tamper with rtc := max s.tamper.rtc n } } else (quiet s).advance n; (u.stimulate d x tile).drawTest d))))
  ∧ (∀ (s : State) (d tile : Nat) (x : Bool), (d < 6 ∨ 22 ≤ d ∨ s.armed d = false ∨ (s.det d).testDue = none) → exec (.detectorStimulationTest d x tile) s = .next (after s ((quiet s))))
  ∧ (∀ (s : State), s.alive = true → exec (.lockstepDisagree) s = .next (after s (State.fatalFault { (quiet s) with free := s.free + 1 } (2 ^ 31) s.freeStatus 0 none)))
  ∧ (∀ (s : State) (a b : Nat), s.alive = true → exec (.busIntegrityMismatch a b) s = .next (after s ((if fatalTile a || fatalTile b then (quiet s).fatalFault (2 ^ 29) ST_INTEGRITY b (some b) else ((quiet s).alarm ⟨2 ^ 29, 3, false, some b, [(0xFF, 3)], [], some (ST_INTEGRITY, b)⟩ none).1))))
  ∧ (∀ (s : State), (s.supply.sentinel = false ∨ s.ms.mode = .sentinel) → ∃ t, exec (.sentinelPowerOn) s = .next t ∧ t.supply.sentinel = true ∧ t.ms.mode = .sentinel ∧ t.tamper.log = [] ∧ t.tamper.powerOn = true ∧ t.tamper.rtc = 0 ∧ t.tamper.cell.chg = s.tamper.cell.chg)
  ∧ (∀ (s : State), s.supply.sentinel = true → s.ms.mode ≠ .sentinel → exec (.sentinelPowerOn) s = .next (after s ((quiet s))))
  ∧ (∀ (s : State) (v : Nat) (i : Int) (n : Option Int), s.alive = true → exec (.cellStateChange v i n) s = .next (after s ((let j := if s.tamper.cell.chg then i else min i 0; (State.enterCell { (quiet s) with tamper := { s.tamper with cell := { s.tamper.cell with vbat := v, current := j, ntc := n } } } (s.nextCell v j n)).cellGate))))
  ∧ (∀ (s : State) (d : Nat), s.alive = true → s.tamper.cell.since = some d → charging s.tamper.cell.state = true → exec (.chargerTimerExpire) s = .next (after s ((((quiet s).advance (d + (if s.tamper.cell.state = 1 then 3600000000000 else 36000000000000))).enterCell 7).cellGate)))
  ∧ (∀ (s : State) (v : Nat), s.alive = true → s.tamper.cell.estimate = 1 → ∃ t, exec (.chargeEstimate v) s = .next t ∧ t.tamper.cell.vbat = v ∧ t.tamper.cell.estimate = 2 ∧ t.tamper.cell.remaining = (restingPercent (v + 4200 - s.chgMv) - 10) * s.tamper.cell.learned / 100)
  ∧ (∀ (s : State) (n : Nat), s.supply.sentinel = true → s.alive = false → exec (.gaugeLevelCross n) s = .next (after s ({ (quiet s) with tamper := { s.tamper with cell := { s.tamper.cell with remaining := n } } })))
  ∧ (∀ (s : State) (n : Nat), s.alive = true → s.supply.sentinel = true → ∃ t, exec (.gaugeLevelCross n) s = .next t ∧ t.tamper.cell.remaining = n ∧ t.ms.mode = s.ms.mode ∧ t.ms.gates.cellLow = (if s.boot.facet = false then s.ms.gates.cellLow else if s.cellLess then false else if t.soc < s.cfgNat F_CELL_FLOOR 0 then true else if s.cfgNat F_CELL_FLOOR 0 + 5 ≤ t.soc then false else s.ms.gates.cellLow))
  ∧ (∀ (s : State) (b : Bool), exec (.chgSupplyChange b) s = .next (after s ({ (quiet s) with tamper := { s.tamper with cell := { s.tamper.cell with chg := b, current := if b then s.tamper.cell.current else min s.tamper.cell.current 0 } } })))

/-- TAMPER_STATUS, CELL_STATUS and SENTINEL_LOG_READ answer the Sentinel domain's state; DETECTOR_TEST runs a stimulation; ZEROISE and RTC_SET become
class B acts of the device realm. (From 13.) -/
def Obligations.SentinelMailboxCommandsComplete : Prop :=
  (∀ (s : State) (p : Port) (q : Request), Asked s p 0x0701 q → exec (.tamperStatus p) s = .next (after s ((if q.payload.isEmpty then (begun s p q).answer q ST_OK ((List.range 22).flatMap s.detectorRecord ++ u16 s.evidence ++ u8 s.tamper.alarmSev ++ u8 (flag s.tamper.tamperState) ++ u8 (flag s.tamper.rtcValid) ++ zeros 3) else (begun s p q).answer q ST_BAD_LENGTH []))))
  ∧ (∀ (s : State) (p : Port) (q : Request), Asked s p 0x0702 q → exec (.cellStatus p) s = .next (after s ((if q.payload.isEmpty then State.answer { (begun s p q) with free := s.free + 1 } q ST_OK (u8 s.tamper.cell.state ++ u8 s.soc ++ u16 (s.tamper.cell.learned / 1000) ++ u16 s.tamper.cell.vbat ++ u16 (signed64 s.tamper.cell.current % 65536) ++ (match s.tamper.cell.ntc with | some k => u16 (signed64 k % 65536) | none => fit 2 (Config.freeValue s.free)) ++ u8 (s.cfgNat F_CELL_POLICY 0) ++ u8 (s.cfgNat F_CELL_FLOOR 0) ++ u8 (flag s.ms.gates.cellLow)) else (begun s p q).answer q ST_BAD_LENGTH []))))
  ∧ (∀ (s : State) (p : Port) (q : Request), Asked s p 0x0703 q → exec (.sentinelLogRead p) s = .next (after s ((if q.payload.isEmpty then (begun s p q).answer q ST_OK s.sentinelLog else (begun s p q).answer q ST_BAD_LENGTH []))))
  ∧ (∀ (s : State) (p : Port) (q : Request) (x : Bool) (tile : Nat), Asked s p 0x0704 q → q.payload.length = 1 → 6 ≤ leNat q.payload → leNat q.payload ≤ 21 → exec (.detectorTest p x tile) s = .next (after s (((begun s p q).stimulate (leNat q.payload) x tile).answer q ST_OK (u8 (if x then 1 else 2)))))
  ∧ (∀ (s : State) (p : Port) (q : Request), Asked s p 0x0705 q → exec (.zeroiseCommand p) s = .next (after s ((if q.payload.isEmpty then (begun s p q).requestDevice q 0x0B else (begun s p q).answer q ST_BAD_LENGTH []))))
  ∧ (∀ (s : State) (p : Port) (q : Request), Asked s p 0x0705 q → q.payload = [] → q.realm = 0 → (s.realm 0).admin.isSome = true → s.pendingAct 0 = none → ∃ t, exec (.zeroiseCommand p) s = .next t ∧ (∃ a, t.act 0 s.orfer.nextAct = some a ∧ a.opcode = q.opcode ∧ a.cls = 0x0B ∧ a.state = .awaiting) ∧ t.orfer.nextAct = s.orfer.nextAct + 1 ∧ t.keys = s.keys)
  ∧ (∀ (s : State) (p : Port) (q : Request), Asked s p 0x0706 q → q.payload.length = 6 → exec (.rtcSet p) s = .next (after s ((begun s p q).requestDevice q 0x0B)))

/-- The front program of the queue is pulsed, checked and recorded; the factory operations queue their words in their lifecycle states; LC_STATUS and
OTP_READ answer; commissioning, recommissioning and scrap become class A acts after their checks. (From 14.) -/
def Obligations.LifecycleCommandsComplete : Prop :=
  (∀ (s : State) (w b lo hi : Nat) (j : OtpJob) (rest : List OtpJob) (x : Nat × Nat), s.alive = true → s.otp.jobs = j :: rest → (lockedBy j).any (fun n => !State.complete { (quiet s) with otp := { s.otp with jobs := rest, jobSince := s.now } } n) = false → s.jobBits j = some x → exec (.otpWordProgram w b lo hi) s = .next (after s (State.afterStep3 (let u := (State.pulse { (quiet s) with otp := { s.otp with jobs := rest, jobSince := s.now } } x.1 x.2 lo hi).closeForGood; if u.programmed x.1 x.2 then (u.trigger 11 ST_OK x.1).afterProgram j else (u.trigger 11 ST_OTP_PROGRAM x.1).programFailed j ST_OTP_PROGRAM))))
  ∧ (∀ (s : State) (w b lo hi : Nat) (j : OtpJob) (rest : List OtpJob), s.alive = true → s.otp.jobs = j :: rest → (lockedBy j).any (fun n => !State.complete { (quiet s) with otp := { s.otp with jobs := rest, jobSince := s.now } } n) = false → s.jobBits j = none → exec (.otpWordProgram w b lo hi) s = .next (after s (State.afterStep3 (State.afterProgram { (quiet s) with otp := { s.otp with jobs := rest, jobSince := s.now } } j))))
  ∧ (∀ (s : State) (w b lo hi : Nat), s.alive = true → s.otp.jobs = [] → s.isTest = true → s.factoryOpen = true → s.otp.testDisable = false → otpListed w = true → exec (.otpWordProgram w b lo hi) s = .next (after s ((quiet s).pulse w (b % 2 ^ 32) lo hi)))
  ∧ (∀ (s : State), s.alive = true → s.isBlank = true → s.factoryOpen = true → s.otp.jobs = [] → 3 ≤ s.boot.step → exec (.factoryBlankToTest) s = .next (after s ((quiet s).programWord 0 none .nothing)))
  ∧ (∀ (s : State) (k : Nat) (d : Bytes), s.alive = true → s.isTest = true → s.factoryOpen = true → s.boot.apex = true → s.otp.jobs = [] → k < 2 → s.unused (9 + k) = true → exec (.factoryEnrolment k d) s = .next (after s ((quiet s).programAll (regionJobs (9 + k) d none .nothing))))
  ∧ (∀ (s : State), s.alive = true → s.isTest = true → s.factoryOpen = true → s.boot.apex = true → s.otp.jobs = [] → s.otp.bootKeys ≠ 0 → exec (.factoryTestToProduction) s = .next (after s ((if s.passes 0 ∧ s.passes 1 ∧ s.passes 6 ∧ (s.passes 9 ∨ s.passes 10) then ((quiet s).programWord 4 none .nothing).programWord 1 none .production else (quiet s)))))
  ∧ (∀ (s : State), s.alive = true → s.factoryOpen = true → s.otp.jobs = [] → (3 ≤ s.boot.step ∨ (s.isTest = true ∧ s.boot.step = 0)) → exec (.factoryScrap) s = .next (after s ((quiet s).startScrap none)))
  ∧ (∀ (s : State) (p : Port) (q : Request), Asked s p 0x0801 q → exec (.lcStatus p) s = .next (after s ((if q.payload.isEmpty then (begun s p q).answer q ST_OK (u8 s.lifecycleCode ++ u16 s.evidence ++ u32 s.qmark ++ u32 s.recom ++ u32 s.apexArb ++ u32 s.facetArb ++ ((List.range 11).flatMap fun n => u8 (flag (s.locked n) + 2 * flag (s.passes n))) ++ u8 s.otp.bootKeys ++ (otpMap.flatMap fun r => u32 (s.marginalIn r.1 r.2)) ++ u8 (flag s.jtag.flag) ++ u8 (flag s.boot.shadowFailed)) else (begun s p q).answer q ST_BAD_LENGTH []))))
  ∧ (∀ (s : State) (p : Port) (q : Request), Asked s p 0x0802 q → q.payload.length = 4 → field q.payload 2 2 ≤ 1000 → field q.payload 0 2 + field q.payload 2 2 ≤ 2048 → exec (.otpRead p) s = .next (after s ((begun s p q).answer q ST_OK ((List.range (field q.payload 2 2)).flatMap fun i => u32 (if helperWord (field q.payload 0 2 + i) then 0 else s.otpWord (field q.payload 0 2 + i))))))
  ∧ (∀ (s : State) (p : Port) (q : Request), Asked s p 0x0803 q → q.realm = 0 → exec (.lcCommission p) s = .next (after s ((if s.commissionCheck q.payload ≠ ST_OK then (begun s p q).answer q (s.commissionCheck q.payload) [] else (begun s p q).requestFree q 0x0A))))
  ∧ (∀ (s : State) (p : Port) (q : Request), Asked s p 0x0804 q → q.realm = 0 → exec (.lcRecommission p) s = .next (after s ((if s.recommissionCheck q.payload ≠ ST_OK then (begun s p q).answer q (s.recommissionCheck q.payload) [] else ((begun s p q).requestFree q 0x0A).assembleUnowned))))
  ∧ (∀ (s : State) (p : Port) (q : Request), Asked s p 0x0805 q → q.realm = 0 → exec (.lcScrap p) s = .next (after s ((if s.scrapCheck q.payload ≠ ST_OK then (begun s p q).answer q (s.scrapCheck q.payload) [] else if s.ms.mode = .quarantine then (begun s p q).requestFree q 0x0A else (begun s p q).request q 0x0A))))

/-- DEBUG_CHALLENGE draws a nonce for the session; DEBUG_OPEN spends it and becomes a class A act where the token verifies; closing and the lifetime's end
restart the device in a cold GATE with CAUSE 3; DEBUG_DISABLE becomes a class A act in PRODUCTION. (From 14.) -/
def Obligations.DebugCommandsComplete : Prop :=
  (∀ (s : State) (p : Port) (q : Request), Asked s p 0x0806 q → exec (.debugChallenge p) s = .next (after s ((if q.payload.isEmpty then (((begun s p q).draw 16).2.updSession q.session fun x => { x with debugNonce := some (((begun s p q).draw 16).1, s.now + 300000000000) }).answer q ST_OK ((begun s p q).draw 16).1 else (begun s p q).answer q ST_BAD_LENGTH []))))
  ∧ (∀ (s : State) (p : Port) (q : Request), Asked s p 0x0807 q → q.payload.length = 7952 → exec (.debugOpen p) s = .next (after s ((if s.debugCheck ≠ ST_OK then (begun s p q).answer q s.debugCheck [] else (let u := (begun s p q).updSession q.session fun x => { x with debugNonce := none }; if u.tokenOk ((s.session q.session).bind (·.debugNonce)) q.payload then u.requestDevice q 0x0A else u.answer q ST_DEBUG_TOKEN [])))))
  ∧ (∀ (s : State) (p : Port) (q : Request), Asked s p 0x0808 q → q.payload = [] → exec (.debugClose p) s = .next (after s ((if s.jtag.limit.isSome then ((begun s p q).answer q ST_OK []).closeJtag.coldGate false 3 else (begun s p q).answer q ST_OK []))))
  ∧ (∀ (s : State) (d : Nat), s.alive = true → s.jtag.limit = some d → exec (.debugLifetimeExpire) s = .next (after s (((quiet s).advance d).closeJtag.coldGate false 3)))
  ∧ (∀ (s : State) (p : Port) (q : Request), Asked s p 0x0809 q → q.payload = [] → exec (.debugDisablePermanent p) s = .next (after s ((if s.isProduction then (begun s p q).requestDevice q 0x0A else (begun s p q).answer q ST_LIFECYCLE []))))

/-- FW_STATUS answers the slots; the inactive slot is erased, staged in order and verified; activation, SVN commit and key revocation become class A acts
of the device realm after their checks; the restart is a cold GATE with CAUSE 3. (From 14.) -/
def Obligations.FirmwareCommandsComplete : Prop :=
  (∀ (s : State) (p : Port) (q : Request), Asked s p 0x0A01 q → exec (.fwStatus p) s = .next (after s ((if q.payload.isEmpty then (begun s p q).answer q ST_OK (let one (k : Nat) : Bytes := s.slotStatus k 0 ++ s.slotStatus k 1 ++ u8 (s.activeSlot k) ++ u8 (KeyMap.get s.fw.running 0 k) ++ u8 (flag (KeyMap.get s.fw.fallback false k)); one 1 ++ one 2 ++ u16 s.apexArb ++ u16 s.facetArb) else (begun s p q).answer q ST_BAD_LENGTH []))))
  ∧ (∀ (s : State) (p : Port) (q : Request), Asked s p 0x0A02 q → q.payload.length = 1 → kindOk (byteAt q.payload 0) = true → exec (.fwSlotErase p) s = .next (after s ((if s.fw.erasing.isSome then (begun s p q).answer q ST_ADMIN_BUSY [] else (State.putImage { (begun s p q) with fw := { s.fw with erasing := some (byteAt q.payload 0) } } (byteAt q.payload 0) (s.inactiveSlot (byteAt q.payload 0)) []).answer q ST_OK []))))
  ∧ (∀ (s : State) (k : Nat), s.alive = true → s.fw.erasing = some k → exec (.fwSlotEraseDone true) s = .next (after s (State.notify { (quiet s) with fw := { s.fw with erasing := none } } 0 0x0A01 ST_OK k)))
  ∧ (∀ (s : State) (k : Nat), s.alive = true → s.fw.erasing = some k → exec (.fwSlotEraseDone false) s = .next (after s ((State.putImage { (quiet s) with fw := { s.fw with erasing := none }, free := s.free + 1 } k (s.inactiveSlot k) (Config.freeValue s.free)).notify 0 0x0A01 ST_FLASH_TIMEOUT k)))
  ∧ (∀ (s : State) (p : Port) (q : Request), Asked s p 0x0A03 q → 6 ≤ q.payload.length → q.payload.length ≤ 4005 → kindOk (byteAt q.payload 0) = true → s.fw.erasing = none → field q.payload 1 4 = (s.image (byteAt q.payload 0) (s.inactiveSlot (byteAt q.payload 0))).length → field q.payload 1 4 + (q.payload.length - 5) ≤ slotSize (byteAt q.payload 0) → exec (.fwStage p) s = .next (after s (((begun s p q).putImage (byteAt q.payload 0) (s.inactiveSlot (byteAt q.payload 0)) (s.image (byteAt q.payload 0) (s.inactiveSlot (byteAt q.payload 0)) ++ q.payload.drop 5)).answer q ST_OK [])))
  ∧ (∀ (s : State) (p : Port) (q : Request), Asked s p 0x0A04 q → q.payload.length = 1 → kindOk (byteAt q.payload 0) = true → exec (.fwStageEnd p) s = .next (after s ((if s.fw.erasing.isSome then (begun s p q).answer q ST_ADMIN_BUSY [] else (begun s p q).answer q ST_OK (u16 (s.verifySlot (byteAt q.payload 0) (s.inactiveSlot (byteAt q.payload 0))))))))
  ∧ (∀ (s : State) (p : Port) (q : Request), Asked s p 0x0A05 q → exec (.fwActivate p) s = .next (after s ((if s.activateCheck q.payload ≠ ST_OK then (begun s p q).answer q (s.activateCheck q.payload) [] else (begun s p q).requestDevice q 0x0A))))
  ∧ (∀ (s : State) (d : Nat), s.alive = true → s.fw.restartAt = some d → exec (.fwActivateRestart) s = .next (after s (((quiet s).advance d).coldGate false 3)))
  ∧ (∀ (s : State) (p : Port) (q : Request), Asked s p 0x0A06 q → q.payload = [] → exec (.fwSvnCommit p) s = .next (after s ((if s.svnBeyond then (begun s p q).answer q ST_COUNTER_FULL [] else (begun s p q).requestDevice q 0x0A))))
  ∧ (∀ (s : State) (p : Port) (q : Request), Asked s p 0x0A07 q → exec (.fwKeyRevoke p) s = .next (after s ((if s.revokeCheck q.payload ≠ ST_OK then (begun s p q).answer q (s.revokeCheck q.payload) [] else (begun s p q).requestDevice q 0x0A))))

/-- The journal is flushed at its limit and again after a failure; room after drops is reported; periodic triggers, samples and checkpoints act at their
instants; the recorder's mailbox group answers or becomes acts. (From 15.) -/
def Obligations.RecorderCommandsComplete : Prop :=
  (∀ (s : State) (pass : Bool) (d : Nat), s.alive = true → s.recorder.flushBy = some d → s.recorder.running = true → s.recorder.retryAt = none → exec (.journalFlush pass) s = .next (after s (((quiet s).advance d).flush pass)))
  ∧ (∀ (s : State) (pass : Bool) (d : Nat), s.alive = true → s.recorder.retryAt = some d → s.recorder.running = true → exec (.journalFlushRetry pass) s = .next (after s (((quiet s).advance d).flush pass)))
  ∧ (∀ (s : State), s.alive = true → s.recorder.running = true → s.recorder.dropped ≠ 0 → s.recorder.staging.length < 64 → exec (.recorderRoomReturns) s = .next (after s ((State.trigger { (quiet s) with recorder := { s.recorder with dropped := 0 } } 15 0 s.recorder.dropped).notify 0 0x0900 0 s.recorder.dropped)))
  ∧ (∀ (s : State) (k : Nat), s.alive = true → s.recorder.running = true → 16 ≤ k → k < 64 → field (s.cfg F_TRIG_SOURCE k) 0 2 = 0x20 → field (s.cfg F_TRIG_SOURCE k) 4 4 ≠ 0 → exec (.periodicTrigger k) s = .next (after s (((quiet s).advance (ceilDiv s.now (1000000 * field (s.cfg F_TRIG_SOURCE k) 4 4) * (1000000 * field (s.cfg F_TRIG_SOURCE k) 4 4))).fireRated k 0 (field (s.cfg F_TRIG_SOURCE k) 4 4))))
  ∧ (∀ (s : State) (h mv : Nat) (v : Int), s.alive = true → h < 64 → s.recorder.running = true → (field (s.cfg F_HIST_CONFIG h) 0 2 = 2 ∨ field (s.cfg F_HIST_CONFIG h) 0 2 = 3 ∨ field (s.cfg F_HIST_CONFIG h) 0 2 = 6 ∨ field (s.cfg F_HIST_CONFIG h) 0 2 = 9 ∨ field (s.cfg F_HIST_CONFIG h) 0 2 = 0xA) → exec (.histSample h ⟨v, mv⟩) s = .next (after s (((quiet s).observe (field (s.cfg F_HIST_CONFIG h) 0 2) (field (s.cfg F_HIST_CONFIG h) 4 4) v mv).sample h v)))
  ∧ (∀ (s : State) (h mv : Nat) (v : Int), s.alive = true → h < 64 → s.recorder.running = true → field (s.cfg F_HIST_CONFIG h) 0 2 = 7 → exec (.histSample h ⟨v, mv⟩) s = .next (after s ((let tile := field (s.cfg F_HIST_CONFIG h) 4 4; let n := s.stretches tile; let y : Int := (n : Int) - ((KeyMap.get s.recorder.stretchSeen 0 h : Nat) : Int); let u : State := { (quiet s) with recorder := { s.recorder with stretchSeen := KeyMap.put s.recorder.stretchSeen h n } }; (u.observe 7 tile y mv).sample h y))))
  ∧ (∀ (s : State) (h mv : Nat) (v : Int), s.alive = true → h < 64 → s.recorder.running = true → field (s.cfg F_HIST_CONFIG h) 0 2 = 5 → s.laneUp (field (s.cfg F_HIST_CONFIG h) 4 4) = true → exec (.histSample h ⟨v, mv⟩) s = .next (after s (((quiet s).observe 5 (field (s.cfg F_HIST_CONFIG h) 4 4) v mv).sample h v)))
  ∧ (∀ (s : State), s.alive = true → s.recorder.running = true → exec (.histCheckpoint) s = .next (after s ((let u := (quiet s).advance s.recorder.checkpointAt; State.checkpointHists { u with recorder := { u.recorder with checkpointAt := u.now + 10000000000 } }))))
  ∧ (∀ (s : State) (p : Port) (q : Request), Asked s p 0x0901 q → exec (.recStatus p) s = .next (after s ((if q.payload.isEmpty then (begun s p q).answer q ST_OK (u64 s.recorder.nextRseq ++ u64 s.oldestRseq ++ u32 (s.recordsOf 1).length ++ u32 s.recorder.staging.length ++ u32 s.recorder.losses ++ u32 s.recorder.suppressed ++ u64 s.recorder.lastFlush.1 ++ u16 s.recorder.lastFlush.2 ++ u16 s.recorder.carried) else (begun s p q).answer q ST_BAD_LENGTH []))))
  ∧ (∀ (s : State) (p : Port) (q : Request), Asked s p 0x0902 q → q.payload.length = 12 → 1 ≤ field q.payload 8 4 → field q.payload 8 4 ≤ 31 → exec (.recRead p) s = .next (after s ((begun s p q).answer q ST_OK ((s.recordsIn (field q.payload 0 8) (field q.payload 0 8 + field q.payload 8 4 - 1)).flatMap (·.bytes)))))
  ∧ (∀ (s : State) (p : Port) (q : Request), Asked s p 0x0903 q → q.payload.length = 5 → 1 ≤ field q.payload 1 4 → field q.payload 1 4 ≤ 20 → byteAt q.payload 0 + field q.payload 1 4 ≤ 64 → exec (.recHistRead p) s = .next (after s ((begun s p q).answer q ST_OK (s.histBlocks (byteAt q.payload 0) (field q.payload 1 4)))))
  ∧ (∀ (s : State) (p : Port) (q : Request), Asked s p 0x0904 q → exec (.recExport p) s = .next (after s ((if s.exportCheck q.payload ≠ ST_OK then (begun s p q).answer q (s.exportCheck q.payload) [] else (begun s p q).requestDevice q 0x0C))))
  ∧ (∀ (s : State) (p : Port) (q : Request) (o : Nat × Bytes × Nat), Asked s p 0x0905 q → q.payload.length = 8 → KeyMap.find s.ident.outputs q.realm = some o → o.1 = field q.payload 0 4 → field q.payload 4 4 ≤ o.2.1.length → exec (.recResultRead p) s = .next (after s ((begun s p q).answer q ST_OK (slice (field q.payload 4 4) 4000 o.2.1))))
  ∧ (∀ (s : State) (p : Port) (q : Request), Asked s p 0x0906 q → q.payload.length = 8 → exec (.recHistReset p) s = .next (after s ((begun s p q).requestDevice q 0x0B)))

/-- A crossing timeout marks the crossing, counts it and ends the items and channel-0 feeds whose transfers it abandoned; the AVS controller writes,
verifies and repeats; each loop interval moves the local supply; each stretched cycle is counted. (From 16.) -/
def Obligations.TileCommandsComplete : Prop :=
  (∀ (s : State) (a b : Nat) (items : List (Nat × Nat)), s.alive = true → a ≤ 23 → b ≤ 23 → a ≠ b → (∀ p ∈ items, p.1 ≠ 0) → ∃ t, exec (.crossingTimeout a b items) s = .next t ∧ t.stuck a b = true ∧ (t.tile b).cdcTimeouts = min 65535 ((s.tile b).cdcTimeouts + 1) ∧ t.ms = s.ms ∧ (∀ ch n, (t.chan ch).admitted.find? (fun x => x.seq == n) = ((s.chan ch).admitted.find? (fun x => x.seq == n)).map fun x => if items.contains (ch, n) && !(x.cls == .refused || x.result.any fun r => r.status == ST_ABORTED || r.status == ST_MODE) then { x with result := some (Result.none_ ST_CDC_TIMEOUT), doneAt := s.now } else x))
  ∧ (∀ (s : State) (a b n : Nat) (x : Feed), s.alive = true → a ≤ 23 → b ≤ 23 → a ≠ b → KeyMap.find s.cipher.feeds n = some x → exec (.crossingTimeout a b [(0, n)]) s = .next (after s ((let u := State.updTile { (quiet s) with tiles := { s.tiles with stuck := KeyMap.put s.tiles.stuck (32 * a + b) true } } b fun y => { y with cdcTimeouts := min 65535 (y.cdcTimeouts + 1) }; let v := (u.trigger 14 ST_CDC_TIMEOUT (a + 256 * b)).endFeed n x.received ST_CDC_TIMEOUT; v.mapAdmitted fun ch y => if (ch, y.seq) = (0, n) ∧ ¬ (y.cls == .refused || y.result.any fun r => r.status == ST_ABORTED || r.status == ST_MODE) then { y with result := some (Result.none_ ST_CDC_TIMEOUT), doneAt := v.now } else y))))
  ∧ (∀ (s : State) (a b : Nat) (items : List (Nat × Nat)), s.alive = true → (23 < a ∨ 23 < b ∨ a = b) → exec (.crossingTimeout a b items) s = .next (after s ((quiet s))))
  ∧ (∀ (s : State) (a b : Nat), s.alive = true → b ≠ countTile → exec (.livenessToggleResumes a b) s = .next (after s ({ (quiet s) with tiles := { s.tiles with stuck := KeyMap.del s.tiles.stuck (32 * a + b) } })))
  ∧ (∀ (s : State) (a : Nat), s.alive = true → exec (.livenessToggleResumes a countTile) s = .next (after s (State.carryCount { (quiet s) with tiles := { s.tiles with stuck := KeyMap.del s.tiles.stuck (32 * a + countTile) } } a)))
  ∧ (∀ (s : State) (due : Nat), s.alive = true → s.tiles.avs.lowerDue = some due → s.tiles.avs.write = none → s.tiles.avs.retryAt = none → exec (.avsLowerTimer) s = .next (after s ((let u := (quiet s).advance due; State.avsWrite { u with tiles := { s.tiles with avs := { s.tiles.avs with loweredAt := some u.now } } } (max s.tiles.avs.demand (s.tiles.avs.mv - 10))))))
  ∧ (∀ (s : State) (w : AvsWrite) (v : Nat), s.alive = true → s.tiles.avs.write = some w → s.tiles.avs.retryAt = none → w.readback = false → exec (.avsFrameComplete true v) s = .next (after s (State.emit { (quiet s) with tiles := { s.tiles with avs := { s.tiles.avs with write := some { w with readback := true } } } } (.avs w.target true))))
  ∧ (∀ (s : State) (w : AvsWrite), s.alive = true → s.tiles.avs.write = some w → s.tiles.avs.retryAt = none → w.readback = true → w.target < 65536 → exec (.avsFrameComplete true w.target) s = .next (after s (State.avsUpdate { (quiet s) with tiles := { s.tiles with avs := { s.tiles.avs with readback := w.target, write := none, mv := w.target } } })))
  ∧ (∀ (s : State) (w : AvsWrite) (v : Nat), s.alive = true → s.tiles.avs.write = some w → s.tiles.avs.retryAt = none → w.readback = false → exec (.avsFrameComplete false v) s = .next (after s ((quiet s).avsFailed w)))
  ∧ (∀ (s : State) (w : AvsWrite) (v : Nat), s.alive = true → s.tiles.avs.write = some w → s.tiles.avs.retryAt = none → w.readback = true → v ≠ w.target → exec (.avsFrameComplete true v) s = .next (after s (State.avsFailed { (quiet s) with tiles := { s.tiles with avs := { s.tiles.avs with readback := v % 65536 } } } w)))
  ∧ (∀ (s : State) (w : AvsWrite) (v : Nat), s.alive = true → s.tiles.avs.write = some w → s.tiles.avs.retryAt = none → w.readback = true → exec (.avsFrameComplete false v) s = .next (after s (State.avsFailed { (quiet s) with tiles := { s.tiles with avs := { s.tiles.avs with readback := v % 65536 } } } w)))
  ∧ (∀ (s : State) (g : Bool) (v : Nat), s.alive = true → (s.tiles.avs.write = none ∨ s.tiles.avs.retryAt.isSome = true) → exec (.avsFrameComplete g v) s = .next (after s ((quiet s))))
  ∧ (∀ (s : State) (w : AvsWrite) (d : Nat), s.alive = true → s.tiles.avs.write = some w → s.tiles.avs.retryAt = some d → ∃ t, exec (.avsWriteRetry) s = .next t ∧ t.tiles.avs.write = some { w with repeats := w.repeats + 1 } ∧ t.tiles.avs.retryAt = none ∧ t.tiles.avs.retries = min 255 (s.tiles.avs.retries + 1) ∧ t.tiles.avs.span = some (min s.vddCore w.target, max s.vddCore w.target, max s.now d + 200000) ∧ t.outbox = [.avs w.target false] ∧ t.now = max s.now d)
  ∧ (∀ (s : State) (d : Nat), s.alive = true → s.tiles.avs.write = none → s.tiles.avs.retryAt = some d → s.tiles.avs.mv < s.tiles.avs.demand → exec (.avsFaultRetry) s = .next (after s (((quiet s).advance d).avsWrite s.tiles.avs.demand)))
  ∧ (∀ (s : State) (d due : Nat), s.alive = true → s.tiles.avs.write = none → s.tiles.avs.retryAt = some d → s.tiles.avs.demand ≤ s.tiles.avs.mv → s.tiles.avs.lowerDue = some due → due ≤ max s.now d → exec (.avsFaultRetry) s = .next (after s (((quiet s).advance d).avsLower)))
  ∧ (∀ (s : State) (d : Nat), s.alive = true → s.tiles.avs.write = none → s.tiles.avs.retryAt = some d → s.tiles.avs.demand ≤ s.tiles.avs.mv → (s.tiles.avs.lowerDue.all fun due => decide (max s.now d < due)) = true → exec (.avsFaultRetry) s = .next (after s ({ (quiet s).advance d with tiles := { s.tiles with avs := { s.tiles.avs with retryAt := none } } })))
  ∧ (∀ (s : State) (n v : Nat) (k : Int), s.alive = true → n ≤ 23 → 5 ≤ k → k ≤ 11 → exec (.loopInterval n k v) s = .next (after s ((((quiet s).advance (ceilDiv s.now 1000 * 1000)).updTile n fun x => { x with vlocal := clampMv v x.vlocal, high := 0, atCeiling := false, ceilingSince := none }).avsUpdate)))
  ∧ (∀ (s : State) (n v : Nat) (k : Int), s.alive = true → n ≤ 23 → k < 5 → (s.tile n).vlocal < ceilingMv v → exec (.loopInterval n k v) s = .next (after s ((((quiet s).advance (ceilDiv s.now 1000 * 1000)).updTile n fun x => { x with vlocal := clampMv v (x.vlocal + 5), high := 0, atCeiling := false, ceilingSince := none }).avsUpdate)))
  ∧ (∀ (s : State) (n v : Nat) (k : Int), s.alive = true → n ≤ 23 → 11 < k → (s.tile n).high + 1 ≠ 100 → exec (.loopInterval n k v) s = .next (after s ((((quiet s).advance (ceilDiv s.now 1000 * 1000)).updTile n fun x => { x with vlocal := clampMv v x.vlocal, high := x.high + 1, atCeiling := false, ceilingSince := none }).avsUpdate)))
  ∧ (∀ (s : State) (n v : Nat) (k : Int), s.alive = true → n ≤ 23 → 11 < k → (s.tile n).high = 99 → exec (.loopInterval n k v) s = .next (after s ((((quiet s).advance (ceilDiv s.now 1000 * 1000)).updTile n fun x => { x with vlocal := clampMv v (x.vlocal - 5), high := 0, atCeiling := false, ceilingSince := none }).avsUpdate)))
  ∧ (∀ (s : State) (n : Nat), s.alive = true → n ≤ 23 → cryptoTile n = false → exec (.clockStretch n) s = .next (after s ((quiet s).countStretch n)))
  ∧ (∀ (s : State) (n : Nat) (x : Tile), s.alive = true → n ≤ 23 → cryptoTile n = true → (s.countStretch n).tile n = x → x.sector.1 = s.now / 256 → x.sector.2 + 1 ≠ 13 → exec (.clockStretch n) s = .next (after s (((quiet s).countStretch n).updTile n fun _ => { x with sector := (s.now / 256, x.sector.2 + 1) })))
  ∧ (∀ (s : State) (n : Nat) (x : Tile), s.alive = true → n ≤ 23 → cryptoTile n = true → (s.countStretch n).tile n = x → x.sector.1 ≠ s.now / 256 → exec (.clockStretch n) s = .next (after s (((quiet s).countStretch n).updTile n fun _ => { x with sector := (s.now / 256, 1) })))
  ∧ (∀ (s : State) (n : Nat), s.alive = true → 23 < n → exec (.clockStretch n) s = .next (after s ((quiet s))))

/-- For each opcode of the family: a fetched descriptor that carries it is decoded by stages 1 and 2; an admitted item of it whose key check has passed
runs the opcode's operation on the bytes read, with its outcome held until release. (From 07, 04.) -/
def Obligations.PaymentItemsComplete : Prop :=
  (Fetches (fun ph => .pinTranslate ph) 0x10)
  ∧ (Works (fun ph => .pinTranslate ph) 0x10 (fun _ _ x => runTranslate x))
  ∧ (Fetches (fun ph => .pinTranslateTdukpt ph) 0x11)
  ∧ (Works (fun ph => .pinTranslateTdukpt ph) 0x11 (fun _ _ x => runTranslate x))
  ∧ (Fetches (fun ph => .pinTranslateAdukpt ph) 0x12)
  ∧ (Works (fun ph => .pinTranslateAdukpt ph) 0x12 (fun _ _ x => runTranslate x))
  ∧ (Fetches (fun ph => .pinVerify3624 ph) 0x14)
  ∧ (Works (fun ph => .pinVerify3624 ph) 0x14 (fun _ _ x => runVerify3624 x))
  ∧ (Fetches (fun ph => .pinVerify3624Tdukpt ph) 0x15)
  ∧ (Works (fun ph => .pinVerify3624Tdukpt ph) 0x15 (fun _ _ x => runVerify3624 x))
  ∧ (Fetches (fun ph => .pinVerify3624Adukpt ph) 0x16)
  ∧ (Works (fun ph => .pinVerify3624Adukpt ph) 0x16 (fun _ _ x => runVerify3624 x))
  ∧ (Fetches (fun ph => .pinVerifyPvv ph) 0x18)
  ∧ (Works (fun ph => .pinVerifyPvv ph) 0x18 (fun _ _ x => runVerifyPvv x))
  ∧ (Fetches (fun ph => .pinVerifyPvvTdukpt ph) 0x19)
  ∧ (Works (fun ph => .pinVerifyPvvTdukpt ph) 0x19 (fun _ _ x => runVerifyPvv x))
  ∧ (Fetches (fun ph => .pinVerifyPvvAdukpt ph) 0x1A)
  ∧ (Works (fun ph => .pinVerifyPvvAdukpt ph) 0x1A (fun _ _ x => runVerifyPvv x))
  ∧ (Fetches (fun ph => .macGenerateAlg1 ph) 0x20)
  ∧ (Works (fun ph => .macGenerateAlg1 ph) 0x20 (fun _ _ x => runMacGenerate x))
  ∧ (Fetches (fun ph => .macVerifyAlg1 ph) 0x21)
  ∧ (Works (fun ph => .macVerifyAlg1 ph) 0x21 (fun _ _ x => runMacVerify x))
  ∧ (Fetches (fun ph => .macGenerateAlg3 ph) 0x22)
  ∧ (Works (fun ph => .macGenerateAlg3 ph) 0x22 (fun _ _ x => runMacGenerate x))
  ∧ (Fetches (fun ph => .macVerifyAlg3 ph) 0x23)
  ∧ (Works (fun ph => .macVerifyAlg3 ph) 0x23 (fun _ _ x => runMacVerify x))
  ∧ (Fetches (fun ph => .macGenerateCmac ph) 0x24)
  ∧ (Works (fun ph => .macGenerateCmac ph) 0x24 (fun _ _ x => runMacGenerate x))
  ∧ (Fetches (fun ph => .macVerifyCmac ph) 0x25)
  ∧ (Works (fun ph => .macVerifyCmac ph) 0x25 (fun _ _ x => runMacVerify x))
  ∧ (Fetches (fun ph => .macGenerateAlg3Tdukpt ph) 0x26)
  ∧ (Works (fun ph => .macGenerateAlg3Tdukpt ph) 0x26 (fun _ _ x => runMacGenerate x))
  ∧ (Fetches (fun ph => .macVerifyAlg3Tdukpt ph) 0x27)
  ∧ (Works (fun ph => .macVerifyAlg3Tdukpt ph) 0x27 (fun _ _ x => runMacVerify x))
  ∧ (Fetches (fun ph => .macGenerateCmacAdukpt ph) 0x28)
  ∧ (Works (fun ph => .macGenerateCmacAdukpt ph) 0x28 (fun _ _ x => runMacGenerate x))
  ∧ (Fetches (fun ph => .macVerifyCmacAdukpt ph) 0x29)
  ∧ (Works (fun ph => .macVerifyCmacAdukpt ph) 0x29 (fun _ _ x => runMacVerify x))
  ∧ (Fetches (fun ph => .arqcVerify ph) 0x2A)
  ∧ (Works (fun ph => .arqcVerify ph) 0x2A (fun _ _ x => runArqcVerify x))
  ∧ (Fetches (fun ph => .arqcGenerate ph) 0x2B)
  ∧ (Works (fun ph => .arqcGenerate ph) 0x2B (fun _ _ x => runArqcGenerate x))
  ∧ (Fetches (fun ph => .cvvGenerate ph) 0x2C)
  ∧ (Works (fun ph => .cvvGenerate ph) 0x2C (fun _ _ x => runCvvGenerate x))
  ∧ (Fetches (fun ph => .cvvVerify ph) 0x2D)
  ∧ (Works (fun ph => .cvvVerify ph) 0x2D (fun _ _ x => runCvvVerify x))

/-- For each opcode of the family: a fetched descriptor that carries it is decoded by stages 1 and 2; an admitted item of it whose key check has passed
runs the opcode's operation on the bytes read, with its outcome held until release. (From 07, 08, 04.) -/
def Obligations.CipherItemsComplete : Prop :=
  (Fetches (fun ph => .dukptIkDerive ph) 0x30)
  ∧ (Works (fun ph => .dukptIkDerive ph) 0x30 (fun s _ x => s.runIkDerive x))
  ∧ (Fetches (fun ph => .emvIccDerive ph) 0x31)
  ∧ (Works (fun ph => .emvIccDerive ph) 0x31 (fun s _ x => s.runIccDerive x))
  ∧ (Fetches (fun ph => .dukptDataTdes ph) 0x32)
  ∧ (Works (fun ph => .dukptDataTdes ph) 0x32 (fun _ _ x => runDukptData x))
  ∧ (Fetches (fun ph => .dukptDataAes ph) 0x33)
  ∧ (Works (fun ph => .dukptDataAes ph) 0x33 (fun _ _ x => runDukptData x))
  ∧ (Fetches (fun ph => .aesEcb ph) 0x40)
  ∧ (Works (fun ph => .aesEcb ph) 0x40 (fun _ _ x => runAesEcb x))
  ∧ (Fetches (fun ph => .aesCbcEncrypt ph) 0x41)
  ∧ (Works (fun ph => .aesCbcEncrypt ph) 0x41 (fun _ _ x => runAesCbcEnc x))
  ∧ (Fetches (fun ph => .aesCbcDecrypt ph) 0x42)
  ∧ (Works (fun ph => .aesCbcDecrypt ph) 0x42 (fun _ _ x => runAesCbcDec x))
  ∧ (Fetches (fun ph => .aesCtr ph) 0x43)
  ∧ (Works (fun ph => .aesCtr ph) 0x43 (fun _ _ x => runAesCtr x))
  ∧ (Fetches (fun ph => .aesCfbEncrypt ph) 0x44)
  ∧ (Works (fun ph => .aesCfbEncrypt ph) 0x44 (fun _ _ x => runAesCfbEnc x))
  ∧ (Fetches (fun ph => .aesCfbDecrypt ph) 0x45)
  ∧ (Works (fun ph => .aesCfbDecrypt ph) 0x45 (fun _ _ x => runAesCfbDec x))
  ∧ (Fetches (fun ph => .aesOfb ph) 0x46)
  ∧ (Works (fun ph => .aesOfb ph) 0x46 (fun _ _ x => runAesOfb x))
  ∧ (Fetches (fun ph => .aesXts ph) 0x47)
  ∧ (Works (fun ph => .aesXts ph) 0x47 (fun _ _ x => runAesXts x))
  ∧ (Fetches (fun ph => .aesGcmEncrypt ph) 0x48)
  ∧ (Works (fun ph => .aesGcmEncrypt ph) 0x48 (fun _ _ x => runGcmEncrypt x))
  ∧ (Fetches (fun ph => .aesGcmDecrypt ph) 0x49)
  ∧ (Works (fun ph => .aesGcmDecrypt ph) 0x49 (fun _ _ x => runGcmDecrypt x))
  ∧ (Fetches (fun ph => .aesGcmDecryptRbv ph) 0x4A)
  ∧ (Works (fun ph => .aesGcmDecryptRbv ph) 0x4A (fun _ _ x => runGcmDecryptRbv x))
  ∧ (Fetches (fun ph => .tdesEcb ph) 0x4B)
  ∧ (Works (fun ph => .tdesEcb ph) 0x4B (fun _ _ x => runTdesEcb x))
  ∧ (Fetches (fun ph => .tdesCbcEncrypt ph) 0x4C)
  ∧ (Works (fun ph => .tdesCbcEncrypt ph) 0x4C (fun _ _ x => runTdesCbcEnc x))
  ∧ (Fetches (fun ph => .tdesCbcDecrypt ph) 0x4D)
  ∧ (Works (fun ph => .tdesCbcDecrypt ph) 0x4D (fun _ _ x => runTdesCbcDec x))

/-- For each opcode of the family: a fetched descriptor that carries it is decoded by stages 1 and 2; an admitted item of it whose key check has passed
runs the opcode's operation on the bytes read, with its outcome held until release. (From 08, 09, 04.) -/
def Obligations.DigestAndPublicKeyItemsComplete : Prop :=
  (Fetches (fun ph => .sha256 ph) 0x50)
  ∧ (Works (fun ph => .sha256 ph) 0x50 (fun _ _ x => runSha256 x))
  ∧ (Fetches (fun ph => .sha384 ph) 0x51)
  ∧ (Works (fun ph => .sha384 ph) 0x51 (fun _ _ x => runSha384 x))
  ∧ (Fetches (fun ph => .sha512 ph) 0x52)
  ∧ (Works (fun ph => .sha512 ph) 0x52 (fun _ _ x => runSha512 x))
  ∧ (Fetches (fun ph => .hmacSha256Generate ph) 0x53)
  ∧ (Works (fun ph => .hmacSha256Generate ph) 0x53 (fun _ _ x => runHmacGenerate x))
  ∧ (Fetches (fun ph => .hmacSha256Verify ph) 0x54)
  ∧ (Works (fun ph => .hmacSha256Verify ph) 0x54 (fun _ _ x => runHmacVerify x))
  ∧ (Fetches (fun ph => .ecdsaP256Sign ph) 0x60)
  ∧ (Works (fun ph => .ecdsaP256Sign ph) 0x60 (fun _ _ x => runEcdsaSign 256 x))
  ∧ (Fetches (fun ph => .ecdsaP256Verify ph) 0x61)
  ∧ (Works (fun ph => .ecdsaP256Verify ph) 0x61 (fun _ _ x => runEcdsaVerify 256 x))
  ∧ (Fetches (fun ph => .ecdsaP384Sign ph) 0x62)
  ∧ (Works (fun ph => .ecdsaP384Sign ph) 0x62 (fun _ _ x => runEcdsaSign 384 x))
  ∧ (Fetches (fun ph => .ecdsaP384Verify ph) 0x63)
  ∧ (Works (fun ph => .ecdsaP384Verify ph) 0x63 (fun _ _ x => runEcdsaVerify 384 x))
  ∧ (Fetches (fun ph => .ecdhDerive ph) 0x64)
  ∧ (Works (fun ph => .ecdhDerive ph) 0x64 (fun s _ x => s.runEcdh x))
  ∧ (Fetches (fun ph => .mlkemEncaps ph) 0x65)
  ∧ (Works (fun ph => .mlkemEncaps ph) 0x65 (fun s _ x => s.runEncaps x))
  ∧ (Fetches (fun ph => .mlkemDecaps ph) 0x66)
  ∧ (Works (fun ph => .mlkemDecaps ph) 0x66 (fun s _ x => s.runDecaps x))
  ∧ (Fetches (fun ph => .rsaSign ph) 0x67)
  ∧ (Works (fun ph => .rsaSign ph) 0x67 (fun _ _ x => runRsaSign x))
  ∧ (Fetches (fun ph => .rsaPublic ph) 0x68)
  ∧ (Works (fun ph => .rsaPublic ph) 0x68 (fun _ _ x => runRsaPublic x))
  ∧ (Fetches (fun ph => .slh128sSign ph) 0x69)
  ∧ (Works (fun ph => .slh128sSign ph) 0x69 (fun _ _ x => runSlhSign x))
  ∧ (Fetches (fun ph => .slh128fSign ph) 0x6A)
  ∧ (Works (fun ph => .slh128fSign ph) 0x6A (fun _ _ x => runSlhSign x))
  ∧ (Fetches (fun ph => .slh256sSign ph) 0x6B)
  ∧ (Works (fun ph => .slh256sSign ph) 0x6B (fun _ _ x => runSlhSign x))
  ∧ (Fetches (fun ph => .slh128sVerify ph) 0x6C)
  ∧ (Works (fun ph => .slh128sVerify ph) 0x6C (fun _ _ x => runSlhVerify x))
  ∧ (Fetches (fun ph => .slh128fVerify ph) 0x6D)
  ∧ (Works (fun ph => .slh128fVerify ph) 0x6D (fun _ _ x => runSlhVerify x))
  ∧ (Fetches (fun ph => .slh256sVerify ph) 0x6E)
  ∧ (Works (fun ph => .slh256sVerify ph) 0x6E (fun _ _ x => runSlhVerify x))
  ∧ (Fetches (fun ph => .slhTopTree ph) 0x6F)
  ∧ (Works (fun ph => .slhTopTree ph) 0x6F (fun _ _ x => runSlhTopTree x))

/-- For each opcode of the family: a fetched descriptor that carries it is decoded by stages 1 and 2; an admitted item of it whose key check has passed
runs the opcode's operation on the bytes read, with its outcome held until release. (From 06, 04.) -/
def Obligations.KeyItemsComplete : Prop :=
  (Fetches (fun ph => .keyGenerate ph) 0x70)
  ∧ (Works (fun ph => .keyGenerate ph) 0x70 (fun s _ x => s.runGenerate x))
  ∧ (Fetches (fun ph => .keyGeneratePair ph) 0x71)
  ∧ (Works (fun ph => .keyGeneratePair ph) 0x71 (fun s _ x => s.runGeneratePair x))
  ∧ (Fetches (fun ph => .keyRewrap ph) 0x72)
  ∧ (Works (fun ph => .keyRewrap ph) 0x72 (fun s y x => s.runRewrap y x))
  ∧ (Fetches (fun ph => .keyExportKb ph) 0x73)
  ∧ (Works (fun ph => .keyExportKb ph) 0x73 (fun s _ x => s.runExport x))
  ∧ (Fetches (fun ph => .keyImportKb ph) 0x74)
  ∧ (Works (fun ph => .keyImportKb ph) 0x74 (fun s _ x => s.runImport x))
  ∧ (Fetches (fun ph => .keyImportTr34 ph) 0x75)
  ∧ (Works (fun ph => .keyImportTr34 ph) 0x75 (fun s _ x => s.runImportTr34 x))
  ∧ (Fetches (fun ph => .keyExportTr34 ph) 0x76)
  ∧ (Works (fun ph => .keyExportTr34 ph) 0x76 (fun s _ x => s.runExportTr34 x))
  ∧ (Fetches (fun ph => .keyCheck ph) 0x77)
  ∧ (Works (fun ph => .keyCheck ph) 0x77 (fun _ _ x => runKeyCheck x))
  ∧ (Fetches (fun ph => .legacyImport ph) 0x78)
  ∧ (Works (fun ph => .legacyImport ph) 0x78 (fun s _ x => s.runLegacy x))
end

