-- ==== Sys2Proof/Laws/KeyMap.lean ====
section
/-!
SUPPORT. Sparse tables: what a read gives after a write, and that every operation keeps the canonical form.
-/

namespace Sys2Proof.Machine

set_option Elab.async false

variable {α β : Type}

@[simp] theorem KeyMap.find_nil (n : Nat) : KeyMap.find ([] : KeyMap α) n = none := rfl
@[simp] theorem KeyMap.get_nil (d : α) (n : Nat) : KeyMap.get ([] : KeyMap α) d n = d := rfl

/-- A read at the number written gives the value written. -/
@[simp] theorem KeyMap.find_put_self (m : KeyMap α) (n : Nat) (v : α) : KeyMap.find (KeyMap.put m n v) n = some v := by
  induction m with
  | nil => simp [KeyMap.put, KeyMap.find]
  | cons p rest ih =>
    obtain ⟨k, w⟩ := p
    rw [KeyMap.put]
    split
    · simp [KeyMap.find]
    · split
      · simp [KeyMap.find]
      · rename_i h1 h2
        rw [KeyMap.find, if_neg h1, if_neg h2, ih]

/-- A write leaves every other number alone. -/
theorem KeyMap.find_put_ne (m : KeyMap α) (n k : Nat) (v : α) (h : k ≠ n) : KeyMap.find (KeyMap.put m n v) k = KeyMap.find m k := by
  induction m with
  | nil =>
    simp [KeyMap.put, KeyMap.find, Ne.symm h]
  | cons p rest ih =>
    obtain ⟨j, w⟩ := p
    rw [KeyMap.put]
    split
    · rename_i hj
      subst hj
      simp only [KeyMap.find, if_neg (Ne.symm h)]
    · split
      · rename_i h1 h2
        rw [KeyMap.find, if_neg (Ne.symm h)]
        split
        · rename_i h3
          rw [KeyMap.find, if_neg (by omega), if_pos (by omega)]
        · rfl
      · simp only [KeyMap.find, ih]

@[simp] theorem KeyMap.get_put_self (m : KeyMap α) (d : α) (n : Nat) (v : α) : KeyMap.get (KeyMap.put m n v) d n = v := by
  simp [KeyMap.get]

theorem KeyMap.get_put_ne (m : KeyMap α) (d : α) (n k : Nat) (v : α) (h : k ≠ n) : KeyMap.get (KeyMap.put m n v) d k = KeyMap.get m d k := by
  simp [KeyMap.get, KeyMap.find_put_ne m n k v h]

/-- The canonical form says that the numbers are strictly rising. -/
theorem KeyMap.wf_iff (m : KeyMap α) : KeyMap.wf m = true ↔ m.Pairwise fun p q => p.1 < q.1 := by
  induction m with
  | nil => simp [KeyMap.wf]
  | cons p rest ih =>
    cases rest with
    | nil => simp [KeyMap.wf]
    | cons q rest =>
      obtain ⟨k, v⟩ := p
      obtain ⟨k', v'⟩ := q
      rw [KeyMap.wf, Bool.and_eq_true, ih, decide_eq_true_eq, List.pairwise_cons (a := (k, v))]
      constructor
      · rintro ⟨h1, h2⟩
        refine ⟨?_, h2⟩
        intro r hr
        rcases List.mem_cons.1 hr with rfl | hr
        · exact h1
        · exact Nat.lt_trans h1 ((List.pairwise_cons.1 h2).1 r hr)
      · rintro ⟨h1, h2⟩
        exact ⟨h1 (k', v') (List.mem_cons_self ..), h2⟩

/-- A number in a table after a write is the number written or stood there before. -/
theorem KeyMap.mem_put (m : KeyMap α) (n : Nat) (v : α) (p : Nat × α) (h : p ∈ KeyMap.put m n v) : p = (n, v) ∨ p ∈ m := by
  induction m with
  | nil =>
    rw [KeyMap.put] at h
    exact .inl (List.mem_singleton.1 h)
  | cons q rest ih =>
    obtain ⟨k, w⟩ := q
    rw [KeyMap.put] at h
    split at h
    · rcases List.mem_cons.1 h with h | h
      · exact .inl h
      · exact .inr (List.mem_cons_of_mem _ h)
    · split at h
      · rcases List.mem_cons.1 h with h | h
        · exact .inl h
        · exact .inr h
      · rcases List.mem_cons.1 h with h | h
        · exact .inr (h ▸ List.mem_cons_self ..)
        · rcases ih h with h | h
          · exact .inl h
          · exact .inr (List.mem_cons_of_mem _ h)

/-- A write keeps the canonical form. -/
theorem KeyMap.wf_put (m : KeyMap α) (n : Nat) (v : α) (h : KeyMap.wf m = true) : KeyMap.wf (KeyMap.put m n v) = true := by
  rw [KeyMap.wf_iff] at *
  induction m with
  | nil => simp [KeyMap.put]
  | cons q rest ih =>
    obtain ⟨k, w⟩ := q
    rw [List.pairwise_cons] at h
    rw [KeyMap.put]
    split
    · rename_i hk
      subst hk
      exact List.pairwise_cons.2 ⟨h.1, h.2⟩
    · split
      · rename_i hk
        refine List.pairwise_cons.2 ⟨?_, List.pairwise_cons.2 h⟩
        intro r hr
        rcases List.mem_cons.1 hr with rfl | hr
        · exact hk
        · exact Nat.lt_trans hk (h.1 r hr)
      · rename_i h1 h2
        refine List.pairwise_cons.2 ⟨?_, ih h.2⟩
        intro r hr
        rcases KeyMap.mem_put rest n v r hr with rfl | hr
        · show k < n
          omega
        · exact h.1 r hr

/-- Leaving numbers out keeps the canonical form. -/
theorem KeyMap.wf_keep (m : KeyMap α) (f : Nat → α → Bool) (h : KeyMap.wf m = true) : KeyMap.wf (KeyMap.keep m f) = true := by
  rw [KeyMap.wf_iff] at *
  exact h.filter _

theorem KeyMap.wf_del (m : KeyMap α) (n : Nat) (h : KeyMap.wf m = true) : KeyMap.wf (KeyMap.del m n) = true := by
  rw [KeyMap.wf_iff] at *
  exact h.filter _

/-- Changing values keeps the canonical form. -/
theorem KeyMap.wf_mapVals (m : KeyMap α) (f : Nat → α → β) (h : KeyMap.wf m = true) : KeyMap.wf (KeyMap.mapVals m f) = true := by
  rw [KeyMap.wf_iff] at *
  exact List.pairwise_map.2 h

theorem KeyMap.wf_upd (m : KeyMap α) (d : α) (n : Nat) (f : α → α) (h : KeyMap.wf m = true) : KeyMap.wf (KeyMap.upd m d n f) = true :=
  KeyMap.wf_put m n _ h

/-- A table of words after a write keeps the canonical form. -/
theorem KeyMap.wf_set (m : KeyMap Nat) (n v : Nat) (h : KeyMap.wf m = true) : KeyMap.wf (KeyMap.set m n v) = true := by
  rw [KeyMap.set]
  split
  · exact KeyMap.wf_del m n h
  · exact KeyMap.wf_put m n v h

/-- A table of words lists no 0 after a write, where it listed none before. -/
theorem KeyMap.set_ne_zero (m : KeyMap Nat) (n v : Nat) (h : ∀ p ∈ m, p.2 ≠ 0) : ∀ p ∈ KeyMap.set m n v, p.2 ≠ 0 := by
  intro p hp
  rw [KeyMap.set] at hp
  split at hp
  · exact h p (List.mem_filter.1 hp).1
  · rename_i hv
    rcases KeyMap.mem_put m n v p hp with rfl | hp
    · exact hv
    · exact h p hp

/-- A number that the table does not list reads as absent. -/
theorem KeyMap.find_none (m : KeyMap α) (n : Nat) (h : ∀ p ∈ m, p.1 ≠ n) : KeyMap.find m n = none := by
  induction m with
  | nil => rfl
  | cons p rest ih =>
    obtain ⟨k, v⟩ := p
    rw [KeyMap.find, if_neg (h (k, v) (List.mem_cons_self ..))]
    split
    · rfl
    · exact ih fun q hq => h q (List.mem_cons_of_mem _ hq)

@[simp] theorem KeyMap.find_del_self (m : KeyMap α) (n : Nat) : KeyMap.find (KeyMap.del m n) n = none :=
  KeyMap.find_none _ _ fun p hp => by simpa using (List.mem_filter.1 hp).2

/-- Taking a number out of a table in canonical form leaves every other number alone. -/
theorem KeyMap.find_del_ne (m : KeyMap α) (n k : Nat) (h : KeyMap.wf m = true) (hk : k ≠ n) : KeyMap.find (KeyMap.del m n) k = KeyMap.find m k := by
  rw [KeyMap.wf_iff] at h
  induction m with
  | nil => rfl
  | cons p rest ih =>
    obtain ⟨j, v⟩ := p
    rw [List.pairwise_cons] at h
    by_cases hj : j = n
    · subst hj
      have : KeyMap.del ((j, v) :: rest) j = KeyMap.del rest j := by simp [KeyMap.del]
      rw [this, ih h.2, KeyMap.find, if_neg (Ne.symm hk)]
      split
      · rename_i hlt
        exact KeyMap.find_none _ _ fun q hq => by have := h.1 q hq; simp only at this; omega
      · rfl
    · have : KeyMap.del ((j, v) :: rest) n = (j, v) :: KeyMap.del rest n := by simp [KeyMap.del, hj]
      rw [this, KeyMap.find, KeyMap.find, ih h.2]

/-- The word read back after a write to a table of words. -/
@[simp] theorem KeyMap.get_set_self (m : KeyMap Nat) (n v : Nat) : KeyMap.get (KeyMap.set m n v) 0 n = v := by
  rw [KeyMap.set]
  split
  · rename_i h
    simp [KeyMap.get, h]
  · simp

/-- A write to a table of words in canonical form leaves every other word alone. -/
theorem KeyMap.get_set_ne (m : KeyMap Nat) (n k v : Nat) (h : KeyMap.wf m = true) (hk : k ≠ n) :
    KeyMap.get (KeyMap.set m n v) 0 k = KeyMap.get m 0 k := by
  rw [KeyMap.set]
  split
  · simp [KeyMap.get, KeyMap.find_del_ne m n k h hk]
  · exact KeyMap.get_put_ne m 0 n k v hk

end Sys2Proof.Machine
end

