-- ==== Sys2Proof/WellFormed.lean ====
section
/-!
DEFINITION. Which commands are well formed: every operand lies in the range that the manual gives the thing it numbers. The effects are defined on
every operand, well formed or not; a sender outside these ranges would name something that the device does not have.
-/

namespace Sys2Proof

/-- PCIe functions 0 to 127 (Table 4.2, CH_FUNCTION). -/
def functionOk (fn : Nat) : Bool := decide (fn ≤ 127)
/-- Virtual functions 1 to 127 use MB3 (Table 1.3). -/
def Port.wf : Port → Bool
  | .mb3 fn => decide (1 ≤ fn) && functionOk fn
  | _ => true
/-- A master of registers. -/
def Master.wf : Master → Bool
  | .host fn => functionOk fn
  | _ => true
/-- Tenant channels 1 to 255 (R26). -/
def channelOk (c : Nat) : Bool := decide (1 ≤ c ∧ c ≤ 255)
/-- Realms, and channels with channel 0, from 0 to 255. -/
def realmOk (r : Nat) : Bool := decide (r ≤ 255)
/-- Submission rings 0 to 3 (Table 4.2). -/
def ringOk (r : Nat) : Bool := decide (r ≤ 3)
/-- A descriptor has 128 bytes (R130). -/
def descOk (d : Bytes) : Bool := d.length == 128
/-- A phase of a descriptor opcode. -/
def ItemPhase.wf : ItemPhase → Bool
  | .fetched c ring desc => channelOk c && ringOk ring && descOk desc
  | .work c _ _ _ _ => channelOk c
/-- Protected buses A and B (R325). -/
def busOk (b : Nat) : Bool := decide (b ≤ 1)
/-- Flash sides: both buses and the private port (R342). -/
def sideOk (b : Nat) : Bool := decide (b ≤ 2)
/-- Chip selects 0 and 1 of a bus (R325). -/
def csOk (cs : Nat) : Bool := decide (cs ≤ 1)
/-- A byte. -/
def byteOk (v : Nat) : Bool := decide (v < 256)
/-- A 16-bit number. -/
def halfOk (v : Nat) : Bool := decide (v < 65536)
/-- A 32-bit number. -/
def wordOk (v : Nat) : Bool := decide (v < 4294967296)
/-- The 45 units that start-up tests (R47, R48). -/
def unitOk (u : Nat) : Bool := decide (u < 45)
/-- Tiles 0 to 23 (R504). -/
def tileOk (t : Nat) : Bool := decide (t < 24)
/-- OTP words 0x000 to 0x7FF (Table 14.1). -/
def otpWordOk (w : Nat) : Bool := decide (w < 2048)
/-- Weak bits of OTP words (R452). -/
def weakOk (ws : List (Nat × Nat)) : Bool := ws.all fun p => otpWordOk p.1 && wordOk p.2
/-- Detectors 0 to 21 (Table 13.2). -/
def detectorOk (d : Nat) : Bool := decide (d < 22)
/-- Recorder triggers 0 to 63 (Table 15.2). -/
def triggerOk (t : Nat) : Bool := decide (t < 64)
/-- Histograms 0 to 63 (Table 15.2). -/
def histOk (h : Nat) : Bool := decide (h < 64)
/-- A mask of the two Chord lanes (R391). -/
def lanesOk (m : Nat) : Bool := decide (m < 4)
/-- Chord lanes 0 and 1 (R391). -/
def laneOk (l : Nat) : Bool := decide (l < 2)
/-- HELPER copies A and B (Table 14.1). -/
def copyOk (c : Nat) : Bool := decide (c < 2)
/-- Regions 0 to 31 of a manifest (Table 10.13). -/
def regionOk (r : Nat) : Bool := decide (r < 32)

/-- A command is well formed. -/
def Instr.wf : Instr → Bool
  | .sysPwrgdRise _ _ => true
  | .sysPwrgdFall _ => true
  | .mainPowerLost _ partLow partHigh => wordOk partLow && wordOk partHigh
  | .deviceReset => true
  | .platformResetRequest => true
  | .pllLockComplete _ => true
  | .otpSenseComplete weak => weakOk weak
  | .rootVertexReconstructed _ _ => true
  | .apexImageVerified _ _ => true
  | .facetImageVerified _ _ => true
  | .unitSelftestDone unit _ => unitOk unit
  | .revolutionBoundary => true
  | .sectorStart => true
  | .releaseDelayExpire => true
  | .releaseInputStable => true
  | .releaseTimeout => true
  | .releaseUnwindStep => true
  | .releaseRestart => true
  | .recoverDrainEnd => true
  | .mbDoorbell p _ => Port.wf p
  | .mbResponseReady p => Port.wf p
  | .mbRspAck p => Port.wf p
  | .mbGrantRequest fn => functionOk fn
  | .mbGrantRelease fn => functionOk fn
  | .grantDoorbellTimeout => true
  | .fragmentAckTimeout => true
  | .mb1MctpMessage _ => true
  | .i3cPrivateWrite _ => true
  | .i3cPrivateRead _ => true
  | .sessionOpen p => Port.wf p
  | .sessionClose p => Port.wf p
  | .identityQuery p => Port.wf p
  | .stateQuery p => Port.wf p
  | .noticeFetch p => Port.wf p
  | .cfgBegin p => Port.wf p
  | .cfgSet p => Port.wf p
  | .cfgGet p => Port.wf p
  | .cfgCommit p => Port.wf p
  | .cfgRollback p => Port.wf p
  | .cfgStatus p => Port.wf p
  | .txnTimeout realm => realmOk realm
  | .adminOpen p => Port.wf p
  | .adminClose p => Port.wf p
  | .officerSign p => Port.wf p
  | .actStatus p => Port.wf p
  | .actCancel p => Port.wf p
  | .officerEnrol p => Port.wf p
  | .officerRemove p => Port.wf p
  | .officerList p => Port.wf p
  | .sessionTimeout _ => true
  | .quorumTimeout realm => realmOk realm
  | .adminSessionTimeout realm => realmOk realm
  | .sqTailDoorbell fn c ring _ => functionOk fn && channelOk c && ringOk ring
  | .cqHeadDoorbell fn c _ => functionOk fn && channelOk c
  | .fnTimeLoRead fn => functionOk fn
  | .registerWrite who _ _ => Master.wf who
  | .descriptorUndefinedOpcode c ring desc => channelOk c && ringOk ring && descOk desc
  | .descriptorFetchFailed c ring => channelOk c && ringOk ring
  | .keyBlobHeaderRead c _ _ => channelOk c
  | .keyBlobLoaded c _ _ => channelOk c
  | .anchor c _ => channelOk c
  | .keyCheckInstant c => channelOk c
  | .itemRelease c => channelOk c
  | .cqModTimerExpire c => channelOk c
  | .outputWriteFailed c _ => channelOk c
  | .completionWriteFailed c => channelOk c
  | .busMasterEnableClear fn => functionOk fn
  | .functionLevelReset fn => functionOk fn
  | .pcieLinkDown _ => true
  | .perstRise => true
  | .pcieLinkTrained _ _ => true
  | .pinTranslate ph => ItemPhase.wf ph
  | .pinTranslateTdukpt ph => ItemPhase.wf ph
  | .pinTranslateAdukpt ph => ItemPhase.wf ph
  | .pinVerify3624 ph => ItemPhase.wf ph
  | .pinVerify3624Tdukpt ph => ItemPhase.wf ph
  | .pinVerify3624Adukpt ph => ItemPhase.wf ph
  | .pinVerifyPvv ph => ItemPhase.wf ph
  | .pinVerifyPvvTdukpt ph => ItemPhase.wf ph
  | .pinVerifyPvvAdukpt ph => ItemPhase.wf ph
  | .macGenerateAlg1 ph => ItemPhase.wf ph
  | .macVerifyAlg1 ph => ItemPhase.wf ph
  | .macGenerateAlg3 ph => ItemPhase.wf ph
  | .macVerifyAlg3 ph => ItemPhase.wf ph
  | .macGenerateCmac ph => ItemPhase.wf ph
  | .macVerifyCmac ph => ItemPhase.wf ph
  | .macGenerateAlg3Tdukpt ph => ItemPhase.wf ph
  | .macVerifyAlg3Tdukpt ph => ItemPhase.wf ph
  | .macGenerateCmacAdukpt ph => ItemPhase.wf ph
  | .macVerifyCmacAdukpt ph => ItemPhase.wf ph
  | .arqcVerify ph => ItemPhase.wf ph
  | .arqcGenerate ph => ItemPhase.wf ph
  | .cvvGenerate ph => ItemPhase.wf ph
  | .cvvVerify ph => ItemPhase.wf ph
  | .dukptIkDerive ph => ItemPhase.wf ph
  | .emvIccDerive ph => ItemPhase.wf ph
  | .dukptDataTdes ph => ItemPhase.wf ph
  | .dukptDataAes ph => ItemPhase.wf ph
  | .aesEcb ph => ItemPhase.wf ph
  | .aesCbcEncrypt ph => ItemPhase.wf ph
  | .aesCbcDecrypt ph => ItemPhase.wf ph
  | .aesCtr ph => ItemPhase.wf ph
  | .aesCfbEncrypt ph => ItemPhase.wf ph
  | .aesCfbDecrypt ph => ItemPhase.wf ph
  | .aesOfb ph => ItemPhase.wf ph
  | .aesXts ph => ItemPhase.wf ph
  | .aesGcmEncrypt ph => ItemPhase.wf ph
  | .aesGcmDecrypt ph => ItemPhase.wf ph
  | .aesGcmDecryptRbv ph => ItemPhase.wf ph
  | .tdesEcb ph => ItemPhase.wf ph
  | .tdesCbcEncrypt ph => ItemPhase.wf ph
  | .tdesCbcDecrypt ph => ItemPhase.wf ph
  | .sha256 ph => ItemPhase.wf ph
  | .sha384 ph => ItemPhase.wf ph
  | .sha512 ph => ItemPhase.wf ph
  | .hmacSha256Generate ph => ItemPhase.wf ph
  | .hmacSha256Verify ph => ItemPhase.wf ph
  | .digestFeedSilence c _ _ => realmOk c
  | .ecdsaP256Sign ph => ItemPhase.wf ph
  | .ecdsaP256Verify ph => ItemPhase.wf ph
  | .ecdsaP384Sign ph => ItemPhase.wf ph
  | .ecdsaP384Verify ph => ItemPhase.wf ph
  | .ecdhDerive ph => ItemPhase.wf ph
  | .mlkemEncaps ph => ItemPhase.wf ph
  | .mlkemDecaps ph => ItemPhase.wf ph
  | .rsaSign ph => ItemPhase.wf ph
  | .rsaPublic ph => ItemPhase.wf ph
  | .slh128sSign ph => ItemPhase.wf ph
  | .slh128fSign ph => ItemPhase.wf ph
  | .slh256sSign ph => ItemPhase.wf ph
  | .slh128sVerify ph => ItemPhase.wf ph
  | .slh128fVerify ph => ItemPhase.wf ph
  | .slh256sVerify ph => ItemPhase.wf ph
  | .slhTopTree ph => ItemPhase.wf ph
  | .keyGenerate ph => ItemPhase.wf ph
  | .keyGeneratePair ph => ItemPhase.wf ph
  | .keyRewrap ph => ItemPhase.wf ph
  | .keyExportKb ph => ItemPhase.wf ph
  | .keyImportKb ph => ItemPhase.wf ph
  | .keyImportTr34 ph => ItemPhase.wf ph
  | .keyExportTr34 ph => ItemPhase.wf ph
  | .keyCheck ph => ItemPhase.wf ph
  | .legacyImport ph => ItemPhase.wf ph
  | .vaultStatus p => Port.wf p
  | .keyTransportOpen p => Port.wf p
  | .rootStage p => Port.wf p
  | .rootSwap p => Port.wf p
  | .rootUnstage p => Port.wf p
  | .rootInvalidate p => Port.wf p
  | .rootErase p => Port.wf p
  | .keyAttest p => Port.wf p
  | .cacheFlush p => Port.wf p
  | .keyGenerateRsa p => Port.wf p
  | .peerKeyLoad p => Port.wf p
  | .hostCsFall bus cs => busOk bus && csOk cs
  | .spiRead bus opcode _ => busOk bus && byteOk opcode
  | .spiRead4byte bus opcode _ => busOk bus && byteOk opcode
  | .spiFastRead bus opcode _ => busOk bus && byteOk opcode
  | .spiDualOutputRead bus opcode _ => busOk bus && byteOk opcode
  | .spiDualIoRead bus opcode _ => busOk bus && byteOk opcode
  | .spiQuadOutputRead bus opcode _ => busOk bus && byteOk opcode
  | .spiQuadIoRead bus opcode _ => busOk bus && byteOk opcode
  | .spiReadId bus opcode _ => busOk bus && byteOk opcode
  | .spiReadSfdp bus opcode _ => busOk bus && byteOk opcode
  | .spiReadStatus1 bus opcode _ => busOk bus && byteOk opcode
  | .spiReadStatus2 bus opcode _ => busOk bus && byteOk opcode
  | .spiReadFlagStatus bus opcode _ => busOk bus && byteOk opcode
  | .spiWriteEnable bus opcode _ => busOk bus && byteOk opcode
  | .spiWriteDisable bus opcode _ => busOk bus && byteOk opcode
  | .spiPageProgram bus opcode _ => busOk bus && byteOk opcode
  | .spiQuadPageProgram bus opcode _ => busOk bus && byteOk opcode
  | .spiSectorErase bus opcode _ => busOk bus && byteOk opcode
  | .spiBlockErase32k bus opcode _ => busOk bus && byteOk opcode
  | .spiBlockErase64k bus opcode _ => busOk bus && byteOk opcode
  | .spiChipErase bus opcode _ => busOk bus && byteOk opcode
  | .spiWriteStatus1 bus opcode _ => busOk bus && byteOk opcode
  | .spiWriteStatus2 bus opcode _ => busOk bus && byteOk opcode
  | .spiEnter4byteMode bus opcode _ => busOk bus && byteOk opcode
  | .spiExit4byteMode bus opcode _ => busOk bus && byteOk opcode
  | .spiResetEnable bus opcode _ => busOk bus && byteOk opcode
  | .spiReset bus opcode _ => busOk bus && byteOk opcode
  | .spiClearFlagStatus bus opcode _ => busOk bus && byteOk opcode
  | .deniedOpcodeFrame bus opcode _ => busOk bus && byteOk opcode
  | .mb2Read off _ => halfOk off
  | .mb2Write off _ => halfOk off
  | .flashStatusPoll bus cs sr1 sr2 => busOk bus && csOk cs && byteOk sr1 && byteOk sr2
  | .flashOperationTimeout bus cs => busOk bus && csOk cs
  | .pfWindowWrite who _ _ => Master.wf who
  | .pfGatherTimeout => true
  | .pfStallTimeout => true
  | .pfEraseGo who => Master.wf who
  | .pfEraseDone _ => true
  | .pfLockWrite who => Master.wf who
  | .regionDigestComplete bus region _ => busOk bus && regionOk region
  | .restoreAreaDone bus status => busOk bus && halfOk status
  | .platStatus p => Port.wf p
  | .platVerify p => Port.wf p
  | .platReset p => Port.wf p
  | .platRecover p => Port.wf p
  | .platReleaseRetry p => Port.wf p
  | .platGoldenCapture p => Port.wf p
  | .platSvnAdvance p => Port.wf p
  | .platDenials p => Port.wf p
  | .platManifestRead p => Port.wf p
  | .idCertRead p => Port.wf p
  | .idCertWrite p => Port.wf p
  | .attestReport p => Port.wf p
  | .spdmGetVersion p => Port.wf p
  | .spdmGetCapabilities p => Port.wf p
  | .spdmNegotiateAlgorithms p => Port.wf p
  | .spdmGetDigests p => Port.wf p
  | .spdmGetCertificate p => Port.wf p
  | .spdmChallenge p => Port.wf p
  | .spdmGetMeasurements p => Port.wf p
  | .spdmUnsupportedRequest p => Port.wf p
  | .apexSignatureComplete => true
  | .domainStatus p => Port.wf p
  | .domainCard p => Port.wf p
  | .domainCreate p => Port.wf p
  | .domainJoinRequest p => Port.wf p
  | .domainAdmit p => Port.wf p
  | .domainAccept p => Port.wf p
  | .domainRosterUpdate p => Port.wf p
  | .domainRoll p => Port.wf p
  | .domainPackageFetch p => Port.wf p
  | .domainPackageLoad p => Port.wf p
  | .domainActivate p => Port.wf p
  | .domainLeave p => Port.wf p
  | .domainReport p => Port.wf p
  | .domainNoticeFetch p => Port.wf p
  | .domainNoticeIn p => Port.wf p
  | .domainFaults p => Port.wf p
  | .domainResultRead p => Port.wf p
  | .coalesceEntryClose => true
  | .joinTicketExpire => true
  | .actOutputExpire realm => realmOk realm
  | .linkTrained lanes _ => lanesOk lanes
  | .laneRetrain lane => laneOk lane
  | .chordHello _ => true
  | .chordBeat _ => true
  | .chordAdmit _ => true
  | .chordRel _ => true
  | .chordAck _ => true
  | .chordPrepare _ => true
  | .chordReady _ => true
  | .chordCommit _ => true
  | .chordCommitAck _ => true
  | .chordNack _ => true
  | .chordAbort _ => true
  | .chordResolve _ => true
  | .chordSync _ => true
  | .chordFenceTest _ => true
  | .readyTimeout => true
  | .commitWaitTimeout => true
  | .heartbeatWindow => true
  | .pairDeadline _ => true
  | .fenceInAsserted => true
  | .fenceInReleased => true
  | .fenceTestPulse => true
  | .timeStep => true
  | .resyncComplete => true
  | .pairStatus p => Port.wf p
  | .pairBind p => Port.wf p
  | .pairAccept p => Port.wf p
  | .pairUnbind p => Port.wf p
  | .pairTakeover p => Port.wf p
  | .pairUnfence p => Port.wf p
  | .pairRekey p => Port.wf p
  | .pairResultRead p => Port.wf p
  | .detectorTrip ds clock _ => ds.all detectorOk && tileOk clock.tile
  | .lockstepDisagree => true
  | .busIntegrityMismatch _ _ => true
  | .detectorStimulationTest d _ tile => detectorOk d && tileOk tile
  | .sentinelPowerOn => true
  | .cellStateChange _ _ _ => true
  | .chargerTimerExpire => true
  | .chargeEstimate _ => true
  | .gaugeLevelCross _ => true
  | .tamperStatus p => Port.wf p
  | .cellStatus p => Port.wf p
  | .sentinelLogRead p => Port.wf p
  | .detectorTest p _ tile => Port.wf p && tileOk tile
  | .zeroiseCommand p => Port.wf p
  | .rtcSet p => Port.wf p
  | .otpWordProgram word bits low high => otpWordOk word && wordOk bits && wordOk low && wordOk high
  | .factoryBlankToTest => true
  | .factoryEnrolment copy _ => copyOk copy
  | .factoryTestToProduction => true
  | .factoryScrap => true
  | .lcStatus p => Port.wf p
  | .otpRead p => Port.wf p
  | .lcCommission p => Port.wf p
  | .lcRecommission p => Port.wf p
  | .lcScrap p => Port.wf p
  | .debugChallenge p => Port.wf p
  | .debugOpen p => Port.wf p
  | .debugClose p => Port.wf p
  | .debugLifetimeExpire => true
  | .debugDisablePermanent p => Port.wf p
  | .fwStatus p => Port.wf p
  | .fwSlotErase p => Port.wf p
  | .fwSlotEraseDone _ => true
  | .fwStage p => Port.wf p
  | .fwStageEnd p => Port.wf p
  | .fwActivate p => Port.wf p
  | .fwActivateRestart => true
  | .fwSvnCommit p => Port.wf p
  | .fwKeyRevoke p => Port.wf p
  | .periodicTrigger trigger => triggerOk trigger
  | .journalFlush _ => true
  | .journalFlushRetry _ => true
  | .recorderRoomReturns => true
  | .histSample hist _ => histOk hist
  | .histCheckpoint => true
  | .recStatus p => Port.wf p
  | .recRead p => Port.wf p
  | .recHistRead p => Port.wf p
  | .recExport p => Port.wf p
  | .recResultRead p => Port.wf p
  | .recHistReset p => Port.wf p
  | .crossingTimeout src dst _ => tileOk src && tileOk dst
  | .loopInterval tile _ _ => tileOk tile
  | .avsLowerTimer => true
  | .avsFrameComplete _ _ => true
  | .avsWriteRetry => true
  | .avsFaultRetry => true
  | .railEntersWindow _ => true
  | .deviceResetRelease => true
  | .awaitedInputChange _ => true
  | .flashSideUp bus _ _ _ => sideOk bus
  | .manifestCheckComplete bus _ => busOk bus
  | .detectorQuiet d => detectorOk d
  | .livenessToggleResumes src dst => tileOk src && tileOk dst
  | .clockStretch tile => tileOk tile
  | .busMasterEnableSet fn => functionOk fn
  | .chgSupplyChange _ => true

end Sys2Proof
end

