-- ==== Sys2Proof/Laws/PerInstr.lean ====
section
/-!
SUPPORT. Per command: a well-formed command names only channels, functions and ports that the device has.
-/

namespace Sys2Proof.Laws

/-- The channel that a phase of an item names. -/
def phaseChannel : ItemPhase → Nat
  | .fetched c _ _ => c
  | .work c _ _ _ _ => c

/-- The tenant channels that a command names. -/
def channelsOf : Instr → List Nat
  | .sqTailDoorbell _ c _ _ => [c]
  | .cqHeadDoorbell _ c _ => [c]
  | .descriptorUndefinedOpcode c _ _ => [c]
  | .descriptorFetchFailed c _ => [c]
  | .keyBlobHeaderRead c _ _ => [c]
  | .keyBlobLoaded c _ _ => [c]
  | .anchor c _ => [c]
  | .keyCheckInstant c => [c]
  | .itemRelease c => [c]
  | .cqModTimerExpire c => [c]
  | .outputWriteFailed c _ => [c]
  | .completionWriteFailed c => [c]
  | .pinTranslate ph => [phaseChannel ph]
  | .pinTranslateTdukpt ph => [phaseChannel ph]
  | .pinTranslateAdukpt ph => [phaseChannel ph]
  | .pinVerify3624 ph => [phaseChannel ph]
  | .pinVerify3624Tdukpt ph => [phaseChannel ph]
  | .pinVerify3624Adukpt ph => [phaseChannel ph]
  | .pinVerifyPvv ph => [phaseChannel ph]
  | .pinVerifyPvvTdukpt ph => [phaseChannel ph]
  | .pinVerifyPvvAdukpt ph => [phaseChannel ph]
  | .macGenerateAlg1 ph => [phaseChannel ph]
  | .macVerifyAlg1 ph => [phaseChannel ph]
  | .macGenerateAlg3 ph => [phaseChannel ph]
  | .macVerifyAlg3 ph => [phaseChannel ph]
  | .macGenerateCmac ph => [phaseChannel ph]
  | .macVerifyCmac ph => [phaseChannel ph]
  | .macGenerateAlg3Tdukpt ph => [phaseChannel ph]
  | .macVerifyAlg3Tdukpt ph => [phaseChannel ph]
  | .macGenerateCmacAdukpt ph => [phaseChannel ph]
  | .macVerifyCmacAdukpt ph => [phaseChannel ph]
  | .arqcVerify ph => [phaseChannel ph]
  | .arqcGenerate ph => [phaseChannel ph]
  | .cvvGenerate ph => [phaseChannel ph]
  | .cvvVerify ph => [phaseChannel ph]
  | .dukptIkDerive ph => [phaseChannel ph]
  | .emvIccDerive ph => [phaseChannel ph]
  | .dukptDataTdes ph => [phaseChannel ph]
  | .dukptDataAes ph => [phaseChannel ph]
  | .aesEcb ph => [phaseChannel ph]
  | .aesCbcEncrypt ph => [phaseChannel ph]
  | .aesCbcDecrypt ph => [phaseChannel ph]
  | .aesCtr ph => [phaseChannel ph]
  | .aesCfbEncrypt ph => [phaseChannel ph]
  | .aesCfbDecrypt ph => [phaseChannel ph]
  | .aesOfb ph => [phaseChannel ph]
  | .aesXts ph => [phaseChannel ph]
  | .aesGcmEncrypt ph => [phaseChannel ph]
  | .aesGcmDecrypt ph => [phaseChannel ph]
  | .aesGcmDecryptRbv ph => [phaseChannel ph]
  | .tdesEcb ph => [phaseChannel ph]
  | .tdesCbcEncrypt ph => [phaseChannel ph]
  | .tdesCbcDecrypt ph => [phaseChannel ph]
  | .sha256 ph => [phaseChannel ph]
  | .sha384 ph => [phaseChannel ph]
  | .sha512 ph => [phaseChannel ph]
  | .hmacSha256Generate ph => [phaseChannel ph]
  | .hmacSha256Verify ph => [phaseChannel ph]
  | .ecdsaP256Sign ph => [phaseChannel ph]
  | .ecdsaP256Verify ph => [phaseChannel ph]
  | .ecdsaP384Sign ph => [phaseChannel ph]
  | .ecdsaP384Verify ph => [phaseChannel ph]
  | .ecdhDerive ph => [phaseChannel ph]
  | .mlkemEncaps ph => [phaseChannel ph]
  | .mlkemDecaps ph => [phaseChannel ph]
  | .rsaSign ph => [phaseChannel ph]
  | .rsaPublic ph => [phaseChannel ph]
  | .slh128sSign ph => [phaseChannel ph]
  | .slh128fSign ph => [phaseChannel ph]
  | .slh256sSign ph => [phaseChannel ph]
  | .slh128sVerify ph => [phaseChannel ph]
  | .slh128fVerify ph => [phaseChannel ph]
  | .slh256sVerify ph => [phaseChannel ph]
  | .slhTopTree ph => [phaseChannel ph]
  | .keyGenerate ph => [phaseChannel ph]
  | .keyGeneratePair ph => [phaseChannel ph]
  | .keyRewrap ph => [phaseChannel ph]
  | .keyExportKb ph => [phaseChannel ph]
  | .keyImportKb ph => [phaseChannel ph]
  | .keyImportTr34 ph => [phaseChannel ph]
  | .keyExportTr34 ph => [phaseChannel ph]
  | .keyCheck ph => [phaseChannel ph]
  | .legacyImport ph => [phaseChannel ph]
  | _ => []

/-- The PCIe functions that a command names. -/
def functionsOf : Instr → List Nat
  | .mbGrantRequest fn => [fn]
  | .mbGrantRelease fn => [fn]
  | .sqTailDoorbell fn _ _ _ => [fn]
  | .cqHeadDoorbell fn _ _ => [fn]
  | .fnTimeLoRead fn => [fn]
  | .busMasterEnableClear fn => [fn]
  | .functionLevelReset fn => [fn]
  | .busMasterEnableSet fn => [fn]
  | _ => []

/-- The mailboxes that a command names. -/
def portsOf : Instr → List Port
  | .mbDoorbell p _ => [p]
  | .mbResponseReady p => [p]
  | .mbRspAck p => [p]
  | .sessionOpen p => [p]
  | .sessionClose p => [p]
  | .identityQuery p => [p]
  | .stateQuery p => [p]
  | .noticeFetch p => [p]
  | .cfgBegin p => [p]
  | .cfgSet p => [p]
  | .cfgGet p => [p]
  | .cfgCommit p => [p]
  | .cfgRollback p => [p]
  | .cfgStatus p => [p]
  | .adminOpen p => [p]
  | .adminClose p => [p]
  | .officerSign p => [p]
  | .actStatus p => [p]
  | .actCancel p => [p]
  | .officerEnrol p => [p]
  | .officerRemove p => [p]
  | .officerList p => [p]
  | .vaultStatus p => [p]
  | .keyTransportOpen p => [p]
  | .rootStage p => [p]
  | .rootSwap p => [p]
  | .rootUnstage p => [p]
  | .rootInvalidate p => [p]
  | .rootErase p => [p]
  | .keyAttest p => [p]
  | .cacheFlush p => [p]
  | .keyGenerateRsa p => [p]
  | .peerKeyLoad p => [p]
  | .platStatus p => [p]
  | .platVerify p => [p]
  | .platReset p => [p]
  | .platRecover p => [p]
  | .platReleaseRetry p => [p]
  | .platGoldenCapture p => [p]
  | .platSvnAdvance p => [p]
  | .platDenials p => [p]
  | .platManifestRead p => [p]
  | .idCertRead p => [p]
  | .idCertWrite p => [p]
  | .attestReport p => [p]
  | .spdmGetVersion p => [p]
  | .spdmGetCapabilities p => [p]
  | .spdmNegotiateAlgorithms p => [p]
  | .spdmGetDigests p => [p]
  | .spdmGetCertificate p => [p]
  | .spdmChallenge p => [p]
  | .spdmGetMeasurements p => [p]
  | .spdmUnsupportedRequest p => [p]
  | .domainStatus p => [p]
  | .domainCard p => [p]
  | .domainCreate p => [p]
  | .domainJoinRequest p => [p]
  | .domainAdmit p => [p]
  | .domainAccept p => [p]
  | .domainRosterUpdate p => [p]
  | .domainRoll p => [p]
  | .domainPackageFetch p => [p]
  | .domainPackageLoad p => [p]
  | .domainActivate p => [p]
  | .domainLeave p => [p]
  | .domainReport p => [p]
  | .domainNoticeFetch p => [p]
  | .domainNoticeIn p => [p]
  | .domainFaults p => [p]
  | .domainResultRead p => [p]
  | .pairStatus p => [p]
  | .pairBind p => [p]
  | .pairAccept p => [p]
  | .pairUnbind p => [p]
  | .pairTakeover p => [p]
  | .pairUnfence p => [p]
  | .pairRekey p => [p]
  | .pairResultRead p => [p]
  | .tamperStatus p => [p]
  | .cellStatus p => [p]
  | .sentinelLogRead p => [p]
  | .detectorTest p _ _ => [p]
  | .zeroiseCommand p => [p]
  | .rtcSet p => [p]
  | .lcStatus p => [p]
  | .otpRead p => [p]
  | .lcCommission p => [p]
  | .lcRecommission p => [p]
  | .lcScrap p => [p]
  | .debugChallenge p => [p]
  | .debugOpen p => [p]
  | .debugClose p => [p]
  | .debugDisablePermanent p => [p]
  | .fwStatus p => [p]
  | .fwSlotErase p => [p]
  | .fwStage p => [p]
  | .fwStageEnd p => [p]
  | .fwActivate p => [p]
  | .fwSvnCommit p => [p]
  | .fwKeyRevoke p => [p]
  | .recStatus p => [p]
  | .recRead p => [p]
  | .recHistRead p => [p]
  | .recExport p => [p]
  | .recResultRead p => [p]
  | .recHistReset p => [p]
  | _ => []

/-- A well-formed command names channels 1 to 255, functions 0 to 127, and on MB3 only virtual functions 1 to 127. -/
def Operands.Statement (i : Instr) : Prop :=
  i.wf = true → (∀ c ∈ channelsOf i, 1 ≤ c ∧ c ≤ 255) ∧ (∀ f ∈ functionsOf i, f ≤ 127) ∧ (∀ f, .mb3 f ∈ portsOf i → 1 ≤ f ∧ f ≤ 127)

/-- What the well-formedness of a port says. -/
theorem port_wf {p : Port} (h : Port.wf p = true) : ∀ f, p = .mb3 f → 1 ≤ f ∧ f ≤ 127 := by
  rintro f rfl
  simpa [Port.wf, functionOk] using h

/-- What the well-formedness of a phase says. -/
theorem phase_wf {ph : ItemPhase} (h : ItemPhase.wf ph = true) : 1 ≤ phaseChannel ph ∧ phaseChannel ph ≤ 255 := by
  cases ph <;> simp_all [ItemPhase.wf, phaseChannel, channelOk]

/-- A command that names a phase only. -/
theorem operands_phase {i : Instr} {ph : ItemPhase} (hw : i.wf = ItemPhase.wf ph) (hc : channelsOf i = [phaseChannel ph]) (hf : functionsOf i = [])
    (hp : portsOf i = []) : Operands.Statement i := by
  intro h
  rw [hw] at h
  simp [hc, hf, hp, phase_wf h]

/-- A command that names a mailbox first. -/
theorem operands_port {i : Instr} {p : Port} (hw : i.wf = true → Port.wf p = true) (hc : channelsOf i = []) (hf : functionsOf i = [])
    (hp : portsOf i = [p]) : Operands.Statement i := by
  intro h
  refine ⟨by simp [hc], by simp [hf], fun f hm => port_wf (hw h) f ?_⟩
  simpa [hp, eq_comm] using hm

/-- A command that names none of these. -/
theorem operands_none {i : Instr} (hc : channelsOf i = []) (hf : functionsOf i = []) (hp : portsOf i = []) : Operands.Statement i := by
  intro _
  simp [hc, hf, hp]

theorem Operands.sysPwrgdRise (rails : Rails) (elapsed : Nat) : Operands.Statement (.sysPwrgdRise rails elapsed) := operands_none rfl rfl rfl
theorem Operands.sysPwrgdFall (rails : Rails) : Operands.Statement (.sysPwrgdFall rails) := operands_none rfl rfl rfl
theorem Operands.mainPowerLost (loss : PowerLoss) (partLow : Nat) (partHigh : Nat) : Operands.Statement (.mainPowerLost loss partLow partHigh) := operands_none rfl rfl rfl
theorem Operands.deviceReset : Operands.Statement (.deviceReset) := operands_none rfl rfl rfl
theorem Operands.platformResetRequest : Operands.Statement (.platformResetRequest) := operands_none rfl rfl rfl
theorem Operands.pllLockComplete (addrSel : Bool) : Operands.Statement (.pllLockComplete addrSel) := operands_none rfl rfl rfl
theorem Operands.otpSenseComplete (weak : List (Nat × Nat)) : Operands.Statement (.otpSenseComplete weak) := operands_none rfl rfl rfl
theorem Operands.rootVertexReconstructed (value : Bytes) (corrected : Nat) : Operands.Statement (.rootVertexReconstructed value corrected) := operands_none rfl rfl rfl
theorem Operands.apexImageVerified (slot0 : Bytes) (slot1 : Bytes) : Operands.Statement (.apexImageVerified slot0 slot1) := operands_none rfl rfl rfl
theorem Operands.facetImageVerified (slot0 : Bytes) (slot1 : Bytes) : Operands.Statement (.facetImageVerified slot0 slot1) := operands_none rfl rfl rfl
theorem Operands.unitSelftestDone (unit : Nat) (pass : Bool) : Operands.Statement (.unitSelftestDone unit pass) := operands_none rfl rfl rfl
theorem Operands.revolutionBoundary : Operands.Statement (.revolutionBoundary) := operands_none rfl rfl rfl
theorem Operands.sectorStart : Operands.Statement (.sectorStart) := operands_none rfl rfl rfl
theorem Operands.releaseDelayExpire : Operands.Statement (.releaseDelayExpire) := operands_none rfl rfl rfl
theorem Operands.releaseInputStable : Operands.Statement (.releaseInputStable) := operands_none rfl rfl rfl
theorem Operands.releaseTimeout : Operands.Statement (.releaseTimeout) := operands_none rfl rfl rfl
theorem Operands.releaseUnwindStep : Operands.Statement (.releaseUnwindStep) := operands_none rfl rfl rfl
theorem Operands.releaseRestart : Operands.Statement (.releaseRestart) := operands_none rfl rfl rfl
theorem Operands.recoverDrainEnd : Operands.Statement (.recoverDrainEnd) := operands_none rfl rfl rfl
theorem Operands.mbDoorbell (p : Port) (len : Nat) : Operands.Statement (.mbDoorbell p len) := operands_port id rfl rfl rfl
theorem Operands.mbResponseReady (p : Port) : Operands.Statement (.mbResponseReady p) := operands_port id rfl rfl rfl
theorem Operands.mbRspAck (p : Port) : Operands.Statement (.mbRspAck p) := operands_port id rfl rfl rfl
theorem Operands.mbGrantRequest (fn : Nat) : Operands.Statement (.mbGrantRequest fn) := by
  intro h
  simp_all [Instr.wf, channelsOf, functionsOf, portsOf, functionOk]
theorem Operands.mbGrantRelease (fn : Nat) : Operands.Statement (.mbGrantRelease fn) := by
  intro h
  simp_all [Instr.wf, channelsOf, functionsOf, portsOf, functionOk]
theorem Operands.grantDoorbellTimeout : Operands.Statement (.grantDoorbellTimeout) := operands_none rfl rfl rfl
theorem Operands.fragmentAckTimeout : Operands.Statement (.fragmentAckTimeout) := operands_none rfl rfl rfl
theorem Operands.mb1MctpMessage (msg : Bytes) : Operands.Statement (.mb1MctpMessage msg) := operands_none rfl rfl rfl
theorem Operands.i3cPrivateWrite (data : Bytes) : Operands.Statement (.i3cPrivateWrite data) := operands_none rfl rfl rfl
theorem Operands.i3cPrivateRead (len : Nat) : Operands.Statement (.i3cPrivateRead len) := operands_none rfl rfl rfl
theorem Operands.sessionOpen (p : Port) : Operands.Statement (.sessionOpen p) := operands_port id rfl rfl rfl
theorem Operands.sessionClose (p : Port) : Operands.Statement (.sessionClose p) := operands_port id rfl rfl rfl
theorem Operands.identityQuery (p : Port) : Operands.Statement (.identityQuery p) := operands_port id rfl rfl rfl
theorem Operands.stateQuery (p : Port) : Operands.Statement (.stateQuery p) := operands_port id rfl rfl rfl
theorem Operands.noticeFetch (p : Port) : Operands.Statement (.noticeFetch p) := operands_port id rfl rfl rfl
theorem Operands.cfgBegin (p : Port) : Operands.Statement (.cfgBegin p) := operands_port id rfl rfl rfl
theorem Operands.cfgSet (p : Port) : Operands.Statement (.cfgSet p) := operands_port id rfl rfl rfl
theorem Operands.cfgGet (p : Port) : Operands.Statement (.cfgGet p) := operands_port id rfl rfl rfl
theorem Operands.cfgCommit (p : Port) : Operands.Statement (.cfgCommit p) := operands_port id rfl rfl rfl
theorem Operands.cfgRollback (p : Port) : Operands.Statement (.cfgRollback p) := operands_port id rfl rfl rfl
theorem Operands.cfgStatus (p : Port) : Operands.Statement (.cfgStatus p) := operands_port id rfl rfl rfl
theorem Operands.txnTimeout (realm : Nat) : Operands.Statement (.txnTimeout realm) := operands_none rfl rfl rfl
theorem Operands.adminOpen (p : Port) : Operands.Statement (.adminOpen p) := operands_port id rfl rfl rfl
theorem Operands.adminClose (p : Port) : Operands.Statement (.adminClose p) := operands_port id rfl rfl rfl
theorem Operands.officerSign (p : Port) : Operands.Statement (.officerSign p) := operands_port id rfl rfl rfl
theorem Operands.actStatus (p : Port) : Operands.Statement (.actStatus p) := operands_port id rfl rfl rfl
theorem Operands.actCancel (p : Port) : Operands.Statement (.actCancel p) := operands_port id rfl rfl rfl
theorem Operands.officerEnrol (p : Port) : Operands.Statement (.officerEnrol p) := operands_port id rfl rfl rfl
theorem Operands.officerRemove (p : Port) : Operands.Statement (.officerRemove p) := operands_port id rfl rfl rfl
theorem Operands.officerList (p : Port) : Operands.Statement (.officerList p) := operands_port id rfl rfl rfl
theorem Operands.sessionTimeout (id : Nat) : Operands.Statement (.sessionTimeout id) := operands_none rfl rfl rfl
theorem Operands.quorumTimeout (realm : Nat) : Operands.Statement (.quorumTimeout realm) := operands_none rfl rfl rfl
theorem Operands.adminSessionTimeout (realm : Nat) : Operands.Statement (.adminSessionTimeout realm) := operands_none rfl rfl rfl
theorem Operands.sqTailDoorbell (fn : Nat) (c : Nat) (ring : Nat) (value : Nat) : Operands.Statement (.sqTailDoorbell fn c ring value) := by
  intro h
  simp_all [Instr.wf, channelsOf, functionsOf, portsOf, channelOk, functionOk]
theorem Operands.cqHeadDoorbell (fn : Nat) (c : Nat) (value : Nat) : Operands.Statement (.cqHeadDoorbell fn c value) := by
  intro h
  simp_all [Instr.wf, channelsOf, functionsOf, portsOf, channelOk, functionOk]
theorem Operands.fnTimeLoRead (fn : Nat) : Operands.Statement (.fnTimeLoRead fn) := by
  intro h
  simp_all [Instr.wf, channelsOf, functionsOf, portsOf, functionOk]
theorem Operands.registerWrite (who : Master) (addr : Nat) (data : Bytes) : Operands.Statement (.registerWrite who addr data) := operands_none rfl rfl rfl
theorem Operands.descriptorUndefinedOpcode (c : Nat) (ring : Nat) (desc : Bytes) : Operands.Statement (.descriptorUndefinedOpcode c ring desc) := by
  intro h
  simp_all [Instr.wf, channelsOf, functionsOf, portsOf, channelOk]
theorem Operands.descriptorFetchFailed (c : Nat) (ring : Nat) : Operands.Statement (.descriptorFetchFailed c ring) := by
  intro h
  simp_all [Instr.wf, channelsOf, functionsOf, portsOf, channelOk]
theorem Operands.keyBlobHeaderRead (c : Nat) (tag : Nat) (data : Option Bytes) : Operands.Statement (.keyBlobHeaderRead c tag data) := by
  intro h
  simp_all [Instr.wf, channelsOf, functionsOf, portsOf, channelOk]
theorem Operands.keyBlobLoaded (c : Nat) (tag : Nat) (data : Option Bytes) : Operands.Statement (.keyBlobLoaded c tag data) := by
  intro h
  simp_all [Instr.wf, channelsOf, functionsOf, portsOf, channelOk]
theorem Operands.anchor (c : Nat) (miss : Bool) : Operands.Statement (.anchor c miss) := by
  intro h
  simp_all [Instr.wf, channelsOf, functionsOf, portsOf, channelOk]
theorem Operands.keyCheckInstant (c : Nat) : Operands.Statement (.keyCheckInstant c) := by
  intro h
  simp_all [Instr.wf, channelsOf, functionsOf, portsOf, channelOk]
theorem Operands.itemRelease (c : Nat) : Operands.Statement (.itemRelease c) := by
  intro h
  simp_all [Instr.wf, channelsOf, functionsOf, portsOf, channelOk]
theorem Operands.cqModTimerExpire (c : Nat) : Operands.Statement (.cqModTimerExpire c) := by
  intro h
  simp_all [Instr.wf, channelsOf, functionsOf, portsOf, channelOk]
theorem Operands.outputWriteFailed (c : Nat) (written : Nat) : Operands.Statement (.outputWriteFailed c written) := by
  intro h
  simp_all [Instr.wf, channelsOf, functionsOf, portsOf, channelOk]
theorem Operands.completionWriteFailed (c : Nat) : Operands.Statement (.completionWriteFailed c) := by
  intro h
  simp_all [Instr.wf, channelsOf, functionsOf, portsOf, channelOk]
theorem Operands.busMasterEnableClear (fn : Nat) : Operands.Statement (.busMasterEnableClear fn) := by
  intro h
  simp_all [Instr.wf, channelsOf, functionsOf, portsOf, functionOk]
theorem Operands.functionLevelReset (fn : Nat) : Operands.Statement (.functionLevelReset fn) := by
  intro h
  simp_all [Instr.wf, channelsOf, functionsOf, portsOf, functionOk]
theorem Operands.pcieLinkDown (perst : Bool) : Operands.Statement (.pcieLinkDown perst) := operands_none rfl rfl rfl
theorem Operands.perstRise : Operands.Statement (.perstRise) := operands_none rfl rfl rfl
theorem Operands.pcieLinkTrained (width : Nat) (speed : Nat) : Operands.Statement (.pcieLinkTrained width speed) := operands_none rfl rfl rfl
theorem Operands.pinTranslate (ph : ItemPhase) : Operands.Statement (.pinTranslate ph) := operands_phase rfl rfl rfl rfl
theorem Operands.pinTranslateTdukpt (ph : ItemPhase) : Operands.Statement (.pinTranslateTdukpt ph) := operands_phase rfl rfl rfl rfl
theorem Operands.pinTranslateAdukpt (ph : ItemPhase) : Operands.Statement (.pinTranslateAdukpt ph) := operands_phase rfl rfl rfl rfl
theorem Operands.pinVerify3624 (ph : ItemPhase) : Operands.Statement (.pinVerify3624 ph) := operands_phase rfl rfl rfl rfl
theorem Operands.pinVerify3624Tdukpt (ph : ItemPhase) : Operands.Statement (.pinVerify3624Tdukpt ph) := operands_phase rfl rfl rfl rfl
theorem Operands.pinVerify3624Adukpt (ph : ItemPhase) : Operands.Statement (.pinVerify3624Adukpt ph) := operands_phase rfl rfl rfl rfl
theorem Operands.pinVerifyPvv (ph : ItemPhase) : Operands.Statement (.pinVerifyPvv ph) := operands_phase rfl rfl rfl rfl
theorem Operands.pinVerifyPvvTdukpt (ph : ItemPhase) : Operands.Statement (.pinVerifyPvvTdukpt ph) := operands_phase rfl rfl rfl rfl
theorem Operands.pinVerifyPvvAdukpt (ph : ItemPhase) : Operands.Statement (.pinVerifyPvvAdukpt ph) := operands_phase rfl rfl rfl rfl
theorem Operands.macGenerateAlg1 (ph : ItemPhase) : Operands.Statement (.macGenerateAlg1 ph) := operands_phase rfl rfl rfl rfl
theorem Operands.macVerifyAlg1 (ph : ItemPhase) : Operands.Statement (.macVerifyAlg1 ph) := operands_phase rfl rfl rfl rfl
theorem Operands.macGenerateAlg3 (ph : ItemPhase) : Operands.Statement (.macGenerateAlg3 ph) := operands_phase rfl rfl rfl rfl
theorem Operands.macVerifyAlg3 (ph : ItemPhase) : Operands.Statement (.macVerifyAlg3 ph) := operands_phase rfl rfl rfl rfl
theorem Operands.macGenerateCmac (ph : ItemPhase) : Operands.Statement (.macGenerateCmac ph) := operands_phase rfl rfl rfl rfl
theorem Operands.macVerifyCmac (ph : ItemPhase) : Operands.Statement (.macVerifyCmac ph) := operands_phase rfl rfl rfl rfl
theorem Operands.macGenerateAlg3Tdukpt (ph : ItemPhase) : Operands.Statement (.macGenerateAlg3Tdukpt ph) := operands_phase rfl rfl rfl rfl
theorem Operands.macVerifyAlg3Tdukpt (ph : ItemPhase) : Operands.Statement (.macVerifyAlg3Tdukpt ph) := operands_phase rfl rfl rfl rfl
theorem Operands.macGenerateCmacAdukpt (ph : ItemPhase) : Operands.Statement (.macGenerateCmacAdukpt ph) := operands_phase rfl rfl rfl rfl
theorem Operands.macVerifyCmacAdukpt (ph : ItemPhase) : Operands.Statement (.macVerifyCmacAdukpt ph) := operands_phase rfl rfl rfl rfl
theorem Operands.arqcVerify (ph : ItemPhase) : Operands.Statement (.arqcVerify ph) := operands_phase rfl rfl rfl rfl
theorem Operands.arqcGenerate (ph : ItemPhase) : Operands.Statement (.arqcGenerate ph) := operands_phase rfl rfl rfl rfl
theorem Operands.cvvGenerate (ph : ItemPhase) : Operands.Statement (.cvvGenerate ph) := operands_phase rfl rfl rfl rfl
theorem Operands.cvvVerify (ph : ItemPhase) : Operands.Statement (.cvvVerify ph) := operands_phase rfl rfl rfl rfl
theorem Operands.dukptIkDerive (ph : ItemPhase) : Operands.Statement (.dukptIkDerive ph) := operands_phase rfl rfl rfl rfl
theorem Operands.emvIccDerive (ph : ItemPhase) : Operands.Statement (.emvIccDerive ph) := operands_phase rfl rfl rfl rfl
theorem Operands.dukptDataTdes (ph : ItemPhase) : Operands.Statement (.dukptDataTdes ph) := operands_phase rfl rfl rfl rfl
theorem Operands.dukptDataAes (ph : ItemPhase) : Operands.Statement (.dukptDataAes ph) := operands_phase rfl rfl rfl rfl
theorem Operands.aesEcb (ph : ItemPhase) : Operands.Statement (.aesEcb ph) := operands_phase rfl rfl rfl rfl
theorem Operands.aesCbcEncrypt (ph : ItemPhase) : Operands.Statement (.aesCbcEncrypt ph) := operands_phase rfl rfl rfl rfl
theorem Operands.aesCbcDecrypt (ph : ItemPhase) : Operands.Statement (.aesCbcDecrypt ph) := operands_phase rfl rfl rfl rfl
theorem Operands.aesCtr (ph : ItemPhase) : Operands.Statement (.aesCtr ph) := operands_phase rfl rfl rfl rfl
theorem Operands.aesCfbEncrypt (ph : ItemPhase) : Operands.Statement (.aesCfbEncrypt ph) := operands_phase rfl rfl rfl rfl
theorem Operands.aesCfbDecrypt (ph : ItemPhase) : Operands.Statement (.aesCfbDecrypt ph) := operands_phase rfl rfl rfl rfl
theorem Operands.aesOfb (ph : ItemPhase) : Operands.Statement (.aesOfb ph) := operands_phase rfl rfl rfl rfl
theorem Operands.aesXts (ph : ItemPhase) : Operands.Statement (.aesXts ph) := operands_phase rfl rfl rfl rfl
theorem Operands.aesGcmEncrypt (ph : ItemPhase) : Operands.Statement (.aesGcmEncrypt ph) := operands_phase rfl rfl rfl rfl
theorem Operands.aesGcmDecrypt (ph : ItemPhase) : Operands.Statement (.aesGcmDecrypt ph) := operands_phase rfl rfl rfl rfl
theorem Operands.aesGcmDecryptRbv (ph : ItemPhase) : Operands.Statement (.aesGcmDecryptRbv ph) := operands_phase rfl rfl rfl rfl
theorem Operands.tdesEcb (ph : ItemPhase) : Operands.Statement (.tdesEcb ph) := operands_phase rfl rfl rfl rfl
theorem Operands.tdesCbcEncrypt (ph : ItemPhase) : Operands.Statement (.tdesCbcEncrypt ph) := operands_phase rfl rfl rfl rfl
theorem Operands.tdesCbcDecrypt (ph : ItemPhase) : Operands.Statement (.tdesCbcDecrypt ph) := operands_phase rfl rfl rfl rfl
theorem Operands.sha256 (ph : ItemPhase) : Operands.Statement (.sha256 ph) := operands_phase rfl rfl rfl rfl
theorem Operands.sha384 (ph : ItemPhase) : Operands.Statement (.sha384 ph) := operands_phase rfl rfl rfl rfl
theorem Operands.sha512 (ph : ItemPhase) : Operands.Statement (.sha512 ph) := operands_phase rfl rfl rfl rfl
theorem Operands.hmacSha256Generate (ph : ItemPhase) : Operands.Statement (.hmacSha256Generate ph) := operands_phase rfl rfl rfl rfl
theorem Operands.hmacSha256Verify (ph : ItemPhase) : Operands.Statement (.hmacSha256Verify ph) := operands_phase rfl rfl rfl rfl
theorem Operands.digestFeedSilence (c : Nat) (item : Nat) (received : Nat) : Operands.Statement (.digestFeedSilence c item received) := operands_none rfl rfl rfl
theorem Operands.ecdsaP256Sign (ph : ItemPhase) : Operands.Statement (.ecdsaP256Sign ph) := operands_phase rfl rfl rfl rfl
theorem Operands.ecdsaP256Verify (ph : ItemPhase) : Operands.Statement (.ecdsaP256Verify ph) := operands_phase rfl rfl rfl rfl
theorem Operands.ecdsaP384Sign (ph : ItemPhase) : Operands.Statement (.ecdsaP384Sign ph) := operands_phase rfl rfl rfl rfl
theorem Operands.ecdsaP384Verify (ph : ItemPhase) : Operands.Statement (.ecdsaP384Verify ph) := operands_phase rfl rfl rfl rfl
theorem Operands.ecdhDerive (ph : ItemPhase) : Operands.Statement (.ecdhDerive ph) := operands_phase rfl rfl rfl rfl
theorem Operands.mlkemEncaps (ph : ItemPhase) : Operands.Statement (.mlkemEncaps ph) := operands_phase rfl rfl rfl rfl
theorem Operands.mlkemDecaps (ph : ItemPhase) : Operands.Statement (.mlkemDecaps ph) := operands_phase rfl rfl rfl rfl
theorem Operands.rsaSign (ph : ItemPhase) : Operands.Statement (.rsaSign ph) := operands_phase rfl rfl rfl rfl
theorem Operands.rsaPublic (ph : ItemPhase) : Operands.Statement (.rsaPublic ph) := operands_phase rfl rfl rfl rfl
theorem Operands.slh128sSign (ph : ItemPhase) : Operands.Statement (.slh128sSign ph) := operands_phase rfl rfl rfl rfl
theorem Operands.slh128fSign (ph : ItemPhase) : Operands.Statement (.slh128fSign ph) := operands_phase rfl rfl rfl rfl
theorem Operands.slh256sSign (ph : ItemPhase) : Operands.Statement (.slh256sSign ph) := operands_phase rfl rfl rfl rfl
theorem Operands.slh128sVerify (ph : ItemPhase) : Operands.Statement (.slh128sVerify ph) := operands_phase rfl rfl rfl rfl
theorem Operands.slh128fVerify (ph : ItemPhase) : Operands.Statement (.slh128fVerify ph) := operands_phase rfl rfl rfl rfl
theorem Operands.slh256sVerify (ph : ItemPhase) : Operands.Statement (.slh256sVerify ph) := operands_phase rfl rfl rfl rfl
theorem Operands.slhTopTree (ph : ItemPhase) : Operands.Statement (.slhTopTree ph) := operands_phase rfl rfl rfl rfl
theorem Operands.keyGenerate (ph : ItemPhase) : Operands.Statement (.keyGenerate ph) := operands_phase rfl rfl rfl rfl
theorem Operands.keyGeneratePair (ph : ItemPhase) : Operands.Statement (.keyGeneratePair ph) := operands_phase rfl rfl rfl rfl
theorem Operands.keyRewrap (ph : ItemPhase) : Operands.Statement (.keyRewrap ph) := operands_phase rfl rfl rfl rfl
theorem Operands.keyExportKb (ph : ItemPhase) : Operands.Statement (.keyExportKb ph) := operands_phase rfl rfl rfl rfl
theorem Operands.keyImportKb (ph : ItemPhase) : Operands.Statement (.keyImportKb ph) := operands_phase rfl rfl rfl rfl
theorem Operands.keyImportTr34 (ph : ItemPhase) : Operands.Statement (.keyImportTr34 ph) := operands_phase rfl rfl rfl rfl
theorem Operands.keyExportTr34 (ph : ItemPhase) : Operands.Statement (.keyExportTr34 ph) := operands_phase rfl rfl rfl rfl
theorem Operands.keyCheck (ph : ItemPhase) : Operands.Statement (.keyCheck ph) := operands_phase rfl rfl rfl rfl
theorem Operands.legacyImport (ph : ItemPhase) : Operands.Statement (.legacyImport ph) := operands_phase rfl rfl rfl rfl
theorem Operands.vaultStatus (p : Port) : Operands.Statement (.vaultStatus p) := operands_port id rfl rfl rfl
theorem Operands.keyTransportOpen (p : Port) : Operands.Statement (.keyTransportOpen p) := operands_port id rfl rfl rfl
theorem Operands.rootStage (p : Port) : Operands.Statement (.rootStage p) := operands_port id rfl rfl rfl
theorem Operands.rootSwap (p : Port) : Operands.Statement (.rootSwap p) := operands_port id rfl rfl rfl
theorem Operands.rootUnstage (p : Port) : Operands.Statement (.rootUnstage p) := operands_port id rfl rfl rfl
theorem Operands.rootInvalidate (p : Port) : Operands.Statement (.rootInvalidate p) := operands_port id rfl rfl rfl
theorem Operands.rootErase (p : Port) : Operands.Statement (.rootErase p) := operands_port id rfl rfl rfl
theorem Operands.keyAttest (p : Port) : Operands.Statement (.keyAttest p) := operands_port id rfl rfl rfl
theorem Operands.cacheFlush (p : Port) : Operands.Statement (.cacheFlush p) := operands_port id rfl rfl rfl
theorem Operands.keyGenerateRsa (p : Port) : Operands.Statement (.keyGenerateRsa p) := operands_port id rfl rfl rfl
theorem Operands.peerKeyLoad (p : Port) : Operands.Statement (.peerKeyLoad p) := operands_port id rfl rfl rfl
theorem Operands.hostCsFall (bus : Nat) (cs : Nat) : Operands.Statement (.hostCsFall bus cs) := operands_none rfl rfl rfl
theorem Operands.spiRead (bus : Nat) (opcode : Nat) (f : HostFrame) : Operands.Statement (.spiRead bus opcode f) := operands_none rfl rfl rfl
theorem Operands.spiRead4byte (bus : Nat) (opcode : Nat) (f : HostFrame) : Operands.Statement (.spiRead4byte bus opcode f) := operands_none rfl rfl rfl
theorem Operands.spiFastRead (bus : Nat) (opcode : Nat) (f : HostFrame) : Operands.Statement (.spiFastRead bus opcode f) := operands_none rfl rfl rfl
theorem Operands.spiDualOutputRead (bus : Nat) (opcode : Nat) (f : HostFrame) : Operands.Statement (.spiDualOutputRead bus opcode f) := operands_none rfl rfl rfl
theorem Operands.spiDualIoRead (bus : Nat) (opcode : Nat) (f : HostFrame) : Operands.Statement (.spiDualIoRead bus opcode f) := operands_none rfl rfl rfl
theorem Operands.spiQuadOutputRead (bus : Nat) (opcode : Nat) (f : HostFrame) : Operands.Statement (.spiQuadOutputRead bus opcode f) := operands_none rfl rfl rfl
theorem Operands.spiQuadIoRead (bus : Nat) (opcode : Nat) (f : HostFrame) : Operands.Statement (.spiQuadIoRead bus opcode f) := operands_none rfl rfl rfl
theorem Operands.spiReadId (bus : Nat) (opcode : Nat) (f : HostFrame) : Operands.Statement (.spiReadId bus opcode f) := operands_none rfl rfl rfl
theorem Operands.spiReadSfdp (bus : Nat) (opcode : Nat) (f : HostFrame) : Operands.Statement (.spiReadSfdp bus opcode f) := operands_none rfl rfl rfl
theorem Operands.spiReadStatus1 (bus : Nat) (opcode : Nat) (f : HostFrame) : Operands.Statement (.spiReadStatus1 bus opcode f) := operands_none rfl rfl rfl
theorem Operands.spiReadStatus2 (bus : Nat) (opcode : Nat) (f : HostFrame) : Operands.Statement (.spiReadStatus2 bus opcode f) := operands_none rfl rfl rfl
theorem Operands.spiReadFlagStatus (bus : Nat) (opcode : Nat) (f : HostFrame) : Operands.Statement (.spiReadFlagStatus bus opcode f) := operands_none rfl rfl rfl
theorem Operands.spiWriteEnable (bus : Nat) (opcode : Nat) (f : HostFrame) : Operands.Statement (.spiWriteEnable bus opcode f) := operands_none rfl rfl rfl
theorem Operands.spiWriteDisable (bus : Nat) (opcode : Nat) (f : HostFrame) : Operands.Statement (.spiWriteDisable bus opcode f) := operands_none rfl rfl rfl
theorem Operands.spiPageProgram (bus : Nat) (opcode : Nat) (f : HostFrame) : Operands.Statement (.spiPageProgram bus opcode f) := operands_none rfl rfl rfl
theorem Operands.spiQuadPageProgram (bus : Nat) (opcode : Nat) (f : HostFrame) : Operands.Statement (.spiQuadPageProgram bus opcode f) := operands_none rfl rfl rfl
theorem Operands.spiSectorErase (bus : Nat) (opcode : Nat) (f : HostFrame) : Operands.Statement (.spiSectorErase bus opcode f) := operands_none rfl rfl rfl
theorem Operands.spiBlockErase32k (bus : Nat) (opcode : Nat) (f : HostFrame) : Operands.Statement (.spiBlockErase32k bus opcode f) := operands_none rfl rfl rfl
theorem Operands.spiBlockErase64k (bus : Nat) (opcode : Nat) (f : HostFrame) : Operands.Statement (.spiBlockErase64k bus opcode f) := operands_none rfl rfl rfl
theorem Operands.spiChipErase (bus : Nat) (opcode : Nat) (f : HostFrame) : Operands.Statement (.spiChipErase bus opcode f) := operands_none rfl rfl rfl
theorem Operands.spiWriteStatus1 (bus : Nat) (opcode : Nat) (f : HostFrame) : Operands.Statement (.spiWriteStatus1 bus opcode f) := operands_none rfl rfl rfl
theorem Operands.spiWriteStatus2 (bus : Nat) (opcode : Nat) (f : HostFrame) : Operands.Statement (.spiWriteStatus2 bus opcode f) := operands_none rfl rfl rfl
theorem Operands.spiEnter4byteMode (bus : Nat) (opcode : Nat) (f : HostFrame) : Operands.Statement (.spiEnter4byteMode bus opcode f) := operands_none rfl rfl rfl
theorem Operands.spiExit4byteMode (bus : Nat) (opcode : Nat) (f : HostFrame) : Operands.Statement (.spiExit4byteMode bus opcode f) := operands_none rfl rfl rfl
theorem Operands.spiResetEnable (bus : Nat) (opcode : Nat) (f : HostFrame) : Operands.Statement (.spiResetEnable bus opcode f) := operands_none rfl rfl rfl
theorem Operands.spiReset (bus : Nat) (opcode : Nat) (f : HostFrame) : Operands.Statement (.spiReset bus opcode f) := operands_none rfl rfl rfl
theorem Operands.spiClearFlagStatus (bus : Nat) (opcode : Nat) (f : HostFrame) : Operands.Statement (.spiClearFlagStatus bus opcode f) := operands_none rfl rfl rfl
theorem Operands.deniedOpcodeFrame (bus : Nat) (opcode : Nat) (f : HostFrame) : Operands.Statement (.deniedOpcodeFrame bus opcode f) := operands_none rfl rfl rfl
theorem Operands.mb2Read (off : Nat) (len : Nat) : Operands.Statement (.mb2Read off len) := operands_none rfl rfl rfl
theorem Operands.mb2Write (off : Nat) (data : Bytes) : Operands.Statement (.mb2Write off data) := operands_none rfl rfl rfl
theorem Operands.flashStatusPoll (bus : Nat) (cs : Nat) (sr1 : Nat) (sr2 : Nat) : Operands.Statement (.flashStatusPoll bus cs sr1 sr2) := operands_none rfl rfl rfl
theorem Operands.flashOperationTimeout (bus : Nat) (cs : Nat) : Operands.Statement (.flashOperationTimeout bus cs) := operands_none rfl rfl rfl
theorem Operands.pfWindowWrite (who : Master) (addr : Nat) (data : Bytes) : Operands.Statement (.pfWindowWrite who addr data) := operands_none rfl rfl rfl
theorem Operands.pfGatherTimeout : Operands.Statement (.pfGatherTimeout) := operands_none rfl rfl rfl
theorem Operands.pfStallTimeout : Operands.Statement (.pfStallTimeout) := operands_none rfl rfl rfl
theorem Operands.pfEraseGo (who : Master) : Operands.Statement (.pfEraseGo who) := operands_none rfl rfl rfl
theorem Operands.pfEraseDone (pass : Bool) : Operands.Statement (.pfEraseDone pass) := operands_none rfl rfl rfl
theorem Operands.pfLockWrite (who : Master) : Operands.Statement (.pfLockWrite who) := operands_none rfl rfl rfl
theorem Operands.regionDigestComplete (bus : Nat) (region : Nat) (digest : Bytes) : Operands.Statement (.regionDigestComplete bus region digest) := operands_none rfl rfl rfl
theorem Operands.restoreAreaDone (bus : Nat) (status : Nat) : Operands.Statement (.restoreAreaDone bus status) := operands_none rfl rfl rfl
theorem Operands.platStatus (p : Port) : Operands.Statement (.platStatus p) := operands_port id rfl rfl rfl
theorem Operands.platVerify (p : Port) : Operands.Statement (.platVerify p) := operands_port id rfl rfl rfl
theorem Operands.platReset (p : Port) : Operands.Statement (.platReset p) := operands_port id rfl rfl rfl
theorem Operands.platRecover (p : Port) : Operands.Statement (.platRecover p) := operands_port id rfl rfl rfl
theorem Operands.platReleaseRetry (p : Port) : Operands.Statement (.platReleaseRetry p) := operands_port id rfl rfl rfl
theorem Operands.platGoldenCapture (p : Port) : Operands.Statement (.platGoldenCapture p) := operands_port id rfl rfl rfl
theorem Operands.platSvnAdvance (p : Port) : Operands.Statement (.platSvnAdvance p) := operands_port id rfl rfl rfl
theorem Operands.platDenials (p : Port) : Operands.Statement (.platDenials p) := operands_port id rfl rfl rfl
theorem Operands.platManifestRead (p : Port) : Operands.Statement (.platManifestRead p) := operands_port id rfl rfl rfl
theorem Operands.idCertRead (p : Port) : Operands.Statement (.idCertRead p) := operands_port id rfl rfl rfl
theorem Operands.idCertWrite (p : Port) : Operands.Statement (.idCertWrite p) := operands_port id rfl rfl rfl
theorem Operands.attestReport (p : Port) : Operands.Statement (.attestReport p) := operands_port id rfl rfl rfl
theorem Operands.spdmGetVersion (p : Port) : Operands.Statement (.spdmGetVersion p) := operands_port id rfl rfl rfl
theorem Operands.spdmGetCapabilities (p : Port) : Operands.Statement (.spdmGetCapabilities p) := operands_port id rfl rfl rfl
theorem Operands.spdmNegotiateAlgorithms (p : Port) : Operands.Statement (.spdmNegotiateAlgorithms p) := operands_port id rfl rfl rfl
theorem Operands.spdmGetDigests (p : Port) : Operands.Statement (.spdmGetDigests p) := operands_port id rfl rfl rfl
theorem Operands.spdmGetCertificate (p : Port) : Operands.Statement (.spdmGetCertificate p) := operands_port id rfl rfl rfl
theorem Operands.spdmChallenge (p : Port) : Operands.Statement (.spdmChallenge p) := operands_port id rfl rfl rfl
theorem Operands.spdmGetMeasurements (p : Port) : Operands.Statement (.spdmGetMeasurements p) := operands_port id rfl rfl rfl
theorem Operands.spdmUnsupportedRequest (p : Port) : Operands.Statement (.spdmUnsupportedRequest p) := operands_port id rfl rfl rfl
theorem Operands.apexSignatureComplete : Operands.Statement (.apexSignatureComplete) := operands_none rfl rfl rfl
theorem Operands.domainStatus (p : Port) : Operands.Statement (.domainStatus p) := operands_port id rfl rfl rfl
theorem Operands.domainCard (p : Port) : Operands.Statement (.domainCard p) := operands_port id rfl rfl rfl
theorem Operands.domainCreate (p : Port) : Operands.Statement (.domainCreate p) := operands_port id rfl rfl rfl
theorem Operands.domainJoinRequest (p : Port) : Operands.Statement (.domainJoinRequest p) := operands_port id rfl rfl rfl
theorem Operands.domainAdmit (p : Port) : Operands.Statement (.domainAdmit p) := operands_port id rfl rfl rfl
theorem Operands.domainAccept (p : Port) : Operands.Statement (.domainAccept p) := operands_port id rfl rfl rfl
theorem Operands.domainRosterUpdate (p : Port) : Operands.Statement (.domainRosterUpdate p) := operands_port id rfl rfl rfl
theorem Operands.domainRoll (p : Port) : Operands.Statement (.domainRoll p) := operands_port id rfl rfl rfl
theorem Operands.domainPackageFetch (p : Port) : Operands.Statement (.domainPackageFetch p) := operands_port id rfl rfl rfl
theorem Operands.domainPackageLoad (p : Port) : Operands.Statement (.domainPackageLoad p) := operands_port id rfl rfl rfl
theorem Operands.domainActivate (p : Port) : Operands.Statement (.domainActivate p) := operands_port id rfl rfl rfl
theorem Operands.domainLeave (p : Port) : Operands.Statement (.domainLeave p) := operands_port id rfl rfl rfl
theorem Operands.domainReport (p : Port) : Operands.Statement (.domainReport p) := operands_port id rfl rfl rfl
theorem Operands.domainNoticeFetch (p : Port) : Operands.Statement (.domainNoticeFetch p) := operands_port id rfl rfl rfl
theorem Operands.domainNoticeIn (p : Port) : Operands.Statement (.domainNoticeIn p) := operands_port id rfl rfl rfl
theorem Operands.domainFaults (p : Port) : Operands.Statement (.domainFaults p) := operands_port id rfl rfl rfl
theorem Operands.domainResultRead (p : Port) : Operands.Statement (.domainResultRead p) := operands_port id rfl rfl rfl
theorem Operands.coalesceEntryClose : Operands.Statement (.coalesceEntryClose) := operands_none rfl rfl rfl
theorem Operands.joinTicketExpire : Operands.Statement (.joinTicketExpire) := operands_none rfl rfl rfl
theorem Operands.actOutputExpire (realm : Nat) : Operands.Statement (.actOutputExpire realm) := operands_none rfl rfl rfl
theorem Operands.linkTrained (lanes : Nat) (margins : List (Nat × Nat)) : Operands.Statement (.linkTrained lanes margins) := operands_none rfl rfl rfl
theorem Operands.laneRetrain (lane : Nat) : Operands.Statement (.laneRetrain lane) := operands_none rfl rfl rfl
theorem Operands.chordHello (frame : Bytes) : Operands.Statement (.chordHello frame) := operands_none rfl rfl rfl
theorem Operands.chordBeat (frame : Bytes) : Operands.Statement (.chordBeat frame) := operands_none rfl rfl rfl
theorem Operands.chordAdmit (frame : Bytes) : Operands.Statement (.chordAdmit frame) := operands_none rfl rfl rfl
theorem Operands.chordRel (frame : Bytes) : Operands.Statement (.chordRel frame) := operands_none rfl rfl rfl
theorem Operands.chordAck (frame : Bytes) : Operands.Statement (.chordAck frame) := operands_none rfl rfl rfl
theorem Operands.chordPrepare (frame : Bytes) : Operands.Statement (.chordPrepare frame) := operands_none rfl rfl rfl
theorem Operands.chordReady (frame : Bytes) : Operands.Statement (.chordReady frame) := operands_none rfl rfl rfl
theorem Operands.chordCommit (frame : Bytes) : Operands.Statement (.chordCommit frame) := operands_none rfl rfl rfl
theorem Operands.chordCommitAck (frame : Bytes) : Operands.Statement (.chordCommitAck frame) := operands_none rfl rfl rfl
theorem Operands.chordNack (frame : Bytes) : Operands.Statement (.chordNack frame) := operands_none rfl rfl rfl
theorem Operands.chordAbort (frame : Bytes) : Operands.Statement (.chordAbort frame) := operands_none rfl rfl rfl
theorem Operands.chordResolve (frame : Bytes) : Operands.Statement (.chordResolve frame) := operands_none rfl rfl rfl
theorem Operands.chordSync (frame : Bytes) : Operands.Statement (.chordSync frame) := operands_none rfl rfl rfl
theorem Operands.chordFenceTest (frame : Bytes) : Operands.Statement (.chordFenceTest frame) := operands_none rfl rfl rfl
theorem Operands.readyTimeout : Operands.Statement (.readyTimeout) := operands_none rfl rfl rfl
theorem Operands.commitWaitTimeout : Operands.Statement (.commitWaitTimeout) := operands_none rfl rfl rfl
theorem Operands.heartbeatWindow : Operands.Statement (.heartbeatWindow) := operands_none rfl rfl rfl
theorem Operands.pairDeadline (reads : List (Nat × Bytes)) : Operands.Statement (.pairDeadline reads) := operands_none rfl rfl rfl
theorem Operands.fenceInAsserted : Operands.Statement (.fenceInAsserted) := operands_none rfl rfl rfl
theorem Operands.fenceInReleased : Operands.Statement (.fenceInReleased) := operands_none rfl rfl rfl
theorem Operands.fenceTestPulse : Operands.Statement (.fenceTestPulse) := operands_none rfl rfl rfl
theorem Operands.timeStep : Operands.Statement (.timeStep) := operands_none rfl rfl rfl
theorem Operands.resyncComplete : Operands.Statement (.resyncComplete) := operands_none rfl rfl rfl
theorem Operands.pairStatus (p : Port) : Operands.Statement (.pairStatus p) := operands_port id rfl rfl rfl
theorem Operands.pairBind (p : Port) : Operands.Statement (.pairBind p) := operands_port id rfl rfl rfl
theorem Operands.pairAccept (p : Port) : Operands.Statement (.pairAccept p) := operands_port id rfl rfl rfl
theorem Operands.pairUnbind (p : Port) : Operands.Statement (.pairUnbind p) := operands_port id rfl rfl rfl
theorem Operands.pairTakeover (p : Port) : Operands.Statement (.pairTakeover p) := operands_port id rfl rfl rfl
theorem Operands.pairUnfence (p : Port) : Operands.Statement (.pairUnfence p) := operands_port id rfl rfl rfl
theorem Operands.pairRekey (p : Port) : Operands.Statement (.pairRekey p) := operands_port id rfl rfl rfl
theorem Operands.pairResultRead (p : Port) : Operands.Statement (.pairResultRead p) := operands_port id rfl rfl rfl
theorem Operands.detectorTrip (ds : List Nat) (clock : TileClock) (m : Sample) : Operands.Statement (.detectorTrip ds clock m) := operands_none rfl rfl rfl
theorem Operands.lockstepDisagree : Operands.Statement (.lockstepDisagree) := operands_none rfl rfl rfl
theorem Operands.busIntegrityMismatch (master : Nat) (target : Nat) : Operands.Statement (.busIntegrityMismatch master target) := operands_none rfl rfl rfl
theorem Operands.detectorStimulationTest (d : Nat) (tripped : Bool) (tile : Nat) : Operands.Statement (.detectorStimulationTest d tripped tile) := operands_none rfl rfl rfl
theorem Operands.sentinelPowerOn : Operands.Statement (.sentinelPowerOn) := operands_none rfl rfl rfl
theorem Operands.cellStateChange (vbat : Nat) (current : Int) (ntc : Option Int) : Operands.Statement (.cellStateChange vbat current ntc) := operands_none rfl rfl rfl
theorem Operands.chargerTimerExpire : Operands.Statement (.chargerTimerExpire) := operands_none rfl rfl rfl
theorem Operands.chargeEstimate (vbat : Nat) : Operands.Statement (.chargeEstimate vbat) := operands_none rfl rfl rfl
theorem Operands.gaugeLevelCross (remaining : Nat) : Operands.Statement (.gaugeLevelCross remaining) := operands_none rfl rfl rfl
theorem Operands.tamperStatus (p : Port) : Operands.Statement (.tamperStatus p) := operands_port id rfl rfl rfl
theorem Operands.cellStatus (p : Port) : Operands.Statement (.cellStatus p) := operands_port id rfl rfl rfl
theorem Operands.sentinelLogRead (p : Port) : Operands.Statement (.sentinelLogRead p) := operands_port id rfl rfl rfl
theorem Operands.detectorTest (p : Port) (tripped : Bool) (tile : Nat) : Operands.Statement (.detectorTest p tripped tile) := operands_port (fun h => by simp [Instr.wf] at h; simp [h]) rfl rfl rfl
theorem Operands.zeroiseCommand (p : Port) : Operands.Statement (.zeroiseCommand p) := operands_port id rfl rfl rfl
theorem Operands.rtcSet (p : Port) : Operands.Statement (.rtcSet p) := operands_port id rfl rfl rfl
theorem Operands.otpWordProgram (word : Nat) (bits : Nat) (low : Nat) (high : Nat) : Operands.Statement (.otpWordProgram word bits low high) := operands_none rfl rfl rfl
theorem Operands.factoryBlankToTest : Operands.Statement (.factoryBlankToTest) := operands_none rfl rfl rfl
theorem Operands.factoryEnrolment (copy : Nat) (data : Bytes) : Operands.Statement (.factoryEnrolment copy data) := operands_none rfl rfl rfl
theorem Operands.factoryTestToProduction : Operands.Statement (.factoryTestToProduction) := operands_none rfl rfl rfl
theorem Operands.factoryScrap : Operands.Statement (.factoryScrap) := operands_none rfl rfl rfl
theorem Operands.lcStatus (p : Port) : Operands.Statement (.lcStatus p) := operands_port id rfl rfl rfl
theorem Operands.otpRead (p : Port) : Operands.Statement (.otpRead p) := operands_port id rfl rfl rfl
theorem Operands.lcCommission (p : Port) : Operands.Statement (.lcCommission p) := operands_port id rfl rfl rfl
theorem Operands.lcRecommission (p : Port) : Operands.Statement (.lcRecommission p) := operands_port id rfl rfl rfl
theorem Operands.lcScrap (p : Port) : Operands.Statement (.lcScrap p) := operands_port id rfl rfl rfl
theorem Operands.debugChallenge (p : Port) : Operands.Statement (.debugChallenge p) := operands_port id rfl rfl rfl
theorem Operands.debugOpen (p : Port) : Operands.Statement (.debugOpen p) := operands_port id rfl rfl rfl
theorem Operands.debugClose (p : Port) : Operands.Statement (.debugClose p) := operands_port id rfl rfl rfl
theorem Operands.debugLifetimeExpire : Operands.Statement (.debugLifetimeExpire) := operands_none rfl rfl rfl
theorem Operands.debugDisablePermanent (p : Port) : Operands.Statement (.debugDisablePermanent p) := operands_port id rfl rfl rfl
theorem Operands.fwStatus (p : Port) : Operands.Statement (.fwStatus p) := operands_port id rfl rfl rfl
theorem Operands.fwSlotErase (p : Port) : Operands.Statement (.fwSlotErase p) := operands_port id rfl rfl rfl
theorem Operands.fwSlotEraseDone (pass : Bool) : Operands.Statement (.fwSlotEraseDone pass) := operands_none rfl rfl rfl
theorem Operands.fwStage (p : Port) : Operands.Statement (.fwStage p) := operands_port id rfl rfl rfl
theorem Operands.fwStageEnd (p : Port) : Operands.Statement (.fwStageEnd p) := operands_port id rfl rfl rfl
theorem Operands.fwActivate (p : Port) : Operands.Statement (.fwActivate p) := operands_port id rfl rfl rfl
theorem Operands.fwActivateRestart : Operands.Statement (.fwActivateRestart) := operands_none rfl rfl rfl
theorem Operands.fwSvnCommit (p : Port) : Operands.Statement (.fwSvnCommit p) := operands_port id rfl rfl rfl
theorem Operands.fwKeyRevoke (p : Port) : Operands.Statement (.fwKeyRevoke p) := operands_port id rfl rfl rfl
theorem Operands.periodicTrigger (trigger : Nat) : Operands.Statement (.periodicTrigger trigger) := operands_none rfl rfl rfl
theorem Operands.journalFlush (pass : Bool) : Operands.Statement (.journalFlush pass) := operands_none rfl rfl rfl
theorem Operands.journalFlushRetry (pass : Bool) : Operands.Statement (.journalFlushRetry pass) := operands_none rfl rfl rfl
theorem Operands.recorderRoomReturns : Operands.Statement (.recorderRoomReturns) := operands_none rfl rfl rfl
theorem Operands.histSample (hist : Nat) (x : Measured) : Operands.Statement (.histSample hist x) := operands_none rfl rfl rfl
theorem Operands.histCheckpoint : Operands.Statement (.histCheckpoint) := operands_none rfl rfl rfl
theorem Operands.recStatus (p : Port) : Operands.Statement (.recStatus p) := operands_port id rfl rfl rfl
theorem Operands.recRead (p : Port) : Operands.Statement (.recRead p) := operands_port id rfl rfl rfl
theorem Operands.recHistRead (p : Port) : Operands.Statement (.recHistRead p) := operands_port id rfl rfl rfl
theorem Operands.recExport (p : Port) : Operands.Statement (.recExport p) := operands_port id rfl rfl rfl
theorem Operands.recResultRead (p : Port) : Operands.Statement (.recResultRead p) := operands_port id rfl rfl rfl
theorem Operands.recHistReset (p : Port) : Operands.Statement (.recHistReset p) := operands_port id rfl rfl rfl
theorem Operands.crossingTimeout (src : Nat) (dst : Nat) (items : List (Nat × Nat)) : Operands.Statement (.crossingTimeout src dst items) := operands_none rfl rfl rfl
theorem Operands.loopInterval (tile : Nat) (slack : Int) (vdd : Nat) : Operands.Statement (.loopInterval tile slack vdd) := operands_none rfl rfl rfl
theorem Operands.avsLowerTimer : Operands.Statement (.avsLowerTimer) := operands_none rfl rfl rfl
theorem Operands.avsFrameComplete (good : Bool) (readback : Nat) : Operands.Statement (.avsFrameComplete good readback) := operands_none rfl rfl rfl
theorem Operands.avsWriteRetry : Operands.Statement (.avsWriteRetry) := operands_none rfl rfl rfl
theorem Operands.avsFaultRetry : Operands.Statement (.avsFaultRetry) := operands_none rfl rfl rfl
theorem Operands.railEntersWindow (x : RailEntry) : Operands.Statement (.railEntersWindow x) := operands_none rfl rfl rfl
theorem Operands.deviceResetRelease : Operands.Statement (.deviceResetRelease) := operands_none rfl rfl rfl
theorem Operands.awaitedInputChange (level : Bool) : Operands.Statement (.awaitedInputChange level) := operands_none rfl rfl rfl
theorem Operands.flashSideUp (bus : Nat) (sfdp0 : Option Bytes) (sfdp1 : Option Bytes) (octal : Bool) : Operands.Statement (.flashSideUp bus sfdp0 sfdp1 octal) := operands_none rfl rfl rfl
theorem Operands.manifestCheckComplete (bus : Nat) (manifest : Option Bytes) : Operands.Statement (.manifestCheckComplete bus manifest) := operands_none rfl rfl rfl
theorem Operands.detectorQuiet (d : Nat) : Operands.Statement (.detectorQuiet d) := operands_none rfl rfl rfl
theorem Operands.livenessToggleResumes (src : Nat) (dst : Nat) : Operands.Statement (.livenessToggleResumes src dst) := operands_none rfl rfl rfl
theorem Operands.clockStretch (tile : Nat) : Operands.Statement (.clockStretch tile) := operands_none rfl rfl rfl
theorem Operands.busMasterEnableSet (fn : Nat) : Operands.Statement (.busMasterEnableSet fn) := by
  intro h
  simp_all [Instr.wf, channelsOf, functionsOf, portsOf, functionOk]
theorem Operands.chgSupplyChange (present : Bool) : Operands.Statement (.chgSupplyChange present) := operands_none rfl rfl rfl

end Sys2Proof.Laws
end

