-- ==== Sys2Proof/Laws/State.lean ====
section
/-!
SUPPORT. What each update of the state leaves as it was, field by field, so that no proof unfolds a record update.
-/

namespace Sys2Proof.Machine

set_option Elab.async false

/-! #### State.emit -/

@[simp] theorem State.emit_now (s : State) (m : OutMsg) : (s.emit m).now = s.now := rfl
@[simp] theorem State.emit_ms (s : State) (m : OutMsg) : (s.emit m).ms = s.ms := rfl
@[simp] theorem State.emit_boot (s : State) (m : OutMsg) : (s.emit m).boot = s.boot := rfl
@[simp] theorem State.emit_rel (s : State) (m : OutMsg) : (s.emit m).rel = s.rel := rfl
@[simp] theorem State.emit_recov (s : State) (m : OutMsg) : (s.emit m).recov = s.recov := rfl
@[simp] theorem State.emit_orfer (s : State) (m : OutMsg) : (s.emit m).orfer = s.orfer := rfl
@[simp] theorem State.emit_i3c (s : State) (m : OutMsg) : (s.emit m).i3c = s.i3c := rfl
@[simp] theorem State.emit_pcie (s : State) (m : OutMsg) : (s.emit m).pcie = s.pcie := rfl
@[simp] theorem State.emit_chans (s : State) (m : OutMsg) : (s.emit m).chans = s.chans := rfl
@[simp] theorem State.emit_wheel (s : State) (m : OutMsg) : (s.emit m).wheel = s.wheel := rfl
@[simp] theorem State.emit_keys (s : State) (m : OutMsg) : (s.emit m).keys = s.keys := rfl
@[simp] theorem State.emit_cipher (s : State) (m : OutMsg) : (s.emit m).cipher = s.cipher := rfl
@[simp] theorem State.emit_operand (s : State) (m : OutMsg) : (s.emit m).operand = s.operand := rfl
@[simp] theorem State.emit_busA (s : State) (m : OutMsg) : (s.emit m).busA = s.busA := rfl
@[simp] theorem State.emit_busB (s : State) (m : OutMsg) : (s.emit m).busB = s.busB := rfl
@[simp] theorem State.emit_priv (s : State) (m : OutMsg) : (s.emit m).priv = s.priv := rfl
@[simp] theorem State.emit_ident (s : State) (m : OutMsg) : (s.emit m).ident = s.ident := rfl
@[simp] theorem State.emit_pair (s : State) (m : OutMsg) : (s.emit m).pair = s.pair := rfl
@[simp] theorem State.emit_supply (s : State) (m : OutMsg) : (s.emit m).supply = s.supply := rfl
@[simp] theorem State.emit_tamper (s : State) (m : OutMsg) : (s.emit m).tamper = s.tamper := rfl
@[simp] theorem State.emit_otp (s : State) (m : OutMsg) : (s.emit m).otp = s.otp := rfl
@[simp] theorem State.emit_fw (s : State) (m : OutMsg) : (s.emit m).fw = s.fw := rfl
@[simp] theorem State.emit_jtag (s : State) (m : OutMsg) : (s.emit m).jtag = s.jtag := rfl
@[simp] theorem State.emit_recorder (s : State) (m : OutMsg) : (s.emit m).recorder = s.recorder := rfl
@[simp] theorem State.emit_tiles (s : State) (m : OutMsg) : (s.emit m).tiles = s.tiles := rfl
@[simp] theorem State.emit_rng (s : State) (m : OutMsg) : (s.emit m).rng = s.rng := rfl
@[simp] theorem State.emit_free (s : State) (m : OutMsg) : (s.emit m).free = s.free := rfl
@[simp] theorem State.emit_pending (s : State) (m : OutMsg) : (s.emit m).pending = s.pending := rfl

/-! #### State.emitAll -/

@[simp] theorem State.emitAll_now (s : State) (ms : List OutMsg) : (s.emitAll ms).now = s.now := rfl
@[simp] theorem State.emitAll_ms (s : State) (ms : List OutMsg) : (s.emitAll ms).ms = s.ms := rfl
@[simp] theorem State.emitAll_boot (s : State) (ms : List OutMsg) : (s.emitAll ms).boot = s.boot := rfl
@[simp] theorem State.emitAll_rel (s : State) (ms : List OutMsg) : (s.emitAll ms).rel = s.rel := rfl
@[simp] theorem State.emitAll_recov (s : State) (ms : List OutMsg) : (s.emitAll ms).recov = s.recov := rfl
@[simp] theorem State.emitAll_orfer (s : State) (ms : List OutMsg) : (s.emitAll ms).orfer = s.orfer := rfl
@[simp] theorem State.emitAll_i3c (s : State) (ms : List OutMsg) : (s.emitAll ms).i3c = s.i3c := rfl
@[simp] theorem State.emitAll_pcie (s : State) (ms : List OutMsg) : (s.emitAll ms).pcie = s.pcie := rfl
@[simp] theorem State.emitAll_chans (s : State) (ms : List OutMsg) : (s.emitAll ms).chans = s.chans := rfl
@[simp] theorem State.emitAll_wheel (s : State) (ms : List OutMsg) : (s.emitAll ms).wheel = s.wheel := rfl
@[simp] theorem State.emitAll_keys (s : State) (ms : List OutMsg) : (s.emitAll ms).keys = s.keys := rfl
@[simp] theorem State.emitAll_cipher (s : State) (ms : List OutMsg) : (s.emitAll ms).cipher = s.cipher := rfl
@[simp] theorem State.emitAll_operand (s : State) (ms : List OutMsg) : (s.emitAll ms).operand = s.operand := rfl
@[simp] theorem State.emitAll_busA (s : State) (ms : List OutMsg) : (s.emitAll ms).busA = s.busA := rfl
@[simp] theorem State.emitAll_busB (s : State) (ms : List OutMsg) : (s.emitAll ms).busB = s.busB := rfl
@[simp] theorem State.emitAll_priv (s : State) (ms : List OutMsg) : (s.emitAll ms).priv = s.priv := rfl
@[simp] theorem State.emitAll_ident (s : State) (ms : List OutMsg) : (s.emitAll ms).ident = s.ident := rfl
@[simp] theorem State.emitAll_pair (s : State) (ms : List OutMsg) : (s.emitAll ms).pair = s.pair := rfl
@[simp] theorem State.emitAll_supply (s : State) (ms : List OutMsg) : (s.emitAll ms).supply = s.supply := rfl
@[simp] theorem State.emitAll_tamper (s : State) (ms : List OutMsg) : (s.emitAll ms).tamper = s.tamper := rfl
@[simp] theorem State.emitAll_otp (s : State) (ms : List OutMsg) : (s.emitAll ms).otp = s.otp := rfl
@[simp] theorem State.emitAll_fw (s : State) (ms : List OutMsg) : (s.emitAll ms).fw = s.fw := rfl
@[simp] theorem State.emitAll_jtag (s : State) (ms : List OutMsg) : (s.emitAll ms).jtag = s.jtag := rfl
@[simp] theorem State.emitAll_recorder (s : State) (ms : List OutMsg) : (s.emitAll ms).recorder = s.recorder := rfl
@[simp] theorem State.emitAll_tiles (s : State) (ms : List OutMsg) : (s.emitAll ms).tiles = s.tiles := rfl
@[simp] theorem State.emitAll_rng (s : State) (ms : List OutMsg) : (s.emitAll ms).rng = s.rng := rfl
@[simp] theorem State.emitAll_free (s : State) (ms : List OutMsg) : (s.emitAll ms).free = s.free := rfl
@[simp] theorem State.emitAll_pending (s : State) (ms : List OutMsg) : (s.emitAll ms).pending = s.pending := rfl

/-! #### State.updChan -/

@[simp] theorem State.updChan_now (s : State) (c : Nat) (f : Channel → Channel) : (s.updChan c f).now = s.now := rfl
@[simp] theorem State.updChan_ms (s : State) (c : Nat) (f : Channel → Channel) : (s.updChan c f).ms = s.ms := rfl
@[simp] theorem State.updChan_boot (s : State) (c : Nat) (f : Channel → Channel) : (s.updChan c f).boot = s.boot := rfl
@[simp] theorem State.updChan_rel (s : State) (c : Nat) (f : Channel → Channel) : (s.updChan c f).rel = s.rel := rfl
@[simp] theorem State.updChan_recov (s : State) (c : Nat) (f : Channel → Channel) : (s.updChan c f).recov = s.recov := rfl
@[simp] theorem State.updChan_orfer (s : State) (c : Nat) (f : Channel → Channel) : (s.updChan c f).orfer = s.orfer := rfl
@[simp] theorem State.updChan_i3c (s : State) (c : Nat) (f : Channel → Channel) : (s.updChan c f).i3c = s.i3c := rfl
@[simp] theorem State.updChan_pcie (s : State) (c : Nat) (f : Channel → Channel) : (s.updChan c f).pcie = s.pcie := rfl
@[simp] theorem State.updChan_wheel (s : State) (c : Nat) (f : Channel → Channel) : (s.updChan c f).wheel = s.wheel := rfl
@[simp] theorem State.updChan_keys (s : State) (c : Nat) (f : Channel → Channel) : (s.updChan c f).keys = s.keys := rfl
@[simp] theorem State.updChan_cipher (s : State) (c : Nat) (f : Channel → Channel) : (s.updChan c f).cipher = s.cipher := rfl
@[simp] theorem State.updChan_operand (s : State) (c : Nat) (f : Channel → Channel) : (s.updChan c f).operand = s.operand := rfl
@[simp] theorem State.updChan_busA (s : State) (c : Nat) (f : Channel → Channel) : (s.updChan c f).busA = s.busA := rfl
@[simp] theorem State.updChan_busB (s : State) (c : Nat) (f : Channel → Channel) : (s.updChan c f).busB = s.busB := rfl
@[simp] theorem State.updChan_priv (s : State) (c : Nat) (f : Channel → Channel) : (s.updChan c f).priv = s.priv := rfl
@[simp] theorem State.updChan_ident (s : State) (c : Nat) (f : Channel → Channel) : (s.updChan c f).ident = s.ident := rfl
@[simp] theorem State.updChan_pair (s : State) (c : Nat) (f : Channel → Channel) : (s.updChan c f).pair = s.pair := rfl
@[simp] theorem State.updChan_supply (s : State) (c : Nat) (f : Channel → Channel) : (s.updChan c f).supply = s.supply := rfl
@[simp] theorem State.updChan_tamper (s : State) (c : Nat) (f : Channel → Channel) : (s.updChan c f).tamper = s.tamper := rfl
@[simp] theorem State.updChan_otp (s : State) (c : Nat) (f : Channel → Channel) : (s.updChan c f).otp = s.otp := rfl
@[simp] theorem State.updChan_fw (s : State) (c : Nat) (f : Channel → Channel) : (s.updChan c f).fw = s.fw := rfl
@[simp] theorem State.updChan_jtag (s : State) (c : Nat) (f : Channel → Channel) : (s.updChan c f).jtag = s.jtag := rfl
@[simp] theorem State.updChan_recorder (s : State) (c : Nat) (f : Channel → Channel) : (s.updChan c f).recorder = s.recorder := rfl
@[simp] theorem State.updChan_tiles (s : State) (c : Nat) (f : Channel → Channel) : (s.updChan c f).tiles = s.tiles := rfl
@[simp] theorem State.updChan_rng (s : State) (c : Nat) (f : Channel → Channel) : (s.updChan c f).rng = s.rng := rfl
@[simp] theorem State.updChan_free (s : State) (c : Nat) (f : Channel → Channel) : (s.updChan c f).free = s.free := rfl
@[simp] theorem State.updChan_outbox (s : State) (c : Nat) (f : Channel → Channel) : (s.updChan c f).outbox = s.outbox := rfl
@[simp] theorem State.updChan_pending (s : State) (c : Nat) (f : Channel → Channel) : (s.updChan c f).pending = s.pending := rfl

/-! #### State.updFn -/

@[simp] theorem State.updFn_now (s : State) (n : Nat) (f : FnState → FnState) : (s.updFn n f).now = s.now := rfl
@[simp] theorem State.updFn_ms (s : State) (n : Nat) (f : FnState → FnState) : (s.updFn n f).ms = s.ms := rfl
@[simp] theorem State.updFn_boot (s : State) (n : Nat) (f : FnState → FnState) : (s.updFn n f).boot = s.boot := rfl
@[simp] theorem State.updFn_rel (s : State) (n : Nat) (f : FnState → FnState) : (s.updFn n f).rel = s.rel := rfl
@[simp] theorem State.updFn_recov (s : State) (n : Nat) (f : FnState → FnState) : (s.updFn n f).recov = s.recov := rfl
@[simp] theorem State.updFn_orfer (s : State) (n : Nat) (f : FnState → FnState) : (s.updFn n f).orfer = s.orfer := rfl
@[simp] theorem State.updFn_i3c (s : State) (n : Nat) (f : FnState → FnState) : (s.updFn n f).i3c = s.i3c := rfl
@[simp] theorem State.updFn_chans (s : State) (n : Nat) (f : FnState → FnState) : (s.updFn n f).chans = s.chans := rfl
@[simp] theorem State.updFn_wheel (s : State) (n : Nat) (f : FnState → FnState) : (s.updFn n f).wheel = s.wheel := rfl
@[simp] theorem State.updFn_keys (s : State) (n : Nat) (f : FnState → FnState) : (s.updFn n f).keys = s.keys := rfl
@[simp] theorem State.updFn_cipher (s : State) (n : Nat) (f : FnState → FnState) : (s.updFn n f).cipher = s.cipher := rfl
@[simp] theorem State.updFn_operand (s : State) (n : Nat) (f : FnState → FnState) : (s.updFn n f).operand = s.operand := rfl
@[simp] theorem State.updFn_busA (s : State) (n : Nat) (f : FnState → FnState) : (s.updFn n f).busA = s.busA := rfl
@[simp] theorem State.updFn_busB (s : State) (n : Nat) (f : FnState → FnState) : (s.updFn n f).busB = s.busB := rfl
@[simp] theorem State.updFn_priv (s : State) (n : Nat) (f : FnState → FnState) : (s.updFn n f).priv = s.priv := rfl
@[simp] theorem State.updFn_ident (s : State) (n : Nat) (f : FnState → FnState) : (s.updFn n f).ident = s.ident := rfl
@[simp] theorem State.updFn_pair (s : State) (n : Nat) (f : FnState → FnState) : (s.updFn n f).pair = s.pair := rfl
@[simp] theorem State.updFn_supply (s : State) (n : Nat) (f : FnState → FnState) : (s.updFn n f).supply = s.supply := rfl
@[simp] theorem State.updFn_tamper (s : State) (n : Nat) (f : FnState → FnState) : (s.updFn n f).tamper = s.tamper := rfl
@[simp] theorem State.updFn_otp (s : State) (n : Nat) (f : FnState → FnState) : (s.updFn n f).otp = s.otp := rfl
@[simp] theorem State.updFn_fw (s : State) (n : Nat) (f : FnState → FnState) : (s.updFn n f).fw = s.fw := rfl
@[simp] theorem State.updFn_jtag (s : State) (n : Nat) (f : FnState → FnState) : (s.updFn n f).jtag = s.jtag := rfl
@[simp] theorem State.updFn_recorder (s : State) (n : Nat) (f : FnState → FnState) : (s.updFn n f).recorder = s.recorder := rfl
@[simp] theorem State.updFn_tiles (s : State) (n : Nat) (f : FnState → FnState) : (s.updFn n f).tiles = s.tiles := rfl
@[simp] theorem State.updFn_rng (s : State) (n : Nat) (f : FnState → FnState) : (s.updFn n f).rng = s.rng := rfl
@[simp] theorem State.updFn_free (s : State) (n : Nat) (f : FnState → FnState) : (s.updFn n f).free = s.free := rfl
@[simp] theorem State.updFn_outbox (s : State) (n : Nat) (f : FnState → FnState) : (s.updFn n f).outbox = s.outbox := rfl
@[simp] theorem State.updFn_pending (s : State) (n : Nat) (f : FnState → FnState) : (s.updFn n f).pending = s.pending := rfl

/-! #### State.updRealm -/

@[simp] theorem State.updRealm_now (s : State) (r : Nat) (f : Realm → Realm) : (s.updRealm r f).now = s.now := rfl
@[simp] theorem State.updRealm_ms (s : State) (r : Nat) (f : Realm → Realm) : (s.updRealm r f).ms = s.ms := rfl
@[simp] theorem State.updRealm_boot (s : State) (r : Nat) (f : Realm → Realm) : (s.updRealm r f).boot = s.boot := rfl
@[simp] theorem State.updRealm_rel (s : State) (r : Nat) (f : Realm → Realm) : (s.updRealm r f).rel = s.rel := rfl
@[simp] theorem State.updRealm_recov (s : State) (r : Nat) (f : Realm → Realm) : (s.updRealm r f).recov = s.recov := rfl
@[simp] theorem State.updRealm_i3c (s : State) (r : Nat) (f : Realm → Realm) : (s.updRealm r f).i3c = s.i3c := rfl
@[simp] theorem State.updRealm_pcie (s : State) (r : Nat) (f : Realm → Realm) : (s.updRealm r f).pcie = s.pcie := rfl
@[simp] theorem State.updRealm_chans (s : State) (r : Nat) (f : Realm → Realm) : (s.updRealm r f).chans = s.chans := rfl
@[simp] theorem State.updRealm_wheel (s : State) (r : Nat) (f : Realm → Realm) : (s.updRealm r f).wheel = s.wheel := rfl
@[simp] theorem State.updRealm_keys (s : State) (r : Nat) (f : Realm → Realm) : (s.updRealm r f).keys = s.keys := rfl
@[simp] theorem State.updRealm_cipher (s : State) (r : Nat) (f : Realm → Realm) : (s.updRealm r f).cipher = s.cipher := rfl
@[simp] theorem State.updRealm_operand (s : State) (r : Nat) (f : Realm → Realm) : (s.updRealm r f).operand = s.operand := rfl
@[simp] theorem State.updRealm_busA (s : State) (r : Nat) (f : Realm → Realm) : (s.updRealm r f).busA = s.busA := rfl
@[simp] theorem State.updRealm_busB (s : State) (r : Nat) (f : Realm → Realm) : (s.updRealm r f).busB = s.busB := rfl
@[simp] theorem State.updRealm_priv (s : State) (r : Nat) (f : Realm → Realm) : (s.updRealm r f).priv = s.priv := rfl
@[simp] theorem State.updRealm_ident (s : State) (r : Nat) (f : Realm → Realm) : (s.updRealm r f).ident = s.ident := rfl
@[simp] theorem State.updRealm_pair (s : State) (r : Nat) (f : Realm → Realm) : (s.updRealm r f).pair = s.pair := rfl
@[simp] theorem State.updRealm_supply (s : State) (r : Nat) (f : Realm → Realm) : (s.updRealm r f).supply = s.supply := rfl
@[simp] theorem State.updRealm_tamper (s : State) (r : Nat) (f : Realm → Realm) : (s.updRealm r f).tamper = s.tamper := rfl
@[simp] theorem State.updRealm_otp (s : State) (r : Nat) (f : Realm → Realm) : (s.updRealm r f).otp = s.otp := rfl
@[simp] theorem State.updRealm_fw (s : State) (r : Nat) (f : Realm → Realm) : (s.updRealm r f).fw = s.fw := rfl
@[simp] theorem State.updRealm_jtag (s : State) (r : Nat) (f : Realm → Realm) : (s.updRealm r f).jtag = s.jtag := rfl
@[simp] theorem State.updRealm_recorder (s : State) (r : Nat) (f : Realm → Realm) : (s.updRealm r f).recorder = s.recorder := rfl
@[simp] theorem State.updRealm_tiles (s : State) (r : Nat) (f : Realm → Realm) : (s.updRealm r f).tiles = s.tiles := rfl
@[simp] theorem State.updRealm_rng (s : State) (r : Nat) (f : Realm → Realm) : (s.updRealm r f).rng = s.rng := rfl
@[simp] theorem State.updRealm_free (s : State) (r : Nat) (f : Realm → Realm) : (s.updRealm r f).free = s.free := rfl
@[simp] theorem State.updRealm_outbox (s : State) (r : Nat) (f : Realm → Realm) : (s.updRealm r f).outbox = s.outbox := rfl
@[simp] theorem State.updRealm_pending (s : State) (r : Nat) (f : Realm → Realm) : (s.updRealm r f).pending = s.pending := rfl

/-! #### State.updSession -/

@[simp] theorem State.updSession_now (s : State) (i : Nat) (f : Session → Session) : (s.updSession i f).now = s.now := by
  unfold State.updSession; split <;> rfl
@[simp] theorem State.updSession_ms (s : State) (i : Nat) (f : Session → Session) : (s.updSession i f).ms = s.ms := by
  unfold State.updSession; split <;> rfl
@[simp] theorem State.updSession_boot (s : State) (i : Nat) (f : Session → Session) : (s.updSession i f).boot = s.boot := by
  unfold State.updSession; split <;> rfl
@[simp] theorem State.updSession_rel (s : State) (i : Nat) (f : Session → Session) : (s.updSession i f).rel = s.rel := by
  unfold State.updSession; split <;> rfl
@[simp] theorem State.updSession_recov (s : State) (i : Nat) (f : Session → Session) : (s.updSession i f).recov = s.recov := by
  unfold State.updSession; split <;> rfl
@[simp] theorem State.updSession_i3c (s : State) (i : Nat) (f : Session → Session) : (s.updSession i f).i3c = s.i3c := by
  unfold State.updSession; split <;> rfl
@[simp] theorem State.updSession_pcie (s : State) (i : Nat) (f : Session → Session) : (s.updSession i f).pcie = s.pcie := by
  unfold State.updSession; split <;> rfl
@[simp] theorem State.updSession_chans (s : State) (i : Nat) (f : Session → Session) : (s.updSession i f).chans = s.chans := by
  unfold State.updSession; split <;> rfl
@[simp] theorem State.updSession_wheel (s : State) (i : Nat) (f : Session → Session) : (s.updSession i f).wheel = s.wheel := by
  unfold State.updSession; split <;> rfl
@[simp] theorem State.updSession_keys (s : State) (i : Nat) (f : Session → Session) : (s.updSession i f).keys = s.keys := by
  unfold State.updSession; split <;> rfl
@[simp] theorem State.updSession_cipher (s : State) (i : Nat) (f : Session → Session) : (s.updSession i f).cipher = s.cipher := by
  unfold State.updSession; split <;> rfl
@[simp] theorem State.updSession_operand (s : State) (i : Nat) (f : Session → Session) : (s.updSession i f).operand = s.operand := by
  unfold State.updSession; split <;> rfl
@[simp] theorem State.updSession_busA (s : State) (i : Nat) (f : Session → Session) : (s.updSession i f).busA = s.busA := by
  unfold State.updSession; split <;> rfl
@[simp] theorem State.updSession_busB (s : State) (i : Nat) (f : Session → Session) : (s.updSession i f).busB = s.busB := by
  unfold State.updSession; split <;> rfl
@[simp] theorem State.updSession_priv (s : State) (i : Nat) (f : Session → Session) : (s.updSession i f).priv = s.priv := by
  unfold State.updSession; split <;> rfl
@[simp] theorem State.updSession_ident (s : State) (i : Nat) (f : Session → Session) : (s.updSession i f).ident = s.ident := by
  unfold State.updSession; split <;> rfl
@[simp] theorem State.updSession_pair (s : State) (i : Nat) (f : Session → Session) : (s.updSession i f).pair = s.pair := by
  unfold State.updSession; split <;> rfl
@[simp] theorem State.updSession_supply (s : State) (i : Nat) (f : Session → Session) : (s.updSession i f).supply = s.supply := by
  unfold State.updSession; split <;> rfl
@[simp] theorem State.updSession_tamper (s : State) (i : Nat) (f : Session → Session) : (s.updSession i f).tamper = s.tamper := by
  unfold State.updSession; split <;> rfl
@[simp] theorem State.updSession_otp (s : State) (i : Nat) (f : Session → Session) : (s.updSession i f).otp = s.otp := by
  unfold State.updSession; split <;> rfl
@[simp] theorem State.updSession_fw (s : State) (i : Nat) (f : Session → Session) : (s.updSession i f).fw = s.fw := by
  unfold State.updSession; split <;> rfl
@[simp] theorem State.updSession_jtag (s : State) (i : Nat) (f : Session → Session) : (s.updSession i f).jtag = s.jtag := by
  unfold State.updSession; split <;> rfl
@[simp] theorem State.updSession_recorder (s : State) (i : Nat) (f : Session → Session) : (s.updSession i f).recorder = s.recorder := by
  unfold State.updSession; split <;> rfl
@[simp] theorem State.updSession_tiles (s : State) (i : Nat) (f : Session → Session) : (s.updSession i f).tiles = s.tiles := by
  unfold State.updSession; split <;> rfl
@[simp] theorem State.updSession_rng (s : State) (i : Nat) (f : Session → Session) : (s.updSession i f).rng = s.rng := by
  unfold State.updSession; split <;> rfl
@[simp] theorem State.updSession_free (s : State) (i : Nat) (f : Session → Session) : (s.updSession i f).free = s.free := by
  unfold State.updSession; split <;> rfl
@[simp] theorem State.updSession_outbox (s : State) (i : Nat) (f : Session → Session) : (s.updSession i f).outbox = s.outbox := by
  unfold State.updSession; split <;> rfl
@[simp] theorem State.updSession_pending (s : State) (i : Nat) (f : Session → Session) : (s.updSession i f).pending = s.pending := by
  unfold State.updSession; split <;> rfl

/-! #### State.updMbox -/

@[simp] theorem State.updMbox_now (s : State) (p : Port) (f : Mailbox → Mailbox) : (s.updMbox p f).now = s.now := by cases p <;> rfl
@[simp] theorem State.updMbox_ms (s : State) (p : Port) (f : Mailbox → Mailbox) : (s.updMbox p f).ms = s.ms := by cases p <;> rfl
@[simp] theorem State.updMbox_boot (s : State) (p : Port) (f : Mailbox → Mailbox) : (s.updMbox p f).boot = s.boot := by cases p <;> rfl
@[simp] theorem State.updMbox_rel (s : State) (p : Port) (f : Mailbox → Mailbox) : (s.updMbox p f).rel = s.rel := by cases p <;> rfl
@[simp] theorem State.updMbox_recov (s : State) (p : Port) (f : Mailbox → Mailbox) : (s.updMbox p f).recov = s.recov := by cases p <;> rfl
@[simp] theorem State.updMbox_i3c (s : State) (p : Port) (f : Mailbox → Mailbox) : (s.updMbox p f).i3c = s.i3c := by cases p <;> rfl
@[simp] theorem State.updMbox_pcie (s : State) (p : Port) (f : Mailbox → Mailbox) : (s.updMbox p f).pcie = s.pcie := by cases p <;> rfl
@[simp] theorem State.updMbox_chans (s : State) (p : Port) (f : Mailbox → Mailbox) : (s.updMbox p f).chans = s.chans := by cases p <;> rfl
@[simp] theorem State.updMbox_wheel (s : State) (p : Port) (f : Mailbox → Mailbox) : (s.updMbox p f).wheel = s.wheel := by cases p <;> rfl
@[simp] theorem State.updMbox_keys (s : State) (p : Port) (f : Mailbox → Mailbox) : (s.updMbox p f).keys = s.keys := by cases p <;> rfl
@[simp] theorem State.updMbox_cipher (s : State) (p : Port) (f : Mailbox → Mailbox) : (s.updMbox p f).cipher = s.cipher := by cases p <;> rfl
@[simp] theorem State.updMbox_operand (s : State) (p : Port) (f : Mailbox → Mailbox) : (s.updMbox p f).operand = s.operand := by cases p <;> rfl
@[simp] theorem State.updMbox_busA (s : State) (p : Port) (f : Mailbox → Mailbox) : (s.updMbox p f).busA = s.busA := by cases p <;> rfl
@[simp] theorem State.updMbox_busB (s : State) (p : Port) (f : Mailbox → Mailbox) : (s.updMbox p f).busB = s.busB := by cases p <;> rfl
@[simp] theorem State.updMbox_priv (s : State) (p : Port) (f : Mailbox → Mailbox) : (s.updMbox p f).priv = s.priv := by cases p <;> rfl
@[simp] theorem State.updMbox_ident (s : State) (p : Port) (f : Mailbox → Mailbox) : (s.updMbox p f).ident = s.ident := by cases p <;> rfl
@[simp] theorem State.updMbox_pair (s : State) (p : Port) (f : Mailbox → Mailbox) : (s.updMbox p f).pair = s.pair := by cases p <;> rfl
@[simp] theorem State.updMbox_supply (s : State) (p : Port) (f : Mailbox → Mailbox) : (s.updMbox p f).supply = s.supply := by cases p <;> rfl
@[simp] theorem State.updMbox_tamper (s : State) (p : Port) (f : Mailbox → Mailbox) : (s.updMbox p f).tamper = s.tamper := by cases p <;> rfl
@[simp] theorem State.updMbox_otp (s : State) (p : Port) (f : Mailbox → Mailbox) : (s.updMbox p f).otp = s.otp := by cases p <;> rfl
@[simp] theorem State.updMbox_fw (s : State) (p : Port) (f : Mailbox → Mailbox) : (s.updMbox p f).fw = s.fw := by cases p <;> rfl
@[simp] theorem State.updMbox_jtag (s : State) (p : Port) (f : Mailbox → Mailbox) : (s.updMbox p f).jtag = s.jtag := by cases p <;> rfl
@[simp] theorem State.updMbox_recorder (s : State) (p : Port) (f : Mailbox → Mailbox) : (s.updMbox p f).recorder = s.recorder := by cases p <;> rfl
@[simp] theorem State.updMbox_tiles (s : State) (p : Port) (f : Mailbox → Mailbox) : (s.updMbox p f).tiles = s.tiles := by cases p <;> rfl
@[simp] theorem State.updMbox_rng (s : State) (p : Port) (f : Mailbox → Mailbox) : (s.updMbox p f).rng = s.rng := by cases p <;> rfl
@[simp] theorem State.updMbox_free (s : State) (p : Port) (f : Mailbox → Mailbox) : (s.updMbox p f).free = s.free := by cases p <;> rfl
@[simp] theorem State.updMbox_outbox (s : State) (p : Port) (f : Mailbox → Mailbox) : (s.updMbox p f).outbox = s.outbox := by cases p <;> rfl
@[simp] theorem State.updMbox_pending (s : State) (p : Port) (f : Mailbox → Mailbox) : (s.updMbox p f).pending = s.pending := by cases p <;> rfl

/-! #### State.setSlot -/

@[simp] theorem State.setSlot_now (s : State) (c i : Nat) (v : Slot) : (s.setSlot c i v).now = s.now := rfl
@[simp] theorem State.setSlot_ms (s : State) (c i : Nat) (v : Slot) : (s.setSlot c i v).ms = s.ms := rfl
@[simp] theorem State.setSlot_boot (s : State) (c i : Nat) (v : Slot) : (s.setSlot c i v).boot = s.boot := rfl
@[simp] theorem State.setSlot_rel (s : State) (c i : Nat) (v : Slot) : (s.setSlot c i v).rel = s.rel := rfl
@[simp] theorem State.setSlot_recov (s : State) (c i : Nat) (v : Slot) : (s.setSlot c i v).recov = s.recov := rfl
@[simp] theorem State.setSlot_orfer (s : State) (c i : Nat) (v : Slot) : (s.setSlot c i v).orfer = s.orfer := rfl
@[simp] theorem State.setSlot_i3c (s : State) (c i : Nat) (v : Slot) : (s.setSlot c i v).i3c = s.i3c := rfl
@[simp] theorem State.setSlot_pcie (s : State) (c i : Nat) (v : Slot) : (s.setSlot c i v).pcie = s.pcie := rfl
@[simp] theorem State.setSlot_chans (s : State) (c i : Nat) (v : Slot) : (s.setSlot c i v).chans = s.chans := rfl
@[simp] theorem State.setSlot_wheel (s : State) (c i : Nat) (v : Slot) : (s.setSlot c i v).wheel = s.wheel := rfl
@[simp] theorem State.setSlot_cipher (s : State) (c i : Nat) (v : Slot) : (s.setSlot c i v).cipher = s.cipher := rfl
@[simp] theorem State.setSlot_operand (s : State) (c i : Nat) (v : Slot) : (s.setSlot c i v).operand = s.operand := rfl
@[simp] theorem State.setSlot_busA (s : State) (c i : Nat) (v : Slot) : (s.setSlot c i v).busA = s.busA := rfl
@[simp] theorem State.setSlot_busB (s : State) (c i : Nat) (v : Slot) : (s.setSlot c i v).busB = s.busB := rfl
@[simp] theorem State.setSlot_priv (s : State) (c i : Nat) (v : Slot) : (s.setSlot c i v).priv = s.priv := rfl
@[simp] theorem State.setSlot_ident (s : State) (c i : Nat) (v : Slot) : (s.setSlot c i v).ident = s.ident := rfl
@[simp] theorem State.setSlot_pair (s : State) (c i : Nat) (v : Slot) : (s.setSlot c i v).pair = s.pair := rfl
@[simp] theorem State.setSlot_supply (s : State) (c i : Nat) (v : Slot) : (s.setSlot c i v).supply = s.supply := rfl
@[simp] theorem State.setSlot_tamper (s : State) (c i : Nat) (v : Slot) : (s.setSlot c i v).tamper = s.tamper := rfl
@[simp] theorem State.setSlot_otp (s : State) (c i : Nat) (v : Slot) : (s.setSlot c i v).otp = s.otp := rfl
@[simp] theorem State.setSlot_fw (s : State) (c i : Nat) (v : Slot) : (s.setSlot c i v).fw = s.fw := rfl
@[simp] theorem State.setSlot_jtag (s : State) (c i : Nat) (v : Slot) : (s.setSlot c i v).jtag = s.jtag := rfl
@[simp] theorem State.setSlot_recorder (s : State) (c i : Nat) (v : Slot) : (s.setSlot c i v).recorder = s.recorder := rfl
@[simp] theorem State.setSlot_tiles (s : State) (c i : Nat) (v : Slot) : (s.setSlot c i v).tiles = s.tiles := rfl
@[simp] theorem State.setSlot_rng (s : State) (c i : Nat) (v : Slot) : (s.setSlot c i v).rng = s.rng := rfl
@[simp] theorem State.setSlot_free (s : State) (c i : Nat) (v : Slot) : (s.setSlot c i v).free = s.free := rfl
@[simp] theorem State.setSlot_outbox (s : State) (c i : Nat) (v : Slot) : (s.setSlot c i v).outbox = s.outbox := rfl
@[simp] theorem State.setSlot_pending (s : State) (c i : Nat) (v : Slot) : (s.setSlot c i v).pending = s.pending := rfl

/-! #### State.vaultGates -/

@[simp] theorem State.vaultGates_now (s : State) : (s.vaultGates).now = s.now := rfl
@[simp] theorem State.vaultGates_boot (s : State) : (s.vaultGates).boot = s.boot := rfl
@[simp] theorem State.vaultGates_rel (s : State) : (s.vaultGates).rel = s.rel := rfl
@[simp] theorem State.vaultGates_recov (s : State) : (s.vaultGates).recov = s.recov := rfl
@[simp] theorem State.vaultGates_orfer (s : State) : (s.vaultGates).orfer = s.orfer := rfl
@[simp] theorem State.vaultGates_i3c (s : State) : (s.vaultGates).i3c = s.i3c := rfl
@[simp] theorem State.vaultGates_pcie (s : State) : (s.vaultGates).pcie = s.pcie := rfl
@[simp] theorem State.vaultGates_chans (s : State) : (s.vaultGates).chans = s.chans := rfl
@[simp] theorem State.vaultGates_wheel (s : State) : (s.vaultGates).wheel = s.wheel := rfl
@[simp] theorem State.vaultGates_keys (s : State) : (s.vaultGates).keys = s.keys := rfl
@[simp] theorem State.vaultGates_cipher (s : State) : (s.vaultGates).cipher = s.cipher := rfl
@[simp] theorem State.vaultGates_operand (s : State) : (s.vaultGates).operand = s.operand := rfl
@[simp] theorem State.vaultGates_busA (s : State) : (s.vaultGates).busA = s.busA := rfl
@[simp] theorem State.vaultGates_busB (s : State) : (s.vaultGates).busB = s.busB := rfl
@[simp] theorem State.vaultGates_priv (s : State) : (s.vaultGates).priv = s.priv := rfl
@[simp] theorem State.vaultGates_ident (s : State) : (s.vaultGates).ident = s.ident := rfl
@[simp] theorem State.vaultGates_pair (s : State) : (s.vaultGates).pair = s.pair := rfl
@[simp] theorem State.vaultGates_supply (s : State) : (s.vaultGates).supply = s.supply := rfl
@[simp] theorem State.vaultGates_tamper (s : State) : (s.vaultGates).tamper = s.tamper := rfl
@[simp] theorem State.vaultGates_otp (s : State) : (s.vaultGates).otp = s.otp := rfl
@[simp] theorem State.vaultGates_fw (s : State) : (s.vaultGates).fw = s.fw := rfl
@[simp] theorem State.vaultGates_jtag (s : State) : (s.vaultGates).jtag = s.jtag := rfl
@[simp] theorem State.vaultGates_recorder (s : State) : (s.vaultGates).recorder = s.recorder := rfl
@[simp] theorem State.vaultGates_tiles (s : State) : (s.vaultGates).tiles = s.tiles := rfl
@[simp] theorem State.vaultGates_rng (s : State) : (s.vaultGates).rng = s.rng := rfl
@[simp] theorem State.vaultGates_free (s : State) : (s.vaultGates).free = s.free := rfl
@[simp] theorem State.vaultGates_outbox (s : State) : (s.vaultGates).outbox = s.outbox := rfl
@[simp] theorem State.vaultGates_pending (s : State) : (s.vaultGates).pending = s.pending := rfl

/-! #### State.setCfg -/

@[simp] theorem State.setCfg_now (s : State) (f i : Nat) (v : Bytes) : (s.setCfg f i v).now = s.now := rfl
@[simp] theorem State.setCfg_ms (s : State) (f i : Nat) (v : Bytes) : (s.setCfg f i v).ms = s.ms := rfl
@[simp] theorem State.setCfg_boot (s : State) (f i : Nat) (v : Bytes) : (s.setCfg f i v).boot = s.boot := rfl
@[simp] theorem State.setCfg_rel (s : State) (f i : Nat) (v : Bytes) : (s.setCfg f i v).rel = s.rel := rfl
@[simp] theorem State.setCfg_recov (s : State) (f i : Nat) (v : Bytes) : (s.setCfg f i v).recov = s.recov := rfl
@[simp] theorem State.setCfg_i3c (s : State) (f i : Nat) (v : Bytes) : (s.setCfg f i v).i3c = s.i3c := rfl
@[simp] theorem State.setCfg_pcie (s : State) (f i : Nat) (v : Bytes) : (s.setCfg f i v).pcie = s.pcie := rfl
@[simp] theorem State.setCfg_chans (s : State) (f i : Nat) (v : Bytes) : (s.setCfg f i v).chans = s.chans := rfl
@[simp] theorem State.setCfg_wheel (s : State) (f i : Nat) (v : Bytes) : (s.setCfg f i v).wheel = s.wheel := rfl
@[simp] theorem State.setCfg_keys (s : State) (f i : Nat) (v : Bytes) : (s.setCfg f i v).keys = s.keys := rfl
@[simp] theorem State.setCfg_cipher (s : State) (f i : Nat) (v : Bytes) : (s.setCfg f i v).cipher = s.cipher := rfl
@[simp] theorem State.setCfg_operand (s : State) (f i : Nat) (v : Bytes) : (s.setCfg f i v).operand = s.operand := rfl
@[simp] theorem State.setCfg_busA (s : State) (f i : Nat) (v : Bytes) : (s.setCfg f i v).busA = s.busA := rfl
@[simp] theorem State.setCfg_busB (s : State) (f i : Nat) (v : Bytes) : (s.setCfg f i v).busB = s.busB := rfl
@[simp] theorem State.setCfg_priv (s : State) (f i : Nat) (v : Bytes) : (s.setCfg f i v).priv = s.priv := rfl
@[simp] theorem State.setCfg_ident (s : State) (f i : Nat) (v : Bytes) : (s.setCfg f i v).ident = s.ident := rfl
@[simp] theorem State.setCfg_pair (s : State) (f i : Nat) (v : Bytes) : (s.setCfg f i v).pair = s.pair := rfl
@[simp] theorem State.setCfg_supply (s : State) (f i : Nat) (v : Bytes) : (s.setCfg f i v).supply = s.supply := rfl
@[simp] theorem State.setCfg_tamper (s : State) (f i : Nat) (v : Bytes) : (s.setCfg f i v).tamper = s.tamper := rfl
@[simp] theorem State.setCfg_otp (s : State) (f i : Nat) (v : Bytes) : (s.setCfg f i v).otp = s.otp := rfl
@[simp] theorem State.setCfg_fw (s : State) (f i : Nat) (v : Bytes) : (s.setCfg f i v).fw = s.fw := rfl
@[simp] theorem State.setCfg_jtag (s : State) (f i : Nat) (v : Bytes) : (s.setCfg f i v).jtag = s.jtag := rfl
@[simp] theorem State.setCfg_recorder (s : State) (f i : Nat) (v : Bytes) : (s.setCfg f i v).recorder = s.recorder := rfl
@[simp] theorem State.setCfg_tiles (s : State) (f i : Nat) (v : Bytes) : (s.setCfg f i v).tiles = s.tiles := rfl
@[simp] theorem State.setCfg_rng (s : State) (f i : Nat) (v : Bytes) : (s.setCfg f i v).rng = s.rng := rfl
@[simp] theorem State.setCfg_free (s : State) (f i : Nat) (v : Bytes) : (s.setCfg f i v).free = s.free := rfl
@[simp] theorem State.setCfg_outbox (s : State) (f i : Nat) (v : Bytes) : (s.setCfg f i v).outbox = s.outbox := rfl
@[simp] theorem State.setCfg_pending (s : State) (f i : Nat) (v : Bytes) : (s.setCfg f i v).pending = s.pending := rfl

/-! #### State.updTile -/

@[simp] theorem State.updTile_now (s : State) (n : Nat) (f : Tile → Tile) : (s.updTile n f).now = s.now := rfl
@[simp] theorem State.updTile_ms (s : State) (n : Nat) (f : Tile → Tile) : (s.updTile n f).ms = s.ms := rfl
@[simp] theorem State.updTile_boot (s : State) (n : Nat) (f : Tile → Tile) : (s.updTile n f).boot = s.boot := rfl
@[simp] theorem State.updTile_rel (s : State) (n : Nat) (f : Tile → Tile) : (s.updTile n f).rel = s.rel := rfl
@[simp] theorem State.updTile_recov (s : State) (n : Nat) (f : Tile → Tile) : (s.updTile n f).recov = s.recov := rfl
@[simp] theorem State.updTile_orfer (s : State) (n : Nat) (f : Tile → Tile) : (s.updTile n f).orfer = s.orfer := rfl
@[simp] theorem State.updTile_i3c (s : State) (n : Nat) (f : Tile → Tile) : (s.updTile n f).i3c = s.i3c := rfl
@[simp] theorem State.updTile_pcie (s : State) (n : Nat) (f : Tile → Tile) : (s.updTile n f).pcie = s.pcie := rfl
@[simp] theorem State.updTile_chans (s : State) (n : Nat) (f : Tile → Tile) : (s.updTile n f).chans = s.chans := rfl
@[simp] theorem State.updTile_wheel (s : State) (n : Nat) (f : Tile → Tile) : (s.updTile n f).wheel = s.wheel := rfl
@[simp] theorem State.updTile_keys (s : State) (n : Nat) (f : Tile → Tile) : (s.updTile n f).keys = s.keys := rfl
@[simp] theorem State.updTile_cipher (s : State) (n : Nat) (f : Tile → Tile) : (s.updTile n f).cipher = s.cipher := rfl
@[simp] theorem State.updTile_operand (s : State) (n : Nat) (f : Tile → Tile) : (s.updTile n f).operand = s.operand := rfl
@[simp] theorem State.updTile_busA (s : State) (n : Nat) (f : Tile → Tile) : (s.updTile n f).busA = s.busA := rfl
@[simp] theorem State.updTile_busB (s : State) (n : Nat) (f : Tile → Tile) : (s.updTile n f).busB = s.busB := rfl
@[simp] theorem State.updTile_priv (s : State) (n : Nat) (f : Tile → Tile) : (s.updTile n f).priv = s.priv := rfl
@[simp] theorem State.updTile_ident (s : State) (n : Nat) (f : Tile → Tile) : (s.updTile n f).ident = s.ident := rfl
@[simp] theorem State.updTile_pair (s : State) (n : Nat) (f : Tile → Tile) : (s.updTile n f).pair = s.pair := rfl
@[simp] theorem State.updTile_supply (s : State) (n : Nat) (f : Tile → Tile) : (s.updTile n f).supply = s.supply := rfl
@[simp] theorem State.updTile_tamper (s : State) (n : Nat) (f : Tile → Tile) : (s.updTile n f).tamper = s.tamper := rfl
@[simp] theorem State.updTile_otp (s : State) (n : Nat) (f : Tile → Tile) : (s.updTile n f).otp = s.otp := rfl
@[simp] theorem State.updTile_fw (s : State) (n : Nat) (f : Tile → Tile) : (s.updTile n f).fw = s.fw := rfl
@[simp] theorem State.updTile_jtag (s : State) (n : Nat) (f : Tile → Tile) : (s.updTile n f).jtag = s.jtag := rfl
@[simp] theorem State.updTile_recorder (s : State) (n : Nat) (f : Tile → Tile) : (s.updTile n f).recorder = s.recorder := rfl
@[simp] theorem State.updTile_rng (s : State) (n : Nat) (f : Tile → Tile) : (s.updTile n f).rng = s.rng := rfl
@[simp] theorem State.updTile_free (s : State) (n : Nat) (f : Tile → Tile) : (s.updTile n f).free = s.free := rfl
@[simp] theorem State.updTile_outbox (s : State) (n : Nat) (f : Tile → Tile) : (s.updTile n f).outbox = s.outbox := rfl
@[simp] theorem State.updTile_pending (s : State) (n : Nat) (f : Tile → Tile) : (s.updTile n f).pending = s.pending := rfl

/-! #### State.updDet -/

@[simp] theorem State.updDet_now (s : State) (n : Nat) (f : Detector → Detector) : (s.updDet n f).now = s.now := rfl
@[simp] theorem State.updDet_ms (s : State) (n : Nat) (f : Detector → Detector) : (s.updDet n f).ms = s.ms := rfl
@[simp] theorem State.updDet_boot (s : State) (n : Nat) (f : Detector → Detector) : (s.updDet n f).boot = s.boot := rfl
@[simp] theorem State.updDet_rel (s : State) (n : Nat) (f : Detector → Detector) : (s.updDet n f).rel = s.rel := rfl
@[simp] theorem State.updDet_recov (s : State) (n : Nat) (f : Detector → Detector) : (s.updDet n f).recov = s.recov := rfl
@[simp] theorem State.updDet_orfer (s : State) (n : Nat) (f : Detector → Detector) : (s.updDet n f).orfer = s.orfer := rfl
@[simp] theorem State.updDet_i3c (s : State) (n : Nat) (f : Detector → Detector) : (s.updDet n f).i3c = s.i3c := rfl
@[simp] theorem State.updDet_pcie (s : State) (n : Nat) (f : Detector → Detector) : (s.updDet n f).pcie = s.pcie := rfl
@[simp] theorem State.updDet_chans (s : State) (n : Nat) (f : Detector → Detector) : (s.updDet n f).chans = s.chans := rfl
@[simp] theorem State.updDet_wheel (s : State) (n : Nat) (f : Detector → Detector) : (s.updDet n f).wheel = s.wheel := rfl
@[simp] theorem State.updDet_keys (s : State) (n : Nat) (f : Detector → Detector) : (s.updDet n f).keys = s.keys := rfl
@[simp] theorem State.updDet_cipher (s : State) (n : Nat) (f : Detector → Detector) : (s.updDet n f).cipher = s.cipher := rfl
@[simp] theorem State.updDet_operand (s : State) (n : Nat) (f : Detector → Detector) : (s.updDet n f).operand = s.operand := rfl
@[simp] theorem State.updDet_busA (s : State) (n : Nat) (f : Detector → Detector) : (s.updDet n f).busA = s.busA := rfl
@[simp] theorem State.updDet_busB (s : State) (n : Nat) (f : Detector → Detector) : (s.updDet n f).busB = s.busB := rfl
@[simp] theorem State.updDet_priv (s : State) (n : Nat) (f : Detector → Detector) : (s.updDet n f).priv = s.priv := rfl
@[simp] theorem State.updDet_ident (s : State) (n : Nat) (f : Detector → Detector) : (s.updDet n f).ident = s.ident := rfl
@[simp] theorem State.updDet_pair (s : State) (n : Nat) (f : Detector → Detector) : (s.updDet n f).pair = s.pair := rfl
@[simp] theorem State.updDet_supply (s : State) (n : Nat) (f : Detector → Detector) : (s.updDet n f).supply = s.supply := rfl
@[simp] theorem State.updDet_otp (s : State) (n : Nat) (f : Detector → Detector) : (s.updDet n f).otp = s.otp := rfl
@[simp] theorem State.updDet_fw (s : State) (n : Nat) (f : Detector → Detector) : (s.updDet n f).fw = s.fw := rfl
@[simp] theorem State.updDet_jtag (s : State) (n : Nat) (f : Detector → Detector) : (s.updDet n f).jtag = s.jtag := rfl
@[simp] theorem State.updDet_recorder (s : State) (n : Nat) (f : Detector → Detector) : (s.updDet n f).recorder = s.recorder := rfl
@[simp] theorem State.updDet_tiles (s : State) (n : Nat) (f : Detector → Detector) : (s.updDet n f).tiles = s.tiles := rfl
@[simp] theorem State.updDet_rng (s : State) (n : Nat) (f : Detector → Detector) : (s.updDet n f).rng = s.rng := rfl
@[simp] theorem State.updDet_free (s : State) (n : Nat) (f : Detector → Detector) : (s.updDet n f).free = s.free := rfl
@[simp] theorem State.updDet_outbox (s : State) (n : Nat) (f : Detector → Detector) : (s.updDet n f).outbox = s.outbox := rfl
@[simp] theorem State.updDet_pending (s : State) (n : Nat) (f : Detector → Detector) : (s.updDet n f).pending = s.pending := rfl

/-! #### State.updBus -/

@[simp] theorem State.updBus_now (s : State) (b : Nat) (f : Bus → Bus) : (s.updBus b f).now = s.now := by
  unfold State.updBus; repeat (first | rfl | split)
@[simp] theorem State.updBus_ms (s : State) (b : Nat) (f : Bus → Bus) : (s.updBus b f).ms = s.ms := by
  unfold State.updBus; repeat (first | rfl | split)
@[simp] theorem State.updBus_boot (s : State) (b : Nat) (f : Bus → Bus) : (s.updBus b f).boot = s.boot := by
  unfold State.updBus; repeat (first | rfl | split)
@[simp] theorem State.updBus_rel (s : State) (b : Nat) (f : Bus → Bus) : (s.updBus b f).rel = s.rel := by
  unfold State.updBus; repeat (first | rfl | split)
@[simp] theorem State.updBus_recov (s : State) (b : Nat) (f : Bus → Bus) : (s.updBus b f).recov = s.recov := by
  unfold State.updBus; repeat (first | rfl | split)
@[simp] theorem State.updBus_orfer (s : State) (b : Nat) (f : Bus → Bus) : (s.updBus b f).orfer = s.orfer := by
  unfold State.updBus; repeat (first | rfl | split)
@[simp] theorem State.updBus_i3c (s : State) (b : Nat) (f : Bus → Bus) : (s.updBus b f).i3c = s.i3c := by
  unfold State.updBus; repeat (first | rfl | split)
@[simp] theorem State.updBus_pcie (s : State) (b : Nat) (f : Bus → Bus) : (s.updBus b f).pcie = s.pcie := by
  unfold State.updBus; repeat (first | rfl | split)
@[simp] theorem State.updBus_chans (s : State) (b : Nat) (f : Bus → Bus) : (s.updBus b f).chans = s.chans := by
  unfold State.updBus; repeat (first | rfl | split)
@[simp] theorem State.updBus_wheel (s : State) (b : Nat) (f : Bus → Bus) : (s.updBus b f).wheel = s.wheel := by
  unfold State.updBus; repeat (first | rfl | split)
@[simp] theorem State.updBus_keys (s : State) (b : Nat) (f : Bus → Bus) : (s.updBus b f).keys = s.keys := by
  unfold State.updBus; repeat (first | rfl | split)
@[simp] theorem State.updBus_cipher (s : State) (b : Nat) (f : Bus → Bus) : (s.updBus b f).cipher = s.cipher := by
  unfold State.updBus; repeat (first | rfl | split)
@[simp] theorem State.updBus_operand (s : State) (b : Nat) (f : Bus → Bus) : (s.updBus b f).operand = s.operand := by
  unfold State.updBus; repeat (first | rfl | split)
@[simp] theorem State.updBus_priv (s : State) (b : Nat) (f : Bus → Bus) : (s.updBus b f).priv = s.priv := by
  unfold State.updBus; repeat (first | rfl | split)
@[simp] theorem State.updBus_ident (s : State) (b : Nat) (f : Bus → Bus) : (s.updBus b f).ident = s.ident := by
  unfold State.updBus; repeat (first | rfl | split)
@[simp] theorem State.updBus_pair (s : State) (b : Nat) (f : Bus → Bus) : (s.updBus b f).pair = s.pair := by
  unfold State.updBus; repeat (first | rfl | split)
@[simp] theorem State.updBus_supply (s : State) (b : Nat) (f : Bus → Bus) : (s.updBus b f).supply = s.supply := by
  unfold State.updBus; repeat (first | rfl | split)
@[simp] theorem State.updBus_tamper (s : State) (b : Nat) (f : Bus → Bus) : (s.updBus b f).tamper = s.tamper := by
  unfold State.updBus; repeat (first | rfl | split)
@[simp] theorem State.updBus_otp (s : State) (b : Nat) (f : Bus → Bus) : (s.updBus b f).otp = s.otp := by
  unfold State.updBus; repeat (first | rfl | split)
@[simp] theorem State.updBus_fw (s : State) (b : Nat) (f : Bus → Bus) : (s.updBus b f).fw = s.fw := by
  unfold State.updBus; repeat (first | rfl | split)
@[simp] theorem State.updBus_jtag (s : State) (b : Nat) (f : Bus → Bus) : (s.updBus b f).jtag = s.jtag := by
  unfold State.updBus; repeat (first | rfl | split)
@[simp] theorem State.updBus_recorder (s : State) (b : Nat) (f : Bus → Bus) : (s.updBus b f).recorder = s.recorder := by
  unfold State.updBus; repeat (first | rfl | split)
@[simp] theorem State.updBus_tiles (s : State) (b : Nat) (f : Bus → Bus) : (s.updBus b f).tiles = s.tiles := by
  unfold State.updBus; repeat (first | rfl | split)
@[simp] theorem State.updBus_rng (s : State) (b : Nat) (f : Bus → Bus) : (s.updBus b f).rng = s.rng := by
  unfold State.updBus; repeat (first | rfl | split)
@[simp] theorem State.updBus_free (s : State) (b : Nat) (f : Bus → Bus) : (s.updBus b f).free = s.free := by
  unfold State.updBus; repeat (first | rfl | split)
@[simp] theorem State.updBus_outbox (s : State) (b : Nat) (f : Bus → Bus) : (s.updBus b f).outbox = s.outbox := by
  unfold State.updBus; repeat (first | rfl | split)
@[simp] theorem State.updBus_pending (s : State) (b : Nat) (f : Bus → Bus) : (s.updBus b f).pending = s.pending := by
  unfold State.updBus; repeat (first | rfl | split)

/-! #### State.updPair -/

@[simp] theorem State.updPair_now (s : State) (f : PairState → PairState) : (s.updPair f).now = s.now := rfl
@[simp] theorem State.updPair_ms (s : State) (f : PairState → PairState) : (s.updPair f).ms = s.ms := rfl
@[simp] theorem State.updPair_boot (s : State) (f : PairState → PairState) : (s.updPair f).boot = s.boot := rfl
@[simp] theorem State.updPair_rel (s : State) (f : PairState → PairState) : (s.updPair f).rel = s.rel := rfl
@[simp] theorem State.updPair_recov (s : State) (f : PairState → PairState) : (s.updPair f).recov = s.recov := rfl
@[simp] theorem State.updPair_orfer (s : State) (f : PairState → PairState) : (s.updPair f).orfer = s.orfer := rfl
@[simp] theorem State.updPair_i3c (s : State) (f : PairState → PairState) : (s.updPair f).i3c = s.i3c := rfl
@[simp] theorem State.updPair_pcie (s : State) (f : PairState → PairState) : (s.updPair f).pcie = s.pcie := rfl
@[simp] theorem State.updPair_chans (s : State) (f : PairState → PairState) : (s.updPair f).chans = s.chans := rfl
@[simp] theorem State.updPair_wheel (s : State) (f : PairState → PairState) : (s.updPair f).wheel = s.wheel := rfl
@[simp] theorem State.updPair_keys (s : State) (f : PairState → PairState) : (s.updPair f).keys = s.keys := rfl
@[simp] theorem State.updPair_cipher (s : State) (f : PairState → PairState) : (s.updPair f).cipher = s.cipher := rfl
@[simp] theorem State.updPair_operand (s : State) (f : PairState → PairState) : (s.updPair f).operand = s.operand := rfl
@[simp] theorem State.updPair_busA (s : State) (f : PairState → PairState) : (s.updPair f).busA = s.busA := rfl
@[simp] theorem State.updPair_busB (s : State) (f : PairState → PairState) : (s.updPair f).busB = s.busB := rfl
@[simp] theorem State.updPair_priv (s : State) (f : PairState → PairState) : (s.updPair f).priv = s.priv := rfl
@[simp] theorem State.updPair_ident (s : State) (f : PairState → PairState) : (s.updPair f).ident = s.ident := rfl
@[simp] theorem State.updPair_supply (s : State) (f : PairState → PairState) : (s.updPair f).supply = s.supply := rfl
@[simp] theorem State.updPair_tamper (s : State) (f : PairState → PairState) : (s.updPair f).tamper = s.tamper := rfl
@[simp] theorem State.updPair_otp (s : State) (f : PairState → PairState) : (s.updPair f).otp = s.otp := rfl
@[simp] theorem State.updPair_fw (s : State) (f : PairState → PairState) : (s.updPair f).fw = s.fw := rfl
@[simp] theorem State.updPair_jtag (s : State) (f : PairState → PairState) : (s.updPair f).jtag = s.jtag := rfl
@[simp] theorem State.updPair_recorder (s : State) (f : PairState → PairState) : (s.updPair f).recorder = s.recorder := rfl
@[simp] theorem State.updPair_tiles (s : State) (f : PairState → PairState) : (s.updPair f).tiles = s.tiles := rfl
@[simp] theorem State.updPair_rng (s : State) (f : PairState → PairState) : (s.updPair f).rng = s.rng := rfl
@[simp] theorem State.updPair_free (s : State) (f : PairState → PairState) : (s.updPair f).free = s.free := rfl
@[simp] theorem State.updPair_outbox (s : State) (f : PairState → PairState) : (s.updPair f).outbox = s.outbox := rfl
@[simp] theorem State.updPair_pending (s : State) (f : PairState → PairState) : (s.updPair f).pending = s.pending := rfl

/-! #### State.updWindow -/

@[simp] theorem State.updWindow_now (s : State) (p : Port) (f : Window → Window) : (s.updWindow p f).now = s.now := by
  unfold State.updWindow; repeat (first | rfl | split)
@[simp] theorem State.updWindow_ms (s : State) (p : Port) (f : Window → Window) : (s.updWindow p f).ms = s.ms := by
  unfold State.updWindow; repeat (first | rfl | split)
@[simp] theorem State.updWindow_boot (s : State) (p : Port) (f : Window → Window) : (s.updWindow p f).boot = s.boot := by
  unfold State.updWindow; repeat (first | rfl | split)
@[simp] theorem State.updWindow_rel (s : State) (p : Port) (f : Window → Window) : (s.updWindow p f).rel = s.rel := by
  unfold State.updWindow; repeat (first | rfl | split)
@[simp] theorem State.updWindow_recov (s : State) (p : Port) (f : Window → Window) : (s.updWindow p f).recov = s.recov := by
  unfold State.updWindow; repeat (first | rfl | split)
@[simp] theorem State.updWindow_i3c (s : State) (p : Port) (f : Window → Window) : (s.updWindow p f).i3c = s.i3c := by
  unfold State.updWindow; repeat (first | rfl | split)
@[simp] theorem State.updWindow_chans (s : State) (p : Port) (f : Window → Window) : (s.updWindow p f).chans = s.chans := by
  unfold State.updWindow; repeat (first | rfl | split)
@[simp] theorem State.updWindow_wheel (s : State) (p : Port) (f : Window → Window) : (s.updWindow p f).wheel = s.wheel := by
  unfold State.updWindow; repeat (first | rfl | split)
@[simp] theorem State.updWindow_keys (s : State) (p : Port) (f : Window → Window) : (s.updWindow p f).keys = s.keys := by
  unfold State.updWindow; repeat (first | rfl | split)
@[simp] theorem State.updWindow_cipher (s : State) (p : Port) (f : Window → Window) : (s.updWindow p f).cipher = s.cipher := by
  unfold State.updWindow; repeat (first | rfl | split)
@[simp] theorem State.updWindow_operand (s : State) (p : Port) (f : Window → Window) : (s.updWindow p f).operand = s.operand := by
  unfold State.updWindow; repeat (first | rfl | split)
@[simp] theorem State.updWindow_busA (s : State) (p : Port) (f : Window → Window) : (s.updWindow p f).busA = s.busA := by
  unfold State.updWindow; repeat (first | rfl | split)
@[simp] theorem State.updWindow_busB (s : State) (p : Port) (f : Window → Window) : (s.updWindow p f).busB = s.busB := by
  unfold State.updWindow; repeat (first | rfl | split)
@[simp] theorem State.updWindow_priv (s : State) (p : Port) (f : Window → Window) : (s.updWindow p f).priv = s.priv := by
  unfold State.updWindow; repeat (first | rfl | split)
@[simp] theorem State.updWindow_ident (s : State) (p : Port) (f : Window → Window) : (s.updWindow p f).ident = s.ident := by
  unfold State.updWindow; repeat (first | rfl | split)
@[simp] theorem State.updWindow_pair (s : State) (p : Port) (f : Window → Window) : (s.updWindow p f).pair = s.pair := by
  unfold State.updWindow; repeat (first | rfl | split)
@[simp] theorem State.updWindow_supply (s : State) (p : Port) (f : Window → Window) : (s.updWindow p f).supply = s.supply := by
  unfold State.updWindow; repeat (first | rfl | split)
@[simp] theorem State.updWindow_tamper (s : State) (p : Port) (f : Window → Window) : (s.updWindow p f).tamper = s.tamper := by
  unfold State.updWindow; repeat (first | rfl | split)
@[simp] theorem State.updWindow_otp (s : State) (p : Port) (f : Window → Window) : (s.updWindow p f).otp = s.otp := by
  unfold State.updWindow; repeat (first | rfl | split)
@[simp] theorem State.updWindow_fw (s : State) (p : Port) (f : Window → Window) : (s.updWindow p f).fw = s.fw := by
  unfold State.updWindow; repeat (first | rfl | split)
@[simp] theorem State.updWindow_jtag (s : State) (p : Port) (f : Window → Window) : (s.updWindow p f).jtag = s.jtag := by
  unfold State.updWindow; repeat (first | rfl | split)
@[simp] theorem State.updWindow_recorder (s : State) (p : Port) (f : Window → Window) : (s.updWindow p f).recorder = s.recorder := by
  unfold State.updWindow; repeat (first | rfl | split)
@[simp] theorem State.updWindow_tiles (s : State) (p : Port) (f : Window → Window) : (s.updWindow p f).tiles = s.tiles := by
  unfold State.updWindow; repeat (first | rfl | split)
@[simp] theorem State.updWindow_rng (s : State) (p : Port) (f : Window → Window) : (s.updWindow p f).rng = s.rng := by
  unfold State.updWindow; repeat (first | rfl | split)
@[simp] theorem State.updWindow_free (s : State) (p : Port) (f : Window → Window) : (s.updWindow p f).free = s.free := by
  unfold State.updWindow; repeat (first | rfl | split)
@[simp] theorem State.updWindow_outbox (s : State) (p : Port) (f : Window → Window) : (s.updWindow p f).outbox = s.outbox := by
  unfold State.updWindow; repeat (first | rfl | split)
@[simp] theorem State.updWindow_pending (s : State) (p : Port) (f : Window → Window) : (s.updWindow p f).pending = s.pending := by
  unfold State.updWindow; repeat (first | rfl | split)

/-! #### State.advance -/

@[simp] theorem State.advance_ms (s : State) (t : Nat) : (s.advance t).ms = s.ms := rfl
@[simp] theorem State.advance_boot (s : State) (t : Nat) : (s.advance t).boot = s.boot := rfl
@[simp] theorem State.advance_rel (s : State) (t : Nat) : (s.advance t).rel = s.rel := rfl
@[simp] theorem State.advance_recov (s : State) (t : Nat) : (s.advance t).recov = s.recov := rfl
@[simp] theorem State.advance_orfer (s : State) (t : Nat) : (s.advance t).orfer = s.orfer := rfl
@[simp] theorem State.advance_i3c (s : State) (t : Nat) : (s.advance t).i3c = s.i3c := rfl
@[simp] theorem State.advance_pcie (s : State) (t : Nat) : (s.advance t).pcie = s.pcie := rfl
@[simp] theorem State.advance_chans (s : State) (t : Nat) : (s.advance t).chans = s.chans := rfl
@[simp] theorem State.advance_wheel (s : State) (t : Nat) : (s.advance t).wheel = s.wheel := rfl
@[simp] theorem State.advance_keys (s : State) (t : Nat) : (s.advance t).keys = s.keys := rfl
@[simp] theorem State.advance_cipher (s : State) (t : Nat) : (s.advance t).cipher = s.cipher := rfl
@[simp] theorem State.advance_operand (s : State) (t : Nat) : (s.advance t).operand = s.operand := rfl
@[simp] theorem State.advance_busA (s : State) (t : Nat) : (s.advance t).busA = s.busA := rfl
@[simp] theorem State.advance_busB (s : State) (t : Nat) : (s.advance t).busB = s.busB := rfl
@[simp] theorem State.advance_priv (s : State) (t : Nat) : (s.advance t).priv = s.priv := rfl
@[simp] theorem State.advance_ident (s : State) (t : Nat) : (s.advance t).ident = s.ident := rfl
@[simp] theorem State.advance_pair (s : State) (t : Nat) : (s.advance t).pair = s.pair := rfl
@[simp] theorem State.advance_supply (s : State) (t : Nat) : (s.advance t).supply = s.supply := rfl
@[simp] theorem State.advance_otp (s : State) (t : Nat) : (s.advance t).otp = s.otp := rfl
@[simp] theorem State.advance_fw (s : State) (t : Nat) : (s.advance t).fw = s.fw := rfl
@[simp] theorem State.advance_jtag (s : State) (t : Nat) : (s.advance t).jtag = s.jtag := rfl
@[simp] theorem State.advance_recorder (s : State) (t : Nat) : (s.advance t).recorder = s.recorder := rfl
@[simp] theorem State.advance_tiles (s : State) (t : Nat) : (s.advance t).tiles = s.tiles := rfl
@[simp] theorem State.advance_rng (s : State) (t : Nat) : (s.advance t).rng = s.rng := rfl
@[simp] theorem State.advance_free (s : State) (t : Nat) : (s.advance t).free = s.free := rfl
@[simp] theorem State.advance_outbox (s : State) (t : Nat) : (s.advance t).outbox = s.outbox := rfl
@[simp] theorem State.advance_pending (s : State) (t : Nat) : (s.advance t).pending = s.pending := rfl

/-! #### State.take -/

@[simp] theorem State.take_now (s : State) (p : Port) (q : Request) : (s.take p q).now = s.now := by cases p <;> rfl
@[simp] theorem State.take_ms (s : State) (p : Port) (q : Request) : (s.take p q).ms = s.ms := by cases p <;> rfl
@[simp] theorem State.take_boot (s : State) (p : Port) (q : Request) : (s.take p q).boot = s.boot := by cases p <;> rfl
@[simp] theorem State.take_rel (s : State) (p : Port) (q : Request) : (s.take p q).rel = s.rel := by cases p <;> rfl
@[simp] theorem State.take_recov (s : State) (p : Port) (q : Request) : (s.take p q).recov = s.recov := by cases p <;> rfl
@[simp] theorem State.take_i3c (s : State) (p : Port) (q : Request) : (s.take p q).i3c = s.i3c := by cases p <;> rfl
@[simp] theorem State.take_pcie (s : State) (p : Port) (q : Request) : (s.take p q).pcie = s.pcie := by cases p <;> rfl
@[simp] theorem State.take_chans (s : State) (p : Port) (q : Request) : (s.take p q).chans = s.chans := by cases p <;> rfl
@[simp] theorem State.take_wheel (s : State) (p : Port) (q : Request) : (s.take p q).wheel = s.wheel := by cases p <;> rfl
@[simp] theorem State.take_keys (s : State) (p : Port) (q : Request) : (s.take p q).keys = s.keys := by cases p <;> rfl
@[simp] theorem State.take_cipher (s : State) (p : Port) (q : Request) : (s.take p q).cipher = s.cipher := by cases p <;> rfl
@[simp] theorem State.take_operand (s : State) (p : Port) (q : Request) : (s.take p q).operand = s.operand := by cases p <;> rfl
@[simp] theorem State.take_busA (s : State) (p : Port) (q : Request) : (s.take p q).busA = s.busA := by cases p <;> rfl
@[simp] theorem State.take_busB (s : State) (p : Port) (q : Request) : (s.take p q).busB = s.busB := by cases p <;> rfl
@[simp] theorem State.take_priv (s : State) (p : Port) (q : Request) : (s.take p q).priv = s.priv := by cases p <;> rfl
@[simp] theorem State.take_ident (s : State) (p : Port) (q : Request) : (s.take p q).ident = s.ident := by cases p <;> rfl
@[simp] theorem State.take_pair (s : State) (p : Port) (q : Request) : (s.take p q).pair = s.pair := by cases p <;> rfl
@[simp] theorem State.take_supply (s : State) (p : Port) (q : Request) : (s.take p q).supply = s.supply := by cases p <;> rfl
@[simp] theorem State.take_tamper (s : State) (p : Port) (q : Request) : (s.take p q).tamper = s.tamper := by cases p <;> rfl
@[simp] theorem State.take_otp (s : State) (p : Port) (q : Request) : (s.take p q).otp = s.otp := by cases p <;> rfl
@[simp] theorem State.take_fw (s : State) (p : Port) (q : Request) : (s.take p q).fw = s.fw := by cases p <;> rfl
@[simp] theorem State.take_jtag (s : State) (p : Port) (q : Request) : (s.take p q).jtag = s.jtag := by cases p <;> rfl
@[simp] theorem State.take_recorder (s : State) (p : Port) (q : Request) : (s.take p q).recorder = s.recorder := by cases p <;> rfl
@[simp] theorem State.take_tiles (s : State) (p : Port) (q : Request) : (s.take p q).tiles = s.tiles := by cases p <;> rfl
@[simp] theorem State.take_rng (s : State) (p : Port) (q : Request) : (s.take p q).rng = s.rng := by cases p <;> rfl
@[simp] theorem State.take_free (s : State) (p : Port) (q : Request) : (s.take p q).free = s.free := by cases p <;> rfl
@[simp] theorem State.take_outbox (s : State) (p : Port) (q : Request) : (s.take p q).outbox = s.outbox := by cases p <;> rfl
@[simp] theorem State.take_pending (s : State) (p : Port) (q : Request) : (s.take p q).pending = s.pending := by cases p <;> rfl

/-! #### State.program -/

@[simp] theorem State.program_now (s : State) (j : OtpJob) : (s.program j).now = s.now := rfl
@[simp] theorem State.program_ms (s : State) (j : OtpJob) : (s.program j).ms = s.ms := rfl
@[simp] theorem State.program_boot (s : State) (j : OtpJob) : (s.program j).boot = s.boot := rfl
@[simp] theorem State.program_rel (s : State) (j : OtpJob) : (s.program j).rel = s.rel := rfl
@[simp] theorem State.program_recov (s : State) (j : OtpJob) : (s.program j).recov = s.recov := rfl
@[simp] theorem State.program_orfer (s : State) (j : OtpJob) : (s.program j).orfer = s.orfer := rfl
@[simp] theorem State.program_i3c (s : State) (j : OtpJob) : (s.program j).i3c = s.i3c := rfl
@[simp] theorem State.program_pcie (s : State) (j : OtpJob) : (s.program j).pcie = s.pcie := rfl
@[simp] theorem State.program_chans (s : State) (j : OtpJob) : (s.program j).chans = s.chans := rfl
@[simp] theorem State.program_wheel (s : State) (j : OtpJob) : (s.program j).wheel = s.wheel := rfl
@[simp] theorem State.program_keys (s : State) (j : OtpJob) : (s.program j).keys = s.keys := rfl
@[simp] theorem State.program_cipher (s : State) (j : OtpJob) : (s.program j).cipher = s.cipher := rfl
@[simp] theorem State.program_operand (s : State) (j : OtpJob) : (s.program j).operand = s.operand := rfl
@[simp] theorem State.program_busA (s : State) (j : OtpJob) : (s.program j).busA = s.busA := rfl
@[simp] theorem State.program_busB (s : State) (j : OtpJob) : (s.program j).busB = s.busB := rfl
@[simp] theorem State.program_priv (s : State) (j : OtpJob) : (s.program j).priv = s.priv := rfl
@[simp] theorem State.program_ident (s : State) (j : OtpJob) : (s.program j).ident = s.ident := rfl
@[simp] theorem State.program_pair (s : State) (j : OtpJob) : (s.program j).pair = s.pair := rfl
@[simp] theorem State.program_supply (s : State) (j : OtpJob) : (s.program j).supply = s.supply := rfl
@[simp] theorem State.program_tamper (s : State) (j : OtpJob) : (s.program j).tamper = s.tamper := rfl
@[simp] theorem State.program_fw (s : State) (j : OtpJob) : (s.program j).fw = s.fw := rfl
@[simp] theorem State.program_jtag (s : State) (j : OtpJob) : (s.program j).jtag = s.jtag := rfl
@[simp] theorem State.program_recorder (s : State) (j : OtpJob) : (s.program j).recorder = s.recorder := rfl
@[simp] theorem State.program_tiles (s : State) (j : OtpJob) : (s.program j).tiles = s.tiles := rfl
@[simp] theorem State.program_rng (s : State) (j : OtpJob) : (s.program j).rng = s.rng := rfl
@[simp] theorem State.program_free (s : State) (j : OtpJob) : (s.program j).free = s.free := rfl
@[simp] theorem State.program_outbox (s : State) (j : OtpJob) : (s.program j).outbox = s.outbox := rfl
@[simp] theorem State.program_pending (s : State) (j : OtpJob) : (s.program j).pending = s.pending := rfl

/-! #### State.setPhase -/

@[simp] theorem State.setPhase_now (s : State) (p : ReleasePhase) : (s.setPhase p).now = s.now := rfl
@[simp] theorem State.setPhase_ms (s : State) (p : ReleasePhase) : (s.setPhase p).ms = s.ms := rfl
@[simp] theorem State.setPhase_boot (s : State) (p : ReleasePhase) : (s.setPhase p).boot = s.boot := rfl
@[simp] theorem State.setPhase_recov (s : State) (p : ReleasePhase) : (s.setPhase p).recov = s.recov := rfl
@[simp] theorem State.setPhase_orfer (s : State) (p : ReleasePhase) : (s.setPhase p).orfer = s.orfer := rfl
@[simp] theorem State.setPhase_i3c (s : State) (p : ReleasePhase) : (s.setPhase p).i3c = s.i3c := rfl
@[simp] theorem State.setPhase_pcie (s : State) (p : ReleasePhase) : (s.setPhase p).pcie = s.pcie := rfl
@[simp] theorem State.setPhase_chans (s : State) (p : ReleasePhase) : (s.setPhase p).chans = s.chans := rfl
@[simp] theorem State.setPhase_wheel (s : State) (p : ReleasePhase) : (s.setPhase p).wheel = s.wheel := rfl
@[simp] theorem State.setPhase_keys (s : State) (p : ReleasePhase) : (s.setPhase p).keys = s.keys := rfl
@[simp] theorem State.setPhase_cipher (s : State) (p : ReleasePhase) : (s.setPhase p).cipher = s.cipher := rfl
@[simp] theorem State.setPhase_operand (s : State) (p : ReleasePhase) : (s.setPhase p).operand = s.operand := rfl
@[simp] theorem State.setPhase_busA (s : State) (p : ReleasePhase) : (s.setPhase p).busA = s.busA := rfl
@[simp] theorem State.setPhase_busB (s : State) (p : ReleasePhase) : (s.setPhase p).busB = s.busB := rfl
@[simp] theorem State.setPhase_priv (s : State) (p : ReleasePhase) : (s.setPhase p).priv = s.priv := rfl
@[simp] theorem State.setPhase_ident (s : State) (p : ReleasePhase) : (s.setPhase p).ident = s.ident := rfl
@[simp] theorem State.setPhase_pair (s : State) (p : ReleasePhase) : (s.setPhase p).pair = s.pair := rfl
@[simp] theorem State.setPhase_supply (s : State) (p : ReleasePhase) : (s.setPhase p).supply = s.supply := rfl
@[simp] theorem State.setPhase_tamper (s : State) (p : ReleasePhase) : (s.setPhase p).tamper = s.tamper := rfl
@[simp] theorem State.setPhase_otp (s : State) (p : ReleasePhase) : (s.setPhase p).otp = s.otp := rfl
@[simp] theorem State.setPhase_fw (s : State) (p : ReleasePhase) : (s.setPhase p).fw = s.fw := rfl
@[simp] theorem State.setPhase_jtag (s : State) (p : ReleasePhase) : (s.setPhase p).jtag = s.jtag := rfl
@[simp] theorem State.setPhase_recorder (s : State) (p : ReleasePhase) : (s.setPhase p).recorder = s.recorder := rfl
@[simp] theorem State.setPhase_tiles (s : State) (p : ReleasePhase) : (s.setPhase p).tiles = s.tiles := rfl
@[simp] theorem State.setPhase_rng (s : State) (p : ReleasePhase) : (s.setPhase p).rng = s.rng := rfl
@[simp] theorem State.setPhase_free (s : State) (p : ReleasePhase) : (s.setPhase p).free = s.free := rfl
@[simp] theorem State.setPhase_outbox (s : State) (p : ReleasePhase) : (s.setPhase p).outbox = s.outbox := rfl
@[simp] theorem State.setPhase_pending (s : State) (p : ReleasePhase) : (s.setPhase p).pending = s.pending := rfl

/-! #### State.setGates -/

@[simp] theorem State.setGates_now (s : State) (f : Gates → Gates) : (s.setGates f).now = s.now := rfl
@[simp] theorem State.setGates_boot (s : State) (f : Gates → Gates) : (s.setGates f).boot = s.boot := rfl
@[simp] theorem State.setGates_rel (s : State) (f : Gates → Gates) : (s.setGates f).rel = s.rel := rfl
@[simp] theorem State.setGates_recov (s : State) (f : Gates → Gates) : (s.setGates f).recov = s.recov := rfl
@[simp] theorem State.setGates_orfer (s : State) (f : Gates → Gates) : (s.setGates f).orfer = s.orfer := rfl
@[simp] theorem State.setGates_i3c (s : State) (f : Gates → Gates) : (s.setGates f).i3c = s.i3c := rfl
@[simp] theorem State.setGates_pcie (s : State) (f : Gates → Gates) : (s.setGates f).pcie = s.pcie := rfl
@[simp] theorem State.setGates_chans (s : State) (f : Gates → Gates) : (s.setGates f).chans = s.chans := rfl
@[simp] theorem State.setGates_wheel (s : State) (f : Gates → Gates) : (s.setGates f).wheel = s.wheel := rfl
@[simp] theorem State.setGates_keys (s : State) (f : Gates → Gates) : (s.setGates f).keys = s.keys := rfl
@[simp] theorem State.setGates_cipher (s : State) (f : Gates → Gates) : (s.setGates f).cipher = s.cipher := rfl
@[simp] theorem State.setGates_operand (s : State) (f : Gates → Gates) : (s.setGates f).operand = s.operand := rfl
@[simp] theorem State.setGates_busA (s : State) (f : Gates → Gates) : (s.setGates f).busA = s.busA := rfl
@[simp] theorem State.setGates_busB (s : State) (f : Gates → Gates) : (s.setGates f).busB = s.busB := rfl
@[simp] theorem State.setGates_priv (s : State) (f : Gates → Gates) : (s.setGates f).priv = s.priv := rfl
@[simp] theorem State.setGates_ident (s : State) (f : Gates → Gates) : (s.setGates f).ident = s.ident := rfl
@[simp] theorem State.setGates_pair (s : State) (f : Gates → Gates) : (s.setGates f).pair = s.pair := rfl
@[simp] theorem State.setGates_supply (s : State) (f : Gates → Gates) : (s.setGates f).supply = s.supply := rfl
@[simp] theorem State.setGates_tamper (s : State) (f : Gates → Gates) : (s.setGates f).tamper = s.tamper := rfl
@[simp] theorem State.setGates_otp (s : State) (f : Gates → Gates) : (s.setGates f).otp = s.otp := rfl
@[simp] theorem State.setGates_fw (s : State) (f : Gates → Gates) : (s.setGates f).fw = s.fw := rfl
@[simp] theorem State.setGates_jtag (s : State) (f : Gates → Gates) : (s.setGates f).jtag = s.jtag := rfl
@[simp] theorem State.setGates_recorder (s : State) (f : Gates → Gates) : (s.setGates f).recorder = s.recorder := rfl
@[simp] theorem State.setGates_tiles (s : State) (f : Gates → Gates) : (s.setGates f).tiles = s.tiles := rfl
@[simp] theorem State.setGates_rng (s : State) (f : Gates → Gates) : (s.setGates f).rng = s.rng := rfl
@[simp] theorem State.setGates_free (s : State) (f : Gates → Gates) : (s.setGates f).free = s.free := rfl
@[simp] theorem State.setGates_outbox (s : State) (f : Gates → Gates) : (s.setGates f).outbox = s.outbox := rfl
@[simp] theorem State.setGates_pending (s : State) (f : Gates → Gates) : (s.setGates f).pending = s.pending := rfl

/-! #### State.mapAdmitted -/

@[simp] theorem State.mapAdmitted_now (s : State) (f : Nat → Item → Item) : (s.mapAdmitted f).now = s.now := rfl
@[simp] theorem State.mapAdmitted_ms (s : State) (f : Nat → Item → Item) : (s.mapAdmitted f).ms = s.ms := rfl
@[simp] theorem State.mapAdmitted_boot (s : State) (f : Nat → Item → Item) : (s.mapAdmitted f).boot = s.boot := rfl
@[simp] theorem State.mapAdmitted_rel (s : State) (f : Nat → Item → Item) : (s.mapAdmitted f).rel = s.rel := rfl
@[simp] theorem State.mapAdmitted_recov (s : State) (f : Nat → Item → Item) : (s.mapAdmitted f).recov = s.recov := rfl
@[simp] theorem State.mapAdmitted_orfer (s : State) (f : Nat → Item → Item) : (s.mapAdmitted f).orfer = s.orfer := rfl
@[simp] theorem State.mapAdmitted_i3c (s : State) (f : Nat → Item → Item) : (s.mapAdmitted f).i3c = s.i3c := rfl
@[simp] theorem State.mapAdmitted_pcie (s : State) (f : Nat → Item → Item) : (s.mapAdmitted f).pcie = s.pcie := rfl
@[simp] theorem State.mapAdmitted_wheel (s : State) (f : Nat → Item → Item) : (s.mapAdmitted f).wheel = s.wheel := rfl
@[simp] theorem State.mapAdmitted_keys (s : State) (f : Nat → Item → Item) : (s.mapAdmitted f).keys = s.keys := rfl
@[simp] theorem State.mapAdmitted_cipher (s : State) (f : Nat → Item → Item) : (s.mapAdmitted f).cipher = s.cipher := rfl
@[simp] theorem State.mapAdmitted_operand (s : State) (f : Nat → Item → Item) : (s.mapAdmitted f).operand = s.operand := rfl
@[simp] theorem State.mapAdmitted_busA (s : State) (f : Nat → Item → Item) : (s.mapAdmitted f).busA = s.busA := rfl
@[simp] theorem State.mapAdmitted_busB (s : State) (f : Nat → Item → Item) : (s.mapAdmitted f).busB = s.busB := rfl
@[simp] theorem State.mapAdmitted_priv (s : State) (f : Nat → Item → Item) : (s.mapAdmitted f).priv = s.priv := rfl
@[simp] theorem State.mapAdmitted_ident (s : State) (f : Nat → Item → Item) : (s.mapAdmitted f).ident = s.ident := rfl
@[simp] theorem State.mapAdmitted_pair (s : State) (f : Nat → Item → Item) : (s.mapAdmitted f).pair = s.pair := rfl
@[simp] theorem State.mapAdmitted_supply (s : State) (f : Nat → Item → Item) : (s.mapAdmitted f).supply = s.supply := rfl
@[simp] theorem State.mapAdmitted_tamper (s : State) (f : Nat → Item → Item) : (s.mapAdmitted f).tamper = s.tamper := rfl
@[simp] theorem State.mapAdmitted_otp (s : State) (f : Nat → Item → Item) : (s.mapAdmitted f).otp = s.otp := rfl
@[simp] theorem State.mapAdmitted_fw (s : State) (f : Nat → Item → Item) : (s.mapAdmitted f).fw = s.fw := rfl
@[simp] theorem State.mapAdmitted_jtag (s : State) (f : Nat → Item → Item) : (s.mapAdmitted f).jtag = s.jtag := rfl
@[simp] theorem State.mapAdmitted_recorder (s : State) (f : Nat → Item → Item) : (s.mapAdmitted f).recorder = s.recorder := rfl
@[simp] theorem State.mapAdmitted_tiles (s : State) (f : Nat → Item → Item) : (s.mapAdmitted f).tiles = s.tiles := rfl
@[simp] theorem State.mapAdmitted_rng (s : State) (f : Nat → Item → Item) : (s.mapAdmitted f).rng = s.rng := rfl
@[simp] theorem State.mapAdmitted_free (s : State) (f : Nat → Item → Item) : (s.mapAdmitted f).free = s.free := rfl
@[simp] theorem State.mapAdmitted_outbox (s : State) (f : Nat → Item → Item) : (s.mapAdmitted f).outbox = s.outbox := rfl
@[simp] theorem State.mapAdmitted_pending (s : State) (f : Nat → Item → Item) : (s.mapAdmitted f).pending = s.pending := rfl

/-! #### State.updAct -/

@[simp] theorem State.updAct_now (s : State) (realm id : Nat) (f : Act → Act) : (s.updAct realm id f).now = s.now := rfl
@[simp] theorem State.updAct_ms (s : State) (realm id : Nat) (f : Act → Act) : (s.updAct realm id f).ms = s.ms := rfl
@[simp] theorem State.updAct_boot (s : State) (realm id : Nat) (f : Act → Act) : (s.updAct realm id f).boot = s.boot := rfl
@[simp] theorem State.updAct_rel (s : State) (realm id : Nat) (f : Act → Act) : (s.updAct realm id f).rel = s.rel := rfl
@[simp] theorem State.updAct_recov (s : State) (realm id : Nat) (f : Act → Act) : (s.updAct realm id f).recov = s.recov := rfl
@[simp] theorem State.updAct_i3c (s : State) (realm id : Nat) (f : Act → Act) : (s.updAct realm id f).i3c = s.i3c := rfl
@[simp] theorem State.updAct_pcie (s : State) (realm id : Nat) (f : Act → Act) : (s.updAct realm id f).pcie = s.pcie := rfl
@[simp] theorem State.updAct_chans (s : State) (realm id : Nat) (f : Act → Act) : (s.updAct realm id f).chans = s.chans := rfl
@[simp] theorem State.updAct_wheel (s : State) (realm id : Nat) (f : Act → Act) : (s.updAct realm id f).wheel = s.wheel := rfl
@[simp] theorem State.updAct_keys (s : State) (realm id : Nat) (f : Act → Act) : (s.updAct realm id f).keys = s.keys := rfl
@[simp] theorem State.updAct_cipher (s : State) (realm id : Nat) (f : Act → Act) : (s.updAct realm id f).cipher = s.cipher := rfl
@[simp] theorem State.updAct_operand (s : State) (realm id : Nat) (f : Act → Act) : (s.updAct realm id f).operand = s.operand := rfl
@[simp] theorem State.updAct_busA (s : State) (realm id : Nat) (f : Act → Act) : (s.updAct realm id f).busA = s.busA := rfl
@[simp] theorem State.updAct_busB (s : State) (realm id : Nat) (f : Act → Act) : (s.updAct realm id f).busB = s.busB := rfl
@[simp] theorem State.updAct_priv (s : State) (realm id : Nat) (f : Act → Act) : (s.updAct realm id f).priv = s.priv := rfl
@[simp] theorem State.updAct_ident (s : State) (realm id : Nat) (f : Act → Act) : (s.updAct realm id f).ident = s.ident := rfl
@[simp] theorem State.updAct_pair (s : State) (realm id : Nat) (f : Act → Act) : (s.updAct realm id f).pair = s.pair := rfl
@[simp] theorem State.updAct_supply (s : State) (realm id : Nat) (f : Act → Act) : (s.updAct realm id f).supply = s.supply := rfl
@[simp] theorem State.updAct_tamper (s : State) (realm id : Nat) (f : Act → Act) : (s.updAct realm id f).tamper = s.tamper := rfl
@[simp] theorem State.updAct_otp (s : State) (realm id : Nat) (f : Act → Act) : (s.updAct realm id f).otp = s.otp := rfl
@[simp] theorem State.updAct_fw (s : State) (realm id : Nat) (f : Act → Act) : (s.updAct realm id f).fw = s.fw := rfl
@[simp] theorem State.updAct_jtag (s : State) (realm id : Nat) (f : Act → Act) : (s.updAct realm id f).jtag = s.jtag := rfl
@[simp] theorem State.updAct_recorder (s : State) (realm id : Nat) (f : Act → Act) : (s.updAct realm id f).recorder = s.recorder := rfl
@[simp] theorem State.updAct_tiles (s : State) (realm id : Nat) (f : Act → Act) : (s.updAct realm id f).tiles = s.tiles := rfl
@[simp] theorem State.updAct_rng (s : State) (realm id : Nat) (f : Act → Act) : (s.updAct realm id f).rng = s.rng := rfl
@[simp] theorem State.updAct_free (s : State) (realm id : Nat) (f : Act → Act) : (s.updAct realm id f).free = s.free := rfl
@[simp] theorem State.updAct_outbox (s : State) (realm id : Nat) (f : Act → Act) : (s.updAct realm id f).outbox = s.outbox := rfl
@[simp] theorem State.updAct_pending (s : State) (realm id : Nat) (f : Act → Act) : (s.updAct realm id f).pending = s.pending := rfl

/-! #### State.updLog -/

@[simp] theorem State.updLog_now (s : State) (slot : Nat) (f : LogEntry → LogEntry) : (s.updLog slot f).now = s.now := by
  unfold State.updLog; repeat (first | rfl | split)
@[simp] theorem State.updLog_ms (s : State) (slot : Nat) (f : LogEntry → LogEntry) : (s.updLog slot f).ms = s.ms := by
  unfold State.updLog; repeat (first | rfl | split)
@[simp] theorem State.updLog_boot (s : State) (slot : Nat) (f : LogEntry → LogEntry) : (s.updLog slot f).boot = s.boot := by
  unfold State.updLog; repeat (first | rfl | split)
@[simp] theorem State.updLog_rel (s : State) (slot : Nat) (f : LogEntry → LogEntry) : (s.updLog slot f).rel = s.rel := by
  unfold State.updLog; repeat (first | rfl | split)
@[simp] theorem State.updLog_recov (s : State) (slot : Nat) (f : LogEntry → LogEntry) : (s.updLog slot f).recov = s.recov := by
  unfold State.updLog; repeat (first | rfl | split)
@[simp] theorem State.updLog_orfer (s : State) (slot : Nat) (f : LogEntry → LogEntry) : (s.updLog slot f).orfer = s.orfer := by
  unfold State.updLog; repeat (first | rfl | split)
@[simp] theorem State.updLog_i3c (s : State) (slot : Nat) (f : LogEntry → LogEntry) : (s.updLog slot f).i3c = s.i3c := by
  unfold State.updLog; repeat (first | rfl | split)
@[simp] theorem State.updLog_pcie (s : State) (slot : Nat) (f : LogEntry → LogEntry) : (s.updLog slot f).pcie = s.pcie := by
  unfold State.updLog; repeat (first | rfl | split)
@[simp] theorem State.updLog_chans (s : State) (slot : Nat) (f : LogEntry → LogEntry) : (s.updLog slot f).chans = s.chans := by
  unfold State.updLog; repeat (first | rfl | split)
@[simp] theorem State.updLog_wheel (s : State) (slot : Nat) (f : LogEntry → LogEntry) : (s.updLog slot f).wheel = s.wheel := by
  unfold State.updLog; repeat (first | rfl | split)
@[simp] theorem State.updLog_keys (s : State) (slot : Nat) (f : LogEntry → LogEntry) : (s.updLog slot f).keys = s.keys := by
  unfold State.updLog; repeat (first | rfl | split)
@[simp] theorem State.updLog_cipher (s : State) (slot : Nat) (f : LogEntry → LogEntry) : (s.updLog slot f).cipher = s.cipher := by
  unfold State.updLog; repeat (first | rfl | split)
@[simp] theorem State.updLog_operand (s : State) (slot : Nat) (f : LogEntry → LogEntry) : (s.updLog slot f).operand = s.operand := by
  unfold State.updLog; repeat (first | rfl | split)
@[simp] theorem State.updLog_busA (s : State) (slot : Nat) (f : LogEntry → LogEntry) : (s.updLog slot f).busA = s.busA := by
  unfold State.updLog; repeat (first | rfl | split)
@[simp] theorem State.updLog_busB (s : State) (slot : Nat) (f : LogEntry → LogEntry) : (s.updLog slot f).busB = s.busB := by
  unfold State.updLog; repeat (first | rfl | split)
@[simp] theorem State.updLog_priv (s : State) (slot : Nat) (f : LogEntry → LogEntry) : (s.updLog slot f).priv = s.priv := by
  unfold State.updLog; repeat (first | rfl | split)
@[simp] theorem State.updLog_ident (s : State) (slot : Nat) (f : LogEntry → LogEntry) : (s.updLog slot f).ident = s.ident := by
  unfold State.updLog; repeat (first | rfl | split)
@[simp] theorem State.updLog_pair (s : State) (slot : Nat) (f : LogEntry → LogEntry) : (s.updLog slot f).pair = s.pair := by
  unfold State.updLog; repeat (first | rfl | split)
@[simp] theorem State.updLog_supply (s : State) (slot : Nat) (f : LogEntry → LogEntry) : (s.updLog slot f).supply = s.supply := by
  unfold State.updLog; repeat (first | rfl | split)
@[simp] theorem State.updLog_otp (s : State) (slot : Nat) (f : LogEntry → LogEntry) : (s.updLog slot f).otp = s.otp := by
  unfold State.updLog; repeat (first | rfl | split)
@[simp] theorem State.updLog_fw (s : State) (slot : Nat) (f : LogEntry → LogEntry) : (s.updLog slot f).fw = s.fw := by
  unfold State.updLog; repeat (first | rfl | split)
@[simp] theorem State.updLog_jtag (s : State) (slot : Nat) (f : LogEntry → LogEntry) : (s.updLog slot f).jtag = s.jtag := by
  unfold State.updLog; repeat (first | rfl | split)
@[simp] theorem State.updLog_recorder (s : State) (slot : Nat) (f : LogEntry → LogEntry) : (s.updLog slot f).recorder = s.recorder := by
  unfold State.updLog; repeat (first | rfl | split)
@[simp] theorem State.updLog_tiles (s : State) (slot : Nat) (f : LogEntry → LogEntry) : (s.updLog slot f).tiles = s.tiles := by
  unfold State.updLog; repeat (first | rfl | split)
@[simp] theorem State.updLog_rng (s : State) (slot : Nat) (f : LogEntry → LogEntry) : (s.updLog slot f).rng = s.rng := by
  unfold State.updLog; repeat (first | rfl | split)
@[simp] theorem State.updLog_free (s : State) (slot : Nat) (f : LogEntry → LogEntry) : (s.updLog slot f).free = s.free := by
  unfold State.updLog; repeat (first | rfl | split)
@[simp] theorem State.updLog_outbox (s : State) (slot : Nat) (f : LogEntry → LogEntry) : (s.updLog slot f).outbox = s.outbox := by
  unfold State.updLog; repeat (first | rfl | split)
@[simp] theorem State.updLog_pending (s : State) (slot : Nat) (f : LogEntry → LogEntry) : (s.updLog slot f).pending = s.pending := by
  unfold State.updLog; repeat (first | rfl | split)

/-! #### State.raiseVector -/

@[simp] theorem State.raiseVector_now (s : State) (fn vec : Nat) : (s.raiseVector fn vec).now = s.now := by
  unfold State.raiseVector; repeat (first | rfl | split)
@[simp] theorem State.raiseVector_ms (s : State) (fn vec : Nat) : (s.raiseVector fn vec).ms = s.ms := by
  unfold State.raiseVector; repeat (first | rfl | split)
@[simp] theorem State.raiseVector_boot (s : State) (fn vec : Nat) : (s.raiseVector fn vec).boot = s.boot := by
  unfold State.raiseVector; repeat (first | rfl | split)
@[simp] theorem State.raiseVector_rel (s : State) (fn vec : Nat) : (s.raiseVector fn vec).rel = s.rel := by
  unfold State.raiseVector; repeat (first | rfl | split)
@[simp] theorem State.raiseVector_recov (s : State) (fn vec : Nat) : (s.raiseVector fn vec).recov = s.recov := by
  unfold State.raiseVector; repeat (first | rfl | split)
@[simp] theorem State.raiseVector_orfer (s : State) (fn vec : Nat) : (s.raiseVector fn vec).orfer = s.orfer := by
  unfold State.raiseVector; repeat (first | rfl | split)
@[simp] theorem State.raiseVector_i3c (s : State) (fn vec : Nat) : (s.raiseVector fn vec).i3c = s.i3c := by
  unfold State.raiseVector; repeat (first | rfl | split)
@[simp] theorem State.raiseVector_chans (s : State) (fn vec : Nat) : (s.raiseVector fn vec).chans = s.chans := by
  unfold State.raiseVector; repeat (first | rfl | split)
@[simp] theorem State.raiseVector_wheel (s : State) (fn vec : Nat) : (s.raiseVector fn vec).wheel = s.wheel := by
  unfold State.raiseVector; repeat (first | rfl | split)
@[simp] theorem State.raiseVector_keys (s : State) (fn vec : Nat) : (s.raiseVector fn vec).keys = s.keys := by
  unfold State.raiseVector; repeat (first | rfl | split)
@[simp] theorem State.raiseVector_cipher (s : State) (fn vec : Nat) : (s.raiseVector fn vec).cipher = s.cipher := by
  unfold State.raiseVector; repeat (first | rfl | split)
@[simp] theorem State.raiseVector_operand (s : State) (fn vec : Nat) : (s.raiseVector fn vec).operand = s.operand := by
  unfold State.raiseVector; repeat (first | rfl | split)
@[simp] theorem State.raiseVector_busA (s : State) (fn vec : Nat) : (s.raiseVector fn vec).busA = s.busA := by
  unfold State.raiseVector; repeat (first | rfl | split)
@[simp] theorem State.raiseVector_busB (s : State) (fn vec : Nat) : (s.raiseVector fn vec).busB = s.busB := by
  unfold State.raiseVector; repeat (first | rfl | split)
@[simp] theorem State.raiseVector_priv (s : State) (fn vec : Nat) : (s.raiseVector fn vec).priv = s.priv := by
  unfold State.raiseVector; repeat (first | rfl | split)
@[simp] theorem State.raiseVector_ident (s : State) (fn vec : Nat) : (s.raiseVector fn vec).ident = s.ident := by
  unfold State.raiseVector; repeat (first | rfl | split)
@[simp] theorem State.raiseVector_pair (s : State) (fn vec : Nat) : (s.raiseVector fn vec).pair = s.pair := by
  unfold State.raiseVector; repeat (first | rfl | split)
@[simp] theorem State.raiseVector_supply (s : State) (fn vec : Nat) : (s.raiseVector fn vec).supply = s.supply := by
  unfold State.raiseVector; repeat (first | rfl | split)
@[simp] theorem State.raiseVector_tamper (s : State) (fn vec : Nat) : (s.raiseVector fn vec).tamper = s.tamper := by
  unfold State.raiseVector; repeat (first | rfl | split)
@[simp] theorem State.raiseVector_otp (s : State) (fn vec : Nat) : (s.raiseVector fn vec).otp = s.otp := by
  unfold State.raiseVector; repeat (first | rfl | split)
@[simp] theorem State.raiseVector_fw (s : State) (fn vec : Nat) : (s.raiseVector fn vec).fw = s.fw := by
  unfold State.raiseVector; repeat (first | rfl | split)
@[simp] theorem State.raiseVector_jtag (s : State) (fn vec : Nat) : (s.raiseVector fn vec).jtag = s.jtag := by
  unfold State.raiseVector; repeat (first | rfl | split)
@[simp] theorem State.raiseVector_recorder (s : State) (fn vec : Nat) : (s.raiseVector fn vec).recorder = s.recorder := by
  unfold State.raiseVector; repeat (first | rfl | split)
@[simp] theorem State.raiseVector_tiles (s : State) (fn vec : Nat) : (s.raiseVector fn vec).tiles = s.tiles := by
  unfold State.raiseVector; repeat (first | rfl | split)
@[simp] theorem State.raiseVector_rng (s : State) (fn vec : Nat) : (s.raiseVector fn vec).rng = s.rng := by
  unfold State.raiseVector; repeat (first | rfl | split)
@[simp] theorem State.raiseVector_free (s : State) (fn vec : Nat) : (s.raiseVector fn vec).free = s.free := by
  unfold State.raiseVector; repeat (first | rfl | split)
@[simp] theorem State.raiseVector_pending (s : State) (fn vec : Nat) : (s.raiseVector fn vec).pending = s.pending := by
  unfold State.raiseVector; repeat (first | rfl | split)

/-! #### State.raiseSource -/

@[simp] theorem State.raiseSource_now (s : State) (p : Port) (src : Nat) : (s.raiseSource p src).now = s.now := by
  unfold State.raiseSource; dsimp only; repeat' split
  all_goals simp
@[simp] theorem State.raiseSource_ms (s : State) (p : Port) (src : Nat) : (s.raiseSource p src).ms = s.ms := by
  unfold State.raiseSource; dsimp only; repeat' split
  all_goals simp
@[simp] theorem State.raiseSource_boot (s : State) (p : Port) (src : Nat) : (s.raiseSource p src).boot = s.boot := by
  unfold State.raiseSource; dsimp only; repeat' split
  all_goals simp
@[simp] theorem State.raiseSource_rel (s : State) (p : Port) (src : Nat) : (s.raiseSource p src).rel = s.rel := by
  unfold State.raiseSource; dsimp only; repeat' split
  all_goals simp
@[simp] theorem State.raiseSource_recov (s : State) (p : Port) (src : Nat) : (s.raiseSource p src).recov = s.recov := by
  unfold State.raiseSource; dsimp only; repeat' split
  all_goals simp
@[simp] theorem State.raiseSource_i3c (s : State) (p : Port) (src : Nat) : (s.raiseSource p src).i3c = s.i3c := by
  unfold State.raiseSource; dsimp only; repeat' split
  all_goals simp
@[simp] theorem State.raiseSource_chans (s : State) (p : Port) (src : Nat) : (s.raiseSource p src).chans = s.chans := by
  unfold State.raiseSource; dsimp only; repeat' split
  all_goals simp
@[simp] theorem State.raiseSource_wheel (s : State) (p : Port) (src : Nat) : (s.raiseSource p src).wheel = s.wheel := by
  unfold State.raiseSource; dsimp only; repeat' split
  all_goals simp
@[simp] theorem State.raiseSource_keys (s : State) (p : Port) (src : Nat) : (s.raiseSource p src).keys = s.keys := by
  unfold State.raiseSource; dsimp only; repeat' split
  all_goals simp
@[simp] theorem State.raiseSource_cipher (s : State) (p : Port) (src : Nat) : (s.raiseSource p src).cipher = s.cipher := by
  unfold State.raiseSource; dsimp only; repeat' split
  all_goals simp
@[simp] theorem State.raiseSource_operand (s : State) (p : Port) (src : Nat) : (s.raiseSource p src).operand = s.operand := by
  unfold State.raiseSource; dsimp only; repeat' split
  all_goals simp
@[simp] theorem State.raiseSource_busA (s : State) (p : Port) (src : Nat) : (s.raiseSource p src).busA = s.busA := by
  unfold State.raiseSource; dsimp only; repeat' split
  all_goals simp
@[simp] theorem State.raiseSource_busB (s : State) (p : Port) (src : Nat) : (s.raiseSource p src).busB = s.busB := by
  unfold State.raiseSource; dsimp only; repeat' split
  all_goals simp
@[simp] theorem State.raiseSource_priv (s : State) (p : Port) (src : Nat) : (s.raiseSource p src).priv = s.priv := by
  unfold State.raiseSource; dsimp only; repeat' split
  all_goals simp
@[simp] theorem State.raiseSource_ident (s : State) (p : Port) (src : Nat) : (s.raiseSource p src).ident = s.ident := by
  unfold State.raiseSource; dsimp only; repeat' split
  all_goals simp
@[simp] theorem State.raiseSource_pair (s : State) (p : Port) (src : Nat) : (s.raiseSource p src).pair = s.pair := by
  unfold State.raiseSource; dsimp only; repeat' split
  all_goals simp
@[simp] theorem State.raiseSource_supply (s : State) (p : Port) (src : Nat) : (s.raiseSource p src).supply = s.supply := by
  unfold State.raiseSource; dsimp only; repeat' split
  all_goals simp
@[simp] theorem State.raiseSource_tamper (s : State) (p : Port) (src : Nat) : (s.raiseSource p src).tamper = s.tamper := by
  unfold State.raiseSource; dsimp only; repeat' split
  all_goals simp
@[simp] theorem State.raiseSource_otp (s : State) (p : Port) (src : Nat) : (s.raiseSource p src).otp = s.otp := by
  unfold State.raiseSource; dsimp only; repeat' split
  all_goals simp
@[simp] theorem State.raiseSource_fw (s : State) (p : Port) (src : Nat) : (s.raiseSource p src).fw = s.fw := by
  unfold State.raiseSource; dsimp only; repeat' split
  all_goals simp
@[simp] theorem State.raiseSource_jtag (s : State) (p : Port) (src : Nat) : (s.raiseSource p src).jtag = s.jtag := by
  unfold State.raiseSource; dsimp only; repeat' split
  all_goals simp
@[simp] theorem State.raiseSource_recorder (s : State) (p : Port) (src : Nat) : (s.raiseSource p src).recorder = s.recorder := by
  unfold State.raiseSource; dsimp only; repeat' split
  all_goals simp
@[simp] theorem State.raiseSource_tiles (s : State) (p : Port) (src : Nat) : (s.raiseSource p src).tiles = s.tiles := by
  unfold State.raiseSource; dsimp only; repeat' split
  all_goals simp
@[simp] theorem State.raiseSource_rng (s : State) (p : Port) (src : Nat) : (s.raiseSource p src).rng = s.rng := by
  unfold State.raiseSource; dsimp only; repeat' split
  all_goals simp
@[simp] theorem State.raiseSource_free (s : State) (p : Port) (src : Nat) : (s.raiseSource p src).free = s.free := by
  unfold State.raiseSource; dsimp only; repeat' split
  all_goals simp
@[simp] theorem State.raiseSource_pending (s : State) (p : Port) (src : Nat) : (s.raiseSource p src).pending = s.pending := by
  unfold State.raiseSource; dsimp only; repeat' split
  all_goals simp

/-! #### State.drive -/

@[simp] theorem State.drive_now (s : State) (n : Nat) (level : Bool) : (s.drive n level).now = s.now := rfl
@[simp] theorem State.drive_ms (s : State) (n : Nat) (level : Bool) : (s.drive n level).ms = s.ms := rfl
@[simp] theorem State.drive_boot (s : State) (n : Nat) (level : Bool) : (s.drive n level).boot = s.boot := rfl
@[simp] theorem State.drive_recov (s : State) (n : Nat) (level : Bool) : (s.drive n level).recov = s.recov := rfl
@[simp] theorem State.drive_orfer (s : State) (n : Nat) (level : Bool) : (s.drive n level).orfer = s.orfer := rfl
@[simp] theorem State.drive_i3c (s : State) (n : Nat) (level : Bool) : (s.drive n level).i3c = s.i3c := rfl
@[simp] theorem State.drive_pcie (s : State) (n : Nat) (level : Bool) : (s.drive n level).pcie = s.pcie := rfl
@[simp] theorem State.drive_chans (s : State) (n : Nat) (level : Bool) : (s.drive n level).chans = s.chans := rfl
@[simp] theorem State.drive_wheel (s : State) (n : Nat) (level : Bool) : (s.drive n level).wheel = s.wheel := rfl
@[simp] theorem State.drive_keys (s : State) (n : Nat) (level : Bool) : (s.drive n level).keys = s.keys := rfl
@[simp] theorem State.drive_cipher (s : State) (n : Nat) (level : Bool) : (s.drive n level).cipher = s.cipher := rfl
@[simp] theorem State.drive_operand (s : State) (n : Nat) (level : Bool) : (s.drive n level).operand = s.operand := rfl
@[simp] theorem State.drive_busA (s : State) (n : Nat) (level : Bool) : (s.drive n level).busA = s.busA := rfl
@[simp] theorem State.drive_busB (s : State) (n : Nat) (level : Bool) : (s.drive n level).busB = s.busB := rfl
@[simp] theorem State.drive_priv (s : State) (n : Nat) (level : Bool) : (s.drive n level).priv = s.priv := rfl
@[simp] theorem State.drive_ident (s : State) (n : Nat) (level : Bool) : (s.drive n level).ident = s.ident := rfl
@[simp] theorem State.drive_pair (s : State) (n : Nat) (level : Bool) : (s.drive n level).pair = s.pair := rfl
@[simp] theorem State.drive_supply (s : State) (n : Nat) (level : Bool) : (s.drive n level).supply = s.supply := rfl
@[simp] theorem State.drive_tamper (s : State) (n : Nat) (level : Bool) : (s.drive n level).tamper = s.tamper := rfl
@[simp] theorem State.drive_otp (s : State) (n : Nat) (level : Bool) : (s.drive n level).otp = s.otp := rfl
@[simp] theorem State.drive_fw (s : State) (n : Nat) (level : Bool) : (s.drive n level).fw = s.fw := rfl
@[simp] theorem State.drive_jtag (s : State) (n : Nat) (level : Bool) : (s.drive n level).jtag = s.jtag := rfl
@[simp] theorem State.drive_recorder (s : State) (n : Nat) (level : Bool) : (s.drive n level).recorder = s.recorder := rfl
@[simp] theorem State.drive_tiles (s : State) (n : Nat) (level : Bool) : (s.drive n level).tiles = s.tiles := rfl
@[simp] theorem State.drive_rng (s : State) (n : Nat) (level : Bool) : (s.drive n level).rng = s.rng := rfl
@[simp] theorem State.drive_free (s : State) (n : Nat) (level : Bool) : (s.drive n level).free = s.free := rfl
@[simp] theorem State.drive_pending (s : State) (n : Nat) (level : Bool) : (s.drive n level).pending = s.pending := rfl

end Sys2Proof.Machine
end

