-- ==== Sys2Proof/Laws/Reads.lean ====
section
/-!
SUPPORT. What a numbered piece of the state reads after it, or another of its kind, has been changed.
-/

namespace Sys2Proof.Machine

set_option Elab.async false

@[simp] theorem State.updChan_chan (s : State) (c : Nat) (f : Channel → Channel) : (s.updChan c f).chan c = f (s.chan c) := KeyMap.get_put_self ..
theorem State.updChan_chan_ne (s : State) (c k : Nat) (f : Channel → Channel) (h : k ≠ c) : (s.updChan c f).chan k = s.chan k :=
  KeyMap.get_put_ne _ _ _ _ _ h

@[simp] theorem State.updFn_fn (s : State) (n : Nat) (f : FnState → FnState) : (s.updFn n f).fn n = f (s.fn n) := KeyMap.get_put_self ..
theorem State.updFn_fn_ne (s : State) (n k : Nat) (f : FnState → FnState) (h : k ≠ n) : (s.updFn n f).fn k = s.fn k :=
  KeyMap.get_put_ne _ _ _ _ _ h

@[simp] theorem State.updRealm_realm (s : State) (r : Nat) (f : Realm → Realm) : (s.updRealm r f).realm r = f (s.realm r) := KeyMap.get_put_self ..
theorem State.updRealm_realm_ne (s : State) (r k : Nat) (f : Realm → Realm) (h : k ≠ r) : (s.updRealm r f).realm k = s.realm k :=
  KeyMap.get_put_ne _ _ _ _ _ h

@[simp] theorem State.updTile_tile (s : State) (n : Nat) (f : Tile → Tile) : (s.updTile n f).tile n = f (s.tile n) := KeyMap.get_put_self ..
theorem State.updTile_tile_ne (s : State) (n k : Nat) (f : Tile → Tile) (h : k ≠ n) : (s.updTile n f).tile k = s.tile k :=
  KeyMap.get_put_ne _ _ _ _ _ h

@[simp] theorem State.updDet_det (s : State) (n : Nat) (f : Detector → Detector) : (s.updDet n f).det n = f (s.det n) := KeyMap.get_put_self ..
theorem State.updDet_det_ne (s : State) (n k : Nat) (f : Detector → Detector) (h : k ≠ n) : (s.updDet n f).det k = s.det k :=
  KeyMap.get_put_ne _ _ _ _ _ h

/-- A stream exclusive-ored in twice leaves what it met. -/
theorem xorBytes_xorBytes (a m : Bytes) (h : a.length ≤ m.length) : xorBytes (xorBytes a m) m = a := by
  induction a generalizing m with
  | nil => simp [xorBytes]
  | cons x xs ih =>
    cases m with
    | nil => simp at h
    | cons y ys =>
      have := ih ys (by simpa using h)
      simp only [xorBytes] at this ⊢
      simp [this, BitVec.xor_assoc]

/-- A vault slot in use reads back the MATERIAL that was written, with its SLOT_MAC and its scrambled address (R186, R187). -/
theorem State.setSlot_slot (s : State) (c i : Nat) (v : Slot) (h : v.state ≠ 0) :
    (s.setSlot c i v).slot c i = { v with
      material := fit 32 v.material, mac := s.slotMac (4 * c + i) v
      place := Config.vaultPlace (s.rootKey "VAULT-MASK") (64 * (4 * c + i)) } := by
  have hs : (s.setSlot c i v).vaultStream (4 * c + i) = s.vaultStream (4 * c + i) := rfl
  have hl : ∀ n b, (fit n b).length = n := by intro n b; simp [fit, zeros]; omega
  simp only [State.slot, hs]
  simp only [State.setSlot, h, if_false, KeyMap.get_put_self, State.sealedVaultSlot]
  rw [xorBytes_xorBytes _ _ (by simp [State.vaultStream, hl])]

/-- A session that is open, after it has been changed. -/
theorem State.updSession_session (s : State) (i : Nat) (f : Session → Session) : (s.updSession i f).session i = (s.session i).map f := by
  unfold State.updSession
  split
  · rename_i h
    simp [h]
  · rename_i x h
    simp [State.session] at *
    simp [h]

theorem State.updSession_session_ne (s : State) (i k : Nat) (f : Session → Session) (h : k ≠ i) : (s.updSession i f).session k = s.session k := by
  unfold State.updSession
  split
  · rfl
  · exact KeyMap.find_put_ne _ _ _ _ h

@[simp] theorem State.updPair_pair (s : State) (f : PairState → PairState) : (s.updPair f).pair = f s.pair := rfl
@[simp] theorem State.emit_outbox (s : State) (m : OutMsg) : (s.emit m).outbox = s.outbox ++ [m] := rfl
@[simp] theorem State.program_jobs (s : State) (j : OtpJob) : (s.program j).otp.jobs = s.otp.jobs ++ [j] := rfl

/-- The programs that wait do not change the array. -/
@[simp] theorem State.program_low (s : State) (j : OtpJob) : (s.program j).otp.low = s.otp.low := rfl
@[simp] theorem State.program_high (s : State) (j : OtpJob) : (s.program j).otp.high = s.otp.high := rfl

/-- What a pulse leaves in the array: bits only rise (R448). -/
@[simp] theorem State.pulse_low (s : State) (w bits low high : Nat) :
    (s.pulse w bits low high).otp.low = KeyMap.set s.otp.low w (s.otpLow w ||| (low &&& bits)) := rfl
@[simp] theorem State.pulse_high (s : State) (w bits low high : Nat) :
    (s.pulse w bits low high).otp.high = KeyMap.set s.otp.high w (KeyMap.get s.otp.high 0 w ||| (high &&& low &&& bits)) := rfl

end Sys2Proof.Machine
end

