-- ==== Sys2Proof/Laws/Step.lean ====
section
/-!
SUPPORT. The shape that every command's effect has: an empty output side, an effect, and the queue as it was; and when a mailbox request, a host frame or
a command of a live device acts.
-/

namespace Sys2Proof.Machine

set_option Elab.async false

/-- A command's outcome is the next state that its effect makes, with the queue as it was. -/
theorem run_next (s : State) (f : State → State) : run s f = .next { f { s with outbox := [] } with pending := s.pending } := rfl

/-- On a live device a command acts. -/
theorem runOn_alive (s : State) (f : State → State) (h : s.alive = true) :
    runOn s f = .next { f { s with outbox := [] } with pending := s.pending } := by
  have h' : ({ s with outbox := [] } : State).alive = true := h
  simp [runOn, run, h']

/-- On a device that is not alive it changes nothing. -/
theorem runOn_dead (s : State) (f : State → State) (h : s.alive = false) : runOn s f = .next { s with outbox := [] } := by
  have h' : ({ s with outbox := [] } : State).alive = false := h
  simp [runOn, run, h']

/-- A request in flight is served; without one nothing happens. -/
theorem serve_some (s : State) (p : Port) (op : Nat) (f : State → Request → State) (q : Request) (h : s.taken p op = some q) :
    serve s p op f = f (s.take p q) q := by
  simp [serve, h]

theorem serve_none (s : State) (p : Port) (op : Nat) (f : State → Request → State) (h : s.taken p op = none) : serve s p op f = s := by
  simp [serve, h]

/-- A request with an empty payload goes on, another is ST_BAD_LENGTH. -/
theorem noPayload_nil (s : State) (q : Request) (f : State → State) (h : q.payload = []) : noPayload s q f = f s := by
  simp [noPayload, h]

/-- A step with a command in front is that command on the state with the queue's rest. -/
theorem step_cons (s : State) (c : Instr) (rest : List Instr) (h : s.pending = c :: rest) : step s = exec c { s with pending := rest } := by
  simp [step, h]

/-- A predicate that every element's effect keeps holds after all of them. -/
theorem foldl_keeps {α β : Type} (P : β → Prop) (g : β → α → β) (h : ∀ b a, P b → P (g b a)) : ∀ (l : List α) (b : β), P b → P (l.foldl g b)
  | [], _, hb => hb
  | a :: l, b, hb => foldl_keeps P g h l (g b a) (h b a hb)

end Sys2Proof.Machine
end

