-- ==== Sys2Proof/Tests/Slice0.lean ====
section
/-!
SUPPORT. Tests: ill-formed commands are refused, values that the manual prints, single steps, and a state and operands that meet the hypotheses of each
statement's clauses. Expected values come from the manual's tables and worked examples.
-/

namespace Sys2Proof.Tests

set_option Elab.async false


open Sys2Proof Sys2Proof.Machine Sys2Proof.Slice0

/-! ### Small states for the witnesses -/

/-- A request on MB0. -/
def rq (op session realm : Nat) (payload : Bytes) : Request := ⟨.mb0, op, 1, session, realm, (1, 4), 0, payload⟩

/-- An open session on MB0. -/
def wSession : Session := ⟨.mb0, 0, (1, 4), 0, BitVec.allOnes 1024, false, none, 0, [], 120000000000, none, SpdmConn.reset, none⟩

/-- A device that serves, with one session open. -/
def wServe : State := { State.reset with
  ms := { State.reset.ms with mode := .serve, base := .serve }
  boot := { BootState.reset with step := 0, apex := true, facet := true }
  orfer := { Orfer.reset with sessions := [(1, wSession)], nextSession := 2 } }

/-- A state with one request in flight on MB0. -/
def wAsk (s : State) (q : Request) : State := s.updMbox .mb0 fun m => { m with inFlight := [q], busy := true }

/-- A device in QUARANTINE. -/
def wQuar : State := { wServe with ms := { wServe.ms with mode := .quarantine, base := .none } }

/-- A device in SENTINEL. -/
def wSentinel : State := { State.reset with ms := { State.reset.ms with mode := .sentinel }, boot := { BootState.reset with step := 0 }, supply := { State.reset.supply with sentinel := true } }

/-- A device without any supply. -/
def wOff : State := { State.reset with ms := { State.reset.ms with mode := .off }, boot := { BootState.reset with step := 0 }, supply := { State.reset.supply with sentinel := false } }

/-- A cold GATE at a step. -/
def wStep (n : Nat) : State := { State.reset with boot := { BootState.reset with step := n } }

/-- The release sequence in a phase, with one step that waits for GPIO 3. -/
def wPhase (ph : ReleasePhase) : State := { wStep 9 with rel := { ReleaseState.reset with phase := ph, steps := [1#8] ++ zeros 8 ++ [3#8, 1#8, 0#8] } }

/-- A step that needs bus A, which has not passed. -/
def wNeedy (ph : ReleasePhase) : State := { wStep 9 with rel := { ReleaseState.reset with phase := ph, steps := [1#8] ++ zeros 7 ++ [1#8, 31#8, 0#8, 0#8] } }

/-- Channel 3, shown by function 0, with its rings in place. -/
def wChan : Channel := { Channel.reset with
  binding := ⟨0, false, 1⟩
  sqs := [(0, { Sq.reset with base := 0x10000, sizeLog2 := 4 })]
  cq := { Cq.reset with base := 0x20000, sizeLog2 := 4, timer := some 1 }
  fetching := some 0 }

/-- A device that serves channel 3 over PCIe. -/
def wRing : State := { wServe with chans := [(3, wChan)], pcie := { PcieState.reset with up := true, width := 8, speed := 32, fns := [(0, { FnState.reset with busMaster := true })] } }

/-- A device with a key load in progress on channel 3. -/
def wLoad (h : Option Bytes) : State := { wRing with keys := { wRing.keys with loads := [(cacheKey 3 7, ⟨h, 1, 1, none⟩)] } }
/-- A blob that is held, since its region has no room. -/
def wHeldBlob : State := { wRing with keys := { wRing.keys with loads := [(cacheKey 3 7, ⟨some [], 1, 1, some []⟩)] } }

/-- Output of an item. -/
def wResult : Result := ⟨0, [9#8], [(0x30000, 1)], 1, 0, false⟩

/-- An item with an opcode that waits for its key check. -/
def wItemOf (op : Nat) (judged : Bool) : Item :=
  { seq := 1, ring := 0, slot := 0, format := 0, desc := BitVec.ofNat 8 op :: zeros 127, decodedAt := 0, cls := .hit, status := 0, cost := 1, w := 1
    demand := Demand.empty, pages := [], opmem := [], contexts := 0, sigma := 0, release := 900, judged := judged, checkAt := 5
    dectab := zeros 16, refs := [], staged := none, stagedAt := [], parentRevoked := false, doneAt := 0, result := none, sent := 0, outW := 0, order := [], silent := false }

/-- A state with one admitted item on channel 3. -/
def wWith (x : Item) : State := { wRing with chans := [(3, { wChan with admitted := [x] })] }

/-- An item before its key check. -/
def wItem : Item := wItemOf 0x40 false
/-- It is admitted on channel 3. -/
def wAdmitted : State := wWith wItem
/-- An item with its outcome. -/
def wDoneItem : Item := { wItemOf 0x40 true with result := some wResult }
/-- It is admitted on channel 3. -/
def wDone : State := wWith wDoneItem

/-- A wheel on which channel 3 is a member of the pool. -/
def wPool : State := { wRing with wheel := { wRing.wheel with members := [0, 3], map := [] } }

/-- A read in flight from a ring that has been replaced. -/
def wStale : State := { wRing with chans := [(3, { wChan with stale := true })] }
/-- Sector 1 belongs to channel 3 alone. -/
def wOwner : State := { wRing with wheel := { wRing.wheel with members := [0, 3], map := [(1, 3)] } }
/-- Channel-0 work waits, and the sectors are channel 0's. -/
def wZeroWork : State := { wServe with cipher := { wServe.cipher with feeds := [(2, ⟨8, 2, 40, 0, 9, 9⟩)] }, wheel := { wServe.wheel with members := [0] } }
/-- Device time past sector 0. -/
def wLater : State := { wServe with now := 1000 }

/-- A PCIe link about to train. -/
def wReady : State := { wServe with pcie := { PcieState.reset with perst := true, readyAt := some 7 } }

/-- A response. -/
def wReply : Reply := ⟨.mb0, (1, 4), 0x0104, 1, 1, 0, 0, 0, false, false, 0, [1#8]⟩
/-- A response waits for the buffer. -/
def wFormed : State := wServe.updMbox .mb0 fun m => { m with formed := [wReply] }
/-- A response stands in the buffer. -/
def wSent : State := wServe.updMbox .mb0 fun m => { m with rspValid := true, rspLen := 33 }
/-- A response stands in the buffer, and a fragment follows. -/
def wMore : State := wServe.updMbox .mb0 fun m => { m with rspValid := true, rspLen := 33, sending := some wReply }
/-- Function 7 holds MB3. -/
def wGranted : State := wServe.updMbox (.mb3 7) fun m => { m with holder := some 7, grantLimit := some 9 }

/-- An open transaction of realm 0. -/
def wTxnRec : Txn := ⟨1, 1, [], .opened, some 99, none⟩
/-- Realm 0 has it. -/
def wTxn : State := wServe.updRealm 0 fun r => { r with txn := some wTxnRec }
/-- An open transaction with a field of a class. -/
def wTxnRecB : Txn := ⟨1, 1, [(cfgKey F_REL_COUNT 0, [1#8])], .opened, some 99, none⟩
/-- Realm 0 has it. -/
def wTxnB : State := wServe.updRealm 0 fun r => { r with txn := some wTxnRecB }
/-- An administrative session. -/
def wAdminRec : Admin := ⟨1, 1, 0, 900000000000⟩
/-- Realm 0 has it. -/
def wAdmin : State := wServe.updRealm 0 fun r => { r with admin := some wAdminRec }
/-- An act that awaits its quorum. -/
def wActRec : Act := ⟨1, 0x0705, 0, 0x0B, 0, 1, .mb0, [], none, zeros 16, zeros 48, [], 0, 300000000000, .awaiting, 0⟩
/-- Realm 0 has it. -/
def wAct : State := wServe.updRealm 0 fun r => { r with acts := [wActRec] }
/-- The same act in another state. -/
def wActIn (a : ActState) : State := wServe.updRealm 0 fun r => { r with acts := [{ wActRec with state := a }] }
/-- Realm 0 with six officers for an act of one. -/
def wRoster : State := wServe.updRealm 0 fun r => { r with roster := (List.range 6).map fun i => (i, ⟨1, 2, zeros 32⟩) }
/-- An act's output is kept. -/
def wOutput : State := { wServe with ident := { wServe.ident with outputs := [(0, (1, [5#8], 9))] } }
/-- A signature in progress. -/
def wJob : SigJob := ⟨2, some (rq 0x0317 1 0 []), (0, 0), [], [], 0, 0⟩
/-- It is at the front of the queue. -/
def wSigning : State := { wServe with ident := { wServe.ident with signing := [wJob] } }

/-- A staged key for a slot of channel 0. -/
def wStagedIn (i : Nat) : State := { wAdmin with keys := { wAdmin.keys with staged := [(0, ⟨i, 0, 1, [], zeros 32⟩)] } }
/-- An active vault seed. -/
def wSeeded : State := { wAdmin with keys := { wAdmin.keys with vault := [(0, ⟨zeros 32, 1, 1, 0, 1, [], [], 0⟩)] } }
/-- States for the root commands. -/
def wVaultSwap : State := wStagedIn 0
/-- The same. -/
def wVaultUnstage : State := wStagedIn 0
/-- The same. -/
def wVaultInvalidate : State := wSeeded
/-- The same. -/
def wVaultErase : State := wSeeded
/-- ROOT_STAGE of the vault seed from the generator. -/
def wStagePayload : Bytes := [0#8, 0#8, 1#8, 0#8, 0#8, 0#8] ++ zeros 12
/-- The first 48 bytes of a blob of a length. -/
def wBlob (n : Nat) : Bytes := zeros 6 ++ u16 n ++ zeros 40
/-- Creation parameters of Table 6.17 for slot 3. -/
def wParams : Bytes := u16 0x111 ++ u16 2048 ++ [3#8] ++ zeros 3 ++ [1#8] ++ zeros 47
/-- The header of the blob of an AES-256 key: 160 bytes in all. -/
def wHeader : Bytes := [0x4A#8, 0x47#8, 0x4B#8, 0x42#8, 1#8, 1#8, 160#8, 0#8, 0#8, 1#8, 3#8, 0#8, 0#8, 1#8, 64#8, 0#8] ++ zeros 32
/-- KEY_ATTEST of that blob. -/
def wAttestPayload : Bytes := wHeader ++ zeros 112 ++ zeros 16
/-- Parameters of a mailbox key command in realm 3. -/
def wRsaPayload : Bytes := u16 2048 ++ wParams
/-- A public key and parameters. -/
def wPeerPayload : Bytes := [1#8] ++ wParams

/-- The tables of a frame: one opcode with a class, permitted; every address open. -/
def wFrameOf (op cls : Nat) : Frame :=
  ⟨0, false, true, [(cfgKey F_PERM_DEFAULT 0, [0xFF#8, 0xFF#8]), (cfgKey F_OP_CLASS op, [BitVec.ofNat 8 cls]), (cfgKey F_OP_PERM op, [0xFF#8])], false⟩
/-- A frame on bus A. -/
def wBus (x : Frame) (wel : Bool) : State :=
  { wServe with busA := { wServe.busA with frame := some x, opened := true, density := [(0, 4096)], cs0 := { Shadow.reset with wel := wel } } }
/-- A frame on bus A, whose flash side runs in a MODE of Table 10.7. -/
def wBusMode (mode : Nat) (x : Frame) : State :=
  { wBus x true with busA := { (wBus x true).busA with timing := u8 mode ++ (wBus x true).busA.timing.drop 1 } }
/-- A frame on bus A after RESET ENABLE. -/
def wArmed : State :=
  { wServe with busA := { wServe.busA with frame := some (wFrameOf 0x99 0xB1), opened := true, cs0 := { Shadow.reset with resetEnabled := true } } }

/-- A GATE in which bus A is verified. -/
def wVerify : State := { wStep 8 with
  boot := { (wStep 8).boot with units := [(16, .inService)] }
  busA := { (wStep 8).busA with verifying := 1, flashUp := true }
  orfer := { (wStep 8).orfer with cfg := [(cfgKey F_PLAT_POLICY 0, [1#8])] } }
/-- A digest feed. -/
def wFeedRec : Feed := ⟨8, 2, 40, 0, 9, 9⟩
/-- It is item 5 of channel 0. -/
def wFeed : State := { wServe with cipher := { wServe.cipher with feeds := [(5, wFeedRec)] } }
/-- A restoration of bus A. -/
def wRecover (areas : List Nat) : State := { wServe with
  ms := { wServe.ms with mode := .recover, base := .none }
  recov := ⟨none, 1, 0⟩
  busA := { wServe.busA with restoring := some ⟨areas, false⟩ } }
/-- An area of bus A has failed once. -/
def wFailing : State := { wRecover [3] with busA := { (wRecover [3]).busA with restoring := some ⟨[3], true⟩ } }
/-- A page program in progress on bus A. -/
def wFlashOp : State := { wServe with busA := { wServe.busA with ops := [(0, ⟨6, 99⟩)] } }
/-- The private flash is up. -/
def wPriv : State := { wServe with priv := { wServe.priv with ready := true, density := 0x1000000 } }
/-- A golden set. -/
def wGoldenRec : Golden := ⟨zeros 64, true, 0⟩
/-- It is bus A's, and a GATE that verified a later manifest. -/
def wGolden : State := { wAdmin with
  priv := { wAdmin.priv with golden := [(0, wGoldenRec)] }
  busA := { wAdmin.busA with gateManifest := some (zeros 12 ++ [9#8, 0#8, 0#8, 0#8]) } }
/-- The device is held in GATE after its attempts. -/
def wHeld : State := { wServe with ms := { wServe.ms with mode := .gate }, rel := { wServe.rel with phase := .held, attempts := 3 } }
/-- A manifest of the last GATE. -/
def wManifest : State := { wServe with busA := { wServe.busA with gateManifest := some [1#8] } }

/-- A session whose SPDM connection stands at a stage of version 1.2. -/
def wSpdmSession (stage : Nat) : Session := { wSession with spdm := ⟨stage, zeros 14 ++ [0x12#8], [], []⟩ }
/-- A device with identity keys and that session. -/
def wSpdm (stage : Nat) (q : Request) : State :=
  wAsk { wServe with orfer := { wServe.orfer with sessions := [(1, wSpdmSession stage)] }
                     ident := { wServe.ident with keys := true, certs := [(0, [1#8, 2#8])] } } q

/-- A roster with one entry of index 7. -/
def wRosterBytes : Bytes := zeros 0xC ++ [1#8] ++ zeros 115 ++ (7#8 :: zeros 63)
/-- DOMAIN_ADMIT with a blob of 48 bytes and one card. -/
def wAdmitPayload : Bytes := wBlob 48 ++ zeros (reportLen + cardLen)
/-- A roster of one entry. -/
def wRosterPayload : Bytes := wRosterBytes ++ zeros idSigLen
/-- DOMAIN_ROLL with a blob of 48 bytes and one channel. -/
def wRollPayload : Bytes := wBlob 48 ++ zeros 2
/-- A domain in which the device has index 7. -/
def wDomainRec : Domain := ⟨zeros 16, wRosterBytes, [], [], 7, 0⟩
/-- Its member. -/
def wMember : State := { wAdmin with ident := { wAdmin.ident with domain := some wDomainRec } }
/-- A roll in progress. -/
def wRollRec : Roll := ⟨wRosterBytes, [], true⟩
/-- Its member rolls. -/
def wRolling : State := { wMember with ident := { wMember.ident with roll := some wRollRec } }
/-- An entry of the coalescing table. -/
def wEntry : Coalesce := ⟨7, 1, [], 1, 3, 3, 0⟩
/-- It is the table. -/
def wTable : State := { wServe with ident := { wServe.ident with table := [wEntry] } }

/-- A bound pair whose link is down. -/
def wPaired : State := { wAdmin with orfer := { wAdmin.orfer with cfg := [(cfgKey F_PAIR_PARTNER 0, 1#8 :: zeros 31)] } }
/-- The LINK key. -/
def wKey : Bytes := zeros 32
/-- A paired device whose link runs. -/
def wLink : State := { wPaired with
  pair := { wPaired.pair with mode := .paired, lanes := 3, hello := true, nonce := zeros 16, everPaired := true }
  keys := { wPaired.keys with vault := [(2, ⟨wKey, 1, 5, 3, 1, [], [], 0⟩)] } }
/-- An exchange at PREPARE. -/
def wExchange : Exchange := ⟨.prepared, ⟨0, 0, none, [], .nothing⟩, 0, 77⟩
/-- It is the device's own. -/
def wOwn : State := { wLink with pair := { wLink.pair with own := [(4, wExchange)] } }
/-- It is the partner's. -/
def wTheirs : State := { wLink with pair := { wLink.pair with theirs := [(4, wExchange)] } }

/-- Detector 8 has a test due. -/
def wTested : State := wServe.updDet 8 fun x => { x with testDue := some 9 }
/-- A scrap's erase of the private flash. -/
def wErase : ChipErase := ⟨none, true⟩
/-- A cell that charges. -/
def wCharging : State := { wServe with tamper := { wServe.tamper with cell := { wServe.tamper.cell with state := 2, since := some 4 } } }
/-- A cell whose charge is to be estimated. -/
def wEstimate : State := { wServe with tamper := { wServe.tamper with cell := { wServe.tamper.cell with estimate := 1 } } }

/-- A word program at the front of the queue. -/
def wJobs : State := { wServe with otp := { wServe.otp with jobs := [⟨0x18, 1, 0, none, .nothing⟩] } }
/-- A step of the evidence counter waits, and neither it nor the marker has a bit left. -/
def wFullJobs : State := { wServe with otp := { wServe.otp with jobs := [⟨0x18, 0, 2, none, .nothing⟩], shadow := [(0x19, 0x80000000)] } }
/-- A device in TEST. -/
def wTest : State := { wServe with otp := { wServe.otp with life := 1 } }
/-- An erasure of a slot. -/
def wErasing : State := { wServe with fw := { wServe.fw with erasing := some 1 } }

/-- A running recorder with a flush due. -/
def wFlush : State := { wServe with recorder := { wServe.recorder with running := true, flushBy := some 9 } }
/-- Trigger 20 fires every 5 ms. -/
def wPeriodic : State := { wFlush with orfer := { wFlush.orfer with cfg := [(cfgKey F_TRIG_SOURCE 20, [0x20#8, 0#8, 0#8, 0#8, 5#8, 0#8, 0#8, 0#8])] } }
/-- Histogram 3 counts subject 2. -/
def wHist : State := { wFlush with orfer := { wFlush.orfer with cfg := [(cfgKey F_HIST_CONFIG 3, 2#8 :: zeros 31)] } }

/-- Histogram 3 counts the stretches of tile 14. -/
def wStretchHist : State := { wFlush with orfer := { wFlush.orfer with cfg := [(cfgKey F_HIST_CONFIG 3, 7#8 :: zeros 3 ++ 14#8 :: zeros 27)] } }
/-- Histogram 3 samples the margin of lane 0 of a Chord link that runs. -/
def wLaneHist : State := { wFlush with
  orfer := { wFlush.orfer with cfg := [(cfgKey F_HIST_CONFIG 3, 5#8 :: zeros 31)] }, pair := { wFlush.pair with lanes := 3 } }

/-- A write to the core supply. -/
def wAvsW : AvsWrite := ⟨750, false, 0⟩
/-- The AVS controller in a phase. -/
def wAvs (w : Option AvsWrite) (retry low : Option Nat) : State :=
  { wServe with tiles := { wServe.tiles with avs := { wServe.tiles.avs with write := w, retryAt := retry, lowSince := low } } }

/-- Length of a run of zero bytes. -/
theorem zeros_length (n : Nat) : (zeros n).length = n := List.length_replicate ..

/-- Lengths of the roster's payload. -/
theorem roster_length : 128 ≤ wRosterPayload.length ∧ wRosterPayload.length = rosterLen wRosterPayload := by
  have h : rosterCount wRosterPayload = 1 := by decide +kernel
  have l : wRosterPayload.length = 192 + idSigLen := by simp [wRosterPayload, wRosterBytes, zeros_length]; omega
  unfold rosterLen
  rw [h, l]
  decide

/-- A blob's first 48 bytes give its length. -/
theorem blob_length (n : Nat) (h : n < 65536) (b : Bytes) : blobLenOf (wBlob n ++ b) = n := by
  have l : (wBlob n).length = 48 := by simp [wBlob, zeros_length, u16, leBytes]
  have f : fit 48 (wBlob n ++ b) = wBlob n := by
    unfold fit
    rw [List.take_append_of_le_length (by omega), List.take_of_length_le (by omega), List.length_append, l]
    simp [zeros]
  unfold blobLenOf KeyView.totalLen headerView
  rw [f]
  show leNat (slice 6 2 (zeros 6 ++ u16 n ++ zeros 40)) = n
  simp only [zeros, u16, leBytes, slice, List.replicate, List.cons_append, List.nil_append, List.drop, List.take, leNat, BitVec.toNat_ofNat]
  omega

/-- Lengths of DOMAIN_ADMIT's payload. -/
theorem admit_length : 48 ≤ wAdmitPayload.length ∧
    (wAdmitPayload.length = blobLenOf wAdmitPayload + reportLen + cardLen ∨ wAdmitPayload.length = blobLenOf wAdmitPayload + reportLen + 2 * cardLen) := by
  have l : wAdmitPayload.length = 48 + (reportLen + cardLen) := by simp [wAdmitPayload, wBlob, zeros_length, u16, leBytes]; omega
  have b : blobLenOf wAdmitPayload = 48 := blob_length 48 (by decide) _
  rw [l, b]
  exact ⟨by decide, .inl (by decide)⟩
/-- An OTP program in progress. -/
def wProgram : State := { wServe with otp := { OtpState.reset with low := [(3, 7)], high := [], jobs := [⟨3, 15, 0, none, .nothing⟩] } }
/-- An item's view with no key and no input. -/
def wExecIn : ExecIn := ⟨zeros 128, [], none, 0, [], [], 0, 3, 0, 0⟩

/-! ### Ill-formed commands -/

theorem test_wf_accepts : Instr.wf (.cqHeadDoorbell 127 255 3) = true := by decide
theorem test_wf_function : Instr.wf (.mbGrantRequest 128) = false := by decide
theorem test_wf_port_physical : Instr.wf (.mbDoorbell (.mb3 0) 32) = false := by decide
theorem test_wf_port_beyond : Instr.wf (.mbDoorbell (.mb3 128) 32) = false := by decide
theorem test_wf_master : Instr.wf (.registerWrite (.host 128) 0 []) = false := by decide
theorem test_wf_channel_zero : Instr.wf (.itemRelease 0) = false := by decide
theorem test_wf_channel_beyond : Instr.wf (.itemRelease 256) = false := by decide
theorem test_wf_realm : Instr.wf (.txnTimeout 256) = false := by decide
theorem test_wf_ring : Instr.wf (.descriptorFetchFailed 3 4) = false := by decide
theorem test_wf_desc : Instr.wf (.descriptorUndefinedOpcode 3 0 [1#8]) = false := by decide
theorem test_wf_phase_fetched : Instr.wf (.aesEcb (.fetched 3 0 [1#8])) = false := by decide
theorem test_wf_phase_work : Instr.wf (.aesEcb (.work 0 1 none none none)) = false := by decide
theorem test_wf_bus : Instr.wf (.hostCsFall 2 0) = false := by decide
theorem test_wf_cs : Instr.wf (.hostCsFall 0 2) = false := by decide
theorem test_wf_side : Instr.wf (.flashSideUp 3 none none false) = false := by decide
theorem test_wf_byte : Instr.wf (.spiRead 0 256 ⟨[], true, []⟩) = false := by decide
theorem test_wf_half : Instr.wf (.restoreAreaDone 0 65536) = false := by decide
theorem test_wf_word : Instr.wf (.mainPowerLost ⟨⟨850, 900, 1200, 1800⟩, true⟩ 4294967296 0) = false := by decide
theorem test_wf_unit : Instr.wf (.unitSelftestDone 45 true) = false := by decide
theorem test_wf_tile : Instr.wf (.clockStretch 24) = false := by decide
theorem test_wf_otp_word : Instr.wf (.otpWordProgram 2048 0 0 0) = false := by decide
theorem test_wf_weak : Instr.wf (.otpSenseComplete [(2048, 1)]) = false := by decide
theorem test_wf_detector : Instr.wf (.detectorQuiet 22) = false := by decide
theorem test_wf_trigger : Instr.wf (.periodicTrigger 64) = false := by decide
theorem test_wf_hist : Instr.wf (.histSample 64 ⟨0, 830⟩) = false := by decide
theorem test_wf_lanes : Instr.wf (.linkTrained 4 []) = false := by decide
theorem test_wf_lane : Instr.wf (.laneRetrain 2) = false := by decide
theorem test_wf_copy : Instr.wf (.factoryEnrolment 2 []) = false := by decide
theorem test_wf_region : Instr.wf (.regionDigestComplete 0 32 []) = false := by decide

/-! ### Values that the manual prints -/

/-- MB_MODE.WORD at reset (Table 3.1). -/
theorem test_reset_mode_word : State.reset.modeWord = 0x00007F02 := by decide

/-- Orrin's 16 sectors of the worked allocation, index 17 mod 256. -/
def orrin : List Nat := (List.range 16).map fun i => 17 + 256 * i
/-- Halden's 512 sectors, index 4 mod 8. -/
def halden : List Nat := (List.range 512).map fun i => 4 + 8 * i
/-- Saltmarsh's 128 sectors: index 9 mod 64 and index 57 mod 64. -/
def saltmarsh : List Nat := (List.range 128).map fun i => if i % 2 = 0 then 9 + 64 * (i / 2) else 57 + 64 * (i / 2)

/-- Table 5.5, G_c. -/
theorem test_gap_orrin : gapNs orrin = 65536 := by decide +kernel
theorem test_gap_halden : gapNs halden = 2048 := by decide +kernel
theorem test_gap_saltmarsh : gapNs saltmarsh = 12288 := by decide +kernel
/-- Table 5.6: PIN translation, hit and miss; ECDSA P-256 sign; SLH-DSA-SHA2-128f sign. -/
theorem test_latency_pin_hit : latencyUs orrin (leadNs false) 1 = 12 := by decide +kernel
theorem test_latency_pin_miss : latencyUs orrin (leadNs true) 1 = 40 := by decide +kernel
theorem test_latency_ecdsa_orrin : latencyUs orrin (leadNs false) 19 = 1191 := by decide +kernel
theorem test_latency_slh_orrin : latencyUs orrin (leadNs false) 184 = 12005 := by decide +kernel
theorem test_latency_ecdsa_saltmarsh : latencyUs saltmarsh (leadNs false) 19 = 159 := by decide +kernel
theorem test_latency_ecdsa_halden : latencyUs halden (leadNs false) 19 = 49 := by decide +kernel
theorem test_latency_slh_halden : latencyUs halden (leadNs false) 184 = 387 := by decide +kernel
/-- Table 5.7: the costliest opcodes. -/
theorem test_cost_slh128f : costAt 0x6A 0 = 27777777 := by decide +kernel
theorem test_cost_gcm_rbv : costAt 0x4A 524320 = 19559048 := by decide +kernel
theorem test_cost_rewrap : costAt 0x72 0 = 4000000 := by decide +kernel
theorem test_cost_cmac : costAt 0x24 7936 = 26666666 := by decide +kernel

/-- The PAN of the worked translation. -/
def terminalPan : List Nat := [5, 3, 9, 8, 2, 1, 0, 7, 4, 4, 6, 1, 0, 0, 3, 5]
/-- Its KSN. -/
def terminalKsn : Bytes := [0x5A#8, 0x7C#8, 0x1E#8, 0x30#8, 0x00#8, 0x42#8, 0x09#8, 0x17#8, 0x00#8, 0x00#8, 0x0B#8, 0x26#8]

/-- The PAN fields that the worked translation prints. -/
theorem test_pan_field_format4 : panField16 terminalPan =
    [0x45#8, 0x39#8, 0x82#8, 0x10#8, 0x74#8, 0x46#8, 0x10#8, 0x03#8, 0x50#8, 0#8, 0#8, 0#8, 0#8, 0#8, 0#8, 0#8] := by decide
theorem test_pan_field_format0 : panField8 terminalPan = [0#8, 0#8, 0x82#8, 0x10#8, 0x74#8, 0x46#8, 0x10#8, 0x03#8] := by decide
/-- The format 4 PIN field that it deciphers. -/
theorem test_pin_field_format4 : pinOf 4 [4, 4, 2, 5, 8, 0, 10, 10, 10, 10, 10, 10, 10, 10, 10, 10] = some [2, 5, 8, 0] := by decide
/-- The clear format 0 block that it builds. -/
theorem test_clear_block_format0 : xorBytes (packNibbles (0 :: 4 :: [2, 5, 8, 0] ++ pinFill 0 10 [])) (panField8 terminalPan)
    = [0x04#8, 0x25#8, 0x02#8, 0xEF#8, 0x8B#8, 0xB9#8, 0xEF#8, 0xFC#8] := by decide
/-- Its counter, 0x0000_0B26 with 6 one bits; 16 one bits are still allowed, 17 are not. -/
theorem test_dukpt_counter : dukptCounter true terminalKsn = 0xB26 ∧ dukptBitsOk true terminalKsn = true := by decide
theorem test_dukpt_sixteen_ones : dukptBitsOk true (terminalKsn.take 8 ++ [0#8, 0#8, 0xFF#8, 0xFF#8]) = true := by decide
theorem test_dukpt_seventeen_ones : dukptBitsOk true (terminalKsn.take 8 ++ [0#8, 1#8, 0xFF#8, 0xFF#8]) = false := by decide

/-- The torn OWNED word of Table 14.7, step 6. -/
def torn : State := State.sense { State.reset with otp := { OtpState.reset with
  low := [(0, 0xFFFFFFFF), (1, 0xFFFFFFFF), (2, 0xFFFFFFFF)], high := [(0, 0xFFFFFFFF), (1, 0xFFFFFFFF), (2, 0x00000F00)] } }
theorem test_torn_marginal_bits : torn.marginalIn 2 1 = 28 := by decide +kernel
theorem test_torn_lifecycle_code : torn.lifecycleCode = 0x84 := by decide +kernel
/-- Step 7: the word completed. -/
theorem test_completed_lifecycle_code : (torn.pulse 2 0xFFFFFFFF 0xFFFFFFFF 0xFFFFFFFF).sense.lifecycleCode = 0x04 := by decide +kernel

/-- CRC-16/CCITT-FALSE of the ASCII digits 1 to 9, the algorithm's catalogued check value. -/
theorem test_crc16_check : crc16 [0x31#8, 0x32#8, 0x33#8, 0x34#8, 0x35#8, 0x36#8, 0x37#8, 0x38#8, 0x39#8] = 0x29B1 := by decide +kernel

/-! ### One step each -/

/-- The outcome's state, where there is one. -/
def nextOf (o : Host.Outcome State Fault Refusal) : State :=
  match o with
  | .next t => t
  | _ => State.reset

/-- Channel 17 of the worked moderation on a function whose vector 0 is not masked, head 0, with records 0 and 1 written (step 4). -/
def moderated (head write : Nat) (armed : Bool) : State := { wRing with
  pcie := { wRing.pcie with fns := [(0, { FnState.reset with busMaster := true, msix := [(3, 0)] })] }
  chans := [(17, { wChan with
  fetching := none, used := 7, cq := { wChan.cq with head := head, writeIdx := write, armed := armed, pendingCount := 1, modCount := 4, modTimer := 100 } })] }
/-- Step 4: HEAD 2 and ARM 1 with WRITE_IDX 2: two credits return and ARMED becomes 1. -/
theorem test_moderation_step4 : let t := nextOf (execCqHeadDoorbell 0 17 0x80000002 (moderated 0 2 false))
    (t.chan 17).used = 5 ∧ (t.chan 17).cq.armed = true := by decide +kernel
/-- Step 9: HEAD 6 and ARM 1 with WRITE_IDX 7: four credits return, the vector is raised at once, pending 0. -/
theorem test_moderation_step9 : let t := nextOf (execCqHeadDoorbell 0 17 0x80000006 (moderated 2 7 false))
    (t.chan 17).used = 3 ∧ (t.chan 17).cq.armed = false ∧ (t.chan 17).cq.pendingCount = 0 ∧ .msix 0 0 ∈ t.outbox := by decide +kernel
/-- A doorbell while a response stands: DB_IGNORED only (R68). -/
theorem test_doorbell_ignored : let t := nextOf (execMbDoorbell .mb0 64 wSent)
    (t.window .mb0).dbIgnored = true ∧ (t.mbox .mb0).busy = false := by decide
/-- A length of 4,097: LEN_ERR only (R68). -/
theorem test_doorbell_length : let t := nextOf (execMbDoorbell .mb0 4097 wServe)
    (t.window .mb0).lenErr = true ∧ (t.window .mb0).dbIgnored = false := by decide
/-- The byte written to 0x1E clears RD_OVERRUN; the next one, to 0x1F, sets WR_IGNORED (R111). -/
theorem test_private_write : let t := nextOf (execI3cPrivateWrite [0x1E#8, 1#8, 0#8] { wServe with i3c := { wServe.i3c with rdOverrun := true } })
    t.i3c.rdOverrun = false ∧ t.i3c.wrIgnored = true ∧ t.i3c.pointer = 0x20 := by decide
/-- The three bytes read at the end of the register file: one 0, then 0xEE twice (R110). -/
theorem test_private_read_past_end : (nextOf (execI3cPrivateRead 3 { wServe with i3c := { wServe.i3c with pointer := 0x7F } })).i3c.rdOverrun = true := by decide
/-- SESSION_OPEN offering 1.4 opens session 2 after session 1 (R80). -/
theorem test_session_open : (nextOf (execSessionOpen .mb0 (wAsk wServe (rq 0x0101 0 0 [1#8, 1#8, 4#8, 5#8, 0#8])))).orfer.nextSession = 3 := by decide
/-- DEV_RST_N leads to a cold GATE with CAUSE 3 (Table 2.4). -/
theorem test_device_reset : let t := nextOf (execDeviceReset wServe)
    t.ms.mode = .gate ∧ t.ms.cause = 3 ∧ t.boot.step = 1 := by decide +kernel
/-- Lost main power without a cell leads to OFF and clears the vault. -/
theorem test_power_lost : let t := nextOf (execMainPowerLost ⟨⟨0, 0, 0, 0⟩, false⟩ 0 0 wServe)
    t.ms.mode = .off ∧ t.keys.vault = [] := by decide +kernel
/-- A power loss cuts the pulse of the program in progress: word 3 keeps bits 0 to 2 and gains bit 3 at low margin only. -/
theorem test_power_lost_cuts_pulse : let t := nextOf (execMainPowerLost ⟨⟨0, 0, 0, 0⟩, false⟩ 8 0 wProgram)
    t.otpLow 3 = 15 ∧ t.otpHigh 3 = 0 := by decide +kernel
/-- A detector at ZEROISE clears the stores and leads to QUARANTINE with CAUSE 1, once the device is past GATE. -/
theorem test_zeroise : let t := nextOf (execDetectorTrip [0] ⟨0, 0, true⟩ ⟨0, 850, 1800⟩ { wServe with otp := { wServe.otp with life := 3 } })
    t.ms.mode = .quarantine ∧ t.ms.cause = 1 ∧ t.tamper.tamperState = true := by decide +kernel
/-- A late tail outside the ring marks the ring (R124). -/
theorem test_tail_invalid : ((KeyMap.get ((nextOf (execSqTailDoorbell 0 3 0 16 wRing)).chan 3).sqs Sq.reset 0).errDb) = true := by decide
/-- A sector start moves device time to the next multiple of 256 ns (R154). -/
theorem test_sector_start : (nextOf (execSectorStart { wServe with now := 1000, wheel := { wServe.wheel with sector := 0 } })).now = 1024 := by decide +kernel
/-- The factory cannot leave BLANK by a word that is not in Table 14.1: a reserved word is not programmed (R448). -/
theorem test_reserved_word : (nextOf (execOtpWordProgram 0x700 1 1 1 wTest)).otpLow 0x700 = 0 := by decide +kernel
/-- FN_TIME.HI is latched by a read of FN_TIME.LO. -/
theorem test_fn_time : (nextOf (execFnTimeLoRead 0 { wServe with now := 0x500000001 })).outbox = [.data (leBytes 4 1)] := by decide

/-- After reset no channel page is owned, so a read of one meets the hypotheses of the clause on unowned pages (R121). -/
theorem witness_unowned_page : pagesBase 0 ≤ 0x100000 ∧ State.reset.pageChannel 0 0x100000 = none := by decide

/-! ### Witnesses of the statements on rules, frames and invariants -/

theorem witness_StepRunsFrontCommand_0 : ∃ (s : State) (c : Instr) (rest : List Instr), s.pending = c :: rest :=
  ⟨{ State.reset with pending := [.perstRise] }, .perstRise, [], rfl⟩

theorem witness_EmptyQueueIdles_0 : State.reset.pending = [] :=
  rfl

theorem witness_OtpArrayFrame_0 : ∃ (c : Instr) (s t : State), exec c s = .next t ∧ (∀ w b l h, c ≠ .otpWordProgram w b l h) ∧ (∀ a l h, c ≠ .mainPowerLost a l h) :=
  ⟨.deviceResetRelease, State.reset, _, rfl, by intros; simp, by intros; simp⟩

theorem witness_OtpArrayStaysCanonical_0 : Safety.otpCanonical { wProgram with pending := [.otpWordProgram 0 0 1 1] } :=
  ⟨⟨by decide, by decide⟩, ⟨by decide, by decide⟩, fun w b h => absurd h (by simp [bit, State.otpHigh, KeyMap.get, KeyMap.find, wProgram])⟩

theorem witness_OtpBitsNeverReturnToZero_0 : ∃ s t : State, step s = .next t :=
  ⟨State.reset, _, rfl⟩

theorem witness_DoorbellsActOnlyWhenReady_0 : (wServe.alive = true ∧ (.mb0 : Port) ≠ .mb1 ∧ wServe.portServed .mb0 = true ∧ wServe.granted .mb0 = true ∧ (wServe.mbox .mb0).busy = false
    ∧ (wServe.mbox .mb0).rspValid = false) ∧ wServe.granted (.mb3 1) = false ∧ wServe.portServed (.mb3 1) = true :=
  by decide

theorem witness_DoorbellsActOnlyWhenReady_1 : wSent.alive = true ∧ (wSent.mbox .mb0).rspValid = true :=
  by decide

theorem witness_PrivateWritesReachOneByte_0 : wServe.alive = true :=
  by decide

theorem witness_PrivateReadsPastTheEnd_0 : wServe.alive = true :=
  by decide

theorem witness_HeadDoorbellsLieOnTheWay_0 : wRing.alive = true ∧ wRing.showsPage 0 3 = true ∧ (wRing.chan 3).cq.base ≠ 0 :=
  by decide

theorem witness_HeadDoorbellsLieOnTheWay_1 : wRing.showsPage 0 3 = true ∧ ¬ (65535 % 65536 < 2 ^ (wRing.chan 3).cq.sizeLog2) :=
  by decide

theorem witness_HeadDoorbellsLieOnTheWay_2 : let q := (wRing.chan 3).cq; 0 % 65536 < 2 ^ q.sizeLog2 ∧ ∃ k d, k ≤ d ∧ d < 2 ^ q.sizeLog2 ∧ (q.head + d) % 2 ^ q.sizeLog2 = q.writeIdx % 2 ^ q.sizeLog2 ∧ (q.head + k) % 2 ^ q.sizeLog2 = 0 % 65536 :=
  ⟨by decide, 0, 0, by decide⟩

theorem witness_ArmedHeadDoorbellsRaiseTheVector_0 : wRing.alive = true ∧ wRing.showsPage 0 3 = true ∧ (2 ^ 31 : Nat).testBit 31 = true ∧ (wRing.chan 3).cq.base ≠ 0 ∧ 2 ^ 31 % 65536 < 2 ^ (wRing.chan 3).cq.sizeLog2
    ∧ ringDist (2 ^ (wRing.chan 3).cq.sizeLog2) (wRing.chan 3).cq.head (2 ^ 31 % 65536) ≤ ringDist (2 ^ (wRing.chan 3).cq.sizeLog2) (wRing.chan 3).cq.head (wRing.chan 3).cq.writeIdx :=
  by decide

theorem witness_PoolSectorsAreDealtInTurn_0 : (0 : Nat) < revSectors :=
  by decide

theorem witness_ThermometersReadTheirHighestStep_0 : thermometer [(8, 5)] 8 16 = 2 + 1 ∧ (16 : Nat) ≠ 0 :=
  by decide +kernel

theorem witness_OneTransactionInEachRealm_0 : ∃ (s : State) (q : Request), Asked s .mb0 0x0201 q ∧ q.payload = [] :=
  ⟨wAsk wServe (rq 0x0201 1 0 []), rq 0x0201 1 0 [], by decide⟩

theorem witness_OneTransactionInEachRealm_1 : ∃ (s : State) (q : Request), Asked s .mb0 0x0204 q ∧ q.payload.length = 4 ∧ ∀ y, (s.realm q.realm).txn = some y → y.session = q.session ∧ y.id ≠ leNat q.payload :=
  ⟨wAsk wServe (rq 0x0204 1 0 [1#8, 0#8, 0#8, 0#8]), rq 0x0204 1 0 [1#8, 0#8, 0#8, 0#8], by decide, by decide, fun y h => by cases h⟩

theorem witness_OneTransactionInEachRealm_2 : ∃ (s : State) (q : Request) (y : Txn), Asked s .mb0 0x0205 q ∧ q.payload.length = 4 ∧ (s.realm q.realm).txn = some y ∧ y.session ≠ q.session :=
  ⟨wAsk wTxn (rq 0x0205 9 0 [1#8, 0#8, 0#8, 0#8]), rq 0x0205 9 0 [1#8, 0#8, 0#8, 0#8], wTxnRec, by decide⟩

theorem witness_OneTransactionInEachRealm_3 : ∃ (s : State) (q : Request), Asked s .mb0 0x0202 q ∧ 4 ≤ q.payload.length ∧ field q.payload 0 4 ≠ 0 ∧ (parseEntries q.payload.length (q.payload.drop 4)).isSome = true :=
  ⟨wAsk wServe (rq 0x0202 1 0 [1#8, 0#8, 0#8, 0#8]), rq 0x0202 1 0 [1#8, 0#8, 0#8, 0#8], by decide⟩

theorem witness_SessionLimitsHold_0 : ∃ (s : State) (q : Request), Asked s .mb0 0x0101 q ∧ byteAt q.payload 0 = 1 ∧ q.payload.length = 3 + 2 * 1
    ∧ (bestVersion (blocks 2 (slice 1 (2 * 1) q.payload))).isSome = true ∧ 16 ≤ sessionsOn s .mb0 :=
  ⟨wAsk { wServe with orfer := { wServe.orfer with sessions := (List.range 16).map fun i => (i + 1, wSession) } } (rq 0x0101 0 0 [1#8, 1#8, 4#8, 0#8, 0#8]),
    rq 0x0101 0 0 [1#8, 1#8, 4#8, 0#8, 0#8], ⟨rfl, rfl⟩, by decide, by decide, by decide, by decide +kernel⟩

theorem witness_NoticeQueueHoldsSixtyFour_0 : wServe.session 1 = some wSession ∧ wSession.notices.length ≤ 64 :=
  ⟨rfl, by decide⟩

theorem witness_NoticeQueueHoldsSixtyFour_1 : ∃ (s : State) (x : Session), s.session 1 = some x ∧ x.notices.length = 64 :=
  ⟨{ wServe with orfer := { wServe.orfer with sessions := [(1, { wSession with notices := List.replicate 64 ⟨1, 0, 0, 0⟩ })] } }, _, rfl, by decide⟩

theorem witness_BuiltPinFieldsCarryTheirPin_0 : 4 ≤ [1, 2, 3, 4].length ∧ [1, 2, 3, 4].length ≤ 12 ∧ (∀ d ∈ [1, 2, 3, 4], d ≤ 9) :=
  by decide

theorem witness_BuiltPinFieldsCarryTheirPin_1 : ([4, 4] : List Nat).getD 0 0 ≠ 0 :=
  by decide

theorem witness_FailedPaymentItemsWriteNothing_0 : ∃ x : ExecIn, (runVerifyPvv x).status / 256 ≠ 0 :=
  ⟨wExecIn, by decide⟩

theorem witness_FailedPaymentItemsWriteNothing_1 : ∃ (s : State) (x : ExecIn), (s.runIkDerive x).status / 256 ≠ 0 :=
  ⟨State.reset, wExecIn, by decide⟩

theorem witness_FailedPaymentItemsWriteNothing_2 : ∃ (s : State) (x : ExecIn), (s.runIccDerive x).status / 256 ≠ 0 :=
  ⟨State.reset, wExecIn, by decide⟩

theorem witness_ZeroiseAlarmsClearEveryStore_0 : wServe.ms.mode ≠ .off ∧ wServe.ms.mode ≠ .sentinel ∧ (0 : Nat) < 22 ∧ wServe.armed 0 = true ∧ (wServe.det 0).tripped = false ∧ wServe.severityOf 0 = 4
    ∧ (wServe.sampled ⟨14, 1000000, true⟩ ⟨5, 850, 1800⟩).compares ⟨5, 850, 1800⟩ 0 = true :=
  by decide

theorem witness_LocksNeedACompleteRegion_0 : ∃ (s : State) (j : OtpJob), s.alive = true ∧ s.otp.jobs = [j] ∧ 0 ∈ lockedBy j ∧ s.complete 0 = false :=
  ⟨{ wServe with otp := { wServe.otp with low := [(0x40, 1)], high := [], jobs := [⟨0x7F0, 0xFF, 0, none, .nothing⟩] } }, ⟨0x7F0, 0xFF, 0, none, .nothing⟩,
    by decide, by decide, by decide, by unfold State.complete; exact Bool.and_eq_false_iff.2 (.inr (by decide +kernel))⟩

theorem witness_RecordsAreNumberedInTurn_0 : ({ RecState.reset with running := true } : RecState).running = true :=
  rfl

theorem witness_MailboxRequestsChangeOnlyTheirState_0 : ∃ t, exec (.stateQuery .mb0) State.reset = .next t :=
  ⟨_, rfl⟩

theorem witness_ItemsChangeOnlyChannelsAndKeys_0 : ∃ t, exec (.aesEcb (.fetched 3 0 [])) State.reset = .next t :=
  ⟨_, rfl⟩

theorem witness_HostReadsChangeOnlyTheBuses_0 : ∃ t, exec (.hostCsFall 0 0) State.reset = .next t :=
  ⟨_, rfl⟩

theorem witness_EventsChangeOnlyTheirUnit_0 : ∃ t, exec (.deviceResetRelease) State.reset = .next t :=
  ⟨_, rfl⟩

theorem witness_ComponentsChangeOnlyInTheirCommands_0 : ∃ t, exec (.deviceResetRelease) State.reset = .next t :=
  ⟨_, rfl⟩

/-! ### Witnesses of the completion statements, by clause -/

-- PowerCommandsComplete
theorem witness_g0_sysPwrgdRise : ∃ (s : State) (r : Rails), (s.ms.mode = .off ∨ s.ms.mode = .sentinel) ∧ railsGood r = true :=
  ⟨wSentinel, ⟨850, 900, 1200, 1800⟩, by decide⟩

theorem witness_g1_sysPwrgdRise : ∃ (r : Rails), railsGood r = false :=
  ⟨⟨0, 900, 1200, 1800⟩, by decide⟩

theorem witness_g2_sysPwrgdRise : ∃ (s : State), s.ms.mode ≠ .off ∧ s.ms.mode ≠ .sentinel :=
  ⟨State.reset, by decide⟩

theorem witness_g3_railEntersWindow : ∃ (s : State) (r : Rails), (s.ms.mode = .off ∨ s.ms.mode = .sentinel) ∧ s.supply.pwrgd = true ∧ railsGood r = true :=
  ⟨{ wSentinel with supply := { wSentinel.supply with pwrgd := true, rails := ⟨0, 900, 1200, 1800⟩ } }, ⟨850, 900, 1200, 1800⟩, by decide⟩

theorem witness_g4_sysPwrgdFall : ∃ (s : State), s.ms.mode ≠ .off ∧ s.ms.mode ≠ .sentinel :=
  ⟨State.reset, by decide⟩

theorem witness_g5_mainPowerLost : ∃ (s : State) (r : Rails), s.supply.pwrgd = true ∧ railsGood r = true :=
  ⟨State.reset, ⟨850, 900, 1200, 1800⟩, by decide⟩

theorem witness_g6_mainPowerLost : ∃ (s : State) (r : Rails), s.ms.mode ≠ .off ∧ s.ms.mode ≠ .sentinel ∧ (s.supply.pwrgd = false ∨ railsGood r = false) :=
  ⟨State.reset, ⟨0, 900, 1200, 1800⟩, by decide⟩

theorem witness_g7_deviceReset : ∃ (s : State), s.ms.mode ≠ .off ∧ s.ms.mode ≠ .sentinel :=
  ⟨State.reset, by decide⟩

theorem witness_g9_platformResetRequest : ∃ (s : State), s.alive = true ∧ (s.ms.mode = .watch ∨ s.ms.mode = .serve ∨ s.ms.mode = .steward ∨ s.ms.mode = .recover) :=
  ⟨wServe, by decide⟩

theorem witness_g10_platformResetRequest : ∃ (s : State), s.alive = true ∧ s.ms.mode = .quarantine :=
  ⟨wQuar, by decide⟩

-- ColdGateCommandsComplete
theorem witness_g0_pllLockComplete : ∃ (s : State), s.alive = true ∧ s.boot.step = 1 :=
  ⟨State.reset, by decide⟩

theorem witness_g1_otpSenseComplete : ∃ (s : State), s.alive = true ∧ s.boot.step = 2 :=
  ⟨wStep 2, by decide⟩

theorem witness_g2_rootVertexReconstructed : ∃ (s : State), s.alive = true ∧ s.boot.step = 4 :=
  ⟨wStep 4, by decide⟩

theorem witness_g3_apexImageVerified : ∃ (s : State), s.alive = true ∧ s.boot.step = 5 ∧ s.boot.stopped = false :=
  ⟨wStep 5, by decide⟩

theorem witness_g4_facetImageVerified : ∃ (s : State), s.alive = true ∧ s.boot.step = 6 ∧ s.boot.stopped = false :=
  ⟨wStep 6, by decide⟩

theorem witness_g5_unitSelftestDone : ∃ (s : State) (u : Nat), s.alive = true ∧ s.boot.testing = true ∧ u < 45 ∧ KeyMap.find s.boot.units u = none :=
  ⟨{ wStep 8 with boot := { (wStep 8).boot with testing := true } }, 3, by decide⟩

-- ReleaseCommandsComplete
theorem witness_g0_releaseDelayExpire : ∃ (s : State) (d : Nat), s.alive = true ∧ s.rel.phase = .delay d ∧ s.needsMet (stepNeeds (s.relStep s.rel.step)) = true :=
  ⟨wPhase (.delay 5), 5, by decide⟩

theorem witness_g1_releaseDelayExpire : ∃ (s : State) (d : Nat), s.alive = true ∧ s.rel.phase = .delay d ∧ s.needsMet (stepNeeds (s.relStep s.rel.step)) = false :=
  ⟨wNeedy (.delay 5), 5, by decide⟩

theorem witness_g2_awaitedInputChange : ∃ (s : State) (since : Option Nat) (limit : Nat), s.alive = true ∧ s.rel.phase = .input since limit :=
  ⟨wPhase (.input none 9), none, 9, by decide⟩

theorem witness_g3_awaitedInputChange : ∃ (s : State) (d : Nat), s.alive = true ∧ s.rel.phase = .delay d :=
  ⟨wPhase (.delay 9), 9, by decide⟩

theorem witness_g4_releaseInputStable : ∃ (s : State) (d : Nat) (limit : Nat), s.alive = true ∧ s.rel.phase = .input (some d) limit :=
  ⟨wPhase (.input (some 3) 9), 3, 9, by decide⟩

theorem witness_g5_releaseTimeout : ∃ (s : State) (since : Option Nat) (limit : Nat), s.alive = true ∧ s.rel.phase = .input since limit ∧ since.any (fun d => decide (d ≤ limit)) = false :=
  ⟨wPhase (.input none 9), none, 9, by decide⟩

theorem witness_g6_releaseUnwindStep : ∃ (s : State) (d : Nat) (n : Nat) (rest : List Nat), s.alive = true ∧ s.rel.phase = .unwind d ∧ s.rel.released = n :: rest :=
  ⟨{ wPhase (.unwind 3) with rel := { (wPhase (.unwind 3)).rel with released := [2, 1] } }, 3, 2, [1], by decide⟩

theorem witness_g7_releaseRestart : ∃ (s : State) (d : Nat), s.alive = true ∧ s.rel.phase = .restart d :=
  ⟨wPhase (.restart 5), 5, by decide⟩

-- DoorbellAndLinkCommandsComplete
theorem witness_g0_sqTailDoorbell : ∃ (s : State) (fn : Nat) (ch : Nat) (ring : Nat) (v : Nat), s.alive = true ∧ s.showsPage fn ch = true ∧ ring < 4 ∧ ring < (s.chan ch).binding.rings ∧ (s.sq ch ring).base ≠ 0 ∧ v < 2 ^ (s.sq ch ring).sizeLog2 ∧ (s.sq ch ring).sizeLog2 ≤ 16 ∧ ringDist (2 ^ (s.sq ch ring).sizeLog2) (s.deviceHead ch ring) (s.sq ch ring).tail ≤ ringDist (2 ^ (s.sq ch ring).sizeLog2) (s.deviceHead ch ring) v :=
  ⟨wRing, 0, 3, 0, 2, by decide⟩

theorem witness_g1_sqTailDoorbell : ∃ (s : State) (fn : Nat) (ch : Nat) (ring : Nat) (v : Nat), s.alive = true ∧ s.showsPage fn ch = true ∧ ring < 4 ∧ ((s.chan ch).binding.rings ≤ ring ∨ (s.sq ch ring).base = 0 ∨ 2 ^ (s.sq ch ring).sizeLog2 ≤ v) ∧ v < 65536 :=
  ⟨wRing, 0, 3, 3, 2, by decide⟩

theorem witness_g2_sqTailDoorbell : ∃ (s : State) (fn : Nat) (ch : Nat) (ring : Nat), s.alive = true ∧ (s.showsPage fn ch = false ∨ 4 ≤ ring) :=
  ⟨wServe, 0, 3, 0, by decide⟩

theorem witness_g3_cqHeadDoorbell : ∃ (s : State) (fn : Nat) (ch : Nat) (v : Nat), s.alive = true ∧ s.showsPage fn ch = true ∧ ((s.chan ch).cq.base = 0 ∨ 2 ^ (s.chan ch).cq.sizeLog2 ≤ v % 65536) :=
  ⟨wRing, 0, 3, 0xFFFF, by decide⟩

theorem witness_g4_cqHeadDoorbell : ∃ (s : State) (fn : Nat) (ch : Nat) (v : Nat), s.alive = true ∧ s.showsPage fn ch = true ∧ (s.chan ch).cq.base ≠ 0 ∧ v < 2 ^ (s.chan ch).cq.sizeLog2 ∧ v < 65536 ∧ ringDist (2 ^ (s.chan ch).cq.sizeLog2) (s.chan ch).cq.head v ≤ ringDist (2 ^ (s.chan ch).cq.sizeLog2) (s.chan ch).cq.head (s.chan ch).cq.writeIdx :=
  ⟨wRing, 0, 3, 0, by decide⟩

theorem witness_g5_cqHeadDoorbell : ∃ (s : State) (fn : Nat) (ch : Nat), s.alive = true ∧ s.showsPage fn ch = false :=
  ⟨wServe, 0, 3, by decide⟩

theorem witness_g6_fnTimeLoRead : ∃ (s : State), s.alive = true :=
  ⟨wServe, by decide⟩

theorem witness_g7_busMasterEnableClear : ∃ (s : State), s.alive = true :=
  ⟨wServe, by decide⟩

theorem witness_g8_busMasterEnableSet : ∃ (s : State), s.alive = true :=
  ⟨wServe, by decide⟩

theorem witness_g9_functionLevelReset : ∃ (s : State), s.alive = true :=
  ⟨wServe, by decide⟩

theorem witness_g10_pcieLinkDown : ∃ (s : State), s.alive = false :=
  ⟨wSentinel, by decide⟩

theorem witness_g11_perstRise : ∃ (s : State), s.alive = false :=
  ⟨wSentinel, by decide⟩

theorem witness_g12_pcieLinkDown : ∃ (s : State), s.alive = true :=
  ⟨wServe, by decide⟩

theorem witness_g13_perstRise : ∃ (s : State), s.alive = true :=
  ⟨wServe, by decide⟩

theorem witness_g14_pcieLinkTrained : ∃ (s : State) (d : Nat), s.alive = true ∧ s.pcie.readyAt = some d ∧ s.pcie.perst = true :=
  ⟨wReady, 7, by decide⟩

theorem witness_g15_pcieLinkTrained : ∃ (s : State) (d : Nat) (w : Nat) (v : Nat), s.alive = true ∧ s.pcie.readyAt = some d ∧ s.pcie.perst = true ∧ (w = 2 ∨ w = 4) ∧ (v = 8 ∨ v = 16 ∨ v = 32) :=
  ⟨wReady, 7, 4, 16, by decide⟩

theorem witness_g16_pcieLinkTrained : ∃ (s : State) (d : Nat) (w : Nat) (v : Nat), s.alive = true ∧ s.pcie.readyAt = some d ∧ s.pcie.perst = true ∧ (w = 1 ∧ (v = 2 ∨ v = 5 ∨ v = 8 ∨ v = 16 ∨ v = 32) ∨ (w = 2 ∨ w = 4 ∨ w = 8) ∧ (v = 2 ∨ v = 5)) :=
  ⟨wReady, 7, 8, 5, by decide⟩

theorem witness_g17_pcieLinkTrained : ∃ (s : State) (d : Nat) (v : Nat), s.alive = true ∧ s.pcie.readyAt = some d ∧ s.pcie.perst = true ∧ (v = 8 ∨ v = 16) :=
  ⟨wReady, 7, 16, by decide⟩

-- RingCommandsComplete
theorem witness_g0_descriptorUndefinedOpcode : ∃ (s : State) (d : Bytes), s.alive = true ∧ opDefined (dOpcode d) = false :=
  ⟨wRing, [0xFF#8], by decide⟩

theorem witness_g1_descriptorFetchFailed : ∃ (s : State) (ch : Nat) (ring : Nat), s.alive = true ∧ (s.chan ch).fetching = some ring ∧ (s.chan ch).stale = true :=
  ⟨wStale, 3, 0, by decide⟩

theorem witness_g2_descriptorFetchFailed : ∃ (s : State) (ch : Nat) (ring : Nat), s.alive = true ∧ (s.chan ch).fetching = some ring ∧ (s.chan ch).stale = false :=
  ⟨wRing, 3, 0, by decide⟩

theorem witness_g3_keyBlobHeaderRead : ∃ (s : State) (ch : Nat) (tag : Nat) (n : Nat) (k : Nat) (z : Option Bytes), s.alive = true ∧ KeyMap.find s.keys.loads (cacheKey ch tag) = some ⟨none, n, k, z⟩ :=
  ⟨wLoad none, 3, 7, 1, 1, none, by decide⟩

theorem witness_g4_keyBlobHeaderRead : ∃ (s : State) (ch : Nat) (tag : Nat) (n : Nat) (k : Nat) (z : Option Bytes), s.alive = true ∧ KeyMap.find s.keys.loads (cacheKey ch tag) = some ⟨none, n, k, z⟩ ∧ s.reaches ch = true :=
  ⟨wLoad none, 3, 7, 1, 1, none, by decide⟩

theorem witness_g5_keyBlobLoaded : ∃ (s : State) (ch : Nat) (tag : Nat) (n : Nat) (k : Nat) (h : Bytes), s.alive = true ∧ KeyMap.find s.keys.loads (cacheKey ch tag) = some ⟨some h, n, k, none⟩ :=
  ⟨wLoad (some []), 3, 7, 1, 1, [], by decide⟩

theorem witness_g6_keyBlobLoaded : ∃ (s : State) (ch : Nat) (tag : Nat) (n : Nat) (k : Nat) (h : Bytes), s.alive = true ∧ KeyMap.find s.keys.loads (cacheKey ch tag) = some ⟨some h, n, k, none⟩ :=
  ⟨wLoad (some []), 3, 7, 1, 1, [], by decide⟩

theorem witness_g7_keyBlobLoaded : ∃ (s : State) (ch : Nat) (tag : Nat) (n : Nat) (k : Nat) (h : Bytes) (x : Bytes), s.alive = true ∧ KeyMap.find s.keys.loads (cacheKey ch tag) = some ⟨some h, n, k, some x⟩ :=
  ⟨wHeldBlob, 3, 7, 1, 1, [], [], by decide⟩

theorem witness_g8_keyCheckInstant : ∃ (s : State) (ch : Nat) (x : Item), s.alive = true ∧ nextCheck (s.chan ch) = some x :=
  ⟨wAdmitted, 3, wItem, by decide⟩

theorem witness_g9_anchor : ∃ (s : State) (ch : Nat), s.alive = true ∧ s.serviceSet ch ≠ [] ∧ ch ≠ 0 :=
  ⟨wPool, 3, by decide⟩

theorem witness_g10_itemRelease : ∃ (s : State) (ch : Nat) (x : Item), s.alive = true ∧ nextRelease (s.chan ch) = some x :=
  ⟨wAdmitted, 3, wItem, by decide⟩

theorem witness_g11_completionWriteFailed : ∃ (s : State) (ch : Nat) (x : Item), s.alive = true ∧ nextRelease (s.chan ch) = some x :=
  ⟨wAdmitted, 3, wItem, by decide⟩

theorem witness_g12_outputWriteFailed : ∃ (s : State) (ch : Nat) (n : Nat) (x : Item) (r : Result), s.alive = true ∧ nextRelease (s.chan ch) = some x ∧ x.result = some r ∧ x.sent ≤ n ∧ n < r.out.length :=
  ⟨wDone, 3, 0, wDoneItem, wResult, by decide⟩

theorem witness_g13_cqModTimerExpire : ∃ (s : State) (ch : Nat) (d : Nat), s.alive = true ∧ (s.chan ch).cq.timer = some d :=
  ⟨wRing, 3, 1, by decide⟩

-- WheelCommandsComplete
theorem witness_g0_sectorStart : ∃ (s : State) (n : Nat), s.alive = true ∧ n = max s.wheel.sector (ceilDiv s.now sectorNs) ∧ ((quiet s).advance (n * sectorNs)).sectorFree n = true :=
  ⟨wServe, 1, by decide⟩

theorem witness_g1_sectorStart : ∃ (s : State) (n : Nat) (m : Nat), s.alive = true ∧ n = max s.wheel.sector (ceilDiv s.now sectorNs) ∧ ((quiet s).advance (n * sectorNs)).sectorFree n = false ∧ s.sectorMember (n % revSectors) = m ∧ m ≠ 0 :=
  ⟨wOwner, 1, 3, by decide⟩

theorem witness_g2_sectorStart : ∃ (s : State) (n : Nat), s.alive = true ∧ n = max s.wheel.sector (ceilDiv s.now sectorNs) ∧ ((quiet s).advance (n * sectorNs)).sectorFree n = false ∧ s.sectorMember (n % revSectors) = 0 :=
  ⟨wZeroWork, 1, by decide⟩

theorem witness_g3_recoverDrainEnd : ∃ (s : State) (d : Nat), s.alive = true ∧ s.recov.drain = some d ∧ (s.bound.all fun ch => (s.chan ch).admitted.isEmpty) = true :=
  ⟨{ wServe with recov := ⟨some 9, 0, 1⟩ }, 9, by decide⟩

theorem witness_g4_recoverDrainEnd : ∃ (s : State) (d : Nat), s.alive = true ∧ s.recov.drain = some d ∧ (s.bound.all fun ch => (s.chan ch).admitted.isEmpty) = false :=
  ⟨{ wAdmitted with recov := ⟨some 9, 0, 1⟩ }, 9, by decide⟩

theorem witness_g5_recoverDrainEnd : ∃ (s : State), s.alive = true ∧ s.recov.drain = none :=
  ⟨wServe, by decide⟩

theorem witness_g6_revolutionBoundary : ∃ (s : State) (r : Nat), s.alive = true ∧ r = max s.wheel.revolution (ceilDiv s.now revNs) :=
  ⟨wServe, 1, by decide⟩

-- TransportCommandsComplete
theorem witness_g0_mbResponseReady : ∃ (s : State) (p : Port) (r : Reply) (rest : List Reply), s.alive = true ∧ (s.mbox p).rspValid = false ∧ (s.mbox p).formed = r :: rest :=
  ⟨wFormed, .mb0, wReply, [], by decide⟩

theorem witness_g1_mbRspAck : ∃ (s : State) (p : Port), s.alive = true ∧ (s.mbox p).rspValid = true ∧ s.granted p = true ∧ (s.mbox p).sending = none :=
  ⟨wSent, .mb0, by decide⟩

theorem witness_g2_mbRspAck : ∃ (s : State) (p : Port) (r : Reply), s.alive = true ∧ (s.mbox p).rspValid = true ∧ s.granted p = true ∧ (s.mbox p).sending = some r ∧ r.payload ≠ [] :=
  ⟨wMore, .mb0, wReply, by decide⟩

theorem witness_g3_mbGrantRequest : ∃ (s : State) (fn : Nat), s.alive = true ∧ 1 ≤ fn ∧ fn ≤ 127 ∧ s.orfer.mb3.holder = none ∧ s.orfer.mb3.queue = [] :=
  ⟨wServe, 5, by decide⟩

theorem witness_g4_mbGrantRequest : ∃ (s : State) (fn : Nat) (h : Nat), s.alive = true ∧ 1 ≤ fn ∧ fn ≤ 127 ∧ s.orfer.mb3.holder = some h ∧ h ≠ fn ∧ fn ∉ s.orfer.mb3.queue :=
  ⟨wGranted, 5, 7, by decide⟩

theorem witness_g5_mbGrantRelease : ∃ (s : State) (fn : Nat), s.alive = true ∧ s.orfer.mb3.holder = some fn :=
  ⟨wGranted, 7, by decide⟩

theorem witness_g6_grantDoorbellTimeout : ∃ (s : State) (d : Nat), s.alive = true ∧ s.orfer.mb3.grantLimit = some d :=
  ⟨wGranted, 9, by decide⟩

theorem witness_g7_fragmentAckTimeout : ∃ (s : State) (d : Nat), s.alive = true ∧ s.orfer.mb3.fragLimit = some d :=
  ⟨{ wGranted with orfer := { wGranted.orfer with mb3 := { wGranted.orfer.mb3 with fragLimit := some 9 } } }, 9, by decide⟩

theorem witness_g8_mbDoorbell : ∃ (s : State) (p : Port) (len : Nat), s.alive = true ∧ p ≠ .mb1 ∧ s.granted p = true ∧ s.portServed p = true ∧ (s.mbox p).busy = false ∧ (s.mbox p).rspValid = false ∧ 32 ≤ len ∧ len ≤ 4096 :=
  ⟨wServe, .mb0, 32, by decide⟩

theorem witness_g9_mbDoorbell : ∃ (s : State), s.alive = true ∧ (s.orfer.mb0.busy = true ∨ s.orfer.mb0.rspValid = true) :=
  ⟨wSent, by decide⟩

theorem witness_g10_mbDoorbell : ∃ (s : State) (len : Nat), s.alive = true ∧ s.boot.facet = true ∧ s.orfer.mb0.busy = false ∧ s.orfer.mb0.rspValid = false ∧ (len < 32 ∨ 4096 < len) :=
  ⟨wServe, 31, by decide⟩

theorem witness_g11_mbDoorbell : ∃ (s : State) (p : Port), s.alive = true ∧ p ≠ .mb1 ∧ (s.granted p = false ∨ s.portServed p = false ∨ (s.mbox p).busy = true ∨ (s.mbox p).rspValid = true) :=
  ⟨wServe, .mb3 7, by decide⟩

theorem witness_g12_mbDoorbell : ∃ (s : State) (p : Port) (len : Nat), s.alive = true ∧ p ≠ .mb1 ∧ s.granted p = true ∧ s.portServed p = true ∧ (s.mbox p).busy = false ∧ (s.mbox p).rspValid = false ∧ (len < 32 ∨ 4096 < len) :=
  ⟨wGranted, .mb3 7, 4097, by decide⟩

theorem witness_g13_mb1MctpMessage : ∃ (s : State) (msg : Bytes), s.alive = true ∧ byteAt msg 0 = 0x7F ∧ 37 ≤ msg.length ∧ msg.length ≤ 4101 ∧ s.portServed .mb1 = true :=
  ⟨wServe, 0x7F#8 :: zeros 44, by decide⟩

theorem witness_g14_mb2Read : ∃ (s : State), s.alive = true ∧ s.busA.frame = none ∧ s.portServed .mb2 = true :=
  ⟨wServe, by decide⟩

theorem witness_g15_mb2Write : ∃ (s : State) (off : Nat) (data : Bytes), s.alive = true ∧ s.busA.frame = none ∧ s.portServed .mb2 = true ∧ off % 4 = 0 ∧ data.length = 4 :=
  ⟨wServe, 0x1000, [1#8, 2#8, 3#8, 4#8], by decide⟩

theorem witness_g16_i3cPrivateWrite : ∃ (s : State), s.alive = true :=
  ⟨wServe, by decide⟩

theorem witness_g17_i3cPrivateWrite : ∃ (s : State) (a : Byte), s.alive = true ∧ a.toNat ≠ 0x1E :=
  ⟨wServe, 4#8, by decide⟩

theorem witness_g18_i3cPrivateRead : ∃ (s : State), s.alive = true :=
  ⟨wServe, by decide⟩

-- SessionCommandsComplete
theorem witness_g0_sessionOpen : ∃ (s : State) (p : Port) (q : Request) (n : Nat) (v : Nat × Nat), Asked s p 0x0101 q ∧ byteAt q.payload 0 = n ∧ 1 ≤ n ∧ n ≤ 8 ∧ q.payload.length = 3 + 2 * n ∧ bestVersion (blocks 2 (slice 1 (2 * n) q.payload)) = some v ∧ s.sessionRoom p = true :=
  ⟨wAsk wServe (rq 0x0101 0 0 [1#8, 1#8, 4#8, 9#8, 0#8]), .mb0, (rq 0x0101 0 0 [1#8, 1#8, 4#8, 9#8, 0#8]), 1, (1, 4), by decide⟩

theorem witness_g1_sessionClose : ∃ (s : State) (p : Port) (q : Request), Asked s p 0x0102 q :=
  ⟨wAsk wServe (rq 0x0102 1 0 []), .mb0, (rq 0x0102 1 0 []), by decide⟩

theorem witness_g2_identityQuery : ∃ (s : State) (p : Port) (q : Request), Asked s p 0x0103 q :=
  ⟨wAsk wServe (rq 0x0103 1 0 []), .mb0, (rq 0x0103 1 0 []), by decide⟩

theorem witness_g3_stateQuery : ∃ (s : State) (p : Port) (q : Request), Asked s p 0x0104 q :=
  ⟨wAsk wServe (rq 0x0104 1 0 []), .mb0, (rq 0x0104 1 0 []), by decide⟩

theorem witness_g4_noticeFetch : ∃ (s : State) (p : Port) (q : Request) (x : Session), Asked s p 0x0105 q ∧ q.payload.length = 2 ∧ s.session q.session = some x :=
  ⟨wAsk wServe (rq 0x0105 1 0 [1#8, 0#8]), .mb0, (rq 0x0105 1 0 [1#8, 0#8]), wSession, by decide +kernel⟩

theorem witness_g5_sessionTimeout : ∃ (s : State) (i : Nat) (x : Session), s.alive = true ∧ s.session i = some x :=
  ⟨wServe, 1, wSession, by decide +kernel⟩

-- ConfigurationCommandsComplete
theorem witness_g0_cfgBegin : ∃ (s : State) (p : Port) (q : Request), Asked s p 0x0201 q ∧ (s.realm q.realm).txn = none :=
  ⟨wAsk wServe (rq 0x0201 1 0 []), .mb0, (rq 0x0201 1 0 []), by decide⟩

theorem witness_g1_cfgBegin : ∃ (s : State) (p : Port) (q : Request), Asked s p 0x0201 q ∧ (s.realm q.realm).txn.isSome = true ∧ q.payload = [] :=
  ⟨wAsk wTxn (rq 0x0201 1 0 []), .mb0, (rq 0x0201 1 0 []), by decide⟩

theorem witness_g2_cfgSet : ∃ (s : State) (p : Port) (q : Request) (e : Nat × Nat × Bytes × Bool), Asked s p 0x0202 q ∧ 4 ≤ q.payload.length ∧ field q.payload 0 4 = 0 ∧ parseEntries q.payload.length (q.payload.drop 4) = some [e] ∧ e.2.2.2 = true ∧ fieldSettable e.1 e.2.1 = true ∧ fieldRealm e.1 e.2.1 = q.realm ∧ fieldGrouped e.1 = false ∧ fieldClass e.1 = 0 ∧ s.firstBad [(cfgKey e.1 e.2.1, e.2.2.1)] = none :=
  ⟨wAsk wServe (rq 0x0202 1 1 (zeros 4 ++ leBytes 4 F_CQ_MOD_COUNT ++ [12#8, 0#8, 1#8, 0#8, 5#8, 0#8, 0#8, 0#8])), .mb0, (rq 0x0202 1 1 (zeros 4 ++ leBytes 4 F_CQ_MOD_COUNT ++ [12#8, 0#8, 1#8, 0#8, 5#8, 0#8, 0#8, 0#8])), (F_CQ_MOD_COUNT, 12, [5#8], true), by decide +kernel⟩

theorem witness_g3_cfgSet : ∃ (s : State) (p : Port) (q : Request) (x : Txn) (e : Nat × Nat × Bytes × Bool), Asked s p 0x0202 q ∧ 4 ≤ q.payload.length ∧ field q.payload 0 4 ≠ 0 ∧ s.txnFor q (field q.payload 0 4) = .inr x ∧ x.state = .opened ∧ parseEntries q.payload.length (q.payload.drop 4) = some [e] ∧ e.2.2.2 = true ∧ fieldSettable e.1 e.2.1 = true ∧ fieldRealm e.1 e.2.1 = q.realm ∧ x.entries.length < 512 ∧ (KeyMap.put x.entries (cfgKey e.1 e.2.1) e.2.2.1).length ≤ 512 ∧ ((KeyMap.put x.entries (cfgKey e.1 e.2.1) e.2.2.1).foldl (fun acc y => acc + y.2.length) 0) ≤ 65536 :=
  ⟨wAsk wTxn (rq 0x0202 1 0 ([1#8, 0#8, 0#8, 0#8] ++ leBytes 4 F_REL_COUNT ++ [0#8, 0#8, 1#8, 0#8, 1#8, 0#8, 0#8, 0#8])), .mb0, (rq 0x0202 1 0 ([1#8, 0#8, 0#8, 0#8] ++ leBytes 4 F_REL_COUNT ++ [0#8, 0#8, 1#8, 0#8, 1#8, 0#8, 0#8, 0#8])), wTxnRec, (F_REL_COUNT, 0, [1#8], true), by decide +kernel⟩

theorem witness_g4_cfgGet : ∃ (s : State) (p : Port) (q : Request), Asked s p 0x0203 q ∧ q.payload.length = 7 ∧ byteAt q.payload 6 = 0 ∧ fieldExists (field q.payload 0 4) (field q.payload 4 2) = true ∧ (q.realm = 0 ∨ fieldRealm (field q.payload 0 4) (field q.payload 4 2) = q.realm) :=
  ⟨wAsk wServe (rq 0x0203 1 0 (leBytes 4 F_GPIO_CFG ++ zeros 3)), .mb0, (rq 0x0203 1 0 (leBytes 4 F_GPIO_CFG ++ zeros 3)), by decide⟩

theorem witness_g5_cfgGet : ∃ (s : State) (p : Port) (q : Request), Asked s p 0x0203 q ∧ q.payload.length = 7 ∧ byteAt q.payload 6 = 1 ∧ fieldExists (field q.payload 0 4) (field q.payload 4 2) = true ∧ fieldRealm (field q.payload 0 4) (field q.payload 4 2) = q.realm ∧ readOnlyField (field q.payload 0 4) = false :=
  ⟨wAsk wTxnB (rq 0x0203 1 0 (leBytes 4 F_REL_COUNT ++ [0#8, 0#8, 1#8])), .mb0, (rq 0x0203 1 0 (leBytes 4 F_REL_COUNT ++ [0#8, 0#8, 1#8])), by decide⟩

theorem witness_g6_cfgGet : ∃ (s : State) (p : Port) (q : Request), Asked s p 0x0203 q ∧ q.payload.length = 7 ∧ byteAt q.payload 6 ≤ 1 ∧ fieldExists (field q.payload 0 4) (field q.payload 4 2) = true ∧ fieldRealm (field q.payload 0 4) (field q.payload 4 2) ≠ q.realm ∧ (q.realm = 0 ∨ (tenantReadable (field q.payload 0 4) = true ∧ field q.payload 4 2 = q.realm)) :=
  ⟨wAsk wServe (rq 0x0203 1 0 (leBytes 4 F_CQ_MOD_COUNT ++ [12#8, 0#8, 0#8])), .mb0, (rq 0x0203 1 0 (leBytes 4 F_CQ_MOD_COUNT ++ [12#8, 0#8, 0#8])), by decide⟩

theorem witness_g7_cfgGet : ∃ (s : State) (p : Port) (q : Request), Asked s p 0x0203 q ∧ q.payload.length = 7 ∧ byteAt q.payload 6 ≤ 1 ∧ fieldExists (field q.payload 0 4) (field q.payload 4 2) = true ∧ fieldRealm (field q.payload 0 4) (field q.payload 4 2) ≠ q.realm ∧ q.realm ≠ 0 ∧ (tenantReadable (field q.payload 0 4) = false ∨ field q.payload 4 2 ≠ q.realm) :=
  ⟨wAsk wServe (rq 0x0203 1 1 (leBytes 4 F_REL_COUNT ++ zeros 3)), .mb0, (rq 0x0203 1 1 (leBytes 4 F_REL_COUNT ++ zeros 3)), by decide⟩

theorem witness_g8_cfgCommit : ∃ (s : State) (p : Port) (q : Request) (x : Txn), Asked s p 0x0204 q ∧ q.payload.length = 4 ∧ s.txnFor q (leNat q.payload) = .inr x ∧ (x.state = .opened ∨ x.state = .validated) ∧ (x.timer.any fun d => decide (d ≤ s.now)) = false ∧ s.firstBad x.entries = none ∧ commitClass x.entries = 0 :=
  ⟨wAsk wTxn (rq 0x0204 1 0 [1#8, 0#8, 0#8, 0#8]), .mb0, (rq 0x0204 1 0 [1#8, 0#8, 0#8, 0#8]), wTxnRec, by decide +kernel⟩

theorem witness_g9_cfgCommit : ∃ (s : State) (p : Port) (q : Request) (x : Txn), Asked s p 0x0204 q ∧ q.payload.length = 4 ∧ s.txnFor q (leNat q.payload) = .inr x ∧ (x.state = .opened ∨ x.state = .validated) ∧ (x.timer.any fun d => decide (d ≤ s.now)) = false ∧ s.firstBad x.entries = none ∧ commitClass x.entries ≠ 0 :=
  ⟨wAsk wTxnB (rq 0x0204 1 0 [1#8, 0#8, 0#8, 0#8]), .mb0, (rq 0x0204 1 0 [1#8, 0#8, 0#8, 0#8]), wTxnRecB, by decide +kernel⟩

theorem witness_g10_cfgRollback : ∃ (s : State) (p : Port) (q : Request) (x : Txn), Asked s p 0x0205 q ∧ q.payload.length = 4 ∧ s.txnFor q (leNat q.payload) = .inr x ∧ s.waitsBoundary q.realm = false :=
  ⟨wAsk wTxn (rq 0x0205 1 0 [1#8, 0#8, 0#8, 0#8]), .mb0, (rq 0x0205 1 0 [1#8, 0#8, 0#8, 0#8]), wTxnRec, by decide⟩

theorem witness_g11_cfgStatus : ∃ (s : State) (p : Port) (q : Request), Asked s p 0x0206 q ∧ (s.realm q.realm).txn = none :=
  ⟨wAsk wServe (rq 0x0206 1 0 []), .mb0, (rq 0x0206 1 0 []), by decide⟩

theorem witness_g12_cfgStatus : ∃ (s : State) (p : Port) (q : Request) (x : Txn), Asked s p 0x0206 q ∧ (s.realm q.realm).txn = some x ∧ q.payload = [] :=
  ⟨wAsk wTxn (rq 0x0206 1 0 []), .mb0, (rq 0x0206 1 0 []), wTxnRec, by decide⟩

theorem witness_g13_txnTimeout : ∃ (s : State) (r : Nat) (d : Nat) (x : Txn), s.alive = true ∧ (s.realm r).txn = some x ∧ x.timer = some d :=
  ⟨wTxn, 0, 99, wTxnRec, by decide⟩

-- ActCommandsComplete
theorem witness_g0_adminOpen : ∃ (s : State) (p : Port) (q : Request), Asked s p 0x0301 q ∧ q.payload.length = 32 ∧ (s.realm q.realm).admin = none :=
  ⟨wAsk wServe (rq 0x0301 1 0 (zeros 32)), .mb0, (rq 0x0301 1 0 (zeros 32)), by decide⟩

theorem witness_g1_adminOpen : ∃ (s : State) (p : Port) (q : Request), Asked s p 0x0301 q ∧ q.payload.length = 32 ∧ (s.realm q.realm).admin = none ∧ s.pendingAct q.realm = none :=
  ⟨wAsk wServe (rq 0x0301 1 0 (zeros 32)), .mb0, (rq 0x0301 1 0 (zeros 32)), by decide⟩

theorem witness_g2_adminOpen : ∃ (s : State) (p : Port) (q : Request), Asked s p 0x0301 q ∧ q.payload.length = 32 ∧ (s.realm q.realm).admin.isSome = true :=
  ⟨wAsk wAdmin (rq 0x0301 1 0 (zeros 32)), .mb0, (rq 0x0301 1 0 (zeros 32)), by decide⟩

theorem witness_g3_adminClose : ∃ (s : State) (p : Port) (q : Request) (a : Admin), Asked s p 0x0302 q ∧ (s.realm q.realm).admin = some a ∧ q.payload = [] :=
  ⟨wAsk wAdmin (rq 0x0302 1 0 []), .mb0, (rq 0x0302 1 0 []), wAdminRec, by decide⟩

theorem witness_g4_officerSign : ∃ (s : State) (p : Port) (q : Request) (a : Act), Asked s p 0x0303 q ∧ 5 ≤ q.payload.length ∧ s.act q.realm (field q.payload 0 4) = some a ∧ a.state = .awaiting :=
  ⟨wAsk wAct (rq 0x0303 1 0 (leBytes 4 1 ++ [3#8])), .mb0, (rq 0x0303 1 0 (leBytes 4 1 ++ [3#8])), wActRec, by decide⟩

theorem witness_g5_actStatus : ∃ (s : State) (p : Port) (q : Request) (a : Act), Asked s p 0x0304 q ∧ q.payload.length = 4 ∧ s.act q.realm (leNat q.payload) = some a ∧ a.state = .awaiting :=
  ⟨wAsk wAct (rq 0x0304 1 0 (leBytes 4 1)), .mb0, (rq 0x0304 1 0 (leBytes 4 1)), wActRec, by decide⟩

theorem witness_g6_actStatus : ∃ (s : State) (p : Port) (q : Request) (a : Act), Asked s p 0x0304 q ∧ q.payload.length = 4 ∧ s.act q.realm (leNat q.payload) = some a ∧ a.state = .assembled :=
  ⟨wAsk (wActIn .assembled) (rq 0x0304 1 0 (leBytes 4 1)), .mb0, (rq 0x0304 1 0 (leBytes 4 1)), { wActRec with state := .assembled }, by decide⟩

theorem witness_g7_actStatus : ∃ (s : State) (p : Port) (q : Request) (a : Act), Asked s p 0x0304 q ∧ q.payload.length = 4 ∧ s.act q.realm (leNat q.payload) = some a ∧ (a.state = .done ∨ a.state = .cancelled) :=
  ⟨wAsk (wActIn .done) (rq 0x0304 1 0 (leBytes 4 1)), .mb0, (rq 0x0304 1 0 (leBytes 4 1)), { wActRec with state := .done }, by decide⟩

theorem witness_g8_actStatus : ∃ (s : State) (p : Port) (q : Request), Asked s p 0x0304 q ∧ q.payload.length = 4 ∧ s.act q.realm (leNat q.payload) = none :=
  ⟨wAsk wServe (rq 0x0304 1 0 (leBytes 4 1)), .mb0, (rq 0x0304 1 0 (leBytes 4 1)), by decide⟩

theorem witness_g9_actCancel : ∃ (s : State) (p : Port) (q : Request) (a : Act), Asked s p 0x0305 q ∧ q.payload.length = 4 ∧ s.act q.realm (leNat q.payload) = some a ∧ a.state = .awaiting :=
  ⟨wAsk wAct (rq 0x0305 1 0 (leBytes 4 1)), .mb0, (rq 0x0305 1 0 (leBytes 4 1)), wActRec, by decide⟩

theorem witness_g10_officerEnrol : ∃ (s : State) (p : Port) (q : Request) (m : KeyMap Officer), Asked s p 0x0306 q ∧ parseOfficers 12 q.payload = some m ∧ m ≠ [] ∧ (s.realm q.realm).roster = [] ∧ officersOk m = true :=
  ⟨wAsk wServe (rq 0x0306 1 3 ([0#8, 1#8, 2#8] ++ zeros 32)), .mb0, (rq 0x0306 1 3 ([0#8, 1#8, 2#8] ++ zeros 32)), [(0, ⟨1, 2, zeros 32⟩)], by decide⟩

theorem witness_g11_officerRemove : ∃ (s : State) (p : Port) (q : Request), Asked s p 0x0307 q ∧ q.payload.length = 1 ∧ (KeyMap.find (s.realm q.realm).roster (byteAt q.payload 0)).isSome = true ∧ (∀ k ∈ [0x0A, 0x0B, 0x0C], s.quorum q.realm k ≤ ({ s.realm q.realm with roster := KeyMap.del (s.realm q.realm).roster (byteAt q.payload 0) } : Realm).count k) :=
  ⟨wAsk wRoster (rq 0x0307 1 0 [0#8]), .mb0, (rq 0x0307 1 0 [0#8]), by decide⟩

theorem witness_g12_officerList : ∃ (s : State) (p : Port) (q : Request), Asked s p 0x0308 q :=
  ⟨wAsk wServe (rq 0x0308 1 0 []), .mb0, (rq 0x0308 1 0 []), by decide⟩

theorem witness_g13_quorumTimeout : ∃ (s : State) (r : Nat) (a : Act), s.alive = true ∧ s.pendingAct r = some a ∧ a.state = .awaiting :=
  ⟨wAct, 0, wActRec, by decide⟩

theorem witness_g14_adminSessionTimeout : ∃ (s : State) (r : Nat) (a : Admin), s.alive = true ∧ (s.realm r).admin = some a :=
  ⟨wAdmin, 0, wAdminRec, by decide⟩

theorem witness_g15_actOutputExpire : ∃ (s : State) (r : Nat) (o : Nat × Bytes × Nat), s.alive = true ∧ KeyMap.find s.ident.outputs r = some o :=
  ⟨wOutput, 0, (1, [5#8], 9), by decide⟩

theorem witness_g16_apexSignatureComplete : ∃ (s : State) (j : SigJob) (q : Request) (rest : List SigJob), s.alive = true ∧ s.ident.signing = j :: rest ∧ j.request = some q :=
  ⟨wSigning, wJob, rq 0x0317 1 0 [], [], by decide⟩

-- VaultCommandsComplete
theorem witness_g0_vaultStatus : ∃ (s : State) (p : Port) (q : Request), Asked s p 0x0310 q ∧ q.payload.length = 1 ∧ (q.realm = 0 ∨ q.realm = byteAt q.payload 0) :=
  ⟨wAsk wServe (rq 0x0310 1 0 [0#8]), .mb0, (rq 0x0310 1 0 [0#8]), by decide⟩

theorem witness_g1_keyTransportOpen : ∃ (s : State) (p : Port) (q : Request), Asked s p 0x0311 q ∧ (s.realm q.realm).admin.isSome = true :=
  ⟨wAsk wAdmin (rq 0x0311 1 0 []), .mb0, (rq 0x0311 1 0 []), by decide⟩

theorem witness_g2_keyTransportOpen : ∃ (s : State) (p : Port) (q : Request), Asked s p 0x0311 q ∧ (s.realm q.realm).admin = none ∧ q.payload = [] :=
  ⟨wAsk wServe (rq 0x0311 1 0 []), .mb0, (rq 0x0311 1 0 []), by decide⟩

theorem witness_g3_rootStage : ∃ (s : State) (p : Port) (q : Request), Asked s p 0x0312 q ∧ q.payload.length = 18 + 1144 * byteAt q.payload 3 ∧ rootRealmOk q.realm (byteAt q.payload 0) 0x0312 = true ∧ byteAt q.payload 1 ≤ 3 ∧ slotAlgOk (byteAt q.payload 0) (byteAt q.payload 1) (field q.payload 4 2) = true ∧ ((byteAt q.payload 2 = 1 ∧ byteAt q.payload 3 = 0 ∧ allZero (slice 10 8 q.payload) = true) ∨ (byteAt q.payload 2 = 2 ∧ (byteAt q.payload 3 = 2 ∨ byteAt q.payload 3 = 3))) ∧ s.stageCheck q.payload = ST_OK :=
  ⟨wAsk wAdmin (rq 0x0312 1 0 wStagePayload), .mb0, (rq 0x0312 1 0 wStagePayload), by decide⟩

theorem witness_g4_rootSwap : ∃ (s : State) (p : Port) (q : Request), Asked s p 0x0313 q ∧ q.payload.length = 2 ∧ rootRealmOk q.realm (byteAt q.payload 0) q.opcode = true ∧ byteAt q.payload 1 ≤ 3 ∧ s.rootCheck q.opcode (byteAt q.payload 0) (byteAt q.payload 1) = ST_OK :=
  ⟨wAsk wVaultSwap (rq 0x0313 1 0 [0#8, 0#8]), .mb0, (rq 0x0313 1 0 [0#8, 0#8]), by decide⟩

theorem witness_g5_rootUnstage : ∃ (s : State) (p : Port) (q : Request), Asked s p 0x0314 q ∧ q.payload.length = 2 ∧ rootRealmOk q.realm (byteAt q.payload 0) q.opcode = true ∧ byteAt q.payload 1 ≤ 3 ∧ s.rootCheck q.opcode (byteAt q.payload 0) (byteAt q.payload 1) = ST_OK :=
  ⟨wAsk wVaultUnstage (rq 0x0314 1 0 [0#8, 0#8]), .mb0, (rq 0x0314 1 0 [0#8, 0#8]), by decide⟩

theorem witness_g6_rootInvalidate : ∃ (s : State) (p : Port) (q : Request), Asked s p 0x0315 q ∧ q.payload.length = 2 ∧ rootRealmOk q.realm (byteAt q.payload 0) q.opcode = true ∧ byteAt q.payload 1 ≤ 3 ∧ s.rootCheck q.opcode (byteAt q.payload 0) (byteAt q.payload 1) = ST_OK :=
  ⟨wAsk wVaultInvalidate (rq 0x0315 1 0 [0#8, 0#8]), .mb0, (rq 0x0315 1 0 [0#8, 0#8]), by decide⟩

theorem witness_g7_rootErase : ∃ (s : State) (p : Port) (q : Request), Asked s p 0x0316 q ∧ q.payload.length = 2 ∧ rootRealmOk q.realm (byteAt q.payload 0) q.opcode = true ∧ byteAt q.payload 1 ≤ 3 ∧ s.rootCheck q.opcode (byteAt q.payload 0) (byteAt q.payload 1) = ST_OK :=
  ⟨wAsk wVaultErase (rq 0x0316 1 0 [0#8, 0#8]), .mb0, (rq 0x0316 1 0 [0#8, 0#8]), by decide⟩

theorem witness_g8_keyAttest : ∃ (s : State) (p : Port) (q : Request), Asked s p 0x0317 q ∧ 64 ≤ q.payload.length ∧ stageB (fit 48 (q.payload.take (q.payload.length - 16))) = true ∧ (headerView (fit 48 (q.payload.take (q.payload.length - 16)))).totalLen = (q.payload.take (q.payload.length - 16)).length :=
  ⟨wAsk wServe (rq 0x0317 1 0 wAttestPayload), .mb0, (rq 0x0317 1 0 wAttestPayload), by decide +kernel⟩

theorem witness_g9_cacheFlush : ∃ (s : State) (p : Port) (q : Request), Asked s p 0x0318 q ∧ q.payload.length = 1 ∧ (q.realm = 0 ∨ q.realm = byteAt q.payload 0) :=
  ⟨wAsk wServe (rq 0x0318 1 0 [3#8]), .mb0, (rq 0x0318 1 0 [3#8]), by decide⟩

theorem witness_g10_keyGenerateRsa : ∃ (s : State) (p : Port) (q : Request), Asked s p 0x0319 q ∧ q.payload.length = 58 ∧ mailboxParams q.realm (q.payload.drop 2) = ST_OK ∧ cAlg (q.payload.drop 2) = 0x111 ∧ cBits (q.payload.drop 2) = field q.payload 0 2 ∧ (materialLen 2 0x111 (field q.payload 0 2)).isSome = true :=
  ⟨wAsk wServe (rq 0x0319 1 3 wRsaPayload), .mb0, (rq 0x0319 1 3 wRsaPayload), by decide⟩

theorem witness_g11_peerKeyLoad : ∃ (s : State) (p : Port) (q : Request), Asked s p 0x031A q ∧ 56 < q.payload.length ∧ mailboxParams q.realm (q.payload.drop (q.payload.length - 56)) = ST_OK ∧ cSlot (q.payload.drop (q.payload.length - 56)) = 3 :=
  ⟨wAsk wServe (rq 0x031A 1 3 wPeerPayload), .mb0, (rq 0x031A 1 3 wPeerPayload), by decide⟩

theorem witness_g12_registerWrite : ∃ (s : State) (a : Nat) (d : Bytes), s.alive = true ∧ a % 4 = 0 ∧ d.length = 4 :=
  ⟨wServe, 0, zeros 4, by decide⟩

theorem witness_g13_registerWrite : ∃ (s : State) (a : Nat) (d : Bytes), s.alive = true ∧ (a % 4 ≠ 0 ∨ d.length < 4) ∧ d.length = 1 :=
  ⟨wServe, 0x1001, zeros 1, by decide⟩

-- FlashReadFramesComplete
theorem witness_g0_hostCsFall : ∃ (s : State) (b : Nat) (cs : Nat), s.alive = true ∧ b < 2 ∧ cs < 2 ∧ (s.bus b).frame = none :=
  ⟨wServe, 0, 0, by decide⟩

theorem witness_g1_hostCsFall : ∃ (s : State) (b : Nat) (cs : Nat), s.alive = true ∧ (2 ≤ b ∨ 2 ≤ cs ∨ (s.bus b).frame.isSome = true) :=
  ⟨wBus (wFrameOf 0x9F 0x20) true, 0, 0, by decide⟩

theorem witness_g2_spiRead : ∃ (s : State) (b : Nat) (op : Nat) (f : HostFrame) (x : Frame) (k : Nat), Framed s b x ∧ x.opClass b op = 0x10 ∧ x.opPermits b op s.modeSet = true ∧ x.wip = false ∧ s.addrLen x b (x.opClass b op) ≤ f.sent.length ∧ (s.bus b).readCommand x.cs (x.opClass b op % 8) = some k :=
  ⟨wBus (wFrameOf 0x03 0x10) true, 0, 0x03, ⟨[0#8, 1#8, 2#8, 3#8], true, [7#8]⟩, (wFrameOf 0x03 0x10), 0x13, by decide⟩

theorem witness_g3_spiRead4byte : ∃ (s : State) (b : Nat) (op : Nat) (f : HostFrame) (x : Frame) (k : Nat), Framed s b x ∧ x.opClass b op = 0x18 ∧ x.opPermits b op s.modeSet = true ∧ x.wip = false ∧ s.addrLen x b (x.opClass b op) ≤ f.sent.length ∧ (s.bus b).readCommand x.cs (x.opClass b op % 8) = some k :=
  ⟨wBus (wFrameOf 0x13 0x18) true, 0, 0x13, ⟨[0#8, 1#8, 2#8, 3#8], true, [7#8]⟩, (wFrameOf 0x13 0x18), 0x13, by decide⟩

theorem witness_g4_spiFastRead : ∃ (s : State) (b : Nat) (op : Nat) (f : HostFrame) (x : Frame) (k : Nat), Framed s b x ∧ (x.opClass b op = 0x11 ∨ x.opClass b op = 0x19) ∧ x.opPermits b op s.modeSet = true ∧ x.wip = false ∧ s.addrLen x b (x.opClass b op) ≤ f.sent.length ∧ (s.bus b).readCommand x.cs (x.opClass b op % 8) = some k :=
  ⟨wBus (wFrameOf 0x0B 0x11) true, 0, 0x0B, ⟨[0#8, 1#8, 2#8, 3#8], true, [7#8]⟩, (wFrameOf 0x0B 0x11), 0xEC, by decide⟩

theorem witness_g5_spiDualOutputRead : ∃ (s : State) (b : Nat) (op : Nat) (f : HostFrame) (x : Frame) (k : Nat), Framed s b x ∧ (x.opClass b op = 0x12 ∨ x.opClass b op = 0x1A) ∧ x.opPermits b op s.modeSet = true ∧ x.wip = false ∧ s.addrLen x b (x.opClass b op) ≤ f.sent.length ∧ (s.bus b).readCommand x.cs (x.opClass b op % 8) = some k :=
  ⟨wBus (wFrameOf 0x3B 0x12) true, 0, 0x3B, ⟨[0#8, 1#8, 2#8, 3#8], true, [7#8]⟩, (wFrameOf 0x3B 0x12), 0xEC, by decide⟩

theorem witness_g6_spiDualIoRead : ∃ (s : State) (b : Nat) (op : Nat) (f : HostFrame) (x : Frame) (k : Nat), Framed s b x ∧ (x.opClass b op = 0x13 ∨ x.opClass b op = 0x1B) ∧ x.opPermits b op s.modeSet = true ∧ x.wip = false ∧ s.addrLen x b (x.opClass b op) ≤ f.sent.length ∧ (s.bus b).readCommand x.cs (x.opClass b op % 8) = some k :=
  ⟨wBus (wFrameOf 0xBB 0x13) true, 0, 0xBB, ⟨[0#8, 1#8, 2#8, 3#8], true, [7#8]⟩, (wFrameOf 0xBB 0x13), 0xEC, by decide⟩

theorem witness_g7_spiQuadOutputRead : ∃ (s : State) (b : Nat) (op : Nat) (f : HostFrame) (x : Frame) (k : Nat), Framed s b x ∧ (x.opClass b op = 0x14 ∨ x.opClass b op = 0x1C) ∧ x.opPermits b op s.modeSet = true ∧ x.wip = false ∧ s.addrLen x b (x.opClass b op) ≤ f.sent.length ∧ (s.bus b).readCommand x.cs (x.opClass b op % 8) = some k :=
  ⟨wBus (wFrameOf 0x6B 0x14) true, 0, 0x6B, ⟨[0#8, 1#8, 2#8, 3#8], true, [7#8]⟩, (wFrameOf 0x6B 0x14), 0xEC, by decide⟩

theorem witness_g8_spiQuadIoRead : ∃ (s : State) (b : Nat) (op : Nat) (f : HostFrame) (x : Frame) (k : Nat), Framed s b x ∧ (x.opClass b op = 0x15 ∨ x.opClass b op = 0x1D) ∧ x.opPermits b op s.modeSet = true ∧ x.wip = false ∧ s.addrLen x b (x.opClass b op) ≤ f.sent.length ∧ (s.bus b).readCommand x.cs (x.opClass b op % 8) = some k :=
  ⟨wBus (wFrameOf 0xEB 0x15) true, 0, 0xEB, ⟨[0#8, 1#8, 2#8, 3#8], true, [7#8]⟩, (wFrameOf 0xEB 0x15), 0xEC, by decide⟩

theorem witness_g9_spiReadId : ∃ (s : State) (b : Nat) (op : Nat) (x : Frame), Framed s b x ∧ x.opClass b op = 0x20 ∧ x.opPermits b op s.modeSet = true ∧ x.wip = false ∧ (s.bus b).quad = true :=
  ⟨wBus (wFrameOf 0x9F 0x20) true, 0, 0x9F, (wFrameOf 0x9F 0x20), by decide⟩

theorem witness_g10_spiReadId : ∃ (s : State) (b : Nat) (op : Nat) (x : Frame), Framed s b x ∧ x.opClass b op = 0x20 ∧ x.opPermits b op s.modeSet = true ∧ (x.wip = true ∨ (s.bus b).quad = false) :=
  ⟨wBusMode 0 (wFrameOf 0x9F 0x20), 0, 0x9F, (wFrameOf 0x9F 0x20), by decide⟩

theorem witness_g11_spiReadSfdp : ∃ (s : State) (b : Nat) (op : Nat) (f : HostFrame) (x : Frame), Framed s b x ∧ x.opClass b op = 0x30 ∧ x.opPermits b op s.modeSet = true ∧ 3 ≤ f.sent.length :=
  ⟨wBus (wFrameOf 0x5A 0x30) true, 0, 0x5A, ⟨[0#8, 0#8, 2#8, 0#8], true, [7#8]⟩, (wFrameOf 0x5A 0x30), by decide⟩

theorem witness_g12_spiReadStatus1 : ∃ (s : State) (b : Nat) (op : Nat) (x : Frame), Framed s b x ∧ x.opClass b op = 0x40 ∧ x.opPermits b op s.modeSet = true :=
  ⟨wBus (wFrameOf 0x05 0x40) true, 0, 0x05, (wFrameOf 0x05 0x40), by decide⟩

theorem witness_g13_spiReadStatus2 : ∃ (s : State) (b : Nat) (op : Nat) (x : Frame), Framed s b x ∧ x.opClass b op = 0x41 ∧ x.opPermits b op s.modeSet = true :=
  ⟨wBus (wFrameOf 0x35 0x41) true, 0, 0x35, (wFrameOf 0x35 0x41), by decide⟩

theorem witness_g14_spiReadFlagStatus : ∃ (s : State) (b : Nat) (op : Nat) (x : Frame), Framed s b x ∧ x.opClass b op = 0x42 ∧ x.opPermits b op s.modeSet = true :=
  ⟨wBus (wFrameOf 0x70 0x42) true, 0, 0x70, (wFrameOf 0x70 0x42), by decide⟩

theorem witness_g15_deniedOpcodeFrame : ∃ (s : State) (b : Nat) (op : Nat) (x : Frame), Framed s b x ∧ x.opClass b op = 0 :=
  ⟨wBus (wFrameOf 0x99 0x00) true, 0, 0x99, (wFrameOf 0x99 0x00), by decide⟩

-- FlashWriteFramesComplete
theorem witness_g0_spiWriteEnable : ∃ (s : State) (b : Nat) (op : Nat) (f : HostFrame) (x : Frame), Framed s b x ∧ f.whole = true ∧ s.frameLenOk x b (x.opClass b op) f = true ∧ x.wip = false ∧ x.opPermits b op s.modeSet = true ∧ s.ms.mode ≠ .quarantine ∧ x.opClass b op = 0x51 :=
  ⟨wBus (wFrameOf 0x06 0x51) true, 0, 0x06, ⟨[], true, []⟩, (wFrameOf 0x06 0x51), by decide⟩

theorem witness_g1_spiWriteDisable : ∃ (s : State) (b : Nat) (op : Nat) (f : HostFrame) (x : Frame), Framed s b x ∧ f.whole = true ∧ s.frameLenOk x b (x.opClass b op) f = true ∧ x.wip = false ∧ x.opPermits b op s.modeSet = true ∧ s.ms.mode ≠ .quarantine ∧ x.opClass b op = 0x50 :=
  ⟨wBus (wFrameOf 0x04 0x50) true, 0, 0x04, ⟨[], true, []⟩, (wFrameOf 0x04 0x50), by decide⟩

theorem witness_g2_spiPageProgram : ∃ (s : State) (b : Nat) (op : Nat) (f : HostFrame) (x : Frame), Framed s b x ∧ f.whole = true ∧ s.frameLenOk x b (x.opClass b op) f = true ∧ x.wip = false ∧ x.opPermits b op s.modeSet = true ∧ s.ms.mode ≠ .quarantine ∧ (x.opClass b op = 0x60 ∨ x.opClass b op = 0x68) ∧ ((s.bus b).shadow x.cs).wel = true ∧ s.frameAllowed x b (x.opClass b op) f = true :=
  ⟨wBus (wFrameOf 0x02 0x60) true, 0, 0x02, ⟨[0#8, 1#8, 0#8, 9#8], true, []⟩, (wFrameOf 0x02 0x60), by decide⟩

theorem witness_g3_spiQuadPageProgram : ∃ (s : State) (b : Nat) (op : Nat) (f : HostFrame) (x : Frame), Framed s b x ∧ f.whole = true ∧ s.frameLenOk x b (x.opClass b op) f = true ∧ x.wip = false ∧ x.opPermits b op s.modeSet = true ∧ s.ms.mode ≠ .quarantine ∧ (x.opClass b op = 0x64 ∨ x.opClass b op = 0x6C) ∧ ((s.bus b).shadow x.cs).wel = true ∧ s.frameAllowed x b (x.opClass b op) f = true :=
  ⟨wBus (wFrameOf 0x32 0x64) true, 0, 0x32, ⟨[0#8, 1#8, 0#8, 9#8], true, []⟩, (wFrameOf 0x32 0x64), by decide⟩

theorem witness_g4_spiSectorErase : ∃ (s : State) (b : Nat) (op : Nat) (f : HostFrame) (x : Frame), Framed s b x ∧ f.whole = true ∧ s.frameLenOk x b (x.opClass b op) f = true ∧ x.wip = false ∧ x.opPermits b op s.modeSet = true ∧ s.ms.mode ≠ .quarantine ∧ (x.opClass b op = 0x70 ∨ x.opClass b op = 0x78) ∧ ((s.bus b).shadow x.cs).wel = true ∧ s.frameAllowed x b (x.opClass b op) f = true :=
  ⟨wBus (wFrameOf 0x20 0x70) true, 0, 0x20, ⟨[0#8, 1#8, 0#8], true, []⟩, (wFrameOf 0x20 0x70), by decide⟩

theorem witness_g5_spiBlockErase32k : ∃ (s : State) (b : Nat) (op : Nat) (f : HostFrame) (x : Frame), Framed s b x ∧ f.whole = true ∧ s.frameLenOk x b (x.opClass b op) f = true ∧ x.wip = false ∧ x.opPermits b op s.modeSet = true ∧ s.ms.mode ≠ .quarantine ∧ (x.opClass b op = 0x71 ∨ x.opClass b op = 0x79) ∧ ((s.bus b).shadow x.cs).wel = true ∧ s.frameAllowed x b (x.opClass b op) f = true :=
  ⟨wBus (wFrameOf 0x52 0x71) true, 0, 0x52, ⟨[0#8, 1#8, 0#8], true, []⟩, (wFrameOf 0x52 0x71), by decide⟩

theorem witness_g6_spiBlockErase64k : ∃ (s : State) (b : Nat) (op : Nat) (f : HostFrame) (x : Frame), Framed s b x ∧ f.whole = true ∧ s.frameLenOk x b (x.opClass b op) f = true ∧ x.wip = false ∧ x.opPermits b op s.modeSet = true ∧ s.ms.mode ≠ .quarantine ∧ (x.opClass b op = 0x72 ∨ x.opClass b op = 0x7A) ∧ ((s.bus b).shadow x.cs).wel = true ∧ s.frameAllowed x b (x.opClass b op) f = true :=
  ⟨wBus (wFrameOf 0xD8 0x72) true, 0, 0xD8, ⟨[0#8, 1#8, 0#8], true, []⟩, (wFrameOf 0xD8 0x72), by decide⟩

theorem witness_g7_spiChipErase : ∃ (s : State) (b : Nat) (op : Nat) (f : HostFrame) (x : Frame), Framed s b x ∧ f.whole = true ∧ s.frameLenOk x b (x.opClass b op) f = true ∧ x.wip = false ∧ x.opPermits b op s.modeSet = true ∧ s.ms.mode ≠ .quarantine ∧ x.opClass b op = 0x80 ∧ ((s.bus b).shadow x.cs).wel = true ∧ s.frameAllowed x b (x.opClass b op) f = true :=
  ⟨wBus (wFrameOf 0xC7 0x80) true, 0, 0xC7, ⟨[], true, []⟩, (wFrameOf 0xC7 0x80), by decide⟩

theorem witness_g8_spiWriteStatus1 : ∃ (s : State) (b : Nat) (op : Nat) (f : HostFrame) (x : Frame), Framed s b x ∧ f.whole = true ∧ s.frameLenOk x b (x.opClass b op) f = true ∧ x.wip = false ∧ x.opPermits b op s.modeSet = true ∧ s.ms.mode ≠ .quarantine ∧ (x.opClass b op = 0x90 ∨ x.opClass b op = 0x91) ∧ ((s.bus b).shadow x.cs).wel = true :=
  ⟨wBus (wFrameOf 0x01 0x90) true, 0, 0x01, ⟨[4#8], true, []⟩, (wFrameOf 0x01 0x90), by decide⟩

theorem witness_g9_spiWriteStatus2 : ∃ (s : State) (b : Nat) (op : Nat) (f : HostFrame) (x : Frame), Framed s b x ∧ f.whole = true ∧ s.frameLenOk x b (x.opClass b op) f = true ∧ x.wip = false ∧ x.opPermits b op s.modeSet = true ∧ s.ms.mode ≠ .quarantine ∧ x.opClass b op = 0x92 ∧ ((s.bus b).shadow x.cs).wel = true :=
  ⟨wBus (wFrameOf 0x31 0x92) true, 0, 0x31, ⟨[4#8], true, []⟩, (wFrameOf 0x31 0x92), by decide⟩

theorem witness_g10_spiEnter4byteMode : ∃ (s : State) (b : Nat) (op : Nat) (f : HostFrame) (x : Frame), Framed s b x ∧ f.whole = true ∧ s.frameLenOk x b (x.opClass b op) f = true ∧ x.wip = false ∧ x.opPermits b op s.modeSet = true ∧ s.ms.mode ≠ .quarantine ∧ x.opClass b op = 0xA1 :=
  ⟨wBus (wFrameOf 0xB7 0xA1) true, 0, 0xB7, ⟨[], true, []⟩, (wFrameOf 0xB7 0xA1), by decide⟩

theorem witness_g11_spiExit4byteMode : ∃ (s : State) (b : Nat) (op : Nat) (f : HostFrame) (x : Frame), Framed s b x ∧ f.whole = true ∧ s.frameLenOk x b (x.opClass b op) f = true ∧ x.wip = false ∧ x.opPermits b op s.modeSet = true ∧ s.ms.mode ≠ .quarantine ∧ x.opClass b op = 0xA0 :=
  ⟨wBus (wFrameOf 0xE9 0xA0) true, 0, 0xE9, ⟨[], true, []⟩, (wFrameOf 0xE9 0xA0), by decide⟩

theorem witness_g12_spiResetEnable : ∃ (s : State) (b : Nat) (op : Nat) (f : HostFrame) (x : Frame), Framed s b x ∧ f.whole = true ∧ s.frameLenOk x b (x.opClass b op) f = true ∧ x.wip = false ∧ x.opPermits b op s.modeSet = true ∧ s.ms.mode ≠ .quarantine ∧ x.opClass b op = 0xB0 :=
  ⟨wBus (wFrameOf 0x66 0xB0) true, 0, 0x66, ⟨[], true, []⟩, (wFrameOf 0x66 0xB0), by decide⟩

theorem witness_g13_spiReset : ∃ (s : State) (b : Nat) (op : Nat) (f : HostFrame) (x : Frame), Framed s b x ∧ f.whole = true ∧ s.frameLenOk x b (x.opClass b op) f = true ∧ x.wip = false ∧ x.opPermits b op s.modeSet = true ∧ s.ms.mode ≠ .quarantine ∧ x.opClass b op = 0xB1 ∧ ((s.bus b).shadow x.cs).resetEnabled = true ∧ (s.bus b).ops = [] ∧ (s.bus b).resetWait = [] :=
  ⟨wArmed, 0, 0x99, ⟨[], true, []⟩, (wFrameOf 0x99 0xB1), by decide⟩

theorem witness_g14_spiReset : ∃ (s : State) (b : Nat) (op : Nat) (f : HostFrame) (x : Frame), Framed s b x ∧ f.whole = true ∧ s.frameLenOk x b (x.opClass b op) f = true ∧ x.wip = false ∧ x.opPermits b op s.modeSet = true ∧ s.ms.mode ≠ .quarantine ∧ x.opClass b op = 0xB1 ∧ ((s.bus b).shadow x.cs).resetEnabled = false :=
  ⟨wBus (wFrameOf 0x99 0xB1) true, 0, 0x99, ⟨[], true, []⟩, (wFrameOf 0x99 0xB1), by decide⟩

theorem witness_g15_spiClearFlagStatus : ∃ (s : State) (b : Nat) (op : Nat) (f : HostFrame) (x : Frame), Framed s b x ∧ f.whole = true ∧ s.frameLenOk x b (x.opClass b op) f = true ∧ x.wip = false ∧ x.opPermits b op s.modeSet = true ∧ s.ms.mode ≠ .quarantine ∧ x.opClass b op = 0xC0 :=
  ⟨wBus (wFrameOf 0x50 0xC0) true, 0, 0x50, ⟨[], true, []⟩, (wFrameOf 0x50 0xC0), by decide⟩

-- FlashEventsComplete
theorem witness_g0_flashSideUp : ∃ (s : State), s.alive = true ∧ s.ms.mode = .gate ∧ s.priv.ready = false ∧ byteAt s.priv.timing 0 ≠ 2 :=
  ⟨State.reset, by decide⟩

theorem witness_g1_flashSideUp : ∃ (s : State), s.alive = true ∧ s.ms.mode = .gate ∧ s.priv.ready = false ∧ byteAt s.priv.timing 0 = 2 :=
  ⟨{ State.reset with priv := { State.reset.priv with timing := [2#8] } }, by decide⟩

theorem witness_g2_flashSideUp : ∃ (s : State) (image : Option Bytes) (octal : Bool), s.alive = true ∧ s.ms.mode = .gate ∧ s.priv.ready = false ∧ byteAt s.priv.timing 0 = 2 ∧ (octal = false ∨ image = none) :=
  ⟨{ State.reset with priv := { State.reset.priv with timing := [2#8] } }, some (zeros 64), false, by decide⟩

theorem witness_g3_flashSideUp : ∃ (s : State) (b : Nat), s.alive = true ∧ s.ms.mode = .gate ∧ b < 2 ∧ (s.bus b).flashUp = false ∧ s.boot.step = 8 ∧ byteAt (s.bus b).timing 0 ≠ 2 ∧ (s.bus b).verifying ≠ 1 :=
  ⟨{ wStep 8 with busA := { (wStep 8).busA with verifying := 0, flashUp := false } }, 0, by decide⟩

theorem witness_g4_flashSideUp : ∃ (s : State) (b : Nat), s.alive = true ∧ s.ms.mode = .gate ∧ b < 2 ∧ (s.bus b).flashUp = false ∧ s.boot.step = 8 ∧ byteAt (s.bus b).timing 0 ≠ 2 ∧ (s.bus b).verifying ≠ 1 :=
  ⟨{ wStep 8 with busA := { (wStep 8).busA with verifying := 0, flashUp := false } }, 0, by decide⟩

theorem witness_g5_flashSideUp : ∃ (s : State) (b : Nat), s.alive = true ∧ s.ms.mode = .gate ∧ b < 2 ∧ (s.bus b).flashUp = false ∧ s.boot.step = 8 ∧ byteAt (s.bus b).timing 0 = 2 ∧ (s.bus b).verifying ≠ 1 :=
  ⟨{ wStep 8 with busA := { (wStep 8).busA with verifying := 0, flashUp := false, timing := [2#8] } }, 0, by decide⟩

theorem witness_g6_flashSideUp : ∃ (s : State) (b : Nat), s.alive = true ∧ s.ms.mode = .gate ∧ b < 2 ∧ (s.bus b).flashUp = false ∧ s.boot.step = 8 ∧ byteAt (s.bus b).timing 0 = 2 ∧ (s.bus b).verifying = 1 :=
  ⟨{ wStep 8 with busA := { (wStep 8).busA with verifying := 1, flashUp := false, timing := [2#8] } }, 0, by decide⟩

theorem witness_g7_manifestCheckComplete : ∃ (s : State) (b : Nat), s.alive = true ∧ b < 2 ∧ (s.bus b).verifying ≠ 0 ∧ bit (s.platPolicy b) 0 = true ∧ (s.bus b).flashUp = true ∧ (s.bus b).ops = [] ∧ (s.bus b).toCheck = [] ∧ s.hashReady = true :=
  ⟨wVerify, 0, by decide⟩

theorem witness_g8_regionDigestComplete : ∃ (s : State) (b : Nat) (r : Nat) (m : Bytes) (rest : List Nat), s.alive = true ∧ b < 2 ∧ (s.bus b).toCheck = r :: rest ∧ (s.bus b).manifest = some m ∧ s.hashReady = true ∧ (s.ms.mode ≠ .recover ∨ (s.bus b).restoring = none) :=
  ⟨{ wVerify with busA := { wVerify.busA with toCheck := [0, 1], manifest := some (zeros 64) } }, 0, 0, zeros 64, [1], by decide⟩

theorem witness_g9_digestFeedSilence : ∃ (s : State) (i : Nat) (x : Feed), s.alive = true ∧ KeyMap.find s.cipher.feeds i = some x ∧ 2 ≤ i :=
  ⟨wFeed, 5, wFeedRec, by decide⟩

theorem witness_g10_digestFeedSilence : ∃ (s : State) (i : Nat) (x : Feed), s.alive = true ∧ KeyMap.find s.cipher.feeds i = some x ∧ i < 2 :=
  ⟨{ wFeed with cipher := { wFeed.cipher with feeds := [(0, wFeedRec)] } }, 0, wFeedRec, by decide⟩

theorem witness_g11_restoreAreaDone : ∃ (s : State) (b : Nat) (a : Nat) (k : Nat) (rest : List Nat) (o : Bool), s.alive = true ∧ b < 2 ∧ s.ms.mode = .recover ∧ (s.bus b).restoring = some ⟨a :: k :: rest, o⟩ :=
  ⟨wRecover [3, 4], 0, 3, 4, [], false, by decide⟩

theorem witness_g12_restoreAreaDone : ∃ (s : State) (b : Nat) (a : Nat) (o : Bool), s.alive = true ∧ b < 2 ∧ s.ms.mode = .recover ∧ (s.bus b).restoring = some ⟨[a], o⟩ :=
  ⟨wRecover [3], 0, 3, false, by decide⟩

theorem witness_g13_restoreAreaDone : ∃ (s : State) (b : Nat) (st : Nat) (a : Nat) (rest : List Nat), s.alive = true ∧ b < 2 ∧ s.ms.mode = .recover ∧ (s.bus b).restoring = some ⟨a :: rest, false⟩ ∧ (st = ST_LEN_SHORT ∨ st = ST_DIGEST_MISMATCH ∨ st = ST_FLASH_TIMEOUT) :=
  ⟨wRecover [3], 0, ST_FLASH_TIMEOUT, 3, [], by decide⟩

theorem witness_g14_restoreAreaDone : ∃ (s : State) (b : Nat) (st : Nat) (a : Nat) (rest : List Nat), s.alive = true ∧ b < 2 ∧ s.ms.mode = .recover ∧ (s.bus b).restoring = some ⟨a :: rest, true⟩ ∧ (st = ST_LEN_SHORT ∨ st = ST_DIGEST_MISMATCH ∨ st = ST_FLASH_TIMEOUT) :=
  ⟨wFailing, 0, ST_FLASH_TIMEOUT, 3, [], by decide⟩

theorem witness_g15_flashStatusPoll : ∃ (s : State) (b : Nat) (cs : Nat) (v : Nat) (o : FlashOp), s.alive = true ∧ b < 2 ∧ cs < 2 ∧ KeyMap.find (s.bus b).ops cs = some o ∧ bit v 0 = false :=
  ⟨wFlashOp, 0, 0, 0, ⟨6, 99⟩, by decide⟩

theorem witness_g16_flashStatusPoll : ∃ (s : State) (v : Nat), s.alive = true ∧ s.priv.ready = true ∧ bit v 0 = true :=
  ⟨wPriv, 1, by decide⟩

theorem witness_g17_flashStatusPoll : ∃ (s : State) (v : Nat), s.alive = true ∧ s.priv.ready = true ∧ bit v 0 = false :=
  ⟨{ wPriv with priv := { wPriv.priv with stalled := some 4 } }, 0, by decide⟩

theorem witness_g18_flashOperationTimeout : ∃ (s : State) (b : Nat) (cs : Nat) (o : FlashOp), s.alive = true ∧ b < 2 ∧ cs < 2 ∧ KeyMap.find (s.bus b).ops cs = some o :=
  ⟨wFlashOp, 0, 0, ⟨6, 99⟩, by decide⟩

theorem witness_g19_pfWindowWrite : ∃ (s : State) (who : Master) (off : Nat) (d : Bytes), s.alive = true ∧ reachesPriv who = true ∧ d ≠ [] ∧ off + d.length - 1 < s.priv.density ∧ off + d.length - 1 < 0x10000000 ∧ (who = .facet → s.protects (off / 4096) = false ∧ s.protects ((off + d.length - 1) / 4096) = false) :=
  ⟨wPriv, .facet, 0x3000, [5#8], by decide⟩

theorem witness_g20_pfGatherTimeout : ∃ (s : State), s.alive = true ∧ s.priv.gathered.isSome = true ∧ s.priv.busy = false :=
  ⟨{ wPriv with priv := { wPriv.priv with gathered := some (3, [(1, 5#8)]) } }, by decide⟩

theorem witness_g21_flashOperationTimeout : ∃ (s : State), s.alive = true ∧ s.priv.ready = true :=
  ⟨wPriv, by decide⟩

theorem witness_g22_flashOperationTimeout : ∃ (s : State) (b : Nat) (cs : Nat), s.alive = true ∧ b < 2 ∧ KeyMap.find (s.bus b).ops cs = none :=
  ⟨wVerify, 0, 0, by decide⟩

theorem witness_g23_pfStallTimeout : ∃ (s : State) (d : Nat), s.alive = true ∧ s.priv.waitSince = some d :=
  ⟨{ wPriv with priv := { wPriv.priv with waitSince := some 4, waiting := [(3, [1#8])] } }, 4, by decide⟩

theorem witness_g24_pfEraseGo : ∃ (s : State) (who : Master), s.alive = true ∧ reachesPriv who = true ∧ s.priv.busy = false ∧ s.priv.eraseSize = 0 ∧ (who = .facet → s.protects (s.priv.eraseAddr / 4096 * 4096 / 4096) = false) :=
  ⟨wPriv, .apex, by decide⟩

theorem witness_g25_pfEraseDone : ∃ (s : State) (e : ChipErase), s.alive = true ∧ s.priv.chipErase = some e :=
  ⟨{ wPriv with priv := { wPriv.priv with chipErase := some wErase } }, wErase, by decide⟩

theorem witness_g26_pfEraseDone : ∃ (s : State), s.alive = true ∧ s.priv.chipErase = none ∧ s.priv.busy = true ∧ s.priv.stalled = none :=
  ⟨{ wPriv with priv := { wPriv.priv with busy := true } }, by decide⟩

theorem witness_g27_pfLockWrite : ∃ (s : State), s.alive = true :=
  ⟨wPriv, by decide⟩

theorem witness_g28_pfLockWrite : ∃ (s : State) (who : Master), s.alive = true ∧ who ≠ .apex :=
  ⟨wPriv, .facet, by decide⟩

-- PlatformCommandsComplete
theorem witness_g0_platStatus : ∃ (s : State) (p : Port) (q : Request), Asked s p 0x0401 q :=
  ⟨wAsk wServe (rq 0x0401 1 0 []), .mb0, (rq 0x0401 1 0 []), by decide⟩

theorem witness_g1_platVerify : ∃ (s : State) (p : Port) (q : Request), Asked s p 0x0402 q ∧ q.payload.length = 1 ∧ 1 ≤ byteAt q.payload 0 ∧ byteAt q.payload 0 ≤ 3 :=
  ⟨wAsk wServe (rq 0x0402 1 0 [1#8]), .mb0, (rq 0x0402 1 0 [1#8]), by decide⟩

theorem witness_g2_platReset : ∃ (s : State) (p : Port) (q : Request), Asked s p 0x0403 q :=
  ⟨wAsk wServe (rq 0x0403 1 0 []), .mb0, (rq 0x0403 1 0 []), by decide⟩

theorem witness_g3_platRecover : ∃ (s : State) (p : Port) (q : Request), Asked s p 0x0404 q ∧ q.payload.length = 1 ∧ 1 ≤ byteAt q.payload 0 ∧ byteAt q.payload 0 ≤ 3 :=
  ⟨wAsk wServe (rq 0x0404 1 0 [1#8]), .mb0, (rq 0x0404 1 0 [1#8]), by decide⟩

theorem witness_g4_platRecover : ∃ (s : State) (p : Port) (q : Request), Asked s p 0x0404 q ∧ q.payload.length = 1 ∧ 1 ≤ byteAt q.payload 0 ∧ byteAt q.payload 0 ≤ 3 ∧ s.recoverCheck (byteAt q.payload 0) = ST_OK ∧ q.realm = 0 ∧ (s.realm 0).admin.isSome = true ∧ s.pendingAct 0 = none :=
  ⟨wAsk wGolden (rq 0x0404 1 0 [1#8]), .mb0, (rq 0x0404 1 0 [1#8]), by decide⟩

theorem witness_g5_platReleaseRetry : ∃ (s : State) (p : Port) (q : Request), Asked s p 0x0405 q ∧ s.rel.phase = .held ∧ 3 ≤ s.rel.attempts ∧ q.payload = [] :=
  ⟨wAsk wHeld (rq 0x0405 1 0 []), .mb0, (rq 0x0405 1 0 []), by decide⟩

theorem witness_g6_platGoldenCapture : ∃ (s : State) (p : Port) (q : Request), Asked s p 0x0406 q ∧ q.payload.length = 1 ∧ byteAt q.payload 0 < 2 :=
  ⟨wAsk wAdmin (rq 0x0406 1 0 [1#8]), .mb0, (rq 0x0406 1 0 [1#8]), by decide⟩

theorem witness_g7_platSvnAdvance : ∃ (s : State) (p : Port) (q : Request), Asked s p 0x0407 q ∧ q.payload.length = 5 ∧ byteAt q.payload 0 < 2 :=
  ⟨wAsk wAdmin (rq 0x0407 1 0 [1#8, 5#8, 0#8, 0#8, 0#8]), .mb0, (rq 0x0407 1 0 [1#8, 5#8, 0#8, 0#8, 0#8]), by decide⟩

theorem witness_g8_platSvnAdvance : ∃ (s : State) (p : Port) (q : Request), Asked s p 0x0407 q ∧ q.payload.length = 5 ∧ byteAt q.payload 0 < 2 ∧ s.svnOk (byteAt q.payload 0) (field q.payload 1 4) = true ∧ q.realm = 0 ∧ (s.realm 0).admin.isSome = true ∧ s.pendingAct 0 = none :=
  ⟨wAsk wGolden (rq 0x0407 1 0 [0#8, 5#8, 0#8, 0#8, 0#8]), .mb0, (rq 0x0407 1 0 [0#8, 5#8, 0#8, 0#8, 0#8]), by decide⟩

theorem witness_g9_platDenials : ∃ (s : State) (p : Port) (q : Request), Asked s p 0x0408 q ∧ q.payload.length = 1 ∧ byteAt q.payload 0 < 2 :=
  ⟨wAsk wServe (rq 0x0408 1 0 [1#8]), .mb0, (rq 0x0408 1 0 [1#8]), by decide⟩

theorem witness_g10_platManifestRead : ∃ (s : State) (p : Port) (q : Request) (m : Bytes), Asked s p 0x0409 q ∧ q.payload.length = 2 ∧ byteAt q.payload 0 < 2 ∧ byteAt q.payload 1 = 0 ∧ (s.bus (byteAt q.payload 0)).gateManifest = some m :=
  ⟨wAsk wManifest (rq 0x0409 1 0 [0#8, 0#8]), .mb0, (rq 0x0409 1 0 [0#8, 0#8]), [1#8], by decide⟩

theorem witness_g11_platManifestRead : ∃ (s : State) (p : Port) (q : Request), Asked s p 0x0409 q ∧ q.payload.length = 2 ∧ byteAt q.payload 0 < 2 ∧ byteAt q.payload 1 = 0 ∧ (s.bus (byteAt q.payload 0)).gateManifest = none :=
  ⟨wAsk wServe (rq 0x0409 1 0 [0#8, 0#8]), .mb0, (rq 0x0409 1 0 [0#8, 0#8]), by decide⟩

theorem witness_g12_platManifestRead : ∃ (s : State) (p : Port) (q : Request), Asked s p 0x0409 q ∧ q.payload.length = 2 ∧ byteAt q.payload 0 < 2 ∧ byteAt q.payload 1 = 1 ∧ KeyMap.find s.priv.golden (byteAt q.payload 0) = none :=
  ⟨wAsk wServe (rq 0x0409 1 0 [0#8, 1#8]), .mb0, (rq 0x0409 1 0 [0#8, 1#8]), by decide⟩

theorem witness_g13_platManifestRead : ∃ (s : State) (p : Port) (q : Request) (g : Golden), Asked s p 0x0409 q ∧ q.payload.length = 2 ∧ byteAt q.payload 0 < 2 ∧ byteAt q.payload 1 = 1 ∧ KeyMap.find s.priv.golden (byteAt q.payload 0) = some g :=
  ⟨wAsk wGolden (rq 0x0409 1 0 [0#8, 1#8]), .mb0, (rq 0x0409 1 0 [0#8, 1#8]), wGoldenRec, by decide⟩

-- AttestationCommandsComplete
theorem witness_g0_idCertRead : ∃ (s : State) (p : Port) (q : Request), Asked s p 0x0501 q ∧ q.payload.length = 5 ∧ byteAt q.payload 0 ≤ 7 ∧ field q.payload 3 2 ≤ 4000 ∧ field q.payload 1 2 ≤ (s.chain (byteAt q.payload 0)).length :=
  ⟨wAsk wServe (rq 0x0501 1 0 [1#8, 0#8, 0#8, 4#8, 0#8]), .mb0, (rq 0x0501 1 0 [1#8, 0#8, 0#8, 4#8, 0#8]), by decide⟩

theorem witness_g1_idCertWrite : ∃ (s : State) (p : Port) (q : Request), Asked s p 0x0502 q ∧ q.payload ≠ [] ∧ 1 ≤ byteAt q.payload 0 ∧ byteAt q.payload 0 ≤ 7 :=
  ⟨wAsk wServe (rq 0x0502 1 0 [1#8, 0#8, 0#8, 4#8, 0#8]), .mb0, (rq 0x0502 1 0 [1#8, 0#8, 0#8, 4#8, 0#8]), by decide⟩

theorem witness_g2_attestReport : ∃ (s : State) (p : Port) (q : Request), Asked s p 0x0503 q ∧ q.payload.length = 32 :=
  ⟨wAsk wServe (rq 0x0503 1 0 (zeros 32)), .mb0, (rq 0x0503 1 0 (zeros 32)), by decide⟩

theorem witness_g3_spdmGetVersion : ∃ (s : State) (p : Port) (q : Request) (x : Session), SpdmAsked s p (· == 0x84) q x ∧ q.payload.length = 4 ∧ byteAt q.payload 0 = 0x10 :=
  ⟨wSpdm 0 (rq 0x0504 1 0 [0x10#8, 0x84#8, 0#8, 0#8]), .mb0, (rq 0x0504 1 0 [0x10#8, 0x84#8, 0#8, 0#8]), wSpdmSession 0, by decide +kernel⟩

theorem witness_g4_spdmGetVersion : ∃ (s : State) (p : Port) (q : Request) (x : Session), SpdmAsked s p (· == 0x84) q x ∧ q.payload.length ≠ 4 :=
  ⟨wSpdm 3 (rq 0x0504 1 0 [0x10#8, 0x84#8]), .mb0, (rq 0x0504 1 0 [0x10#8, 0x84#8]), wSpdmSession 3, by decide +kernel⟩

theorem witness_g5_spdmGetVersion : ∃ (s : State) (p : Port) (q : Request) (x : Session), SpdmAsked s p (· == 0x84) q x ∧ q.payload.length = 4 ∧ byteAt q.payload 0 ≠ 0x10 :=
  ⟨wSpdm 3 (rq 0x0504 1 0 [0x12#8, 0x84#8, 0#8, 0#8]), .mb0, (rq 0x0504 1 0 [0x12#8, 0x84#8, 0#8, 0#8]), wSpdmSession 3, by decide +kernel⟩

theorem witness_g6_spdmGetCapabilities : ∃ (s : State) (p : Port) (q : Request) (x : Session), SpdmAsked s p (· == 0xE1) q x ∧ s.ident.keys = true ∧ (byteAt q.payload 0 = 0x12 ∨ byteAt q.payload 0 = 0x13) ∧ q.payload.length = 20 ∧ x.spdm.stage = 1 :=
  ⟨wSpdm 1 (rq 0x0504 1 0 ([0x12#8, 0xE1#8] ++ zeros 18)), .mb0, (rq 0x0504 1 0 ([0x12#8, 0xE1#8] ++ zeros 18)), wSpdmSession 1, by decide +kernel⟩

theorem witness_g7_spdmNegotiateAlgorithms : ∃ (s : State) (p : Port) (q : Request) (x : Session), SpdmAsked s p (· == 0xE3) q x ∧ s.ident.keys = true ∧ x.spdm.stage = 2 ∧ byteAt q.payload 0 = x.spdm.version ∧ (x.spdm.version = 0x12 ∨ x.spdm.version = 0x13) ∧ 32 ≤ q.payload.length ∧ field q.payload 4 2 = q.payload.length :=
  ⟨wSpdm 2 (rq 0x0504 1 0 ([0x12#8, 0xE3#8, 0#8, 0#8, 32#8] ++ zeros 27)), .mb0, (rq 0x0504 1 0 ([0x12#8, 0xE3#8, 0#8, 0#8, 32#8] ++ zeros 27)), wSpdmSession 2, by decide +kernel⟩

theorem witness_g8_spdmGetDigests : ∃ (s : State) (p : Port) (q : Request) (x : Session), SpdmAsked s p (· == 0x81) q x ∧ s.ident.keys = true ∧ x.spdm.stage = 3 ∧ byteAt q.payload 0 = x.spdm.version ∧ (x.spdm.version = 0x12 ∨ x.spdm.version = 0x13) ∧ q.payload.length = 4 :=
  ⟨wSpdm 3 (rq 0x0504 1 0 [0x12#8, 0x81#8, 0#8, 0#8]), .mb0, (rq 0x0504 1 0 [0x12#8, 0x81#8, 0#8, 0#8]), wSpdmSession 3, by decide +kernel⟩

theorem witness_g9_spdmGetCertificate : ∃ (s : State) (p : Port) (q : Request) (x : Session), SpdmAsked s p (· == 0x82) q x ∧ s.ident.keys = true ∧ x.spdm.stage = 3 ∧ byteAt q.payload 0 = x.spdm.version ∧ (x.spdm.version = 0x12 ∨ x.spdm.version = 0x13) ∧ q.payload.length = 8 ∧ s.slotsPresent.contains (byteAt q.payload 2 % 16) = true ∧ field q.payload 4 2 < (s.spdmChain (byteAt q.payload 2 % 16)).length :=
  ⟨wSpdm 3 (rq 0x0504 1 0 [0x12#8, 0x82#8, 0#8, 0#8, 0#8, 0#8, 4#8, 0#8]), .mb0, (rq 0x0504 1 0 [0x12#8, 0x82#8, 0#8, 0#8, 0#8, 0#8, 4#8, 0#8]), wSpdmSession 3, by decide +kernel⟩

theorem witness_g10_spdmChallenge : ∃ (s : State) (p : Port) (q : Request) (x : Session), SpdmAsked s p (· == 0x83) q x ∧ s.ident.keys = true ∧ x.spdm.stage = 3 ∧ byteAt q.payload 0 = x.spdm.version ∧ (x.spdm.version = 0x12 ∨ x.spdm.version = 0x13) ∧ q.payload.length = (if byteAt q.payload 0 = 0x13 then 44 else 36) ∧ s.slotsPresent.contains (byteAt q.payload 2) = true ∧ (byteAt q.payload 3 = 0 ∨ byteAt q.payload 3 = 1 ∨ byteAt q.payload 3 = 0xFF) :=
  ⟨wSpdm 3 (rq 0x0504 1 0 ([0x12#8, 0x83#8] ++ zeros 34)), .mb0, (rq 0x0504 1 0 ([0x12#8, 0x83#8] ++ zeros 34)), wSpdmSession 3, by decide +kernel⟩

theorem witness_g11_spdmGetMeasurements : ∃ (s : State) (p : Port) (q : Request) (x : Session), SpdmAsked s p (· == 0xE0) q x ∧ s.ident.keys = true ∧ x.spdm.stage = 3 ∧ byteAt q.payload 0 = x.spdm.version ∧ (x.spdm.version = 0x12 ∨ x.spdm.version = 0x13) ∧ bit (byteAt q.payload 2) 0 = false ∧ byteAt q.payload 3 = 0 ∧ q.payload.length = 4 + (if byteAt q.payload 0 = 0x13 then 8 else 0) :=
  ⟨wSpdm 3 (rq 0x0504 1 0 [0x12#8, 0xE0#8, 0#8, 0#8]), .mb0, (rq 0x0504 1 0 [0x12#8, 0xE0#8, 0#8, 0#8]), wSpdmSession 3, by decide +kernel⟩

theorem witness_g12_spdmUnsupportedRequest : ∃ (s : State) (p : Port) (q : Request) (x : Session), SpdmAsked s p (fun code => !spdmKnown code) q x :=
  ⟨wSpdm 3 (rq 0x0504 1 0 [0x12#8, 0x99#8, 0#8, 0#8]), .mb0, (rq 0x0504 1 0 [0x12#8, 0x99#8, 0#8, 0#8]), wSpdmSession 3, by decide +kernel⟩

-- DomainCommandsComplete
theorem witness_g0_domainStatus : ∃ (s : State) (p : Port) (q : Request), Asked s p 0x0510 q :=
  ⟨wAsk wServe (rq 0x0510 1 0 []), .mb0, (rq 0x0510 1 0 []), by decide⟩

theorem witness_g1_domainCard : ∃ (s : State) (p : Port) (q : Request), Asked s p 0x0511 q :=
  ⟨wAsk wServe (rq 0x0511 1 0 []), .mb0, (rq 0x0511 1 0 []), by decide⟩

theorem witness_g2_domainCreate : ∃ (s : State) (p : Port) (q : Request), Asked s p 0x0512 q ∧ q.payload.length = 40 :=
  ⟨wAsk wServe (rq 0x0512 1 0 (zeros 40)), .mb0, (rq 0x0512 1 0 (zeros 40)), by decide⟩

theorem witness_g3_domainJoinRequest : ∃ (s : State) (p : Port) (q : Request), Asked s p 0x0513 q ∧ q.payload.length = 48 :=
  ⟨wAsk wAdmin (rq 0x0513 1 0 (zeros 48)), .mb0, (rq 0x0513 1 0 (zeros 48)), by decide⟩

theorem witness_g4_domainAdmit : ∃ (s : State) (p : Port) (q : Request), Asked s p 0x0514 q ∧ 48 ≤ q.payload.length ∧ (q.payload.length = blobLenOf q.payload + reportLen + cardLen ∨ q.payload.length = blobLenOf q.payload + reportLen + 2 * cardLen) :=
  ⟨wAsk wServe (rq 0x0514 1 0 wAdmitPayload), .mb0, (rq 0x0514 1 0 wAdmitPayload), by exact ⟨⟨by decide, rfl⟩, admit_length⟩⟩

theorem witness_g5_domainAccept : ∃ (s : State) (p : Port) (q : Request), Asked s p 0x0515 q :=
  ⟨wAsk wServe (rq 0x0515 1 0 (zeros 48)), .mb0, (rq 0x0515 1 0 (zeros 48)), by decide⟩

theorem witness_g6_domainRosterUpdate : ∃ (s : State) (p : Port) (q : Request), Asked s p 0x0516 q ∧ 128 ≤ q.payload.length ∧ q.payload.length = rosterLen q.payload :=
  ⟨wAsk wServe (rq 0x0516 1 0 wRosterPayload), .mb0, (rq 0x0516 1 0 wRosterPayload), by exact ⟨⟨by decide, rfl⟩, roster_length⟩⟩

theorem witness_g7_domainRoll : ∃ (s : State) (p : Port) (q : Request), Asked s p 0x0517 q ∧ 48 ≤ q.payload.length ∧ blobLenOf q.payload ≤ q.payload.length ∧ (q.payload.length - blobLenOf q.payload) % 2 = 0 ∧ q.payload.length - blobLenOf q.payload ≤ 8190 :=
  ⟨wAsk wServe (rq 0x0517 1 0 wRollPayload), .mb0, (rq 0x0517 1 0 wRollPayload), by decide⟩

theorem witness_g8_domainPackageFetch : ∃ (s : State) (p : Port) (q : Request) (d : Domain) (r : Roll), Asked s p 0x0518 q ∧ q.payload.length = cardLen ∧ s.member = some d ∧ s.ident.roll = some r :=
  ⟨wAsk wRolling (rq 0x0518 1 0 (zeros cardLen)), .mb0, (rq 0x0518 1 0 (zeros cardLen)), wDomainRec, wRollRec, by exact ⟨⟨by decide, rfl⟩, zeros_length _, rfl, rfl⟩⟩

theorem witness_g9_domainPackageLoad : ∃ (s : State) (p : Port) (q : Request), Asked s p 0x0519 q :=
  ⟨wAsk wServe (rq 0x0519 1 0 (zeros 48)), .mb0, (rq 0x0519 1 0 (zeros 48)), by decide⟩

theorem witness_g10_domainActivate : ∃ (s : State) (p : Port) (q : Request), Asked s p 0x051A q ∧ q.payload.length = 64 + idSigLen :=
  ⟨wAsk wServe (rq 0x051A 1 0 (zeros (64 + idSigLen))), .mb0, (rq 0x051A 1 0 (zeros (64 + idSigLen))), by exact ⟨⟨by decide, rfl⟩, zeros_length _⟩⟩

theorem witness_g11_domainLeave : ∃ (s : State) (p : Port) (q : Request), Asked s p 0x051B q ∧ q.payload = [] :=
  ⟨wAsk wMember (rq 0x051B 1 0 []), .mb0, (rq 0x051B 1 0 []), by decide⟩

theorem witness_g12_domainReport : ∃ (s : State) (p : Port) (q : Request) (d : Domain), Asked s p 0x051C q ∧ q.payload.length = 7 ∧ s.member = some d ∧ (byteAt q.payload 2 = 1 ∨ byteAt q.payload 2 = 4 ∨ byteAt q.payload 2 = 5) ∧ rosterHas d.roster (field q.payload 0 2) = true :=
  ⟨wAsk wMember (rq 0x051C 1 0 [7#8, 0#8, 1#8, 0#8, 0#8, 0#8, 0#8]), .mb0, (rq 0x051C 1 0 [7#8, 0#8, 1#8, 0#8, 0#8, 0#8, 0#8]), wDomainRec, by decide +kernel⟩

theorem witness_g13_domainNoticeFetch : ∃ (s : State) (p : Port) (q : Request), Asked s p 0x051D q ∧ q.payload.length = 4 ∧ 1 ≤ leNat q.payload ∧ leNat q.payload ≤ 63 :=
  ⟨wAsk wServe (rq 0x051D 1 0 [1#8, 0#8, 0#8, 0#8]), .mb0, (rq 0x051D 1 0 [1#8, 0#8, 0#8, 0#8]), by decide⟩

theorem witness_g14_domainNoticeIn : ∃ (s : State) (p : Port) (q : Request), Asked s p 0x051E q ∧ q.payload.length % 64 = 0 ∧ 1 ≤ q.payload.length / 64 ∧ q.payload.length / 64 ≤ 63 ∧ (blocks 64 q.payload).all noticeClean = true :=
  ⟨wAsk wServe (rq 0x051E 1 0 (zeros 64)), .mb0, (rq 0x051E 1 0 (zeros 64)), by decide⟩

theorem witness_g15_domainFaults : ∃ (s : State) (p : Port) (q : Request), Asked s p 0x051F q ∧ q.payload.length = 4 ∧ 1 ≤ leNat q.payload ∧ leNat q.payload ≤ 64 :=
  ⟨wAsk wServe (rq 0x051F 1 0 [1#8, 0#8, 0#8, 0#8]), .mb0, (rq 0x051F 1 0 [1#8, 0#8, 0#8, 0#8]), by decide⟩

theorem witness_g16_domainResultRead : ∃ (s : State) (p : Port) (q : Request) (o : Nat × Bytes × Nat), Asked s p 0x0520 q ∧ q.payload.length = 8 ∧ KeyMap.find s.ident.outputs q.realm = some o ∧ o.1 = field q.payload 0 4 ∧ field q.payload 4 4 ≤ o.2.1.length :=
  ⟨wAsk wOutput (rq 0x0520 1 0 ([1#8] ++ zeros 7)), .mb0, (rq 0x0520 1 0 ([1#8] ++ zeros 7)), (1, [5#8], 9), by decide⟩

theorem witness_g17_coalesceEntryClose : ∃ (s : State) (e : Coalesce) (rest : List Coalesce), s.alive = true ∧ s.ident.table = e :: rest :=
  ⟨wTable, wEntry, [], by decide⟩

theorem witness_g18_joinTicketExpire : ∃ (s : State) (k : Bytes × Bytes × Nat), s.alive = true ∧ s.ident.ticket = some k :=
  ⟨{ wServe with ident := { wServe.ident with ticket := some ([], [], 9) } }, ([], [], 9), by decide⟩

-- PairMailboxCommandsComplete
theorem witness_g0_pairStatus : ∃ (s : State) (p : Port) (q : Request), Asked s p 0x0601 q :=
  ⟨wAsk wServe (rq 0x0601 1 0 []), .mb0, (rq 0x0601 1 0 []), by decide⟩

theorem witness_g1_pairBind : ∃ (s : State) (p : Port) (q : Request), Asked s p 0x0602 q ∧ q.payload.length = cardLen :=
  ⟨wAsk wServe (rq 0x0602 1 0 (zeros cardLen)), .mb0, (rq 0x0602 1 0 (zeros cardLen)), by exact ⟨⟨by decide, rfl⟩, zeros_length _⟩⟩

theorem witness_g2_pairAccept : ∃ (s : State) (p : Port) (q : Request), Asked s p 0x0603 q ∧ q.payload.length = cardLen + pairPackageLen :=
  ⟨wAsk wServe (rq 0x0603 1 0 (zeros (cardLen + pairPackageLen))), .mb0, (rq 0x0603 1 0 (zeros (cardLen + pairPackageLen))), by exact ⟨⟨by decide, rfl⟩, zeros_length _⟩⟩

theorem witness_g3_pairUnbind : ∃ (s : State) (p : Port) (q : Request), Asked s p 0x0604 q ∧ s.pairRefusal = ST_OK ∧ q.payload = [] :=
  ⟨wAsk wLink (rq 0x0604 1 0 []), .mb0, (rq 0x0604 1 0 []), by decide⟩

theorem witness_g4_pairUnbind : ∃ (s : State) (p : Port) (q : Request), Asked s p 0x0604 q ∧ s.pairRefusal ≠ ST_OK ∧ q.payload = [] :=
  ⟨wAsk wServe (rq 0x0604 1 0 []), .mb0, (rq 0x0604 1 0 []), by decide⟩

theorem witness_g5_pairTakeover : ∃ (s : State) (p : Port) (q : Request), Asked s p 0x0605 q ∧ s.pairRefusal = ST_OK ∧ q.payload = [] :=
  ⟨wAsk wLink (rq 0x0605 1 0 []), .mb0, (rq 0x0605 1 0 []), by decide⟩

theorem witness_g6_pairTakeover : ∃ (s : State) (p : Port) (q : Request), Asked s p 0x0605 q ∧ s.pairRefusal ≠ ST_OK ∧ q.payload = [] :=
  ⟨wAsk wServe (rq 0x0605 1 0 []), .mb0, (rq 0x0605 1 0 []), by decide⟩

theorem witness_g7_pairUnfence : ∃ (s : State) (p : Port) (q : Request), Asked s p 0x0606 q ∧ s.pairRefusal = ST_OK ∧ q.payload = [] :=
  ⟨wAsk wLink (rq 0x0606 1 0 []), .mb0, (rq 0x0606 1 0 []), by decide⟩

theorem witness_g8_pairUnfence : ∃ (s : State) (p : Port) (q : Request), Asked s p 0x0606 q ∧ s.pairRefusal ≠ ST_OK ∧ q.payload = [] :=
  ⟨wAsk wServe (rq 0x0606 1 0 []), .mb0, (rq 0x0606 1 0 []), by decide⟩

theorem witness_g9_pairRekey : ∃ (s : State) (p : Port) (q : Request), Asked s p 0x0607 q ∧ q.payload = [] :=
  ⟨wAsk wPaired (rq 0x0607 1 0 []), .mb0, (rq 0x0607 1 0 []), by decide⟩

theorem witness_g10_pairResultRead : ∃ (s : State) (p : Port) (q : Request) (o : Nat × Bytes × Nat), Asked s p 0x0608 q ∧ q.payload.length = 8 ∧ KeyMap.find s.ident.outputs q.realm = some o ∧ o.1 = field q.payload 0 4 ∧ field q.payload 4 4 ≤ o.2.1.length :=
  ⟨wAsk wOutput (rq 0x0608 1 0 ([1#8] ++ zeros 7)), .mb0, (rq 0x0608 1 0 ([1#8] ++ zeros 7)), (1, [5#8], 9), by decide⟩

-- ChordCommandsComplete
theorem witness_g0_chordAdmit : ∃ (s : State), s.alive = true ∧ s.pair.hello = true ∧ s.pair.lanes ≠ 0 :=
  ⟨wLink, by decide⟩

theorem witness_g1_chordRel : ∃ (s : State), s.alive = true ∧ s.pair.hello = true ∧ s.pair.lanes ≠ 0 :=
  ⟨wLink, by decide⟩

theorem witness_g2_chordAck : ∃ (s : State), s.alive = true ∧ s.pair.hello = true ∧ s.pair.lanes ≠ 0 :=
  ⟨wLink, by decide⟩

theorem witness_g3_chordFenceTest : ∃ (s : State), s.alive = true ∧ s.pair.hello = true ∧ s.pair.lanes ≠ 0 :=
  ⟨wLink, by decide⟩

theorem witness_g4_chordSync : ∃ (s : State), s.alive = true ∧ s.pair.hello = true ∧ s.pair.lanes ≠ 0 :=
  ⟨wLink, by decide⟩

theorem witness_g5_chordBeat : ∃ (s : State), s.alive = true ∧ s.pair.hello = true ∧ s.pair.lanes ≠ 0 :=
  ⟨wLink, by decide⟩

theorem witness_g6_chordHello : ∃ (s : State), s.alive = true ∧ (s.isPaired = false ∨ s.pair.lanes = 0 ∨ s.pair.nonce = []) :=
  ⟨wServe, by decide⟩

theorem witness_g7_chordHello : ∃ (s : State) (k : Bytes), s.alive = true ∧ s.isPaired = true ∧ s.pair.lanes ≠ 0 ∧ s.pair.nonce ≠ [] ∧ s.linkKey = some k :=
  ⟨wLink, wLink.linkKey.getD [], by exact ⟨rfl, rfl, by decide, by decide, rfl⟩⟩

-- ExchangeCommandsComplete
theorem witness_g0_chordPrepare : ∃ (s : State), s.alive = true ∧ s.pair.hello = true ∧ s.pair.lanes ≠ 0 :=
  ⟨wLink, by decide⟩

theorem witness_g1_chordReady : ∃ (s : State), s.alive = true ∧ s.pair.hello = true ∧ s.pair.lanes ≠ 0 :=
  ⟨wLink, by decide⟩

theorem witness_g2_chordCommit : ∃ (s : State), s.alive = true ∧ s.pair.hello = true ∧ s.pair.lanes ≠ 0 :=
  ⟨wLink, by decide⟩

theorem witness_g3_chordCommitAck : ∃ (s : State), s.alive = true ∧ s.pair.hello = true ∧ s.pair.lanes ≠ 0 :=
  ⟨wLink, by decide⟩

theorem witness_g4_chordNack : ∃ (s : State), s.alive = true ∧ s.pair.hello = true ∧ s.pair.lanes ≠ 0 :=
  ⟨wLink, by decide⟩

theorem witness_g5_chordAbort : ∃ (s : State), s.alive = true ∧ s.pair.hello = true ∧ s.pair.lanes ≠ 0 :=
  ⟨wLink, by decide⟩

theorem witness_g6_chordResolve : ∃ (s : State), s.alive = true ∧ s.pair.hello = true ∧ s.pair.lanes ≠ 0 :=
  ⟨wLink, by decide⟩

theorem witness_g7_readyTimeout : ∃ (s : State) (n : Nat) (e : Exchange), s.alive = true ∧ earliest s.pair.own .prepared = some (n, e) :=
  ⟨wOwn, 4, wExchange, by decide⟩

theorem witness_g8_commitWaitTimeout : ∃ (s : State) (n : Nat) (e : Exchange), s.alive = true ∧ earliest s.pair.theirs .prepared = some (n, e) :=
  ⟨wTheirs, 4, wExchange, by decide⟩

-- PairEventCommandsComplete
theorem witness_g0_linkTrained : ∃ (s : State) (a : Nat × Nat) (m : Nat × Nat), s.alive = true ∧ s.pair.lanes ≠ 0 ∧ 250 ≤ a.1 ∧ 20 ≤ a.2 ∧ 250 ≤ m.1 ∧ 20 ≤ m.2 :=
  ⟨wLink, (300, 30), (300, 30), by decide⟩

theorem witness_g1_linkTrained : ∃ (s : State) (a : Nat × Nat) (m : Nat × Nat), s.alive = true ∧ s.pair.lanes = 0 ∧ 250 ≤ a.1 ∧ 20 ≤ a.2 ∧ 250 ≤ m.1 ∧ 20 ≤ m.2 :=
  ⟨wServe, (300, 30), (300, 30), by decide⟩

theorem witness_g2_linkTrained : ∃ (s : State) (a : Nat × Nat) (m : Nat × Nat), s.alive = true ∧ s.pair.lanes ≠ 0 ∧ 250 ≤ a.1 ∧ 20 ≤ a.2 ∧ (m.1 < 250 ∨ m.2 < 20) :=
  ⟨wLink, (300, 30), (249, 30), by decide⟩

theorem witness_g3_linkTrained : ∃ (s : State) (a : Nat × Nat) (m : Nat × Nat), s.alive = true ∧ s.pair.lanes = 0 ∧ 250 ≤ a.1 ∧ 20 ≤ a.2 ∧ (m.1 < 250 ∨ m.2 < 20) :=
  ⟨wServe, (300, 30), (249, 30), by decide⟩

theorem witness_g4_linkTrained : ∃ (s : State) (a : Nat × Nat) (m : Nat × Nat), s.alive = true ∧ (a.1 < 250 ∨ a.2 < 20) ∧ (m.1 < 250 ∨ m.2 < 20) :=
  ⟨wServe, (300, 19), (249, 30), by decide⟩

theorem witness_g5_laneRetrain : ∃ (s : State) (i : Nat), s.alive = true ∧ i < 2 ∧ bit s.pair.lanes i = true :=
  ⟨wLink, 1, by decide⟩

theorem witness_g6_laneRetrain : ∃ (s : State) (i : Nat), s.alive = true ∧ (2 ≤ i ∨ bit s.pair.lanes i = false) :=
  ⟨wServe, 1, by decide⟩

theorem witness_g7_heartbeatWindow : ∃ (s : State), s.alive = true ∧ s.isPaired = false :=
  ⟨wServe, by decide⟩

theorem witness_g8_heartbeatWindow : ∃ (s : State), s.alive = true ∧ s.isPaired = true ∧ s.pair.beat = true ∧ s.pair.mode = .paired ∧ s.pair.early = [] :=
  ⟨{ wLink with pair := { wLink.pair with beat := true } }, by decide⟩

theorem witness_g9_heartbeatWindow : ∃ (s : State), s.alive = true ∧ s.isPaired = true ∧ s.pair.beat = false ∧ s.pair.mode = .paired ∧ s.pair.early = [] ∧ s.pair.missed + 1 ≠ (if s.cfgNat F_PAIR_ROLE 0 = 0 then 16 else 24) :=
  ⟨wLink, by decide⟩

theorem witness_g10_pairDeadline : ∃ (s : State) (d : Nat), s.alive = true ∧ s.pair.deadline = some d ∧ (s.isPaired = false ∨ s.pair.fenceIn = true) :=
  ⟨{ wServe with pair := { wServe.pair with deadline := some 9 } }, 9, by decide⟩

theorem witness_g11_pairDeadline : ∃ (s : State) (d : Nat), s.alive = true ∧ s.pair.deadline = some d ∧ s.isPaired = true ∧ s.pair.fenceIn = false ∧ s.pair.mode ≠ .solo ∧ (s.pair.mode ≠ .paired ∨ s.pair.fenceMe = true ∨ s.pair.fenceOut = true) ∧ (s.pair.fenceFault = false ∨ s.pair.fenceOut = true) :=
  ⟨{ wLink with pair := { wLink.pair with deadline := some 9, mode := .linkLost } }, 9, by decide⟩

theorem witness_g12_fenceInAsserted : ∃ (s : State), s.alive = true ∧ (¬ (s.pair.fenceOut = true ∧ s.cfgNat F_PAIR_ROLE 0 = 0)) ∧ s.pair.mode ≠ .fenced :=
  ⟨wServe, by decide⟩

theorem witness_g13_fenceInAsserted : ∃ (s : State), s.alive = true ∧ s.pair.fenceOut = true ∧ s.cfgNat F_PAIR_ROLE 0 = 0 :=
  ⟨{ wServe with pair := { wServe.pair with fenceOut := true } }, by decide⟩

theorem witness_g14_fenceInReleased : ∃ (s : State), s.alive = true ∧ s.pair.mode = .fenced :=
  ⟨{ wLink with pair := { wLink.pair with mode := .fenced, fenceIn := true } }, by decide⟩

theorem witness_g15_fenceInReleased : ∃ (s : State), s.alive = true ∧ s.pair.mode ≠ .fenced ∧ s.pair.fenceIn = true ∧ s.ms.gates.fenced = false :=
  ⟨{ wLink with pair := { wLink.pair with fenceIn := true }, ms := { wLink.ms with gates := ⟨false, false, false, false, false, false, false⟩ } }, by decide⟩

theorem witness_g16_fenceInReleased : ∃ (s : State), s.alive = true ∧ s.pair.mode ≠ .fenced ∧ s.pair.fenceIn = false :=
  ⟨wLink, by decide⟩

theorem witness_g17_fenceTestPulse : ∃ (s : State) (d : Nat), s.alive = true ∧ s.pair.pulseAt = some d ∧ s.pair.mode = .paired ∧ s.pair.pulseSeen = true :=
  ⟨{ wLink with pair := { wLink.pair with pulseAt := some 9, pulseSeen := true } }, 9, by decide⟩

theorem witness_g18_fenceTestPulse : ∃ (s : State) (d : Nat), s.alive = true ∧ s.pair.pulseAt = some d ∧ s.pair.mode = .paired ∧ s.pair.pulseSeen = false ∧ s.pair.pulseMissed = 0 :=
  ⟨{ wLink with pair := { wLink.pair with pulseAt := some 9, pulseSeen := false } }, 9, by decide⟩

theorem witness_g19_fenceTestPulse : ∃ (s : State), s.alive = true ∧ (s.pair.pulseAt = none ∨ s.pair.mode ≠ .paired) :=
  ⟨wServe, by decide⟩

theorem witness_g20_timeStep : ∃ (s : State) (d : Int), s.alive = true ∧ s.pair.timeStep = some d ∧ (s.bound.any fun ch => !(s.chan ch).admitted.isEmpty) = false :=
  ⟨{ wLink with pair := { wLink.pair with timeStep := some (-3) } }, -3, by decide⟩

theorem witness_g21_timeStep : ∃ (s : State), s.alive = true ∧ (s.pair.timeStep = none ∨ (s.bound.any fun ch => !(s.chan ch).admitted.isEmpty) = true) :=
  ⟨wServe, by decide⟩

theorem witness_g22_resyncComplete : ∃ (s : State), s.alive = true ∧ s.pair.hello = true ∧ s.pair.timeStep = none ∧ s.pair.source = some true :=
  ⟨{ wLink with pair := { wLink.pair with source := some true } }, by decide⟩

theorem witness_g23_resyncComplete : ∃ (s : State), s.alive = true ∧ s.pair.hello = true ∧ s.pair.timeStep = none ∧ s.pair.source = some false ∧ syncOf s.pair.sync 9 ≠ [] :=
  ⟨{ wLink with pair := { wLink.pair with source := some false, sync := [9#8 :: zeros 40] } }, by decide⟩

theorem witness_g24_resyncComplete : ∃ (s : State), s.alive = true ∧ (s.pair.hello = false ∨ s.pair.timeStep.isSome = true ∨ s.pair.source = none ∨ (s.pair.source = some false ∧ syncOf s.pair.sync 9 = [])) :=
  ⟨wServe, by decide⟩

-- SentinelEventsComplete
theorem witness_g0_detectorTrip : ∃ (s : State) (d : Nat) (k : TileClock) (m : Sample), s.ms.mode ≠ .off ∧ d < 22 ∧ ((quiet s).sampled k m).armed d = true ∧ (s.det d).tripped = false ∧ ((quiet s).sampled k m).compares m d = true :=
  ⟨wServe, 8, ⟨14, 1000000, true⟩, ⟨5, 830, 1800⟩, by decide⟩

theorem witness_g1_detectorTrip : ∃ (s : State) (k : TileClock) (m : Sample), s.ms.mode ≠ .off ∧ ((quiet s).sampled k m).glitchSpan.1 ≤ m.core + 80 ∧ m.core ≤ ((quiet s).sampled k m).glitchSpan.2 + 80 :=
  ⟨wServe, ⟨14, 1000000, true⟩, ⟨5, 850, 1800⟩, by decide⟩

theorem witness_g2_detectorTrip : ∃ (s : State) (d : Nat), s.ms.mode = .sentinel ∧ d < 22 ∧ s.armed d = true ∧ (s.det d).tripped = false ∧ d ≠ 15 ∧ d ≠ 16 :=
  ⟨wSentinel, 2, by decide⟩

theorem witness_g3_detectorTrip : ∃ (s : State), s.ms.mode = .off :=
  ⟨wOff, by decide⟩

theorem witness_g4_detectorQuiet : ∃ (s : State) (d : Nat), d < 22 ∧ s.armed d = true :=
  ⟨wServe, 8, by decide⟩

theorem witness_g5_detectorStimulationTest : ∃ (s : State) (d : Nat) (n : Nat), 6 ≤ d ∧ d < 22 ∧ s.armed d = true ∧ (s.det d).testDue = some n :=
  ⟨wTested, 8, 9, by decide⟩

theorem witness_g6_detectorStimulationTest : ∃ (s : State) (d : Nat), (d < 6 ∨ 22 ≤ d ∨ s.armed d = false ∨ (s.det d).testDue = none) :=
  ⟨wServe, 5, by decide⟩

theorem witness_g7_lockstepDisagree : ∃ (s : State), s.alive = true :=
  ⟨wServe, by decide⟩

theorem witness_g8_busIntegrityMismatch : ∃ (s : State), s.alive = true :=
  ⟨wServe, by decide⟩

theorem witness_g9_sentinelPowerOn : ∃ (s : State), (s.supply.sentinel = false ∨ s.ms.mode = .sentinel) :=
  ⟨wOff, by decide⟩

theorem witness_g10_sentinelPowerOn : ∃ (s : State), s.supply.sentinel = true ∧ s.ms.mode ≠ .sentinel :=
  ⟨wServe, by decide⟩

theorem witness_g11_cellStateChange : ∃ (s : State), s.alive = true :=
  ⟨wServe, by decide⟩

theorem witness_g12_chargerTimerExpire : ∃ (s : State) (d : Nat), s.alive = true ∧ s.tamper.cell.since = some d ∧ charging s.tamper.cell.state = true :=
  ⟨wCharging, 4, by decide⟩

theorem witness_g13_chargeEstimate : ∃ (s : State), s.alive = true ∧ s.tamper.cell.estimate = 1 :=
  ⟨wEstimate, by decide⟩

theorem witness_g14_gaugeLevelCross : ∃ (s : State), s.supply.sentinel = true ∧ s.alive = false :=
  ⟨wSentinel, by decide⟩

theorem witness_g15_gaugeLevelCross : ∃ (s : State), s.alive = true ∧ s.supply.sentinel = true :=
  ⟨wServe, by decide⟩

-- SentinelMailboxCommandsComplete
theorem witness_g0_tamperStatus : ∃ (s : State) (p : Port) (q : Request), Asked s p 0x0701 q :=
  ⟨wAsk wServe (rq 0x0701 1 0 []), .mb0, (rq 0x0701 1 0 []), by decide⟩

theorem witness_g1_cellStatus : ∃ (s : State) (p : Port) (q : Request), Asked s p 0x0702 q :=
  ⟨wAsk wServe (rq 0x0702 1 0 []), .mb0, (rq 0x0702 1 0 []), by decide⟩

theorem witness_g2_sentinelLogRead : ∃ (s : State) (p : Port) (q : Request), Asked s p 0x0703 q :=
  ⟨wAsk wServe (rq 0x0703 1 0 []), .mb0, (rq 0x0703 1 0 []), by decide⟩

theorem witness_g3_detectorTest : ∃ (s : State) (p : Port) (q : Request), Asked s p 0x0704 q ∧ q.payload.length = 1 ∧ 6 ≤ leNat q.payload ∧ leNat q.payload ≤ 21 :=
  ⟨wAsk wServe (rq 0x0704 1 0 [8#8]), .mb0, (rq 0x0704 1 0 [8#8]), by decide⟩

theorem witness_g4_zeroiseCommand : ∃ (s : State) (p : Port) (q : Request), Asked s p 0x0705 q :=
  ⟨wAsk wServe (rq 0x0705 1 0 []), .mb0, (rq 0x0705 1 0 []), by decide⟩

theorem witness_g5_zeroiseCommand : ∃ (s : State) (p : Port) (q : Request), Asked s p 0x0705 q ∧ q.payload = [] ∧ q.realm = 0 ∧ (s.realm 0).admin.isSome = true ∧ s.pendingAct 0 = none :=
  ⟨wAsk wAdmin (rq 0x0705 1 0 []), .mb0, (rq 0x0705 1 0 []), by decide⟩

theorem witness_g6_rtcSet : ∃ (s : State) (p : Port) (q : Request), Asked s p 0x0706 q ∧ q.payload.length = 6 :=
  ⟨wAsk wAdmin (rq 0x0706 1 0 (zeros 6)), .mb0, (rq 0x0706 1 0 (zeros 6)), by decide⟩

-- LifecycleCommandsComplete
theorem witness_g0_otpWordProgram : ∃ (s : State) (j : OtpJob) (rest : List OtpJob) (x : Nat × Nat), s.alive = true ∧ s.otp.jobs = j :: rest ∧ (lockedBy j).any (fun n => !State.complete { (quiet s) with otp := { s.otp with jobs := rest, jobSince := s.now } } n) = false ∧ s.jobBits j = some x :=
  ⟨wJobs, ⟨0x18, 1, 0, none, .nothing⟩, [], (0x18, 1), by decide⟩

theorem witness_g1_otpWordProgram : ∃ (s : State) (j : OtpJob) (rest : List OtpJob), s.alive = true ∧ s.otp.jobs = j :: rest ∧ (lockedBy j).any (fun n => !State.complete { (quiet s) with otp := { s.otp with jobs := rest, jobSince := s.now } } n) = false ∧ s.jobBits j = none :=
  ⟨wFullJobs, ⟨0x18, 0, 2, none, .nothing⟩, [], by decide⟩

theorem witness_g2_otpWordProgram : ∃ (s : State) (w : Nat), s.alive = true ∧ s.otp.jobs = [] ∧ s.isTest = true ∧ s.factoryOpen = true ∧ s.otp.testDisable = false ∧ otpListed w = true :=
  ⟨wTest, 0x18, by decide⟩

theorem witness_g3_factoryBlankToTest : ∃ (s : State), s.alive = true ∧ s.isBlank = true ∧ s.factoryOpen = true ∧ s.otp.jobs = [] ∧ 3 ≤ s.boot.step :=
  ⟨wStep 3, by decide⟩

theorem witness_g4_factoryEnrolment : ∃ (s : State) (k : Nat), s.alive = true ∧ s.isTest = true ∧ s.factoryOpen = true ∧ s.boot.apex = true ∧ s.otp.jobs = [] ∧ k < 2 ∧ s.unused (9 + k) = true :=
  ⟨wTest, 0, by decide +kernel⟩

theorem witness_g5_factoryTestToProduction : ∃ (s : State), s.alive = true ∧ s.isTest = true ∧ s.factoryOpen = true ∧ s.boot.apex = true ∧ s.otp.jobs = [] ∧ s.otp.bootKeys ≠ 0 :=
  ⟨{ wTest with otp := { wTest.otp with bootKeys := 1 } }, by decide⟩

theorem witness_g6_factoryScrap : ∃ (s : State), s.alive = true ∧ s.factoryOpen = true ∧ s.otp.jobs = [] ∧ (3 ≤ s.boot.step ∨ (s.isTest = true ∧ s.boot.step = 0)) :=
  ⟨wStep 3, by decide⟩

theorem witness_g7_lcStatus : ∃ (s : State) (p : Port) (q : Request), Asked s p 0x0801 q :=
  ⟨wAsk wServe (rq 0x0801 1 0 []), .mb0, (rq 0x0801 1 0 []), by decide⟩

theorem witness_g8_otpRead : ∃ (s : State) (p : Port) (q : Request), Asked s p 0x0802 q ∧ q.payload.length = 4 ∧ field q.payload 2 2 ≤ 1000 ∧ field q.payload 0 2 + field q.payload 2 2 ≤ 2048 :=
  ⟨wAsk wServe (rq 0x0802 1 0 [0#8, 0#8, 1#8, 0#8]), .mb0, (rq 0x0802 1 0 [0#8, 0#8, 1#8, 0#8]), by decide⟩

theorem witness_g9_lcCommission : ∃ (s : State) (p : Port) (q : Request), Asked s p 0x0803 q ∧ q.realm = 0 :=
  ⟨wAsk wServe (rq 0x0803 1 0 (zeros 16)), .mb0, (rq 0x0803 1 0 (zeros 16)), by decide⟩

theorem witness_g10_lcRecommission : ∃ (s : State) (p : Port) (q : Request), Asked s p 0x0804 q ∧ q.realm = 0 :=
  ⟨wAsk wServe (rq 0x0804 1 0 (zeros 16)), .mb0, (rq 0x0804 1 0 (zeros 16)), by decide⟩

theorem witness_g11_lcScrap : ∃ (s : State) (p : Port) (q : Request), Asked s p 0x0805 q ∧ q.realm = 0 :=
  ⟨wAsk wQuar (rq 0x0805 1 0 (zeros 16)), .mb0, (rq 0x0805 1 0 (zeros 16)), by decide +kernel⟩

-- DebugCommandsComplete
theorem witness_g0_debugChallenge : ∃ (s : State) (p : Port) (q : Request), Asked s p 0x0806 q :=
  ⟨wAsk wServe (rq 0x0806 1 0 []), .mb0, (rq 0x0806 1 0 []), by decide⟩

theorem witness_g1_debugOpen : ∃ (s : State) (p : Port) (q : Request), Asked s p 0x0807 q ∧ q.payload.length = 7952 :=
  ⟨wAsk wServe (rq 0x0807 1 0 (zeros 7952)), .mb0, (rq 0x0807 1 0 (zeros 7952)), by exact ⟨⟨by decide, rfl⟩, zeros_length _⟩⟩

theorem witness_g2_debugClose : ∃ (s : State) (p : Port) (q : Request), Asked s p 0x0808 q ∧ q.payload = [] :=
  ⟨wAsk wServe (rq 0x0808 1 0 []), .mb0, (rq 0x0808 1 0 []), by decide⟩

theorem witness_g3_debugLifetimeExpire : ∃ (s : State) (d : Nat), s.alive = true ∧ s.jtag.limit = some d :=
  ⟨{ wServe with jtag := { wServe.jtag with limit := some 9 } }, 9, by decide⟩

theorem witness_g4_debugDisablePermanent : ∃ (s : State) (p : Port) (q : Request), Asked s p 0x0809 q ∧ q.payload = [] :=
  ⟨wAsk wAdmin (rq 0x0809 1 0 []), .mb0, (rq 0x0809 1 0 []), by decide⟩

-- FirmwareCommandsComplete
theorem witness_g0_fwStatus : ∃ (s : State) (p : Port) (q : Request), Asked s p 0x0A01 q :=
  ⟨wAsk wServe (rq 0x0A01 1 0 []), .mb0, (rq 0x0A01 1 0 []), by decide⟩

theorem witness_g1_fwSlotErase : ∃ (s : State) (p : Port) (q : Request), Asked s p 0x0A02 q ∧ q.payload.length = 1 ∧ kindOk (byteAt q.payload 0) = true :=
  ⟨wAsk wServe (rq 0x0A02 1 0 [1#8]), .mb0, (rq 0x0A02 1 0 [1#8]), by decide⟩

theorem witness_g2_fwSlotEraseDone : ∃ (s : State) (k : Nat), s.alive = true ∧ s.fw.erasing = some k :=
  ⟨wErasing, 1, by decide⟩

theorem witness_g3_fwSlotEraseDone : ∃ (s : State) (k : Nat), s.alive = true ∧ s.fw.erasing = some k :=
  ⟨wErasing, 1, by decide⟩

theorem witness_g4_fwStage : ∃ (s : State) (p : Port) (q : Request), Asked s p 0x0A03 q ∧ 6 ≤ q.payload.length ∧ q.payload.length ≤ 4005 ∧ kindOk (byteAt q.payload 0) = true ∧ s.fw.erasing = none ∧ field q.payload 1 4 = (s.image (byteAt q.payload 0) (s.inactiveSlot (byteAt q.payload 0))).length ∧ field q.payload 1 4 + (q.payload.length - 5) ≤ slotSize (byteAt q.payload 0) :=
  ⟨wAsk wServe (rq 0x0A03 1 0 [1#8, 0#8, 0#8, 0#8, 0#8, 7#8]), .mb0, (rq 0x0A03 1 0 [1#8, 0#8, 0#8, 0#8, 0#8, 7#8]), by decide⟩

theorem witness_g5_fwStageEnd : ∃ (s : State) (p : Port) (q : Request), Asked s p 0x0A04 q ∧ q.payload.length = 1 ∧ kindOk (byteAt q.payload 0) = true :=
  ⟨wAsk wServe (rq 0x0A04 1 0 [1#8]), .mb0, (rq 0x0A04 1 0 [1#8]), by decide⟩

theorem witness_g6_fwActivate : ∃ (s : State) (p : Port) (q : Request), Asked s p 0x0A05 q :=
  ⟨wAsk wServe (rq 0x0A05 1 0 [1#8]), .mb0, (rq 0x0A05 1 0 [1#8]), by decide⟩

theorem witness_g7_fwActivateRestart : ∃ (s : State) (d : Nat), s.alive = true ∧ s.fw.restartAt = some d :=
  ⟨{ wServe with fw := { wServe.fw with restartAt := some 9 } }, 9, by decide⟩

theorem witness_g8_fwSvnCommit : ∃ (s : State) (p : Port) (q : Request), Asked s p 0x0A06 q ∧ q.payload = [] :=
  ⟨wAsk wAdmin (rq 0x0A06 1 0 []), .mb0, (rq 0x0A06 1 0 []), by decide⟩

theorem witness_g9_fwKeyRevoke : ∃ (s : State) (p : Port) (q : Request), Asked s p 0x0A07 q :=
  ⟨wAsk wServe (rq 0x0A07 1 0 [1#8]), .mb0, (rq 0x0A07 1 0 [1#8]), by decide⟩

-- RecorderCommandsComplete
theorem witness_g0_journalFlush : ∃ (s : State) (d : Nat), s.alive = true ∧ s.recorder.flushBy = some d ∧ s.recorder.running = true ∧ s.recorder.retryAt = none :=
  ⟨wFlush, 9, by decide⟩

theorem witness_g1_journalFlushRetry : ∃ (s : State) (d : Nat), s.alive = true ∧ s.recorder.retryAt = some d ∧ s.recorder.running = true :=
  ⟨{ wFlush with recorder := { wFlush.recorder with retryAt := some 9 } }, 9, by decide⟩

theorem witness_g2_recorderRoomReturns : ∃ (s : State), s.alive = true ∧ s.recorder.running = true ∧ s.recorder.dropped ≠ 0 ∧ s.recorder.staging.length < 64 :=
  ⟨{ wFlush with recorder := { wFlush.recorder with dropped := 3 } }, by decide⟩

theorem witness_g3_periodicTrigger : ∃ (s : State) (k : Nat), s.alive = true ∧ s.recorder.running = true ∧ 16 ≤ k ∧ k < 64 ∧ field (s.cfg F_TRIG_SOURCE k) 0 2 = 0x20 ∧ field (s.cfg F_TRIG_SOURCE k) 4 4 ≠ 0 :=
  ⟨wPeriodic, 20, by decide⟩

theorem witness_g4_histSample : ∃ (s : State) (h : Nat), s.alive = true ∧ h < 64 ∧ s.recorder.running = true ∧ (field (s.cfg F_HIST_CONFIG h) 0 2 = 2 ∨ field (s.cfg F_HIST_CONFIG h) 0 2 = 3 ∨ field (s.cfg F_HIST_CONFIG h) 0 2 = 6 ∨ field (s.cfg F_HIST_CONFIG h) 0 2 = 9 ∨ field (s.cfg F_HIST_CONFIG h) 0 2 = 0xA) :=
  ⟨wHist, 3, by decide⟩

theorem witness_g5_histSample : ∃ (s : State) (h : Nat), s.alive = true ∧ h < 64 ∧ s.recorder.running = true ∧ field (s.cfg F_HIST_CONFIG h) 0 2 = 7 :=
  ⟨wStretchHist, 3, by decide⟩

theorem witness_g6_histSample : ∃ (s : State) (h : Nat), s.alive = true ∧ h < 64 ∧ s.recorder.running = true ∧ field (s.cfg F_HIST_CONFIG h) 0 2 = 5 ∧ s.laneUp (field (s.cfg F_HIST_CONFIG h) 4 4) = true :=
  ⟨wLaneHist, 3, by decide⟩

theorem witness_g7_histCheckpoint : ∃ (s : State), s.alive = true ∧ s.recorder.running = true :=
  ⟨wFlush, by decide⟩

theorem witness_g8_recStatus : ∃ (s : State) (p : Port) (q : Request), Asked s p 0x0901 q :=
  ⟨wAsk wServe (rq 0x0901 1 0 []), .mb0, (rq 0x0901 1 0 []), by decide⟩

theorem witness_g9_recRead : ∃ (s : State) (p : Port) (q : Request), Asked s p 0x0902 q ∧ q.payload.length = 12 ∧ 1 ≤ field q.payload 8 4 ∧ field q.payload 8 4 ≤ 31 :=
  ⟨wAsk wServe (rq 0x0902 1 0 (zeros 8 ++ u32 1)), .mb0, (rq 0x0902 1 0 (zeros 8 ++ u32 1)), by decide⟩

theorem witness_g10_recHistRead : ∃ (s : State) (p : Port) (q : Request), Asked s p 0x0903 q ∧ q.payload.length = 5 ∧ 1 ≤ field q.payload 1 4 ∧ field q.payload 1 4 ≤ 20 ∧ byteAt q.payload 0 + field q.payload 1 4 ≤ 64 :=
  ⟨wAsk wServe (rq 0x0903 1 0 ([0#8] ++ u32 1)), .mb0, (rq 0x0903 1 0 ([0#8] ++ u32 1)), by decide⟩

theorem witness_g11_recExport : ∃ (s : State) (p : Port) (q : Request), Asked s p 0x0904 q :=
  ⟨wAsk wServe (rq 0x0904 1 0 (zeros 8)), .mb0, (rq 0x0904 1 0 (zeros 8)), by decide⟩

theorem witness_g12_recResultRead : ∃ (s : State) (p : Port) (q : Request) (o : Nat × Bytes × Nat), Asked s p 0x0905 q ∧ q.payload.length = 8 ∧ KeyMap.find s.ident.outputs q.realm = some o ∧ o.1 = field q.payload 0 4 ∧ field q.payload 4 4 ≤ o.2.1.length :=
  ⟨wAsk wOutput (rq 0x0905 1 0 ([1#8] ++ zeros 7)), .mb0, (rq 0x0905 1 0 ([1#8] ++ zeros 7)), (1, [5#8], 9), by decide⟩

theorem witness_g13_recHistReset : ∃ (s : State) (p : Port) (q : Request), Asked s p 0x0906 q ∧ q.payload.length = 8 :=
  ⟨wAsk wAdmin (rq 0x0906 1 0 (zeros 8)), .mb0, (rq 0x0906 1 0 (zeros 8)), by decide⟩

-- TileCommandsComplete
theorem witness_g0_crossingTimeout : ∃ (s : State) (a : Nat) (b : Nat) (items : List (Nat × Nat)), s.alive = true ∧ a ≤ 23 ∧ b ≤ 23 ∧ a ≠ b ∧ (∀ p ∈ items, p.1 ≠ 0) :=
  ⟨wAdmitted, 1, 14, [(3, 1)], by decide⟩

theorem witness_g1_crossingTimeout : ∃ (s : State) (a : Nat) (b : Nat) (n : Nat) (x : Feed), s.alive = true ∧ a ≤ 23 ∧ b ≤ 23 ∧ a ≠ b ∧ KeyMap.find s.cipher.feeds n = some x :=
  ⟨wFeed, 1, 14, 5, wFeedRec, by decide⟩

theorem witness_g2_crossingTimeout : ∃ (s : State) (a : Nat) (b : Nat), s.alive = true ∧ (23 < a ∨ 23 < b ∨ a = b) :=
  ⟨wServe, 1, 1, by decide⟩

theorem witness_g3_livenessToggleResumes : ∃ (s : State) (b : Nat), s.alive = true ∧ b ≠ countTile :=
  ⟨wServe, 14, by decide⟩

theorem witness_g4_livenessToggleResumes : ∃ (s : State), s.alive = true :=
  ⟨wServe, by decide⟩

theorem witness_g5_avsLowerTimer : ∃ (s : State) (due : Nat), s.alive = true ∧ s.tiles.avs.lowerDue = some due ∧ s.tiles.avs.write = none ∧ s.tiles.avs.retryAt = none :=
  ⟨wAvs none none (some 4), 1000004, by decide⟩

theorem witness_g6_avsFrameComplete : ∃ (s : State) (w : AvsWrite), s.alive = true ∧ s.tiles.avs.write = some w ∧ s.tiles.avs.retryAt = none ∧ w.readback = false :=
  ⟨wAvs (some wAvsW) none none, wAvsW, by decide⟩

theorem witness_g7_avsFrameComplete : ∃ (s : State) (w : AvsWrite), s.alive = true ∧ s.tiles.avs.write = some w ∧ s.tiles.avs.retryAt = none ∧ w.readback = true ∧ w.target < 65536 :=
  ⟨wAvs (some { wAvsW with readback := true }) none none, { wAvsW with readback := true }, by decide⟩

theorem witness_g8_avsFrameComplete : ∃ (s : State) (w : AvsWrite), s.alive = true ∧ s.tiles.avs.write = some w ∧ s.tiles.avs.retryAt = none ∧ w.readback = false :=
  ⟨wAvs (some wAvsW) none none, wAvsW, by decide⟩

theorem witness_g9_avsFrameComplete : ∃ (s : State) (w : AvsWrite) (v : Nat), s.alive = true ∧ s.tiles.avs.write = some w ∧ s.tiles.avs.retryAt = none ∧ w.readback = true ∧ v ≠ w.target :=
  ⟨wAvs (some { wAvsW with readback := true }) none none, { wAvsW with readback := true }, 740, by decide⟩

theorem witness_g10_avsFrameComplete : ∃ (s : State) (w : AvsWrite), s.alive = true ∧ s.tiles.avs.write = some w ∧ s.tiles.avs.retryAt = none ∧ w.readback = true :=
  ⟨wAvs (some { wAvsW with readback := true }) none none, { wAvsW with readback := true }, by decide⟩

theorem witness_g11_avsFrameComplete : ∃ (s : State), s.alive = true ∧ (s.tiles.avs.write = none ∨ s.tiles.avs.retryAt.isSome = true) :=
  ⟨wServe, by decide⟩

theorem witness_g12_avsWriteRetry : ∃ (s : State) (w : AvsWrite) (d : Nat), s.alive = true ∧ s.tiles.avs.write = some w ∧ s.tiles.avs.retryAt = some d :=
  ⟨wAvs (some wAvsW) (some 5) none, wAvsW, 5, by decide⟩

theorem witness_g13_avsFaultRetry : ∃ (s : State) (d : Nat), s.alive = true ∧ s.tiles.avs.write = none ∧ s.tiles.avs.retryAt = some d ∧ s.tiles.avs.mv < s.tiles.avs.demand :=
  ⟨{ wAvs none (some 5) none with tiles := { (wAvs none (some 5) none).tiles with avs := { (wAvs none (some 5) none).tiles.avs with demand := 900, mv := 800, lowSince := none } } }, 5, by decide⟩

theorem witness_g14_avsFaultRetry : ∃ (s : State) (d : Nat) (due : Nat), s.alive = true ∧ s.tiles.avs.write = none ∧ s.tiles.avs.retryAt = some d ∧ s.tiles.avs.demand ≤ s.tiles.avs.mv ∧ s.tiles.avs.lowerDue = some due ∧ due ≤ max s.now d :=
  ⟨{ { wAvs none (some 5) none with tiles := { (wAvs none (some 5) none).tiles with avs := { (wAvs none (some 5) none).tiles.avs with demand := 800, mv := 900, lowSince := some 4 } } } with now := 2000000 }, 5, 1000004, by decide⟩

theorem witness_g15_avsFaultRetry : ∃ (s : State) (d : Nat), s.alive = true ∧ s.tiles.avs.write = none ∧ s.tiles.avs.retryAt = some d ∧ s.tiles.avs.demand ≤ s.tiles.avs.mv ∧ (s.tiles.avs.lowerDue.all fun due => decide (max s.now d < due)) = true :=
  ⟨{ wAvs none (some 5) none with tiles := { (wAvs none (some 5) none).tiles with avs := { (wAvs none (some 5) none).tiles.avs with demand := 800, mv := 800, lowSince := none } } }, 5, by decide⟩

theorem witness_g16_loopInterval : ∃ (s : State) (n : Nat) (k : Int), s.alive = true ∧ n ≤ 23 ∧ 5 ≤ k ∧ k ≤ 11 :=
  ⟨wServe, 14, 8, by decide +kernel⟩

theorem witness_g17_loopInterval : ∃ (s : State) (n : Nat) (v : Nat) (k : Int), s.alive = true ∧ n ≤ 23 ∧ k < 5 ∧ (s.tile n).vlocal < ceilingMv v :=
  ⟨wServe, 14, 1000, 2, by decide +kernel⟩

theorem witness_g18_loopInterval : ∃ (s : State) (n : Nat) (k : Int), s.alive = true ∧ n ≤ 23 ∧ 11 < k ∧ (s.tile n).high + 1 ≠ 100 :=
  ⟨wServe, 14, 12, by decide +kernel⟩

theorem witness_g19_loopInterval : ∃ (s : State) (n : Nat) (k : Int), s.alive = true ∧ n ≤ 23 ∧ 11 < k ∧ (s.tile n).high = 99 :=
  ⟨wServe.updTile 14 fun x => { x with high := 99 }, 14, 12, by decide +kernel⟩

theorem witness_g20_clockStretch : ∃ (s : State) (n : Nat), s.alive = true ∧ n ≤ 23 ∧ cryptoTile n = false :=
  ⟨wServe, 21, by decide⟩

theorem witness_g21_clockStretch : ∃ (s : State) (n : Nat) (x : Tile), s.alive = true ∧ n ≤ 23 ∧ cryptoTile n = true ∧ (s.countStretch n).tile n = x ∧ x.sector.1 = s.now / 256 ∧ x.sector.2 + 1 ≠ 13 :=
  ⟨wServe, 14, wServe.countStretch 14 |>.tile 14, by decide⟩

theorem witness_g22_clockStretch : ∃ (s : State) (n : Nat) (x : Tile), s.alive = true ∧ n ≤ 23 ∧ cryptoTile n = true ∧ (s.countStretch n).tile n = x ∧ x.sector.1 ≠ s.now / 256 :=
  ⟨wLater, 14, wLater.countStretch 14 |>.tile 14, by decide⟩

theorem witness_g23_clockStretch : ∃ (s : State) (n : Nat), s.alive = true ∧ 23 < n :=
  ⟨wServe, 24, by decide⟩

/-- The 71 opcodes of the item commands. -/
def itemOpcodes : List Nat :=
  [0x10, 0x11, 0x12, 0x14, 0x15, 0x16, 0x18, 0x19, 0x1A, 0x20, 0x21, 0x22, 0x23, 0x24, 0x25, 0x26, 0x27, 0x28, 0x29, 0x2A, 0x2B, 0x2C, 0x2D,
    0x30, 0x31, 0x32, 0x33, 0x40, 0x41, 0x42, 0x43, 0x44, 0x45, 0x46, 0x47, 0x48, 0x49, 0x4A, 0x4B, 0x4C, 0x4D, 0x50, 0x51, 0x52, 0x53, 0x54,
    0x60, 0x61, 0x62, 0x63, 0x64, 0x65, 0x66, 0x67, 0x68, 0x69, 0x6A, 0x6B, 0x6C, 0x6D, 0x6E, 0x6F, 0x70, 0x71, 0x72, 0x73, 0x74, 0x75, 0x76,
    0x77, 0x78]

/-- A fetched descriptor carries each opcode, on a device that serves. -/
theorem witness_items_fetched : wRing.alive = true ∧ ∀ op ∈ itemOpcodes, dOpcode (BitVec.ofNat 8 op :: zeros 127) = op := by decide

/-- An item of each opcode is admitted with its key check passed and its work not run. -/
theorem witness_items_admitted : ∀ op ∈ itemOpcodes,
    (wWith (wItemOf op true)).alive = true ∧ Admitted (wWith (wItemOf op true)) 3 1 op (wItemOf op true)
      ∧ (wWith (wItemOf op true)).cutOff (wItemOf op true) = false := by
  intro op h
  exact ⟨rfl, ⟨rfl, witness_items_fetched.2 op h, rfl, rfl, rfl, fun h => nomatch h⟩, rfl⟩

/-- The same item, with no crossing from the host tile to the tiles of its plan. -/
def wCut (op : Nat) : State :=
  { wWith (wItemOf op true) with tiles := { TileState.reset with stuck := [(642, true), (643, true), (644, true), (645, true)] } }

/-- An item of each opcode is admitted and cannot have its transfers. -/
theorem witness_items_cut_off : ∀ op ∈ itemOpcodes,
    (wCut op).alive = true ∧ Admitted (wCut op) 3 1 op (wItemOf op true) ∧ (wCut op).cutOff (wItemOf op true) = true := by
  intro op h
  exact ⟨rfl, ⟨rfl, witness_items_fetched.2 op h, rfl, rfl, rfl, fun h => nomatch h⟩, rfl⟩

end Sys2Proof.Tests
end

section
/-!
PROOFS. The mailbox protocol of 03: doorbells (R68), I3C writes (R111), the limits on sessions (R81) and the transactions of a realm (R100).
-/

namespace Sys2Proof.Machine

open Sys2Proof.Slice0

/-! ### Requests in execution -/

/-- Where the request of a command is in flight on a live device, the command is the body that serves it (R69). -/
theorem runOn_serve_of_asked {s : State} {p : Port} {op : Nat} {q : Request} (h : Asked s p op q) (f : State → Request → State) :
    runOn s (fun s => serve s p op f) = .next (after s (f (begun s p q) q)) := by
  obtain ⟨halive, htaken⟩ := h
  have htaken' : State.taken { s with outbox := [] } p op = some q := by cases p <;> exact htaken
  rw [runOn_alive s _ halive, serve_some _ p op f q htaken']
  rfl

/-- Where no request is in flight, the command of a live device only empties the output side. -/
theorem runOn_serve_of_none {s : State} {p : Port} {op : Nat} (halive : s.alive = true) (htaken : s.taken p op = none)
    (f : State → Request → State) : runOn s (fun s => serve s p op f) = .next (quiet s) := by
  have htaken' : State.taken { s with outbox := [] } p op = none := by cases p <;> exact htaken
  rw [runOn_alive s _ halive, serve_none _ p op f htaken']
  rfl

@[simp] theorem begun_realm (s : State) (p : Port) (q : Request) (r : Nat) : (begun s p q).realm r = s.realm r := by
  cases p <;> rfl

@[simp] theorem begun_sessions (s : State) (p : Port) (q : Request) : (begun s p q).orfer.sessions = s.orfer.sessions := by
  cases p <;> rfl

/-- The queue has no part in a realm's state. -/
@[simp] theorem after_realm (s t : State) (r : Nat) : (after s t).realm r = t.realm r := rfl

@[simp] theorem State.updMbox_realm (s : State) (p : Port) (f : Mailbox → Mailbox) (r : Nat) : (s.updMbox p f).realm r = s.realm r := by
  cases p <;> rfl

@[simp] theorem State.updMbox_sessions (s : State) (p : Port) (f : Mailbox → Mailbox) : (s.updMbox p f).orfer.sessions = s.orfer.sessions := by
  cases p <;> rfl

@[simp] theorem State.updSession_realm (s : State) (i : Nat) (f : Session → Session) (r : Nat) : (s.updSession i f).realm r = s.realm r := by
  unfold State.updSession
  split <;> rfl

/-- A response reaches its mailbox; besides, it may be kept in its session, whose port stays (R69, R84). -/
theorem State.answer_eq (s : State) (q : Request) (status : Nat) (payload : Bytes) :
    ∃ u g, s.answer q status payload = u.updMbox q.port g
      ∧ (u = s ∨ ∃ f : Session → Session, (∀ x, (f x).port = x.port) ∧ u = s.updSession q.session f) := by
  unfold State.answer
  refine ⟨_, _, rfl, ?_⟩
  cases s.session q.session with
  | none => exact .inl rfl
  | some x =>
    dsimp only
    split
    · refine .inr ⟨_, ?_, rfl⟩
      exact fun _ => rfl
    · exact .inl rfl

/-- A response changes no realm. -/
@[simp] theorem State.answer_realm (s : State) (q : Request) (status : Nat) (payload : Bytes) (r : Nat) :
    (s.answer q status payload).realm r = s.realm r := by
  obtain ⟨u, g, h, rfl | ⟨f, -, rfl⟩⟩ := State.answer_eq s q status payload
  · rw [h, State.updMbox_realm]
  · rw [h, State.updMbox_realm, State.updSession_realm]

/-! ### Doorbells (R68) -/

/-- MB1 has no doorbell; on every other mailbox it is judged by what shuts the mailbox and by its length. -/
theorem State.doorbell_eq (s : State) (p : Port) (len : Nat) (h : p ≠ .mb1) :
    s.doorbell p len =
      let shut := !s.granted p || !s.portServed p || (s.mbox p).busy || (s.mbox p).rspValid
      let long := decide (len < 32 ∨ 4096 < len)
      if shut || long then s.updWindow p fun w => { w with dbIgnored := w.dbIgnored || shut, lenErr := w.lenErr || long }
      else (s.updMbox p fun m => { m with grantLimit := none }).deliver p (fit len (s.mbox p).request) := by
  cases p with
  | mb1 => exact absurd rfl h
  | mb0 => rfl
  | mb2 => rfl
  | mb3 fn => rfl

/-- A doorbell that the mailbox cannot take sets DB_IGNORED, and LEN_ERR where its length is out of range as well. -/
theorem State.doorbell_of_shut {s : State} {p : Port} (len : Nat) (hp : p ≠ .mb1)
    (h : s.portServed p = false ∨ s.granted p = false ∨ (s.mbox p).busy = true ∨ (s.mbox p).rspValid = true) :
    s.doorbell p len = s.updWindow p fun w => { w with dbIgnored := true, lenErr := w.lenErr || decide (len < 32 ∨ 4096 < len) } := by
  have hshut : (!s.granted p || !s.portServed p || (s.mbox p).busy || (s.mbox p).rspValid) = true := by
    rcases h with h | h | h | h <;> simp only [h, Bool.not_false, Bool.true_or, Bool.or_true]
  simp only [State.doorbell_eq s p len hp, hshut, Bool.true_or, if_true, Bool.or_true]

/-- A doorbell that the mailbox can take is judged by its length alone. -/
theorem State.doorbell_of_ready {s : State} {p : Port} (len : Nat) (hp : p ≠ .mb1) (hserved : s.portServed p = true) (hgranted : s.granted p = true)
    (hbusy : (s.mbox p).busy = false) (hvalid : (s.mbox p).rspValid = false) :
    s.doorbell p len =
      if len < 32 ∨ 4096 < len then s.updWindow p fun w => { w with lenErr := true }
      else (s.updMbox p fun m => { m with grantLimit := none }).deliver p (fit len (s.mbox p).request) := by
  have hshut : (!s.granted p || !s.portServed p || (s.mbox p).busy || (s.mbox p).rspValid) = false := by
    simp only [hserved, hgranted, hbusy, hvalid, Bool.not_true, Bool.or_false]
  simp only [State.doorbell_eq s p len hp, hshut, Bool.false_or, Bool.or_false, decide_eq_true_eq]
  split
  · next hlen => simp only [hlen, decide_true, Bool.or_true]
  · rfl

theorem exec_mbDoorbell (s : State) (p : Port) (len : Nat) (h : s.alive = true) :
    exec (.mbDoorbell p len) s = .next (after s ((quiet s).doorbell p len)) :=
  runOn_alive s (fun s => s.doorbell p len) h

/-! ### I3C writes (R111) -/

/-- The I3C block after one byte of an I3C write falls on the offset of the pointer. -/
def I3cState.writeByte (c : I3cState) (b : Byte) : I3cState :=
  let d := if c.pointer = 0x1E then { c with rdOverrun := c.rdOverrun && !bit b.toNat 0, wrIgnored := c.wrIgnored && !bit b.toNat 1 }
    else { c with wrIgnored := true }
  { d with pointer := min 0x80 (c.pointer + 1) }

/-- The I3C block after an I3C write: the first byte sets the pointer, the others are written from there. -/
def I3cState.privateWrite (c : I3cState) (a : Byte) (rest : Bytes) : I3cState :=
  rest.foldl I3cState.writeByte { c with pointer := min 0x80 a.toNat }

/-- A byte that falls on an offset other than 0x1E only sets WR_IGNORED. -/
theorem I3cState.writeByte_of_ne {c : I3cState} (b : Byte) (h : c.pointer ≠ 0x1E) :
    c.writeByte b = { c with wrIgnored := true, pointer := min 0x80 (c.pointer + 1) } := by
  simp only [I3cState.writeByte, if_neg h]

/-- The byte that falls on 0x1E clears the error bits by its bits 0 and 1. -/
theorem I3cState.writeByte_of_eq {c : I3cState} (b : Byte) (h : c.pointer = 0x1E) :
    c.writeByte b = { c with rdOverrun := c.rdOverrun && !b.getLsbD 0, wrIgnored := c.wrIgnored && !b.getLsbD 1, pointer := 0x1F } := by
  simp only [I3cState.writeByte, bit, BitVec.testBit_toNat, h]
  rfl

@[simp] theorem I3cState.writeByte_pointer (c : I3cState) (b : Byte) : (c.writeByte b).pointer = min 0x80 (c.pointer + 1) := rfl

/-- A byte written touches the pointer and the two error bits alone. -/
theorem I3cState.writeByte_frame (c : I3cState) (b : Byte) :
    c.writeByte b = { c with pointer := (c.writeByte b).pointer, rdOverrun := (c.writeByte b).rdOverrun, wrIgnored := (c.writeByte b).wrIgnored } := by
  unfold I3cState.writeByte
  split <;> rfl

theorem I3cState.foldl_writeByte_frame (bs : Bytes) (c : I3cState) :
    bs.foldl I3cState.writeByte c = { c with
      pointer := (bs.foldl I3cState.writeByte c).pointer
      rdOverrun := (bs.foldl I3cState.writeByte c).rdOverrun
      wrIgnored := (bs.foldl I3cState.writeByte c).wrIgnored } := by
  induction bs generalizing c with
  | nil => rfl
  | cons b bs ih =>
    rw [List.foldl_cons, ih (c.writeByte b), c.writeByte_frame b]

/-- The pointer moves past every byte written and stops at 0x80. -/
theorem I3cState.foldl_writeByte_pointer (bs : Bytes) (c : I3cState) (h : c.pointer ≤ 0x80) :
    (bs.foldl I3cState.writeByte c).pointer = min 0x80 (c.pointer + bs.length) := by
  induction bs generalizing c with
  | nil => exact (Nat.min_eq_right h).symm
  | cons b bs ih =>
    rw [List.foldl_cons, ih (c.writeByte b) (Nat.min_le_left ..), c.writeByte_pointer b, List.length_cons]
    omega

/-- Bytes none of which falls on 0x1E keep RD_OVERRUN and set WR_IGNORED, if there is one. -/
theorem I3cState.foldl_writeByte_miss (bs : Bytes) (c : I3cState) (h : c.pointer ≤ 0x1E → c.pointer + bs.length ≤ 0x1E) :
    (bs.foldl I3cState.writeByte c).rdOverrun = c.rdOverrun ∧ (bs.foldl I3cState.writeByte c).wrIgnored = (c.wrIgnored || !bs.isEmpty) := by
  induction bs generalizing c with
  | nil => exact ⟨rfl, (Bool.or_false _).symm⟩
  | cons b bs ih =>
    rw [List.length_cons] at h
    have hne : c.pointer ≠ 0x1E := by omega
    have hrest := ih (c.writeByte b) (by rw [c.writeByte_pointer b]; omega)
    rw [c.writeByte_of_ne b hne] at hrest
    rw [List.foldl_cons, c.writeByte_of_ne b hne, hrest.1, hrest.2]
    exact ⟨rfl, (Bool.or_true _).symm⟩

/-- Where a byte falls on 0x1E, those before it set WR_IGNORED, it clears the error bits, and those after it set WR_IGNORED again. -/
theorem I3cState.foldl_writeByte_hit (pre post : Bytes) (v : Byte) (c : I3cState) (h : c.pointer + pre.length = 0x1E) :
    ((pre ++ v :: post).foldl I3cState.writeByte c).rdOverrun = (c.rdOverrun && !v.getLsbD 0)
    ∧ ((pre ++ v :: post).foldl I3cState.writeByte c).wrIgnored = (((c.wrIgnored || !pre.isEmpty) && !v.getLsbD 1) || !post.isEmpty) := by
  obtain ⟨hrd, hwr⟩ := I3cState.foldl_writeByte_miss pre c (by omega)
  have hptr : (pre.foldl I3cState.writeByte c).pointer = 0x1E := by
    rw [I3cState.foldl_writeByte_pointer pre c (by omega)]
    omega
  have hpost := I3cState.foldl_writeByte_miss post ((pre.foldl I3cState.writeByte c).writeByte v) (by
    rw [I3cState.writeByte_pointer, hptr]
    omega)
  rw [I3cState.writeByte_of_eq v hptr] at hpost
  rw [List.foldl_append, List.foldl_cons, I3cState.writeByte_of_eq v hptr, hpost.1, hpost.2, hrd, hwr]
  exact ⟨rfl, rfl⟩

/-- An I3C write touches the pointer and the two error bits alone. -/
theorem I3cState.privateWrite_frame (c : I3cState) (a : Byte) (rest : Bytes) :
    c.privateWrite a rest = { c with
      pointer := (c.privateWrite a rest).pointer, rdOverrun := (c.privateWrite a rest).rdOverrun, wrIgnored := (c.privateWrite a rest).wrIgnored } :=
  I3cState.foldl_writeByte_frame rest { c with pointer := min 0x80 a.toNat }

theorem I3cState.privateWrite_pointer (c : I3cState) (a : Byte) (rest : Bytes) :
    (c.privateWrite a rest).pointer = min 0x80 (a.toNat + rest.length) := by
  rw [I3cState.privateWrite, I3cState.foldl_writeByte_pointer _ _ (Nat.min_le_left ..)]
  show min 0x80 (min 0x80 a.toNat + rest.length) = min 0x80 (a.toNat + rest.length)
  omega

/-- No byte falls on 0x1E where the first offset lies past it, or the last before it. -/
theorem I3cState.privateWrite_miss (c : I3cState) (a : Byte) (rest : Bytes) (h : a.toNat ≤ 0x1E → a.toNat + rest.length ≤ 0x1E) :
    (c.privateWrite a rest).rdOverrun = c.rdOverrun ∧ (c.privateWrite a rest).wrIgnored = (c.wrIgnored || !rest.isEmpty) := by
  refine I3cState.foldl_writeByte_miss rest { c with pointer := min 0x80 a.toNat } ?_
  show min 0x80 a.toNat ≤ 0x1E → min 0x80 a.toNat + rest.length ≤ 0x1E
  omega

theorem not_isEmpty_eq_decide {α : Type} {l : List α} {P : Prop} [Decidable P] (h : 0 < l.length ↔ P) : (!l.isEmpty) = decide P := by
  rw [Bool.eq_iff_iff, decide_eq_true_eq, ← h, List.length_pos_iff, Bool.not_eq_true', List.isEmpty_eq_false_iff]

/-- The byte that falls on 0x1E stands between those before it, if the first offset lies below, and those after it. -/
theorem I3cState.privateWrite_hit (c : I3cState) (a : Byte) (rest : Bytes) (v : Byte) (ha : a.toNat ≤ 0x1E) (hv : rest[0x1E - a.toNat]? = some v) :
    (c.privateWrite a rest).rdOverrun = (c.rdOverrun && !v.getLsbD 0)
    ∧ (c.privateWrite a rest).wrIgnored
      = (((c.wrIgnored || decide (a.toNat < 0x1E)) && !v.getLsbD 1) || decide (0x1F - a.toNat < rest.length)) := by
  obtain ⟨hlt, hget⟩ := List.getElem?_eq_some_iff.1 hv
  have hsplit : rest = rest.take (0x1E - a.toNat) ++ v :: rest.drop (0x1F - a.toNat) := by
    have hnext : 0x1F - a.toNat = 0x1E - a.toNat + 1 := by omega
    rw [hnext, ← hget, ← List.drop_eq_getElem_cons hlt, List.take_append_drop]
  have hlen : (rest.take (0x1E - a.toNat)).length = 0x1E - a.toNat := by
    rw [List.length_take]
    omega
  have hpre : (!(rest.take (0x1E - a.toNat)).isEmpty) = decide (a.toNat < 0x1E) :=
    not_isEmpty_eq_decide (by rw [hlen]; omega)
  have hpost : (!(rest.drop (0x1F - a.toNat)).isEmpty) = decide (0x1F - a.toNat < rest.length) :=
    not_isEmpty_eq_decide (by rw [List.length_drop]; omega)
  have hhit := I3cState.foldl_writeByte_hit (rest.take (0x1E - a.toNat)) (rest.drop (0x1F - a.toNat)) v { c with pointer := min 0x80 a.toNat } (by
    show min 0x80 a.toNat + (rest.take (0x1E - a.toNat)).length = 0x1E
    rw [hlen]
    omega)
  rw [← hsplit, hpre, hpost] at hhit
  exact hhit

/-- Bytes that each change the I3C block alone change it together. -/
theorem State.foldl_writeByte (bs : Bytes) (s : State) (c : I3cState) :
    bs.foldl (fun s b => { s with i3c := s.i3c.writeByte b }) { s with i3c := c } = { s with i3c := bs.foldl I3cState.writeByte c } := by
  induction bs generalizing c with
  | nil => rfl
  | cons b bs ih => exact ih (c.writeByte b)

/-- The bytes of an I3C write change the I3C block alone. -/
theorem exec_i3cPrivateWrite_cons (s : State) (a : Byte) (rest : Bytes) (h : s.alive = true) :
    exec (.i3cPrivateWrite (a :: rest)) s = .next { s with outbox := [], i3c := s.i3c.privateWrite a rest } := by
  have hrun : exec (.i3cPrivateWrite (a :: rest)) s = execI3cPrivateWrite (a :: rest) s := rfl
  rw [hrun, execI3cPrivateWrite, runOn_alive s _ h]
  exact congrArg (fun t : State => Host.Outcome.next { t with pending := s.pending }) (State.foldl_writeByte rest { s with outbox := [] } _)

/-! ### Sessions (R81) -/

/-- A write to a table adds at most the entry written to those that pass a test. -/
theorem KeyMap.countP_put_le {α : Type} (P : Nat × α → Bool) (m : KeyMap α) (n : Nat) (v : α) :
    (KeyMap.put m n v).countP P ≤ m.countP P + if P (n, v) then 1 else 0 := by
  induction m with
  | nil => exact Nat.le_of_eq List.countP_cons
  | cons e rest ih =>
    obtain ⟨k, w⟩ := e
    rw [KeyMap.put]
    split
    · simp only [List.countP_cons]
      omega
    · split
      · simp only [List.countP_cons]
        omega
      · simp only [List.countP_cons]
        omega

/-- A change to an entry that the table has keeps the number of those that pass a test, where the entry passes it as before. -/
theorem KeyMap.countP_put_of_find {α : Type} (P : Nat × α → Bool) {m : KeyMap α} {n : Nat} {x : α} (v : α) (hx : KeyMap.find m n = some x)
    (hP : P (n, v) = P (n, x)) : (KeyMap.put m n v).countP P = m.countP P := by
  induction m with
  | nil => exact nomatch hx
  | cons e rest ih =>
    obtain ⟨k, w⟩ := e
    rw [KeyMap.find] at hx
    rw [KeyMap.put]
    split at hx
    · rename_i hk
      obtain rfl : w = x := Option.some.inj hx
      subst hk
      rw [if_pos rfl, List.countP_cons, List.countP_cons, hP]
    · rename_i hk
      split at hx
      · exact nomatch hx
      · rename_i hlt
        rw [if_neg hk, if_neg hlt, List.countP_cons, List.countP_cons, ih hx]

/-- Sessions open on the ports that pass a test. -/
def sessionsWhere (P : Port → Bool) (s : State) : Nat := s.orfer.sessions.countP fun x => P x.2.port

theorem sessionsOn_eq (s : State) (p : Port) : sessionsOn s p = sessionsWhere (· == p) s := List.countP_eq_length_filter.symm

theorem virtualSessions_eq (s : State) : virtualSessions s = sessionsWhere (portNum · == 3) s := List.countP_eq_length_filter.symm

/-- A further session has room where its mailbox lies below its limit, and MB3 below 128 in all. -/
theorem State.sessionRoom_iff (s : State) (p : Port) :
    s.sessionRoom p = true ↔ sessionsOn s p < sessionLimit p ∧ (portNum p = 3 → virtualSessions s < 128) := by
  simp only [State.sessionRoom, sessionsOn, virtualSessions, Bool.and_eq_true, Bool.or_eq_true, decide_eq_true_eq, bne_iff_ne]
  exact and_congr_right fun _ => Decidable.imp_iff_not_or.symm

/-- Room depends on the sessions alone. -/
theorem sessionRoom_begun (s : State) (p : Port) (q : Request) : (begun s p q).sessionRoom p = s.sessionRoom p := by
  simp only [State.sessionRoom, begun_sessions]

theorem sessionsWhere_updMbox (P : Port → Bool) (s : State) (p : Port) (f : Mailbox → Mailbox) :
    sessionsWhere P (s.updMbox p f) = sessionsWhere P s := by
  simp only [sessionsWhere, State.updMbox_sessions]

/-- A change to a session that keeps its port keeps every count of sessions. -/
theorem sessionsWhere_updSession (P : Port → Bool) (s : State) (i : Nat) (f : Session → Session) (hf : ∀ x, (f x).port = x.port) :
    sessionsWhere P (s.updSession i f) = sessionsWhere P s := by
  unfold State.updSession
  split
  · rfl
  · rename_i x hx
    exact KeyMap.countP_put_of_find _ (f x) hx (congrArg P (hf x))

/-- A response opens and closes no session. -/
theorem sessionsWhere_answer (P : Port → Bool) (s : State) (q : Request) (status : Nat) (payload : Bytes) :
    sessionsWhere P (s.answer q status payload) = sessionsWhere P s := by
  obtain ⟨u, g, h, rfl | ⟨f, hf, rfl⟩⟩ := State.answer_eq s q status payload
  · rw [h, sessionsWhere_updMbox]
  · rw [h, sessionsWhere_updMbox, sessionsWhere_updSession P s _ f hf]

theorem exec_sessionOpen (s : State) (p : Port) : exec (.sessionOpen p) s = execSessionOpen p s := rfl

@[simp] theorem sessionsWhere_after (P : Port → Bool) (s t : State) : sessionsWhere P (after s t) = sessionsWhere P t := rfl

@[simp] theorem sessionsWhere_begun (P : Port → Bool) (s : State) (p : Port) (q : Request) : sessionsWhere P (begun s p q) = sessionsWhere P s := by
  simp only [sessionsWhere, begun_sessions]

/-- A command that only answers its request keeps every count of sessions. -/
theorem sessionsWhere_of_answered {s t : State} {p : Port} {q : Request} {status : Nat} {payload : Bytes}
    (h : (.next (after s ((begun s p q).answer q status payload)) : Host.Outcome State Fault Refusal) = .next t) (P : Port → Bool) :
    sessionsWhere P t = sessionsWhere P s := by
  obtain rfl := Host.Outcome.next.inj h
  rw [sessionsWhere_after, sessionsWhere_answer, sessionsWhere_begun]

/-- What SESSION_OPEN can do to the sessions: it leaves every count as it was, or, where there is room, opens one on its port. -/
theorem sessionsWhere_sessionOpen {s t : State} {p : Port} (h : exec (.sessionOpen p) s = .next t) :
    (∀ P, sessionsWhere P t = sessionsWhere P s)
    ∨ (s.sessionRoom p = true ∧ ∀ P, sessionsWhere P t ≤ sessionsWhere P s + if P p then 1 else 0) := by
  rw [exec_sessionOpen, execSessionOpen] at h
  cases halive : s.alive with
  | false =>
    rw [runOn_dead s _ halive] at h
    obtain rfl := Host.Outcome.next.inj h
    exact .inl fun _ => rfl
  | true =>
    cases htaken : s.taken p 0x0101 with
    | none =>
      rw [runOn_serve_of_none halive htaken] at h
      obtain rfl := Host.Outcome.next.inj h
      exact .inl fun _ => rfl
    | some q =>
      rw [runOn_serve_of_asked ⟨halive, htaken⟩] at h
      dsimp only at h
      split at h
      · exact .inl (sessionsWhere_of_answered h)
      · split at h
        · exact .inl (sessionsWhere_of_answered h)
        · split at h
          · exact .inl (sessionsWhere_of_answered h)
          · split at h
            · exact .inl (sessionsWhere_of_answered h)
            · next hroom =>
              obtain rfl := Host.Outcome.next.inj h
              refine .inr ⟨by rwa [sessionRoom_begun, Bool.not_eq_false] at hroom, fun P => ?_⟩
              rw [sessionsWhere_after, sessionsWhere_answer, ← sessionsWhere_begun P s p q]
              exact KeyMap.countP_put_le ..

/-- A well-formed SESSION_OPEN without room is refused (R81). -/
theorem exec_sessionOpen_full {s : State} {p : Port} {q : Request} {n : Nat} {v : Nat × Nat} (hasked : Asked s p 0x0101 q)
    (hn : byteAt q.payload 0 = n) (hpos : 1 ≤ n) (hle : n ≤ 8) (hlen : q.payload.length = 3 + 2 * n)
    (hv : bestVersion (blocks 2 (slice 1 (2 * n) q.payload)) = some v) (hroom : s.sessionRoom p = false) :
    exec (.sessionOpen p) s = .next (after s ((begun s p q).answer q ST_SESSION_LIMIT [])) := by
  subst hn
  have hlength : ¬ (q.payload.isEmpty = true ∨ q.payload.length ≠ 3 + 2 * byteAt q.payload 0) := by
    rw [List.isEmpty_iff, ← List.length_eq_zero_iff]
    omega
  have hcount : ¬ (byteAt q.payload 0 = 0 ∨ 8 < byteAt q.payload 0) := by omega
  rw [exec_sessionOpen, execSessionOpen, runOn_serve_of_asked hasked]
  simp only [if_neg hlength, if_neg hcount, hv, sessionRoom_begun, hroom, if_true]

/-! ### Transactions (R100) -/

theorem exec_cfgBegin (s : State) (p : Port) : exec (.cfgBegin p) s = execCfgBegin p s := rfl
theorem exec_cfgSet (s : State) (p : Port) : exec (.cfgSet p) s = execCfgSet p s := rfl
theorem exec_cfgCommit (s : State) (p : Port) : exec (.cfgCommit p) s = execCfgCommit p s := rfl
theorem exec_cfgRollback (s : State) (p : Port) : exec (.cfgRollback p) s = execCfgRollback p s := rfl

/-- A realm's transaction belongs to one session: every other session is refused. -/
theorem State.txnFor_other {s : State} {q : Request} {y : Txn} (id : Nat) (htxn : (s.realm q.realm).txn = some y) (howner : y.session ≠ q.session) :
    s.txnFor q id = .inl ST_TXN_BUSY := by
  simp only [State.txnFor, htxn, if_pos howner]

/-- An identification that names no transaction of the session is refused where no other session has one. -/
theorem State.txnFor_absent {s : State} {q : Request} {id : Nat} (h : ∀ y, (s.realm q.realm).txn = some y → y.session = q.session ∧ y.id ≠ id) :
    s.txnFor q id = .inl ST_NO_TXN := by
  unfold State.txnFor
  split
  · rfl
  · next y htxn =>
    obtain ⟨hsession, hid⟩ := h y htxn
    rw [if_neg (not_not_intro hsession), if_pos hid]

/-- Taking the request changes no transaction. -/
@[simp] theorem begun_txnFor (s : State) (p : Port) (q r : Request) (id : Nat) : (begun s p q).txnFor r id = s.txnFor r id := by
  simp only [State.txnFor, begun_realm]

theorem exec_cfgBegin_busy {s : State} {p : Port} {q : Request} {y : Txn} (hasked : Asked s p 0x0201 q) (hempty : q.payload = [])
    (htxn : (s.realm q.realm).txn = some y) : exec (.cfgBegin p) s = .next (after s ((begun s p q).answer q ST_TXN_BUSY [])) := by
  rw [exec_cfgBegin, execCfgBegin, runOn_serve_of_asked hasked]
  simp only [noPayload_nil _ q _ hempty, begun_realm, htxn, Option.isSome_some, if_true]

/-- CFG_BEGIN opens a transaction of its session in a realm that has none. -/
theorem exec_cfgBegin_free {s : State} {p : Port} {q : Request} (hasked : Asked s p 0x0201 q) (hempty : q.payload = [])
    (htxn : (s.realm q.realm).txn = none) :
    ∃ t y, exec (.cfgBegin p) s = .next t ∧ (t.realm q.realm).txn = some y ∧ y.session = q.session := by
  rw [exec_cfgBegin, execCfgBegin, runOn_serve_of_asked hasked]
  simp only [noPayload_nil _ q _ hempty, begun_realm, htxn, Option.isSome_none, Bool.false_eq_true, if_false]
  refine ⟨_, ⟨(begun s p q).orfer.nextTxn, q.session, [], .opened, some ((begun s p q).now + 10000000000), none⟩, rfl, ?_, rfl⟩
  rw [after_realm, State.answer_realm]
  show (KeyMap.get (KeyMap.put _ q.realm _) Realm.reset q.realm).txn = _
  rw [KeyMap.get_put_self]

theorem exec_cfgCommit_refused {s : State} {p : Port} {q : Request} {status : Nat} (hasked : Asked s p 0x0204 q) (hlen : q.payload.length = 4)
    (h : s.txnFor q (leNat q.payload) = .inl status) : exec (.cfgCommit p) s = .next (after s ((begun s p q).answer q status [])) := by
  rw [exec_cfgCommit, execCfgCommit, runOn_serve_of_asked hasked]
  simp only [hlen, ne_eq, not_true_eq_false, if_false, begun_txnFor, h]

theorem exec_cfgRollback_refused {s : State} {p : Port} {q : Request} {status : Nat} (hasked : Asked s p 0x0205 q) (hlen : q.payload.length = 4)
    (h : s.txnFor q (leNat q.payload) = .inl status) : exec (.cfgRollback p) s = .next (after s ((begun s p q).answer q status [])) := by
  rw [exec_cfgRollback, execCfgRollback, runOn_serve_of_asked hasked]
  simp only [hlen, ne_eq, not_true_eq_false, if_false, begun_txnFor, h]

theorem exec_cfgSet_refused {s : State} {p : Port} {q : Request} {status : Nat} {es : List (Nat × Nat × Bytes × Bool)} (hasked : Asked s p 0x0202 q)
    (hlen : 4 ≤ q.payload.length) (hid : field q.payload 0 4 ≠ 0) (hes : parseEntries q.payload.length (q.payload.drop 4) = some es)
    (h : s.txnFor q (field q.payload 0 4) = .inl status) : exec (.cfgSet p) s = .next (after s ((begun s p q).answer q status [])) := by
  rw [exec_cfgSet, execCfgSet, runOn_serve_of_asked hasked]
  simp only [if_neg (Nat.not_lt.2 hlen), hes, if_neg hid, begun_txnFor, h]

end Sys2Proof.Machine

namespace Sys2Proof.Slice0

open Sys2Proof.Machine

/-- Settles O9: a doorbell is judged by whether the mailbox is shut and by its length (R68, R558). -/
theorem doorbellsActOnlyWhenReady : Obligations.DoorbellsActOnlyWhenReady := by
  unfold Obligations.DoorbellsActOnlyWhenReady
  intro s p len halive hp
  have hserved : (quiet s).portServed p = s.portServed p := rfl
  have hgranted : (quiet s).granted p = s.granted p := rfl
  have hmbox : (quiet s).mbox p = s.mbox p := by cases p <;> rfl
  refine ⟨fun hshut => ?_, fun hs hg hb hv => ?_, ?_, ?_⟩
  · rw [exec_mbDoorbell s p len halive, State.doorbell_of_shut len hp (by rwa [hserved, hgranted, hmbox])]
  · rw [exec_mbDoorbell s p len halive, State.doorbell_of_ready len hp (hserved.trans hs) (hgranted.trans hg) (by rwa [hmbox]) (by rwa [hmbox]), hmbox]
  · rintro fn rfl
    rfl
  · rintro (rfl | rfl) <;> rfl

/-- Settles O10: the bytes of the write are split at the one that falls on 0x1E, if there is one (R111). -/
theorem privateWritesReachOneByte : Obligations.PrivateWritesReachOneByte := by
  unfold Obligations.PrivateWritesReachOneByte
  intro s a rest halive
  refine ⟨_, exec_i3cPrivateWrite_cons s a rest halive, ?_, s.i3c.privateWrite_pointer a rest, ?_⟩
  · rw [← I3cState.privateWrite_frame]
  · split
    · next hnone =>
      rw [ite_eq_right_iff, List.getElem?_eq_none_iff] at hnone
      exact s.i3c.privateWrite_miss a rest fun ha => by have := hnone ha; omega
    · next v hsome =>
      obtain ⟨ha, hv⟩ : a.toNat ≤ 0x1E ∧ rest[0x1E - a.toNat]? = some v := Option.ite_none_right_eq_some.1 hsome
      exact s.i3c.privateWrite_hit a rest v ha hv

/-- Settles O17: a session is opened only where its mailbox has room (R81). -/
theorem sessionLimitsHold : Obligations.SessionLimitsHold := by
  unfold Obligations.SessionLimitsHold
  refine ⟨fun s p q n hasked hn hpos hle hlen hversion hfull => ?_, fun s t p r h => ?_⟩
  · obtain ⟨v, hv⟩ := Option.isSome_iff_exists.1 hversion
    refine exec_sessionOpen_full hasked hn hpos hle hlen hv ?_
    rw [← Bool.not_eq_true, State.sessionRoom_iff]
    rintro ⟨hport, hvirtual⟩
    rcases hfull with hfull | ⟨hnum, hfull⟩
    · exact absurd hport (Nat.not_lt.2 hfull)
    · exact absurd (hvirtual hnum) (Nat.not_lt.2 hfull)
  · show sessionsOn t r ≤ max (sessionsOn s r) (sessionLimit r) ∧ _
    rw [sessionsOn_eq, sessionsOn_eq, virtualSessions_eq, virtualSessions_eq]
    rcases sessionsWhere_sessionOpen h with hsame | ⟨hroom, hmore⟩
    · simp only [hsame]
      exact ⟨Nat.le_max_left .., Nat.le_max_left ..⟩
    · rw [State.sessionRoom_iff, sessionsOn_eq, virtualSessions_eq] at hroom
      obtain ⟨hport, hvirtual⟩ := hroom
      refine ⟨Nat.le_trans (hmore _) ?_, Nat.le_trans (hmore _) ?_⟩
      · by_cases hr : p = r
        · subst hr
          simp only [beq_self_eq_true, if_true]
          omega
        · simp only [beq_iff_eq, if_neg hr, Nat.add_zero]
          exact Nat.le_max_left ..
      · by_cases hnum : portNum p = 3
        · have := hvirtual hnum
          simp only [hnum, beq_self_eq_true, if_true]
          omega
        · simp only [beq_iff_eq, if_neg hnum, Nat.add_zero]
          exact Nat.le_max_left ..

/-- Settles O16: a request that the transaction's owner or its identification rules out gets its answer and changes no transaction (R100). -/
theorem oneTransactionInEachRealm : Obligations.OneTransactionInEachRealm := by
  unfold Obligations.OneTransactionInEachRealm
  refine ⟨fun s p q hasked hempty => ?_, fun s p q row hlen hrow => ?_, fun s p q hasked hlen hid hentries => ?_⟩
  · split
    · next y htxn => exact exec_cfgBegin_busy hasked hempty htxn
    · next htxn => exact exec_cfgBegin_free hasked hempty htxn
  · have hrefused : ∀ status, s.txnFor q (leNat q.payload) = .inl status →
        exec row s = .next (after s ((begun s p q).answer q status [])) := by
      intro status hstatus
      rcases hrow with ⟨rfl, hasked⟩ | ⟨rfl, hasked⟩
      · exact exec_cfgCommit_refused hasked hlen hstatus
      · exact exec_cfgRollback_refused hasked hlen hstatus
    exact ⟨fun y htxn howner => hrefused _ (State.txnFor_other _ htxn howner), fun hnone => hrefused _ (State.txnFor_absent hnone)⟩
  · obtain ⟨es, hes⟩ := Option.isSome_iff_exists.1 hentries
    exact ⟨fun y htxn howner => exec_cfgSet_refused hasked hlen hid hes (State.txnFor_other _ htxn howner),
      fun hnone => exec_cfgSet_refused hasked hlen hid hes (State.txnFor_absent hnone)⟩

end Sys2Proof.Slice0
end

section
/-!
PROOFS. The head doorbell of 04: which values are taken (R125), and when one with ARM raises the completion ring's vector (R141, R142).
-/

namespace Sys2Proof.Machine

open Sys2Proof.Slice0

/-! ### Distances on a ring -/

/-- From `a` the distance to `b` leads to `b`, modulo the ring's size. -/
theorem add_ringDist_mod {size : Nat} (h : 0 < size) (a b : Nat) : (a + ringDist size a b) % size = b % size := by
  have ha : a % size < size := Nat.mod_lt a h
  show (a + (b % size + size - a % size) % size) % size = b % size
  calc (a + (b % size + size - a % size) % size) % size
      = (a % size + (b % size + size - a % size)) % size := by rw [Nat.add_mod_mod, Nat.mod_add_mod]
    _ = (b % size + size) % size := by congr 1; omega
    _ = b % size := by rw [Nat.add_mod_right, Nat.mod_mod]

/-- The distance is the one number of slots below the ring's size that leads there: the way past slot 0 and the way short of it. -/
theorem eq_ringDist_of_mod {size a b k : Nat} (hk : k < size) (h : (a + k) % size = b % size) : k = ringDist size a b := by
  have ha : a % size < size := Nat.mod_lt a (Nat.zero_lt_of_lt hk)
  rw [← Nat.mod_add_mod] at h
  unfold ringDist
  rw [← h]
  by_cases hwrap : a % size + k < size
  · rw [Nat.mod_eq_of_lt hwrap]
    have hslots : a % size + k + size - a % size = k + size := by omega
    rw [hslots, Nat.add_mod_right, Nat.mod_eq_of_lt hk]
  · rw [Nat.mod_eq_sub_mod (Nat.le_of_not_lt hwrap), Nat.mod_eq_of_lt (a := a % size + k - size) (by omega)]
    have hslots : a % size + k - size + size - a % size = k := by omega
    rw [hslots, Nat.mod_eq_of_lt hk]

/-- A slot lies on the way from `head` to `last`, both ends included, where its distance is no larger than that of `last`. -/
theorem exists_on_way_iff {size v : Nat} (head last : Nat) (hv : v < size) :
    (∃ k d, k ≤ d ∧ d < size ∧ (head + d) % size = last % size ∧ (head + k) % size = v) ↔ ringDist size head v ≤ ringDist size head last := by
  have hpos : 0 < size := Nat.zero_lt_of_lt hv
  have hmod : v % size = v := Nat.mod_eq_of_lt hv
  constructor
  · rintro ⟨k, d, hkd, hd, hlast, hk⟩
    rw [← eq_ringDist_of_mod hd hlast, ← eq_ringDist_of_mod (Nat.lt_of_le_of_lt hkd hd) (hk.trans hmod.symm)]
    exact hkd
  · intro hle
    exact ⟨_, _, hle, Nat.mod_lt _ hpos, add_ringDist_mod hpos head last, (add_ringDist_mod hpos head v).trans hmod⟩

/-! ### What the recorder leaves unchanged -/

@[simp] theorem State.stage_chans (s : State) (trig status arg time rtc : Nat) (inSentinel : Bool) :
    (s.stage trig status arg time rtc inSentinel).chans = s.chans := by
  unfold State.stage
  split
  · rfl
  · split <;> rfl

@[simp] theorem State.fireRated_chans (s : State) (trig status arg : Nat) : (s.fireRated trig status arg).chans = s.chans := by
  unfold State.fireRated State.trigger
  extract_lets sec seen
  split
  · rw [State.stage_chans]
  · rfl

/-- An event that is recorded changes no channel. -/
@[simp] theorem State.sourceEvent_chans (s : State) (source : Nat) (hears : Nat → Bool) (status arg : Nat) :
    (s.sourceEvent source hears status arg).chans = s.chans := by
  unfold State.sourceEvent
  split
  · rfl
  · refine foldl_keeps (fun t : State => t.chans = s.chans) _ (fun t i ht => ?_) _ s rfl
    dsimp only
    split
    · rw [State.fireRated_chans, ht]
    · exact ht

/-! ### Channels, vectors and fetches -/

/-- Two states with the same channels read the same channel. -/
theorem State.chan_of_chans {s t : State} (h : t.chans = s.chans) (c : Nat) : t.chan c = s.chan c := congrArg (KeyMap.get · Channel.reset c) h

/-- A change that may set a CH_ERR bit makes that change alone in its channel (R144). -/
@[simp] theorem State.markErr_chan (s : State) (c : Nat) (f : Channel → Channel) : (s.markErr c f).chan c = f (s.chan c) := by
  have hchans : (s.markErr c f).chans = (s.updChan c f).chans := by
    simp only [State.markErr]
    split
    · rw [State.sourceEvent_chans]
      split
      · rw [State.raiseVector_chans, State.updFn_chans]
      · rw [State.updFn_chans]
    · rfl
  rw [State.chan_of_chans hchans, State.updChan_chan]

/-- A vector that is open sends its message (R151). -/
theorem State.raiseVector_of_open {s : State} {fn vec : Nat} (h : s.vectorOpen fn vec = true) : s.raiseVector fn vec = s.emit (.msix fn vec) := by
  rw [State.raiseVector, if_pos h]

/-- A vector that is not open sends nothing. -/
theorem State.raiseVector_outbox_of_closed {s : State} {fn vec : Nat} (h : s.vectorOpen fn vec = false) : (s.raiseVector fn vec).outbox = s.outbox := by
  rw [State.raiseVector, if_neg (Bool.eq_false_iff.1 h)]
  split <;> rfl

/-- A masked vector sets its pending bit (log 8). -/
theorem State.raiseVector_pba_of_masked {s : State} {fn vec : Nat} (h : (s.fn fn).masked vec = true) :
    ((s.raiseVector fn vec).fn fn).pba = (s.fn fn).pba ||| 2 ^ vec := by
  have hclosed : ¬ s.vectorOpen fn vec = true := by simp [State.vectorOpen, h]
  rw [State.raiseVector, if_neg hclosed, if_pos h, State.updFn_fn]

/-- Raising the vector clears ARMED and the pending count and stops the timer, and nothing else of the ring (R141). -/
@[simp] theorem State.raiseCq_cq (s : State) (c : Nat) :
    ((s.raiseCq c).chan c).cq = { (s.chan c).cq with pendingCount := 0, timer := none, armed := false, irqNow := false } := by
  rw [State.raiseCq, State.chan_of_chans (State.raiseVector_chans ..), State.updCq, State.updChan_chan]

section RaiseCq
variable {s : State} {c fn vec : Nat} (hfn : (s.chan c).binding.function = fn) (hvec : (s.chan c).cq.vector = vec)
include hfn hvec

/-- Raising the ring's vector sends its message where the vector is open. -/
theorem State.raiseCq_outbox_of_open (h : s.vectorOpen fn vec = true) : (s.raiseCq c).outbox = s.outbox ++ [.msix fn vec] := by
  subst hfn hvec
  simp only [State.raiseCq]
  rw [State.raiseVector_of_open]
  · rfl
  · exact h

theorem State.raiseCq_outbox_of_closed (h : s.vectorOpen fn vec = false) : (s.raiseCq c).outbox = s.outbox := by
  subst hfn hvec
  simp only [State.raiseCq]
  rw [State.raiseVector_outbox_of_closed]
  · rfl
  · exact h

/-- Raising the ring's vector sets its pending bit where the vector is masked. -/
theorem State.raiseCq_pba_of_masked (h : (s.fn fn).masked vec = true) : ((s.raiseCq c).fn fn).pba = (s.fn fn).pba ||| 2 ^ vec := by
  subst hfn hvec
  simp only [State.raiseCq]
  rw [State.raiseVector_pba_of_masked]
  · rfl
  · exact h

end RaiseCq

/-- A condition of R141 holds for the pending records of a ring. -/
def Cq.Due (q : Cq) (now : Nat) : Prop :=
  0 < q.pendingCount ∧ (q.modCount ≤ q.pendingCount ∨ (∃ d, q.timer = some d ∧ d + 1000 * q.modTimer ≤ now) ∨ q.irqNow = true)

/-- Moderation raises the vector of an armed ring where a condition of R141 holds, and of no other. -/
theorem State.moderate_of_due {s : State} {c : Nat} (harmed : (s.chan c).cq.armed = true) (hdue : (s.chan c).cq.Due s.now) :
    s.moderate c = s.raiseCq c := by
  obtain ⟨hpending, hcond⟩ := hdue
  simp only [State.moderate, ite_eq_left_iff, harmed, hpending, Bool.true_and, decide_true, Bool.or_eq_true, decide_eq_true_eq]
  refine fun hnot => absurd ?_ hnot
  rcases hcond with hcount | ⟨d, htimer, hd⟩ | hirq
  · exact .inl (.inl hcount)
  · exact .inl (.inr (by simp only [htimer, hd, decide_true]))
  · exact .inr hirq

theorem State.moderate_of_not_due {s : State} {c : Nat} (hdue : ¬ (s.chan c).cq.Due s.now) : s.moderate c = s := by
  simp only [State.moderate, ite_eq_right_iff, Bool.and_eq_true, Bool.or_eq_true, decide_eq_true_eq]
  rintro ⟨⟨-, hpending⟩, hcond⟩
  refine absurd ⟨hpending, ?_⟩ hdue
  rcases hcond with (hcount | htimer) | hirq
  · exact .inl hcount
  · split at htimer
    · next d hd => exact .inr (.inl ⟨d, hd, of_decide_eq_true htimer⟩)
    · exact absurd htimer Bool.false_ne_true
  · exact .inr (.inr hirq)

/-- Moderation raises the vector or does nothing. -/
theorem State.moderate_eq_or (s : State) (c : Nat) : s.moderate c = s.raiseCq c ∨ s.moderate c = s := by
  unfold State.moderate
  extract_lets q due
  split
  · exact .inl rfl
  · exact .inr rfl

/-- A descriptor fetch leaves the completion ring as it was. -/
@[simp] theorem State.kick_cq (s : State) (c : Nat) : ((s.kick c).chan c).cq = (s.chan c).cq := by
  unfold State.kick
  split
  · rfl
  · next r _ => rw [State.chan_of_chans (State.emit_chans ..), State.updChan_chan]

@[simp] theorem State.kick_fn (s : State) (c fn : Nat) : (s.kick c).fn fn = s.fn fn := by
  unfold State.kick
  split <;> rfl

/-- A descriptor fetch sends no interrupt message. -/
@[simp] theorem State.msix_mem_kick (s : State) (c fn vec : Nat) : .msix fn vec ∈ (s.kick c).outbox ↔ .msix fn vec ∈ s.outbox := by
  unfold State.kick
  split
  · rfl
  · simp

/-! ### Head doorbells (R125, R142) -/

@[simp] theorem after_chan (s t : State) (c : Nat) : (after s t).chan c = t.chan c := rfl
@[simp] theorem after_fn (s t : State) (fn : Nat) : (after s t).fn fn = t.fn fn := rfl
@[simp] theorem after_outbox (s t : State) : (after s t).outbox = t.outbox := rfl
@[simp] theorem quiet_chan (s : State) (c : Nat) : (quiet s).chan c = s.chan c := rfl
@[simp] theorem quiet_fn (s : State) (fn : Nat) : (quiet s).fn fn = s.fn fn := rfl
@[simp] theorem quiet_outbox (s : State) : (quiet s).outbox = [] := rfl
@[simp] theorem quiet_vectorOpen (s : State) (fn vec : Nat) : (quiet s).vectorOpen fn vec = s.vectorOpen fn vec := rfl

theorem exec_cqHeadDoorbell {s : State} (fn c value : Nat) (h : s.alive = true) :
    exec (.cqHeadDoorbell fn c value) s = .next (after s ((quiet s).headDoorbell fn c value)) :=
  runOn_alive s (fun s => s.headDoorbell fn c value) h

/-- The page that a function shows belongs to a channel bound to it (R121). -/
theorem State.function_of_showsPage {s : State} {fn c : Nat} (h : s.showsPage fn c = true) : (s.chan c).binding.function = fn := by
  rw [State.showsPage, Bool.and_eq_true, beq_iff_eq] at h
  exact h.2

/-- A completion ring takes a new head: the ring is there, and the slot is one of its slots on the way to WRITE_IDX (R125). -/
def Cq.Takes (q : Cq) (v : Nat) : Prop :=
  q.base ≠ 0 ∧ v < 2 ^ q.sizeLog2 ∧ ringDist (2 ^ q.sizeLog2) q.head v ≤ ringDist (2 ^ q.sizeLog2) q.head q.writeIdx

theorem Cq.takes_iff (q : Cq) (v : Nat) : q.Takes v ↔ q.base ≠ 0 ∧ v < 2 ^ q.sizeLog2
    ∧ ∃ k d, k ≤ d ∧ d < 2 ^ q.sizeLog2 ∧ (q.head + d) % 2 ^ q.sizeLog2 = q.writeIdx % 2 ^ q.sizeLog2 ∧ (q.head + k) % 2 ^ q.sizeLog2 = v :=
  and_congr_right fun _ => and_congr_right fun hv => (exists_on_way_iff q.head q.writeIdx hv).symm

theorem Cq.not_takes_iff {q : Cq} {v : Nat} : ¬ q.Takes v ↔ q.base = 0 ∨ 2 ^ q.sizeLog2 ≤ v
    ∨ ringDist (2 ^ q.sizeLog2) q.head q.writeIdx < ringDist (2 ^ q.sizeLog2) q.head v := by
  unfold Cq.Takes
  omega

/-- The channel with its new head, armed where the doorbell says so; the credits return (R137). -/
def State.headMoved (s : State) (c v : Nat) (arm : Bool) : State :=
  s.updChan c fun x => { x with
    used := x.used - ringDist (2 ^ (s.chan c).cq.sizeLog2) (s.chan c).cq.head v
    cq := { x.cq with head := v, armed := x.cq.armed || arm } }

@[simp] theorem State.headMoved_cq (s : State) (c v : Nat) (arm : Bool) :
    ((s.headMoved c v arm).chan c).cq = { (s.chan c).cq with head := v, armed := (s.chan c).cq.armed || arm } := by
  rw [State.headMoved, State.updChan_chan]

@[simp] theorem State.headMoved_function (s : State) (c v : Nat) (arm : Bool) :
    ((s.headMoved c v arm).chan c).binding.function = (s.chan c).binding.function := by
  rw [State.headMoved, State.updChan_chan]

@[simp] theorem State.headMoved_fn (s : State) (c v : Nat) (arm : Bool) (fn : Nat) : (s.headMoved c v arm).fn fn = s.fn fn := rfl
@[simp] theorem State.headMoved_outbox (s : State) (c v : Nat) (arm : Bool) : (s.headMoved c v arm).outbox = s.outbox := rfl
@[simp] theorem State.headMoved_vectorOpen (s : State) (c v : Nat) (arm : Bool) (fn vec : Nat) :
    (s.headMoved c v arm).vectorOpen fn vec = s.vectorOpen fn vec := rfl

/-- A head that the ring does not take only sets CH_ERR.CQ_DB. -/
theorem State.headDoorbell_of_refused {s : State} {fn c value : Nat} (hpage : s.showsPage fn c = true) (h : ¬ (s.chan c).cq.Takes (value % 65536)) :
    s.headDoorbell fn c value = s.markErr c fun x => { x with cq := { x.cq with errDb := true } } := by
  simp only [State.headDoorbell, hpage, Bool.not_true, Bool.false_eq_true, if_false]
  rw [if_pos (Cq.not_takes_iff.1 h)]

/-- A head that the ring takes moves there; ARM then raises the vector where records are left, and leaves it to moderation where none are. -/
theorem State.headDoorbell_of_takes {s : State} {fn c value : Nat} (hpage : s.showsPage fn c = true) (h : (s.chan c).cq.Takes (value % 65536)) :
    s.headDoorbell fn c value =
      (if ¬ bit value 31 then s.headMoved c (value % 65536) (bit value 31)
       else if (s.chan c).cq.writeIdx ≠ value % 65536 then (s.headMoved c (value % 65536) (bit value 31)).raiseCq c
       else (s.headMoved c (value % 65536) (bit value 31)).moderate c).kick c := by
  simp only [State.headDoorbell, hpage, Bool.not_true, Bool.false_eq_true, if_false]
  rw [if_neg (mt Cq.not_takes_iff.2 (not_not_intro h))]
  rfl

/-- Whatever ARM says, a head that the ring takes becomes its head and sets no error. -/
theorem State.headDoorbell_head {s : State} {fn c value : Nat} (hpage : s.showsPage fn c = true) (h : (s.chan c).cq.Takes (value % 65536)) :
    ((s.headDoorbell fn c value).chan c).cq.head = value % 65536
    ∧ ((s.headDoorbell fn c value).chan c).cq.errDb = (s.chan c).cq.errDb := by
  rw [State.headDoorbell_of_takes hpage h, State.kick_cq]
  split
  · simp
  · split
    · simp
    · rcases State.moderate_eq_or (s.headMoved c (value % 65536) (bit value 31)) c with hraise | hkeep
      · simp [hraise]
      · simp [hkeep]

/-- With ARM the vector is raised where records are left behind the new head, or a condition of R141 holds for those pending (R142). -/
theorem State.headDoorbell_raises {s : State} {fn c value : Nat} (hpage : s.showsPage fn c = true) (h : (s.chan c).cq.Takes (value % 65536))
    (harm : bit value 31 = true) (hraise : (s.chan c).cq.writeIdx ≠ value % 65536 ∨ (s.chan c).cq.Due s.now) :
    s.headDoorbell fn c value = ((s.headMoved c (value % 65536) true).raiseCq c).kick c := by
  rw [State.headDoorbell_of_takes hpage h, harm, if_neg (not_not_intro rfl)]
  split
  · rfl
  · next hreaped =>
    have hdue : ((s.headMoved c (value % 65536) true).chan c).cq.Due s.now := by
      rw [State.headMoved_cq]
      exact hraise.resolve_left hreaped
    rw [State.moderate_of_due (by rw [State.headMoved_cq, Bool.or_true]) hdue]

/-- With ARM the channel waits, armed, where every record is reaped and no condition of R141 holds. -/
theorem State.headDoorbell_waits {s : State} {fn c value : Nat} (hpage : s.showsPage fn c = true) (h : (s.chan c).cq.Takes (value % 65536))
    (harm : bit value 31 = true) (hwait : ¬ ((s.chan c).cq.writeIdx ≠ value % 65536 ∨ (s.chan c).cq.Due s.now)) :
    s.headDoorbell fn c value = (s.headMoved c (value % 65536) true).kick c := by
  obtain ⟨hreaped, hdue⟩ := not_or.1 hwait
  have hdue' : ¬ ((s.headMoved c (value % 65536) true).chan c).cq.Due s.now := by
    rw [State.headMoved_cq]
    exact hdue
  rw [State.headDoorbell_of_takes hpage h, harm, if_neg (not_not_intro rfl), if_neg hreaped, State.moderate_of_not_due hdue']

end Sys2Proof.Machine

namespace Sys2Proof.Slice0

open Sys2Proof.Machine

/-- Settles O12: the slots on the way to WRITE_IDX are those no farther from the old head than it (R125). -/
theorem headDoorbellsLieOnTheWay : Obligations.HeadDoorbellsLieOnTheWay := by
  unfold Obligations.HeadDoorbellsLieOnTheWay
  intro s fn ch v halive hpage q size onWay
  have hpage' : (quiet s).showsPage fn ch = true := hpage
  have htakes : q.Takes (v % 65536) ↔ q.base ≠ 0 ∧ onWay := q.takes_iff (v % 65536)
  refine ⟨_, exec_cqHeadDoorbell fn ch v halive, fun htaken => ?_, fun hoff => ?_⟩
  · exact State.headDoorbell_head hpage' (htakes.2 htaken)
  · have hrefused : ¬ q.Takes (v % 65536) := by
      rw [htakes]
      rintro ⟨hbase, hway⟩
      exact hoff.elim hbase (not_not_intro hway)
    rw [after_chan, State.headDoorbell_of_refused hpage' hrefused, State.markErr_chan, quiet_chan]

/-- Settles O13: after the head has moved the doorbell either raises the vector or waits with ARMED 1, and the fetch that may follow sends no
message (R142). -/
theorem armedHeadDoorbellsRaiseTheVector : Obligations.ArmedHeadDoorbellsRaiseTheVector := by
  unfold Obligations.ArmedHeadDoorbellsRaiseTheVector
  intro s fn ch v halive hpage harm q size hbase hsize hway
  have hpage' : (quiet s).showsPage fn ch = true := hpage
  have htakes : q.Takes (v % 65536) := ⟨hbase, hsize, hway⟩
  refine ⟨_, exec_cqHeadDoorbell fn ch v halive, (State.headDoorbell_head hpage' htakes).1, ?_⟩
  split
  · next hraise =>
    have hfn : (((quiet s).headMoved ch (v % 65536) true).chan ch).binding.function = fn := by
      rw [State.headMoved_function, quiet_chan, State.function_of_showsPage hpage]
    have hvec : (((quiet s).headMoved ch (v % 65536) true).chan ch).cq.vector = q.vector := by
      rw [State.headMoved_cq, quiet_chan]
    have hopen := State.raiseCq_outbox_of_open hfn hvec
    have hclosed := State.raiseCq_outbox_of_closed hfn hvec
    have hmasked := State.raiseCq_pba_of_masked hfn hvec
    simp only [State.headMoved_vectorOpen, State.headMoved_fn, State.headMoved_outbox, quiet_vectorOpen, quiet_fn, quiet_outbox] at hopen hclosed hmasked
    rw [State.headDoorbell_raises hpage' htakes harm hraise]
    simp only [after_chan, after_fn, after_outbox, State.kick_cq, State.kick_fn, State.msix_mem_kick, State.raiseCq_cq, and_true]
    refine ⟨fun h => ?_, fun h => ⟨fun f n => ?_, hmasked⟩⟩
    · rw [hopen h]
      exact List.mem_singleton_self _
    · rw [hclosed h]
      exact List.not_mem_nil
  · next hwait =>
    rw [State.headDoorbell_waits hpage' htakes harm hwait]
    simp only [after_chan, after_outbox, State.kick_cq, State.msix_mem_kick, State.headMoved_cq, Bool.or_true, quiet_chan, true_and]
    exact ⟨fun f n => List.not_mem_nil, rfl⟩

end Sys2Proof.Slice0
end

section
/-!
PROOFS. The thermometers of 14: their value (R451), and the bit that a waiting step programs at its turn (R451, R439).
-/

namespace Sys2Proof.Machine

/-! ### The value of a thermometer -/

/-- One more than the highest index below a bound whose bit reads 1, and 0 where none does: the reading of R451, by recursion on the bound. -/
def highestStep (reads : Nat → Bool) : Nat → Nat
  | 0 => 0
  | m + 1 => if reads m then m + 1 else highestStep reads m

/-- Bit `j` of a thermometer, counted from bit 0 of its first word (R451). -/
def thermometerBit (words : KeyMap Nat) (first j : Nat) : Bool := (KeyMap.get words 0 (first + j / 32)).testBit (j % 32)

/-- A walk over the bits in ascending order that keeps the last one read as 1 ends at the highest. -/
theorem foldl_range_eq_highestStep (reads : Nat → Bool) (m : Nat) :
    (List.range m).foldl (fun acc i => if reads i then i + 1 else acc) 0 = highestStep reads m := by
  induction m with
  | zero => rfl
  | succ m ih => rw [List.range_succ, List.foldl_append, ih]; rfl

theorem thermometer_eq_highestStep (words : KeyMap Nat) (first n : Nat) :
    thermometer words first n = highestStep (thermometerBit words first) (32 * n) :=
  foldl_range_eq_highestStep (thermometerBit words first) (32 * n)

theorem highestStep_eq_zero_iff {reads : Nat → Bool} {m : Nat} : highestStep reads m = 0 ↔ ∀ j, j < m → reads j = false := by
  induction m with
  | zero => exact ⟨fun _ _ h => absurd h (Nat.not_lt_zero _), fun _ => rfl⟩
  | succ m ih =>
    rw [highestStep, Nat.forall_lt_succ_right]
    by_cases hm : reads m = true
    · simp [hm]
    · simp [hm, ih]

theorem highestStep_eq_succ_iff {reads : Nat → Bool} {m k : Nat} :
    highestStep reads m = k + 1 ↔ k < m ∧ reads k = true ∧ ∀ j, k < j → j < m → reads j = false := by
  induction m with
  | zero => exact ⟨fun h => (nomatch h), fun h => absurd h.1 (Nat.not_lt_zero _)⟩
  | succ m ih =>
    rw [highestStep]
    by_cases hm : reads m = true
    · rw [if_pos hm]
      constructor
      · intro h
        obtain rfl : m = k := Nat.succ.inj h
        exact ⟨Nat.lt_succ_self m, hm, fun j hj hjm => by omega⟩
      · rintro ⟨hk, -, habove⟩
        rcases Nat.lt_succ_iff_lt_or_eq.1 hk with hlt | rfl
        · have hlow : reads m = false := habove m hlt (Nat.lt_succ_self m)
          exact absurd hm (by rw [hlow]; decide)
        · rfl
    · rw [if_neg hm, ih]
      constructor
      · rintro ⟨hk, hread, habove⟩
        refine ⟨Nat.lt_succ_of_lt hk, hread, fun j hkj hj => ?_⟩
        rcases Nat.lt_succ_iff_lt_or_eq.1 hj with hlt | rfl
        · exact habove j hkj hlt
        · exact eq_false_of_ne_true hm
      · rintro ⟨hk, hread, habove⟩
        rcases Nat.lt_succ_iff_lt_or_eq.1 hk with hlt | rfl
        · exact ⟨hlt, hread, fun j hkj hj => habove j hkj (Nat.lt_succ_of_lt hj)⟩
        · exact absurd hread hm

/-! ### The bit of a waiting step -/

theorem State.nextBit_eq (s : State) (first n : Nat) :
    s.nextBit first n = if thermometer s.otp.shadow first n < 32 * n then
        some (first + thermometer s.otp.shadow first n / 32, 2 ^ (thermometer s.otp.shadow first n % 32))
      else none := rfl

section JobBits

variable {s : State} {first bits n : Nat} {act : Option (Nat × Nat)} {next : OtpThen}

/-- A step whose thermometer has a bit left programs it (R451). -/
theorem State.jobBits_of_room (hn : n ≠ 0) (hroom : thermometer s.otp.shadow first n < 32 * n) :
    s.jobBits ⟨first, bits, n, act, next⟩ = s.nextBit first n := by
  simp only [State.jobBits, if_neg hn, State.nextBit_eq, if_pos hroom]

/-- A step whose thermometer is full gives way to the QUARANTINE marker where it is the evidence counter's, and has no bit otherwise (R439). -/
theorem State.jobBits_of_full (hn : n ≠ 0) (hfull : ¬ thermometer s.otp.shadow first n < 32 * n) :
    s.jobBits ⟨first, bits, n, act, next⟩ = if first = 8 then s.nextBit 24 2 else none := by
  simp only [State.jobBits, if_neg hn, s.nextBit_eq first, if_neg hfull]

end JobBits

end Sys2Proof.Machine

namespace Sys2Proof.Slice0

open Sys2Proof.Machine

/-- Settles O15: the value is read off the thermometer's highest bit, and a step's bit off the value and the room left (R451, R439). -/
theorem thermometersReadTheirHighestStep : Obligations.ThermometersReadTheirHighestStep := by
  unfold Obligations.ThermometersReadTheirHighestStep
  refine ⟨fun words first n k => ?_, fun words first n => ?_, fun s first n act next hn => ?_⟩
  · rw [thermometer_eq_highestStep]
    exact highestStep_eq_succ_iff
  · rw [thermometer_eq_highestStep]
    exact highestStep_eq_zero_iff
  · by_cases hroom : thermometer s.otp.shadow first n < 32 * n
    · rw [State.jobBits_of_room hn hroom, State.nextBit_eq, if_pos hroom, if_pos hroom]
    · rw [State.jobBits_of_full hn hroom, State.nextBit_eq, if_neg hroom]
      by_cases hevidence : first = 8 <;> simp only [hevidence, true_and, false_and, if_true, if_false]

end Sys2Proof.Slice0
end

section
/-!
PROOFS. A calculus of frames: the parts of the state, the sets of parts that a function changes, and the rules that put changes together.
One lemma for each function of the model then says what it may change, and `exec_leads` says it for every command.
-/

namespace Sys2Proof.Machine
open Sys2Proof Sys2Proof.Slice0

/-- What equals a value that differs from another differs from it. -/
theorem ne_of_eq_value {α : Sort _} {a b c : α} (h : a = b) (hbc : b ≠ c) : a ≠ c := h ▸ hbc

/-- The parts of the state that frames speak of. Fields that every frame of the statements names together make one part. -/
inductive Part where
  /-- device time -/
  | time
  /-- the operating mode -/
  | mode
  /-- what the Sentinel domain keeps besides the parts below -/
  | sentinel
  /-- the service gates -/
  | gates
  /-- what no frame names -/
  | other
  /-- the step of the cold GATE -/
  | bootStep
  /-- DEV_RST_N -/
  | inReset
  /-- Apex runs -/
  | apex
  /-- the boot ROM or Apex holds the device in GATE -/
  | stopped
  /-- what the shadow check of step 3 found -/
  | shadowCheck
  /-- the self-tests of step 7 -/
  | selftests
  /-- the phase of the release sequence -/
  | relPhase
  /-- the step of the release sequence -/
  | relStep
  /-- failed release attempts -/
  | attempts
  /-- GPIO outputs -/
  | gpioOutputs
  /-- GPIO inputs -/
  | gpioInputs
  /-- the buffers of the four mailboxes -/
  | mailboxes
  /-- MB2's window and MB1's dropped notices -/
  | windows
  /-- sessionless messages that still arrive -/
  | loose
  /-- open sessions -/
  | sessions
  /-- next session identifier -/
  | nextSession
  /-- the realms' records -/
  | realms
  /-- next ACT_ID -/
  | nextAct
  /-- next TXN_ID -/
  | nextTxn
  /-- the configuration store -/
  | config
  /-- the register file's pointer and RD_OVERRUN -/
  | i3cPointer
  /-- WR_IGNORED -/
  | wrIgnored
  /-- the register file's fallback and measured values -/
  | i3cValues
  /-- PERST_N -/
  | perst
  /-- when the host tile is ready for training -/
  | linkReady
  /-- the PCIe functions -/
  | functions
  /-- the tenant channels -/
  | channels
  /-- the sector wheel -/
  | wheel
  /-- the key cache -/
  | cache
  /-- key loads -/
  | loads
  /-- the count of created blobs -/
  | created
  /-- the count of key loads -/
  | loadCount
  /-- contents of the hold-buffer pages -/
  | pageData
  /-- digest feeds and the signing queue -/
  | signing
  /-- the protected buses -/
  | buses
  /-- what the device's own flash stores -/
  | privImages
  /-- the write gatherer of its window -/
  | privGather
  /-- the write-protect fault of its port -/
  | wpFault
  /-- the lock of its port -/
  | privLock
  /-- the manifests kept of the device's own flash -/
  | manifests
  /-- the rest of its port -/
  | privRest
  /-- kept act outputs -/
  | actOutputs
  /-- the join ticket -/
  | ticket
  /-- notices issued to the domain -/
  | issued
  /-- notices on their way to the domain -/
  | outgoing
  /-- sequence numbers and counters of received notices -/
  | received
  /-- the domain's fault tables -/
  | faultTable
  /-- exchanges that this member began -/
  | pairOwn
  /-- the rest of the pair state -/
  | pairRest
  /-- the Sentinel domain is powered -/
  | sentinelUp
  /-- the address strap -/
  | addrStrap
  /-- supplies and pins -/
  | supplyRest
  /-- the Sentinel log and the seeds -/
  | sentinelLog
  /-- the real-time clock -/
  | rtc
  /-- the detectors -/
  | detectors
  /-- the cell -/
  | cell
  /-- both margins of the OTP array -/
  | otpArray
  /-- the OTP shadows -/
  | otpShadows
  /-- OTP programs that wait -/
  | otpJobs
  /-- firmware slots -/
  | fwSlots
  /-- firmware slot headers -/
  | fwHeaders
  /-- firmware that runs -/
  | fwRunning
  /-- the firmware slot under erase -/
  | fwErasing
  /-- when the device restarts -/
  | fwRestart
  /-- the debug state -/
  | jtag
  /-- RSEQ and dropped records -/
  | rseq
  /-- staged records -/
  | staging
  /-- the journal -/
  | journal
  /-- where the journal is written -/
  | journalPos
  /-- checkpoints of the histograms -/
  | checkpoints
  /-- the seal of the journal -/
  | journalSeal
  /-- rate limits of the recorder -/
  | rates
  /-- the core supply -/
  | avs
  /-- the tiles -/
  | tiles
  /-- the random generator -/
  | rng
  /-- the counter of free values -/
  | free
  /-- the output side -/
  | outbox
  /-- the queue -/
  | pending

/-- A set of parts: bit `p` stands for part number `p`. -/
abbrev Foot := Nat

/-- The parts listed. -/
def foot (ps : List Part) : Foot := ps.foldr (fun p F => 2 ^ p.ctorIdx ||| F) 0

/-- A part lies in a set. -/
def Foot.has (F : Foot) (p : Part) : Bool := Nat.testBit F p.ctorIdx

/-- The second value where the part lies in the set, else the first. Reducible, so that a comparison of two states first decides which
value stands in a field and then compares the two. -/
noncomputable abbrev Foot.pick {α : Type} (F : Foot) (p : Part) (a b : α) : α := Bool.rec a b (F.has p)

/-- The first state with the parts of a set taken from the second. -/
noncomputable def State.keep (F : Foot) (s t : State) : State where
  now := F.pick .time s.now t.now
  ms := {
    mode := F.pick .mode s.ms.mode t.ms.mode, base := F.pick .other s.ms.base t.ms.base, gates := F.pick .gates s.ms.gates t.ms.gates,
    cause := F.pick .other s.ms.cause t.ms.cause, causes := F.pick .other s.ms.causes t.ms.causes,
    history := F.pick .other s.ms.history t.ms.history }
  boot := {
    step := F.pick .bootStep s.boot.step t.boot.step, inReset := F.pick .inReset s.boot.inReset t.boot.inReset,
    apex := F.pick .apex s.boot.apex t.boot.apex, facet := F.pick .other s.boot.facet t.boot.facet,
    stopped := F.pick .stopped s.boot.stopped t.boot.stopped, shadowFailed := F.pick .shadowCheck s.boot.shadowFailed t.boot.shadowFailed,
    restricted := F.pick .shadowCheck s.boot.restricted t.boot.restricted,
    toQuarantine := F.pick .shadowCheck s.boot.toQuarantine t.boot.toQuarantine, vertexRetry := F.pick .other s.boot.vertexRetry t.boot.vertexRetry,
    vertex := F.pick .other s.boot.vertex t.boot.vertex, vertexValue := F.pick .other s.boot.vertexValue t.boot.vertexValue,
    vaultOpen := F.pick .other s.boot.vaultOpen t.boot.vaultOpen, units := F.pick .selftests s.boot.units t.boot.units,
    testing := F.pick .selftests s.boot.testing t.boot.testing, vertexAt := F.pick .other s.boot.vertexAt t.boot.vertexAt,
    corrected := F.pick .other s.boot.corrected t.boot.corrected, reconstructed := F.pick .other s.boot.reconstructed t.boot.reconstructed }
  rel := {
    phase := F.pick .relPhase s.rel.phase t.rel.phase, step := F.pick .relStep s.rel.step t.rel.step,
    attempts := F.pick .attempts s.rel.attempts t.rel.attempts, released := F.pick .gpioOutputs s.rel.released t.rel.released,
    gpioCfg := F.pick .other s.rel.gpioCfg t.rel.gpioCfg, count := F.pick .other s.rel.count t.rel.count,
    steps := F.pick .other s.rel.steps t.rel.steps, driven := F.pick .gpioOutputs s.rel.driven t.rel.driven,
    inputs := F.pick .gpioInputs s.rel.inputs t.rel.inputs }
  recov := F.pick .other s.recov t.recov
  orfer := {
    mb0 := F.pick .mailboxes s.orfer.mb0 t.orfer.mb0, mb1 := F.pick .mailboxes s.orfer.mb1 t.orfer.mb1,
    mb2 := F.pick .mailboxes s.orfer.mb2 t.orfer.mb2, mb3 := F.pick .mailboxes s.orfer.mb3 t.orfer.mb3,
    mb2Window := F.pick .windows s.orfer.mb2Window t.orfer.mb2Window, mb1Dropped := F.pick .windows s.orfer.mb1Dropped t.orfer.mb1Dropped,
    loose := F.pick .loose s.orfer.loose t.orfer.loose, sessions := F.pick .sessions s.orfer.sessions t.orfer.sessions,
    nextSession := F.pick .nextSession s.orfer.nextSession t.orfer.nextSession, realms := F.pick .realms s.orfer.realms t.orfer.realms,
    nextAct := F.pick .nextAct s.orfer.nextAct t.orfer.nextAct, nextTxn := F.pick .nextTxn s.orfer.nextTxn t.orfer.nextTxn,
    cfg := F.pick .config s.orfer.cfg t.orfer.cfg }
  i3c := {
    pointer := F.pick .i3cPointer s.i3c.pointer t.i3c.pointer, rdOverrun := F.pick .i3cPointer s.i3c.rdOverrun t.i3c.rdOverrun,
    wrIgnored := F.pick .wrIgnored s.i3c.wrIgnored t.i3c.wrIgnored, fallback := F.pick .i3cValues s.i3c.fallback t.i3c.fallback,
    dieTemp := F.pick .i3cValues s.i3c.dieTemp t.i3c.dieTemp, vcore := F.pick .i3cValues s.i3c.vcore t.i3c.vcore,
    power := F.pick .i3cValues s.i3c.power t.i3c.power }
  pcie := {
    up := F.pick .other s.pcie.up t.pcie.up, width := F.pick .other s.pcie.width t.pcie.width, speed := F.pick .other s.pcie.speed t.pcie.speed,
    perst := F.pick .perst s.pcie.perst t.pcie.perst, readyAt := F.pick .linkReady s.pcie.readyAt t.pcie.readyAt,
    numVFs := F.pick .other s.pcie.numVFs t.pcie.numVFs, fns := F.pick .functions s.pcie.fns t.pcie.fns }
  chans := F.pick .channels s.chans t.chans
  wheel := F.pick .wheel s.wheel t.wheel
  keys := {
    vault := F.pick .other s.keys.vault t.keys.vault, staged := F.pick .other s.keys.staged t.keys.staged,
    record := F.pick .other s.keys.record t.keys.record, recordOk := F.pick .other s.keys.recordOk t.keys.recordOk,
    cache := F.pick .cache s.keys.cache t.keys.cache, loads := F.pick .loads s.keys.loads t.keys.loads,
    created := F.pick .created s.keys.created t.keys.created, loadCount := F.pick .loadCount s.keys.loadCount t.keys.loadCount }
  cipher := {
    holdPages := F.pick .other s.cipher.holdPages t.cipher.holdPages, holdWait := F.pick .other s.cipher.holdWait t.cipher.holdWait,
    placement := F.pick .other s.cipher.placement t.cipher.placement, pagesUsed := F.pick .other s.cipher.pagesUsed t.cipher.pagesUsed,
    pageData := F.pick .pageData s.cipher.pageData t.cipher.pageData, regs := F.pick .other s.cipher.regs t.cipher.regs,
    store := F.pick .other s.cipher.store t.cipher.store, contexts := F.pick .other s.cipher.contexts t.cipher.contexts,
    feeds := F.pick .signing s.cipher.feeds t.cipher.feeds }
  operand := F.pick .other s.operand t.operand
  busA := F.pick .buses s.busA t.busA
  busB := F.pick .buses s.busB t.busB
  priv := {
    busy := F.pick .privImages s.priv.busy t.priv.busy, timeout := F.pick .privGather s.priv.timeout t.priv.timeout,
    wpFault := F.pick .wpFault s.priv.wpFault t.priv.wpFault, ready := F.pick .privRest s.priv.ready t.priv.ready,
    eraseAddr := F.pick .privRest s.priv.eraseAddr t.priv.eraseAddr, eraseSize := F.pick .privRest s.priv.eraseSize t.priv.eraseSize,
    wp := F.pick .privRest s.priv.wp t.priv.wp, lock := F.pick .privLock s.priv.lock t.priv.lock,
    gathered := F.pick .privGather s.priv.gathered t.priv.gathered, gatheredAt := F.pick .privRest s.priv.gatheredAt t.priv.gatheredAt,
    stalled := F.pick .privRest s.priv.stalled t.priv.stalled, waiting := F.pick .privGather s.priv.waiting t.priv.waiting,
    waitSince := F.pick .privGather s.priv.waitSince t.priv.waitSince, failing := F.pick .privRest s.priv.failing t.priv.failing,
    capturing := F.pick .privRest s.priv.capturing t.priv.capturing, density := F.pick .privRest s.priv.density t.priv.density,
    cache := F.pick .manifests s.priv.cache t.priv.cache, golden := F.pick .privImages s.priv.golden t.priv.golden,
    svn := F.pick .privRest s.priv.svn t.priv.svn, recordSeq := F.pick .privRest s.priv.recordSeq t.priv.recordSeq,
    recordBlock := F.pick .privRest s.priv.recordBlock t.priv.recordBlock, block0 := F.pick .privImages s.priv.block0 t.priv.block0,
    block1 := F.pick .privImages s.priv.block1 t.priv.block1, timing := F.pick .privRest s.priv.timing t.priv.timing,
    chipErase := F.pick .privRest s.priv.chipErase t.priv.chipErase, eraseStatus := F.pick .privRest s.priv.eraseStatus t.priv.eraseStatus }
  ident := {
    keys := F.pick .other s.ident.keys t.ident.keys, seed := F.pick .other s.ident.seed t.ident.seed,
    certs := F.pick .other s.ident.certs t.ident.certs, treeWork := F.pick .other s.ident.treeWork t.ident.treeWork,
    signing := F.pick .signing s.ident.signing t.ident.signing, outputs := F.pick .actOutputs s.ident.outputs t.ident.outputs,
    domain := F.pick .other s.ident.domain t.ident.domain, domainSeal := F.pick .other s.ident.domainSeal t.ident.domainSeal,
    sealFailed := F.pick .other s.ident.sealFailed t.ident.sealFailed, roll := F.pick .other s.ident.roll t.ident.roll,
    ticket := F.pick .ticket s.ident.ticket t.ident.ticket, noticeSeq := F.pick .issued s.ident.noticeSeq t.ident.noticeSeq,
    issued := F.pick .issued s.ident.issued t.ident.issued, outgoing := F.pick .outgoing s.ident.outgoing t.ident.outgoing,
    lastSeq := F.pick .received s.ident.lastSeq t.ident.lastSeq, table := F.pick .faultTable s.ident.table t.ident.table,
    summaries := F.pick .faultTable s.ident.summaries t.ident.summaries, counters := F.pick .received s.ident.counters t.ident.counters,
    prevKey := F.pick .other s.ident.prevKey t.ident.prevKey }
  pair := {
    mode := F.pick .pairRest s.pair.mode t.pair.mode, lanes := F.pick .pairRest s.pair.lanes t.pair.lanes,
    margins := F.pick .pairRest s.pair.margins t.pair.margins, hello := F.pick .pairRest s.pair.hello t.pair.hello,
    minor := F.pick .pairRest s.pair.minor t.pair.minor, nonce := F.pick .pairRest s.pair.nonce t.pair.nonce,
    early := F.pick .pairRest s.pair.early t.pair.early, keys := F.pick .pairRest s.pair.keys t.pair.keys,
    txSeq := F.pick .pairRest s.pair.txSeq t.pair.txSeq, rxOrder := F.pick .pairRest s.pair.rxOrder t.pair.rxOrder,
    rxAhead := F.pick .pairRest s.pair.rxAhead t.pair.rxAhead, acked := F.pick .pairRest s.pair.acked t.pair.acked,
    droppedFrames := F.pick .pairRest s.pair.droppedFrames t.pair.droppedFrames, admits := F.pick .pairRest s.pair.admits t.pair.admits,
    rels := F.pick .pairRest s.pair.rels t.pair.rels, ledger := F.pick .pairRest s.pair.ledger t.pair.ledger,
    checkpoints := F.pick .pairRest s.pair.checkpoints t.pair.checkpoints, changes := F.pick .pairRest s.pair.changes t.pair.changes,
    own := F.pick .pairOwn s.pair.own t.pair.own, theirs := F.pick .pairRest s.pair.theirs t.pair.theirs,
    platform := F.pick .pairRest s.pair.platform t.pair.platform, card := F.pick .pairRest s.pair.card t.pair.card,
    applied := F.pick .pairRest s.pair.applied t.pair.applied, nextExchange := F.pick .pairRest s.pair.nextExchange t.pair.nextExchange,
    mseq := F.pick .pairRest s.pair.mseq t.pair.mseq, theirMseq := F.pick .pairRest s.pair.theirMseq t.pair.theirMseq,
    alone := F.pick .pairRest s.pair.alone t.pair.alone, window := F.pick .pairRest s.pair.window t.pair.window,
    beat := F.pick .pairRest s.pair.beat t.pair.beat, missed := F.pick .pairRest s.pair.missed t.pair.missed,
    deadline := F.pick .pairRest s.pair.deadline t.pair.deadline, everPaired := F.pick .pairRest s.pair.everPaired t.pair.everPaired,
    fresh := F.pick .pairRest s.pair.fresh t.pair.fresh, fenceOut := F.pick .pairRest s.pair.fenceOut t.pair.fenceOut,
    fenceIn := F.pick .pairRest s.pair.fenceIn t.pair.fenceIn, pulseAt := F.pick .pairRest s.pair.pulseAt t.pair.pulseAt,
    pulseSeen := F.pick .pairRest s.pair.pulseSeen t.pair.pulseSeen, pulseMissed := F.pick .pairRest s.pair.pulseMissed t.pair.pulseMissed,
    fenceFault := F.pick .pairRest s.pair.fenceFault t.pair.fenceFault, lastTest := F.pick .pairRest s.pair.lastTest t.pair.lastTest,
    takeover := F.pick .pairRest s.pair.takeover t.pair.takeover, serving := F.pick .pairRest s.pair.serving t.pair.serving,
    nextServing := F.pick .pairRest s.pair.nextServing t.pair.nextServing, away := F.pick .pairRest s.pair.away t.pair.away,
    handover := F.pick .pairRest s.pair.handover t.pair.handover, timeStep := F.pick .pairRest s.pair.timeStep t.pair.timeStep,
    sync := F.pick .pairRest s.pair.sync t.pair.sync, source := F.pick .pairRest s.pair.source t.pair.source,
    synced := F.pick .pairRest s.pair.synced t.pair.synced, failback := F.pick .pairRest s.pair.failback t.pair.failback,
    fenceMe := F.pick .pairRest s.pair.fenceMe t.pair.fenceMe, pcieLost := F.pick .pairRest s.pair.pcieLost t.pair.pcieLost,
    linkCopy := F.pick .pairRest s.pair.linkCopy t.pair.linkCopy, linkSeal := F.pick .pairRest s.pair.linkSeal t.pair.linkSeal }
  supply := {
    pwrgd := F.pick .supplyRest s.supply.pwrgd t.supply.pwrgd, rails := F.pick .supplyRest s.supply.rails t.supply.rails,
    sentinel := F.pick .sentinelUp s.supply.sentinel t.supply.sentinel, i3cSel := F.pick .addrStrap s.supply.i3cSel t.supply.i3cSel,
    flashReset := F.pick .supplyRest s.supply.flashReset t.supply.flashReset }
  tamper := {
    powerOn := F.pick .sentinel s.tamper.powerOn t.tamper.powerOn, log := F.pick .sentinelLog s.tamper.log t.tamper.log,
    logSeq := F.pick .sentinel s.tamper.logSeq t.tamper.logSeq, rtc := F.pick .rtc s.tamper.rtc t.tamper.rtc,
    rtcValid := F.pick .sentinel s.tamper.rtcValid t.tamper.rtcValid, anchor := F.pick .sentinel s.tamper.anchor t.tamper.anchor,
    severity := F.pick .sentinel s.tamper.severity t.tamper.severity, cellLess := F.pick .sentinel s.tamper.cellLess t.tamper.cellLess,
    seeds := F.pick .sentinelLog s.tamper.seeds t.tamper.seeds, detectors := F.pick .detectors s.tamper.detectors t.tamper.detectors,
    alarmSev := F.pick .sentinel s.tamper.alarmSev t.tamper.alarmSev, tamperState := F.pick .sentinel s.tamper.tamperState t.tamper.tamperState,
    isolateUntil := F.pick .sentinel s.tamper.isolateUntil t.tamper.isolateUntil, cell := F.pick .cell s.tamper.cell t.tamper.cell }
  otp := {
    low := F.pick .otpArray s.otp.low t.otp.low, high := F.pick .otpArray s.otp.high t.otp.high,
    shadow := F.pick .otpShadows s.otp.shadow t.otp.shadow, life := F.pick .otpShadows s.otp.life t.otp.life,
    torn := F.pick .otpShadows s.otp.torn t.otp.torn, testDisable := F.pick .otpShadows s.otp.testDisable t.otp.testDisable,
    debugDisable := F.pick .otpShadows s.otp.debugDisable t.otp.debugDisable, bootKeys := F.pick .otpShadows s.otp.bootKeys t.otp.bootKeys,
    weak := F.pick .otpShadows s.otp.weak t.otp.weak, jobs := F.pick .otpJobs s.otp.jobs t.otp.jobs,
    jobSince := F.pick .otpJobs s.otp.jobSince t.otp.jobSince }
  fw := {
    slots := F.pick .fwSlots s.fw.slots t.fw.slots, headers := F.pick .fwHeaders s.fw.headers t.fw.headers,
    active := F.pick .fwRunning s.fw.active t.fw.active, running := F.pick .fwRunning s.fw.running t.fw.running,
    images := F.pick .fwRunning s.fw.images t.fw.images, fallback := F.pick .fwRunning s.fw.fallback t.fw.fallback,
    erasing := F.pick .fwErasing s.fw.erasing t.fw.erasing, restartAt := F.pick .fwRestart s.fw.restartAt t.fw.restartAt }
  jtag := F.pick .jtag s.jtag t.jtag
  recorder := {
    running := F.pick .other s.recorder.running t.recorder.running, nextRseq := F.pick .rseq s.recorder.nextRseq t.recorder.nextRseq,
    staging := F.pick .staging s.recorder.staging t.recorder.staging, journal := F.pick .journal s.recorder.journal t.recorder.journal,
    circPos := F.pick .journalPos s.recorder.circPos t.recorder.circPos, keptPos := F.pick .journalPos s.recorder.keptPos t.recorder.keptPos,
    checkpointPos := F.pick .checkpoints s.recorder.checkpointPos t.recorder.checkpointPos,
    sectorSeq := F.pick .journalSeal s.recorder.sectorSeq t.recorder.sectorSeq, sealed := F.pick .journalSeal s.recorder.sealed t.recorder.sealed,
    chain := F.pick .journalSeal s.recorder.chain t.recorder.chain, flushBy := F.pick .staging s.recorder.flushBy t.recorder.flushBy,
    retryAt := F.pick .journalPos s.recorder.retryAt t.recorder.retryAt, lastFlush := F.pick .journalPos s.recorder.lastFlush t.recorder.lastFlush,
    dropped := F.pick .rseq s.recorder.dropped t.recorder.dropped, losses := F.pick .rseq s.recorder.losses t.recorder.losses,
    suppressed := F.pick .rates s.recorder.suppressed t.recorder.suppressed, rate := F.pick .rates s.recorder.rate t.recorder.rate,
    carried := F.pick .other s.recorder.carried t.recorder.carried, hists := F.pick .other s.recorder.hists t.recorder.hists,
    histNew := F.pick .other s.recorder.histNew t.recorder.histNew, stretchSeen := F.pick .other s.recorder.stretchSeen t.recorder.stretchSeen,
    checkpointAt := F.pick .checkpoints s.recorder.checkpointAt t.recorder.checkpointAt,
    production := F.pick .other s.recorder.production t.recorder.production }
  tiles := {
    tiles := F.pick .tiles s.tiles.tiles t.tiles.tiles, stuck := F.pick .tiles s.tiles.stuck t.tiles.stuck,
    counts := F.pick .tiles s.tiles.counts t.tiles.counts, avs := F.pick .avs s.tiles.avs t.tiles.avs }
  rng := F.pick .rng s.rng t.rng
  free := F.pick .free s.free t.free
  outbox := F.pick .outbox s.outbox t.outbox
  pending := F.pick .pending s.pending t.pending

/-- From one state to another only the parts of a set change. -/
def Changes (F : Foot) (s t : State) : Prop := t = State.keep F s t


/-- Every part but those listed. -/
def allBut (ps : List Part) : Foot := (2 ^ 83 - 1) ^^^ foot ps

/-- What the answer to a request may change. -/
def queryFoot : Foot := foot [.mailboxes, .sessions, .outbox]

/-- What a request that creates an act may change. -/
def requestFoot : Foot := foot [.mailboxes, .sessions, .realms, .nextAct, .actOutputs, .rng, .outbox]

/-- What the work of an item may change. -/
def itemFoot : Foot := foot [.channels, .cache, .created, .pageData, .rng, .free, .outbox]

/-- What a denied host frame may change. -/
def denialFoot : Foot := foot [.windows, .sessions, .functions, .buses, .rseq, .staging, .rates, .outbox]

/-- What a notice and its record may change. -/
def noticeFoot : Foot := foot [.windows, .sessions, .functions, .rseq, .staging, .rates, .outbox]

/-- What the end of an act or a transaction may change. -/
def endingFoot : Foot := foot [.windows, .sessions, .realms, .functions, .pairOwn, .rseq, .staging, .rates, .outbox]

/-- Everything but the OTP array, the queue, supply and pins, the debug state, the firmware slots, the register file and the wheel. -/
def plainFoot : Foot :=
  allBut [.i3cPointer, .wrIgnored, .i3cValues, .wheel, .sentinelUp, .addrStrap, .supplyRest, .otpArray, .fwSlots, .fwHeaders, .fwRunning,
    .fwErasing, .fwRestart, .jtag, .pending]

/-- As `plainFoot`, with the wheel. -/
def wheelFoot : Foot :=
  allBut [.i3cPointer, .wrIgnored, .i3cValues, .sentinelUp, .addrStrap, .supplyRest, .otpArray, .fwSlots, .fwHeaders, .fwRunning, .fwErasing,
    .fwRestart, .jtag, .pending]

/-- As `plainFoot`, with supply and pins. -/
def supplyFoot : Foot :=
  allBut [.i3cPointer, .wrIgnored, .i3cValues, .wheel, .otpArray, .fwSlots, .fwHeaders, .fwRunning, .fwErasing, .fwRestart, .jtag, .pending]

/-- As `plainFoot`, with the register file. -/
def i3cFoot : Foot :=
  allBut [.wheel, .sentinelUp, .addrStrap, .supplyRest, .otpArray, .fwSlots, .fwHeaders, .fwRunning, .fwErasing, .fwRestart, .jtag, .pending]

/-- As `supplyFoot`, with the OTP array. -/
def lossFoot : Foot :=
  allBut [.i3cPointer, .wrIgnored, .i3cValues, .wheel, .fwSlots, .fwHeaders, .fwRunning, .fwErasing, .fwRestart, .jtag, .pending]

/-- As `plainFoot`, with the firmware slots. -/
def flashFoot : Foot :=
  allBut [.i3cPointer, .wrIgnored, .i3cValues, .wheel, .sentinelUp, .addrStrap, .supplyRest, .otpArray, .jtag, .pending]

/-- As `plainFoot`, with the firmware slots and the wheel. -/
def imageFoot : Foot :=
  allBut [.i3cPointer, .wrIgnored, .i3cValues, .sentinelUp, .addrStrap, .supplyRest, .otpArray, .jtag, .pending]

/-- As `imageFoot`, with the debug state: what an assembled act may change. -/
def actFoot : Foot :=
  allBut [.i3cPointer, .wrIgnored, .i3cValues, .sentinelUp, .addrStrap, .supplyRest, .otpArray, .pending]

/-- As `actFoot`, with the register file: what a restart of the device may change. -/
def restartFoot : Foot :=
  allBut [.sentinelUp, .addrStrap, .supplyRest, .otpArray, .pending]

/-- As `restartFoot`, with the OTP array. -/
def programFoot : Foot :=
  allBut [.sentinelUp, .addrStrap, .supplyRest, .pending]

/-- Everything but the OTP array and the queue. -/
def powerFoot : Foot :=
  allBut [.otpArray, .pending]

theorem Foot.pick_pick {α : Type} (F : Foot) (p : Part) (a b c : α) : F.pick p (F.pick p a b) c = F.pick p a c := by
  unfold Foot.pick
  cases F.has p <;> rfl

theorem Foot.has_of_subset {F G : Foot} (h : F ||| G = G) {p : Part} (hp : F.has p = true) : G.has p = true := by
  unfold Foot.has at *
  rw [← h, Nat.testBit_or, hp, Bool.true_or]

/-- Subsets are passed on. -/
theorem Foot.subset_trans {E F G : Foot} (h : E ||| F = F) (h' : F ||| G = G) : E ||| G = G := by
  rw [← h', ← Nat.or_assoc, h]

theorem Foot.pick_pick_of_subset {α : Type} {F G : Foot} (h : F ||| G = G) (p : Part) (a b : α) : G.pick p a (F.pick p a b) = F.pick p a b := by
  unfold Foot.pick
  cases hG : G.has p with
  | true => rfl
  | false =>
    cases hF : F.has p with
    | true => rw [Foot.has_of_subset h hF] at hG; cases hG
    | false => rfl

theorem State.keep_keep (F : Foot) (s t u : State) : State.keep F (State.keep F s t) u = State.keep F s u := by
  simp only [State.keep, Foot.pick_pick]

theorem State.keep_keep_of_subset {F G : Foot} (h : F ||| G = G) (s t : State) : State.keep G s (State.keep F s t) = State.keep F s t := by
  simp only [State.keep, Foot.pick_pick_of_subset h]

theorem Foot.pick_self {α : Type} (F : Foot) (p : Part) (a : α) : F.pick p a a = a := by
  unfold Foot.pick
  cases F.has p <;> rfl

namespace Changes

variable {F G : Foot} {s t u : State}

theorem refl : Changes F s s := by
  simp only [Changes, State.keep, Foot.pick_self]

theorem trans (h : Changes F s t) (h' : Changes F t u) : Changes F s u := by
  have hk := State.keep_keep F s t u
  rw [← h, ← h'] at hk
  exact hk

/-- What changes only some parts changes only parts of a larger set. -/
theorem sub (h : Changes F s t) (hF : F ||| G = G := by decide) : Changes G s t := by
  have hk := State.keep_keep_of_subset hF s t
  rw [← h] at hk
  exact hk.symm

/-- An update after a change. -/
theorem after (h' : Changes F t u) (h : Changes G s t) (hF : F ||| G = G := by decide) : Changes G s u := h.trans (h'.sub hF)

/-- A record update, whose fields say what changes. -/
theorem upd (h : Changes F s t) (h' : u = State.keep F t u := by rfl) : Changes F s u := h.trans h'

/-- An update written as a function of the state, whose fields are compared for every state: where the state itself is a long computation. -/
theorem map {f : State → State} (h : Changes F s t) (hf : ∀ v, f v = State.keep F v (f v)) : Changes F s (f t) := h.trans (hf t)

theorem ite {c : Prop} [Decidable c] (ht : Changes F s t) (hu : Changes F s u) : Changes F s (if c then t else u) := by
  split
  · exact ht
  · exact hu

theorem ite_fst {c : Prop} [Decidable c] {α : Type} {a : α} {p : State × α} (ht : Changes F s t) (hp : Changes F s p.1) :
    Changes F s (if c then (t, a) else p).1 := by
  split
  · exact ht
  · exact hp

theorem foldl {α : Type} {f : State → α → State} {l : List α} (h : Changes F s t) (hf : ∀ v a, Changes F s v → Changes F s (f v a)) :
    Changes F s (l.foldl f t) := foldl_keeps (Changes F s) f hf l t h

theorem foldl_fst {α β : Type} {f : State × β → α → State × β} {l : List α} {p : State × β} (h : Changes F s p.1)
    (hf : ∀ v a, Changes F s v.1 → Changes F s (f v a).1) : Changes F s (l.foldl f p).1 := foldl_keeps (fun v => Changes F s v.1) f hf l p h

theorem foldl_snd {α β : Type} {f : β × State → α → β × State} {l : List α} {p : β × State} (h : Changes F s p.2)
    (hf : ∀ v a, Changes F s v.2 → Changes F s (f v a).2) : Changes F s (l.foldl f p).2 := foldl_keeps (fun v => Changes F s v.2) f hf l p h

theorem foldr {α : Type} {f : α → State → State} {l : List α} (h : Changes F s t) (hf : ∀ v a, Changes F s v → Changes F s (f a v)) :
    Changes F s (l.foldr f t) := by
  induction l with
  | nil => exact h
  | cons a l ih => exact hf _ a ih

/-- What a function of the state reads after the change. -/
theorem apply {α : Type} (h : Changes F s t) (f : State → α) : f t = f (State.keep F s t) := congrArg f h

/-- A component of a tuple that an equation names. -/
theorem of_eq (hu : t = u) (h : Changes F s t) : Changes F s u := hu ▸ h

/-- A part outside the set is as it was. -/
theorem pick_eq {α : Type} {p : Part} {a b : α} (hp : F.has p = false) : F.pick p a b = a := by
  rw [Foot.pick, hp]

end Changes

/-! ### Commands -/

/-- A command leads to a next state that differs from the first only in the parts of a set. -/
def Leads (F : Foot) (s : State) (o : Host.Outcome State Fault Refusal) : Prop := ∃ t, o = .next t ∧ Changes F s t

theorem Leads.of_next {F : Foot} {s t : State} {o : Host.Outcome State Fault Refusal} (h : Leads F s o) (ht : o = .next t) : Changes F s t := by
  obtain ⟨u, hu, hc⟩ := h
  obtain rfl : u = t := by injection hu.symm.trans ht
  exact hc

/-- The queue is left alone by every effect, so putting it back changes nothing. -/
theorem Changes.pending {F : Foot} {s t : State} (h : Changes F s t) (hp : F.has .pending = false) : { t with pending := s.pending } = t := by
  have hq : t.pending = s.pending := (congrArg State.pending h).trans (Changes.pick_eq hp)
  rw [← hq]

theorem quiet_changes (s : State) : Changes (foot [.outbox]) s (quiet s) := rfl

theorem Leads.run {F : Foot} {s : State} {f : State → State} (hf : ∀ u, Changes F u (f u)) (hF : foot [.outbox] ||| F = F := by decide)
    (hp : F.has .pending = false := by decide) : Leads F s (run s f) := by
  have h : Changes F s (f (quiet s)) := (hf _).after ((quiet_changes s).sub hF) (Nat.or_self F)
  exact ⟨_, rfl, (h.pending hp).symm ▸ h⟩

theorem Leads.runOn {F : Foot} {s : State} {f : State → State} (hf : ∀ u, Changes F u (f u)) (hF : foot [.outbox] ||| F = F := by decide)
    (hp : F.has .pending = false := by decide) : Leads F s (runOn s f) :=
  Leads.run (fun u => .ite (hf u) .refl) hF hp

theorem Leads.sub {F G : Foot} {s : State} {o : Host.Outcome State Fault Refusal} (h : Leads F s o) (hF : F ||| G = G := by decide) :
    Leads G s o := by
  obtain ⟨t, ht, hc⟩ := h
  exact ⟨t, ht, hc.sub hF⟩

end Sys2Proof.Machine
end

section
/-!
PROOFS. What each function of the model changes, in the order of the definitions: a lemma for each, from those of the functions that it calls.
The declarations of this section are elaborated one after another: their proofs share the equations of the model's functions.
-/

namespace Sys2Proof.Machine
open Sys2Proof Sys2Proof.Slice0
set_option Elab.async false

/-! ### Access -/

theorem State.updChan_changes (s : State) (c : Nat) (f : Channel → Channel) : Changes (foot [.channels]) s (s.updChan c f) := rfl

theorem State.updSq_changes (s : State) (c : Nat) (r : Nat) (f : Sq → Sq) : Changes (foot [.channels]) s (s.updSq c r f) := by
  unfold State.updSq
  exact .sub (State.updChan_changes ..)

theorem State.updCq_changes (s : State) (c : Nat) (f : Cq → Cq) : Changes (foot [.channels]) s (s.updCq c f) := by
  unfold State.updCq
  exact .sub (State.updChan_changes ..)

theorem State.updFn_changes (s : State) (n : Nat) (f : FnState → FnState) : Changes (foot [.functions]) s (s.updFn n f) := by
  unfold State.updFn
  extract_lets _
  exact .upd .refl

theorem State.updRealm_changes (s : State) (r : Nat) (f : Realm → Realm) : Changes (foot [.realms]) s (s.updRealm r f) := by
  unfold State.updRealm
  extract_lets _
  exact .upd .refl

theorem State.updSession_changes (s : State) (i : Nat) (f : Session → Session) : Changes (foot [.sessions]) s (s.updSession i f) := by
  unfold State.updSession
  extract_lets _
  split
  · exact .refl
  · exact .upd .refl

theorem State.updMbox_changes (s : State) (p : Port) (f : Mailbox → Mailbox) : Changes (foot [.mailboxes]) s (s.updMbox p f) := by
  unfold State.updMbox
  extract_lets _
  split
  · exact .upd .refl
  · exact .upd .refl
  · exact .upd .refl
  · exact .upd .refl

theorem State.setSlot_changes (s : State) (c : Nat) (i : Nat) (v : Slot) : Changes (foot [.other]) s (s.setSlot c i v) := by
  unfold State.setSlot
  extract_lets _
  exact .upd .refl

theorem State.vaultGates_changes (s : State) : Changes (foot [.gates]) s (s.vaultGates) := by
  unfold State.vaultGates
  extract_lets _ _ _
  exact .upd .refl

theorem State.emit_changes (s : State) (m : OutMsg) : Changes (foot [.outbox]) s (s.emit m) := rfl

theorem State.emitAll_changes (s : State) (ms : List OutMsg) : Changes (foot [.outbox]) s (s.emitAll ms) := rfl

theorem State.draw_changes (s : State) (n : Nat) : Changes (foot [.rng]) s (s.draw n).2 := by
  unfold State.draw
  exact .upd .refl

theorem State.skipDraws_changes (s : State) (n : Nat) : Changes (foot [.rng]) s (s.skipDraws n) := rfl

/-! ### Cfg -/

theorem State.setCfg_changes (s : State) (f : Nat) (i : Nat) (v : Bytes) : Changes (foot [.config]) s (s.setCfg f i v) := by
  unfold State.setCfg
  extract_lets _
  exact .upd .refl

/-! ### Record -/

theorem State.updTile_changes (s : State) (n : Nat) (f : Tile → Tile) : Changes (foot [.tiles]) s (s.updTile n f) := by
  unfold State.updTile
  extract_lets _
  exact .upd .refl

theorem State.updDet_changes (s : State) (n : Nat) (f : Detector → Detector) : Changes (foot [.detectors]) s (s.updDet n f) := by
  unfold State.updDet
  extract_lets _
  exact .upd .refl

theorem State.updBus_changes (s : State) (b : Nat) (f : Bus → Bus) : Changes (foot [.buses]) s (s.updBus b f) := by
  unfold State.updBus
  exact .ite (.upd .refl) (.upd .refl)

theorem State.stage_changes (s : State) (trig : Nat) (status : Nat) (arg : Nat) (time : Nat) (rtc : Nat) (inSentinel : Bool) :
    Changes (foot [.rseq, .staging]) s (s.stage trig status arg time rtc inSentinel) := by
  unfold State.stage
  extract_lets _ _ _ _ _ _
  exact .ite .refl (.ite (.upd .refl) (.upd .refl))

theorem State.trigger_changes (s : State) (trig : Nat) (status : Nat) (arg : Nat) :
    Changes (foot [.rseq, .staging]) s (s.trigger trig status arg) := by
  unfold State.trigger
  exact .sub (State.stage_changes ..)

theorem State.fireRated_changes (s : State) (trig : Nat) (status : Nat) (arg : Nat) :
    Changes (foot [.rseq, .staging, .rates]) s (s.fireRated trig status arg) := by
  unfold State.fireRated
  extract_lets _ _ _
  exact .ite (.after (State.trigger_changes ..) (.upd .refl)) (.upd .refl)

theorem State.sourceEvent_changes (s : State) (source : Nat) (matches_ : Nat → Bool) (status : Nat) (arg : Nat) :
    Changes (foot [.rseq, .staging, .rates]) s (s.sourceEvent source matches_ status arg) := by
  unfold State.sourceEvent
  split
  · exact .refl
  · exact .foldl .refl fun u₃ _ h₃ => by
      extract_lets _
      exact .ite (.after (State.fireRated_changes ..) h₃) h₃

theorem State.sample_changes (s : State) (h : Nat) (v : Int) : Changes (foot [.other, .rseq, .staging, .rates]) s (s.sample h v) := by
  unfold State.sample
  extract_lets _ _ _ _ _ _ s₇ _
  have h₇ : Changes (foot [.other, .rseq, .staging, .rates]) s s₇ := .upd .refl
  exact .ite .refl (.ite .refl (.ite (.after (State.sourceEvent_changes ..) h₇) h₇))

theorem State.sampleSubject_changes (s : State) (subject : Nat) (matches_ : Nat → Bool) (v : Int) :
    Changes (foot [.other, .rseq, .staging, .rates]) s (s.sampleSubject subject matches_ v) := by
  unfold State.sampleSubject
  exact .foldl .refl fun u₁ _ h₁ => by
    extract_lets _
    exact .ite (.after (State.sample_changes ..) h₁) h₁

/-! ### Ops -/

theorem State.advance_changes (s : State) (t : Nat) : Changes (foot [.time, .rtc]) s (s.advance t) := by
  unfold State.advance
  extract_lets _
  exact .upd .refl

theorem State.updWindow_changes (s : State) (p : Port) (f : Window → Window) : Changes (foot [.windows, .functions]) s (s.updWindow p f) := by
  unfold State.updWindow
  extract_lets _
  split
  · exact .sub (State.updFn_changes ..)
  · exact .ite (.upd .refl) (.upd .refl)

theorem State.raiseVector_changes (s : State) (fn : Nat) (vec : Nat) : Changes (foot [.functions, .outbox]) s (s.raiseVector fn vec) := by
  unfold State.raiseVector
  exact .ite (.sub (State.emit_changes ..)) (.ite (.sub (State.updFn_changes ..)) .refl)

theorem State.raiseSource_changes (s : State) (p : Port) (src : Nat) : Changes (foot [.windows, .functions, .outbox]) s (s.raiseSource p src) := by
  unfold State.raiseSource
  extract_lets _ s₂
  have h₂ : Changes (foot [.windows, .functions, .outbox]) s s₂ := .sub (State.updWindow_changes ..)
  split
  · exact .ite (.sub (State.emit_changes ..)) .refl
  · split
    · exact .ite (.after (State.raiseVector_changes ..) h₂) h₂
    · exact h₂

theorem State.push_changes (s : State) (id : Nat) (n : Notice) : Changes (foot [.windows, .sessions, .functions, .outbox]) s (s.push id n) := by
  unfold State.push
  split
  · exact .refl
  · extract_lets _ s₂ s₃
    have h₂ : Changes (foot [.windows, .sessions, .functions, .outbox]) s s₂ := .sub (State.updSession_changes ..)
    have h₃ : Changes (foot [.windows, .sessions, .functions, .outbox]) s s₃ := .ite (.after (State.updWindow_changes ..) h₂) h₂
    exact .after (State.raiseSource_changes ..) h₃

theorem State.notifyAt_changes (s : State) (hears : Nat → Session → Bool) (kind : Nat) (status : Nat) (arg : Nat) (time : Nat) :
    Changes noticeFoot s (s.notifyAt hears kind status arg time) := by
  unfold State.notifyAt
  extract_lets _ s₂
  have h₂ : Changes noticeFoot s s₂ := .foldl .refl (fun u₃ _ h₃ => .after (State.push_changes ..) h₃)
  exact .after (State.sourceEvent_changes ..) h₂

theorem State.notify_changes (s : State) (realm : Nat) (kind : Nat) (status : Nat) (arg : Nat) :
    Changes noticeFoot s (s.notify realm kind status arg) := by
  unfold State.notify
  exact .sub (State.notifyAt_changes ..)

theorem State.answer_changes (s : State) (q : Request) (status : Nat) (payload : Bytes) :
    Changes (foot [.mailboxes, .sessions]) s (s.answer q status payload) := by
  unfold State.answer
  extract_lets _ _ _ _ s₅
  have h₅ : Changes (foot [.mailboxes, .sessions]) s s₅ := .ite (.sub (State.updSession_changes ..)) .refl
  exact .after (State.updMbox_changes ..) h₅

theorem State.take_changes (s : State) (p : Port) (q : Request) : Changes (foot [.mailboxes]) s (s.take p q) := by
  unfold State.take
  exact .sub (State.updMbox_changes ..)

theorem serve_changes {F : Foot} {s t : State} {p : Port} {op : Nat} {f : State → Request → State} (h : Changes F s t)
    (hf : ∀ u q, Changes F s u → Changes F s (f u q)) (hF : foot [.mailboxes] ||| F = F := by decide) : Changes F s (serve t p op f) := by
  unfold serve
  split
  · exact h
  · exact hf _ _ (.after (State.take_changes ..) h hF)

/-- What `State.announceMode` may change. -/
def announceModeFoot : Foot :=
  foot [.other, .windows, .sessions, .functions, .rseq, .staging, .rates, .outbox]

theorem State.announceMode_changes (s : State) : Changes announceModeFoot s (s.announceMode) := by
  unfold State.announceMode
  extract_lets _ _ s₃ s₄ s₅
  have h₃ : Changes announceModeFoot s s₃ := .upd .refl
  have h₄ : Changes announceModeFoot s s₄ := .after (State.notifyAt_changes ..) h₃
  have h₅ : Changes announceModeFoot s s₅ := .foldl h₄ fun u₆ _ h₆ =>
    .after (State.raiseSource_changes ..) h₆
  exact .after (State.trigger_changes ..) h₅

/-- What `State.setMode` may change. -/
def setModeFoot : Foot :=
  foot [.mode, .other, .windows, .sessions, .functions, .rseq, .staging, .rates, .outbox]

theorem State.setMode_changes (s : State) (m : Mode) (b : Base) (cause : Nat) : Changes setModeFoot s (s.setMode m b cause) := by
  unfold State.setMode
  extract_lets _
  exact .after (State.announceMode_changes ..) (.upd .refl)

theorem State.setGates_changes (s : State) (f : Gates → Gates) : Changes (foot [.gates]) s (s.setGates f) := by
  unfold State.setGates
  extract_lets _
  exact .upd .refl

theorem State.cellGate_changes (s : State) : Changes (foot [.gates]) s (s.cellGate) := by
  unfold State.cellGate
  extract_lets _
  exact .ite .refl (.sub (State.setGates_changes ..))

theorem State.drive_changes (s : State) (n : Nat) (level : Bool) : Changes (foot [.gpioOutputs, .outbox]) s (s.drive n level) := by
  unfold State.drive
  extract_lets _
  exact .after (State.emit_changes ..) (.upd .refl)

theorem State.hold_changes (s : State) (which : Nat → Bool) : Changes (foot [.gpioOutputs, .outbox]) s (s.hold which) := by
  unfold State.hold
  exact .foldl .refl (fun u₁ _ h₁ => .ite (.after (State.drive_changes ..) (.upd h₁)) h₁)

theorem State.releaseOut_changes (s : State) (which : Nat → Bool) : Changes (foot [.gpioOutputs, .outbox]) s (s.releaseOut which) := by
  unfold State.releaseOut
  exact .foldl .refl (fun u₁ _ h₁ => .ite (.after (State.drive_changes ..) (.upd h₁)) h₁)

theorem State.holdHost_changes (s : State) : Changes (foot [.gpioOutputs, .outbox]) s (s.holdHost) := by
  unfold State.holdHost
  exact .sub (State.hold_changes ..)

theorem State.floatAll_changes (s : State) : Changes (foot [.gpioOutputs, .outbox]) s (s.floatAll) := by
  unfold State.floatAll
  extract_lets _ _
  exact .after (State.emitAll_changes ..) (.upd .refl)

theorem State.updAct_changes (s : State) (realm : Nat) (id : Nat) (f : Act → Act) : Changes (foot [.realms]) s (s.updAct realm id f) := by
  unfold State.updAct
  exact .sub (State.updRealm_changes ..)

theorem State.rollback_changes (s : State) (realm : Nat) (tell : Bool) : Changes endingFoot s (s.rollback realm tell) := by
  unfold State.rollback
  extract_lets s₁ _ s₃
  have h₁ : Changes endingFoot s s₁ := .sub (State.updRealm_changes ..)
  clear_value s₁
  have h₃ : Changes endingFoot s s₃ := .upd h₁
  split
  · exact .refl
  · exact .ite (.after (State.notify_changes ..) h₃) h₃

theorem State.endAct_changes (s : State) (realm : Nat) (id : Nat) (status : Nat) (time : Nat) :
    Changes endingFoot s (s.endAct realm id status time) := by
  unfold State.endAct
  extract_lets s₁
  have h₁ : Changes endingFoot s s₁ := .sub (State.updAct_changes ..)
  split
  · exact .refl
  · extract_lets s₂ s₃ s₄
    have h₂ : Changes endingFoot s s₂ := .ite (.after (State.rollback_changes ..) h₁) h₁
    have h₃ : Changes endingFoot s s₃ := .after (State.updRealm_changes ..) h₂
    have h₄ : Changes endingFoot s s₄ := .ite (.after (State.notifyAt_changes ..) h₃) (.after (State.notifyAt_changes ..) h₃)
    exact .ite .refl (.after (State.trigger_changes ..) h₄)

theorem State.cancelAct_changes (s : State) (realm : Nat) (status : Nat) (which : Act → Bool) :
    Changes endingFoot s (s.cancelAct realm status which) := by
  unfold State.cancelAct
  split
  · exact .sub (State.endAct_changes ..)
  · exact .refl

/-- What `State.giveUp` may change. -/
def giveUpFoot : Foot :=
  foot [.mailboxes, .windows, .sessions, .realms, .functions, .pairOwn, .rseq, .staging, .rates, .outbox]

theorem State.giveUp_changes (s : State) (realm : Nat) (status : Nat) (tell : Bool) : Changes giveUpFoot s (s.giveUp realm status tell) := by
  unfold State.giveUp
  extract_lets s₁
  have h₁ : Changes giveUpFoot s s₁ := .sub (State.rollback_changes ..)
  split
  · exact .refl
  · extract_lets x₂ s₃
    have h₃ : Changes giveUpFoot s s₃ := by
      unfold s₃
      split
      · exact .after (State.answer_changes ..) h₁
      · exact h₁
    clear_value x₂
    split
    · exact .after (State.endAct_changes ..) h₃
    · exact h₃

theorem State.closeAdmin_changes (s : State) (realm : Nat) : Changes plainFoot s (s.closeAdmin realm) := by
  unfold State.closeAdmin
  extract_lets s₁ s₂ s₃
  have h₁ : Changes plainFoot s s₁ := .sub (State.updRealm_changes ..)
  have h₂ : Changes plainFoot s s₂ := .after (State.cancelAct_changes ..) h₁
  have h₃ : Changes plainFoot s s₃ := .ite h₂ (.after (State.giveUp_changes ..) h₂)
  split
  · exact .refl
  · extract_lets s₄
    have h₄ : Changes plainFoot s s₄ := .after (State.notify_changes ..) h₃
    exact .ite (.after (State.setMode_changes ..) h₄) h₄

theorem State.closeAdmins_changes (s : State) : Changes plainFoot s (s.closeAdmins) := by
  unfold State.closeAdmins
  exact .foldl .refl (fun u₁ _ h₁ => .after (State.closeAdmin_changes ..) h₁)

theorem State.closeSession_changes (s : State) (id : Nat) : Changes plainFoot s (s.closeSession id) := by
  unfold State.closeSession
  extract_lets _ s₂ s₃ s₅
  have h₂ : Changes plainFoot s s₂ := .upd .refl
  have h₃ : Changes plainFoot s s₃ := .foldl h₂ fun u₄ _ h₄ => by
    split
    · exact .ite (.after (State.closeAdmin_changes ..) h₄) h₄
    · exact h₄
  have h₅ : Changes plainFoot s s₅ := .foldl h₃ (fun u₆ _ h₆ => .after (State.cancelAct_changes ..) h₆)
  split
  · exact .refl
  · exact .foldl h₅ fun u₇ _ h₇ => by
      split
      · exact .ite (.after (State.giveUp_changes ..) h₇) h₇
      · exact h₇

theorem State.dropTxns_changes (s : State) (quarantine : Bool) : Changes giveUpFoot s (s.dropTxns quarantine) := by
  unfold State.dropTxns
  exact .foldl .refl fun u₁ _ h₁ => by
    split
    · exact h₁
    · exact .ite h₁ (.after (State.giveUp_changes ..) h₁)

/-- What `State.closeEntry` may change. -/
def closeEntryFoot : Foot :=
  foot [.windows, .sessions, .functions, .faultTable, .rseq, .staging, .rates, .outbox]

theorem State.closeEntry_changes (s : State) (early : Bool) : Changes closeEntryFoot s (s.closeEntry early) := by
  unfold State.closeEntry
  extract_lets _
  split
  · exact .refl
  · extract_lets _ s₃ _
    have h₃ : Changes closeEntryFoot s s₃ := .upd .refl
    exact .after (State.trigger_changes ..) (.after (State.notify_changes ..) h₃)

theorem State.coalesce_changes (s : State) (reporter : Nat) (subject : Nat) (cls : Nat) (arg : Nat) :
    Changes closeEntryFoot s (s.coalesce reporter subject cls arg) := by
  unfold State.coalesce
  extract_lets _ _ s₃ _
  have h₃ : Changes closeEntryFoot s s₃ := .ite (.sub (State.closeEntry_changes ..)) .refl
  clear_value s₃
  exact .ite (.upd .refl) (.upd h₃)

/-- What `State.issueNotice` may change. -/
def issueNoticeFoot : Foot :=
  foot [.windows, .sessions, .functions, .issued, .outgoing, .faultTable, .rseq, .staging, .rates, .outbox]

theorem State.issueNotice_changes (s : State) (subject : Nat) (cls : Nat) (arg : Nat) :
    Changes issueNoticeFoot s (s.issueNotice subject cls arg) := by
  unfold State.issueNotice
  extract_lets _ _ _
  split
  · exact .refl
  · extract_lets _ _ _ s₁
    have h₁ : Changes issueNoticeFoot s s₁ := by
      unfold s₁
      generalize List.drop _ _ = out
      exact .upd .refl
    exact .ite .refl (.after (State.coalesce_changes ..) h₁)

/-- What `State.zeroiseLine` may change. -/
def zeroiseLineFoot : Foot :=
  foot [.gates, .other, .cache, .loads, .pageData, .outbox]

theorem State.zeroiseLine_changes (s : State) : Changes zeroiseLineFoot s (s.zeroiseLine) := by
  unfold State.zeroiseLine
  extract_lets _ _ _
  exact .after (State.emit_changes ..) (.after (State.vaultGates_changes ..) (.upd .refl))

theorem State.mapAdmitted_changes (s : State) (f : Nat → Item → Item) : Changes (foot [.channels]) s (s.mapAdmitted f) := rfl

theorem State.unitOut_changes (s : State) (u : Nat) : Changes (foot [.gates, .selftests]) s (s.unitOut u) := by
  unfold State.unitOut
  extract_lets _ s₂
  have h₂ : Changes (foot [.gates, .selftests]) s s₂ := .upd .refl
  exact .ite (.after (State.setGates_changes ..) h₂) h₂

theorem State.avsSend_changes (s : State) (target : Nat) : Changes (foot [.avs, .outbox]) s (s.avsSend target) := by
  unfold State.avsSend
  extract_lets _ _ _
  exact .after (State.emit_changes ..) (.upd .refl)

theorem State.avsWrite_changes (s : State) (target : Nat) : Changes (foot [.avs, .outbox]) s (s.avsWrite target) := by
  unfold State.avsWrite
  extract_lets _ _ _
  exact .after (State.avsSend_changes ..) (.upd .refl)

theorem State.avsUpdate_changes (s : State) : Changes (foot [.avs, .outbox]) s (s.avsUpdate) := by
  unfold State.avsUpdate
  extract_lets _ _ _ _ s₅
  have h₅ : Changes (foot [.avs, .outbox]) s s₅ := .upd .refl
  exact .ite (.after (State.avsWrite_changes ..) h₅) h₅

/-- What `State.tileOut` may change. -/
def tileOutFoot : Foot :=
  foot [.gates, .selftests, .avs, .tiles, .outbox]

theorem State.tileOut_changes (s : State) (t : Nat) : Changes tileOutFoot s (s.tileOut t) := by
  unfold State.tileOut
  exact .after (State.avsUpdate_changes ..) (.foldl (.sub (State.updTile_changes ..)) (fun u₁ _ h₁ => .after (State.unitOut_changes ..) h₁))

theorem State.voidCrossings_changes (s : State) (tiles : List Nat) : Changes (foot [.tiles]) s (s.voidCrossings tiles) := by
  unfold State.voidCrossings
  extract_lets _
  exact .upd .refl

theorem State.programAll_changes (s : State) (js : List OtpJob) : Changes (foot [.otpJobs]) s (s.programAll js) := by
  unfold State.programAll
  extract_lets _
  exact .upd .refl

theorem State.program_changes (s : State) (j : OtpJob) : Changes (foot [.otpJobs]) s (s.program j) := by
  unfold State.program
  exact .sub (State.programAll_changes ..)

theorem State.programStep_changes (s : State) (first : Nat) (n : Nat) (act : Option (Nat × Nat)) (next : OtpThen) :
    Changes (foot [.otpJobs]) s (s.programStep first n act next) := by
  unfold State.programStep
  exact .sub (State.program_changes ..)

theorem State.programWord_changes (s : State) (w : Nat) (act : Option (Nat × Nat)) (next : OtpThen) :
    Changes (foot [.otpJobs]) s (s.programWord w act next) := by
  unfold State.programWord
  exact .sub (State.program_changes ..)

theorem State.updLog_changes (s : State) (slot : Nat) (f : LogEntry → LogEntry) : Changes (foot [.sentinelLog]) s (s.updLog slot f) := by
  unfold State.updLog
  extract_lets _
  split
  · exact .upd .refl
  · exact .refl

theorem State.markDone_changes (s : State) (seq : Nat) : Changes (foot [.sentinelLog]) s (s.markDone seq) := by
  unfold State.markDone
  split
  · exact .sub (State.updLog_changes ..)
  · exact .refl

theorem State.programEntry_changes (s : State) (e : LogEntry) : Changes (foot [.sentinelLog, .otpJobs]) s (s.programEntry e) := by
  unfold State.programEntry
  extract_lets _ s₂ _
  have h₂ : Changes (foot [.sentinelLog, .otpJobs]) s s₂ := .ite (.sub (State.programStep_changes ..)) .refl
  exact .ite (.after (State.programStep_changes ..) h₂) (.ite (.sub (State.programStep_changes ..)) (.sub (State.markDone_changes ..)))

theorem State.joinLog_changes (s : State) (slot : Nat) (bits : Nat) (sev : Nat) (flags : Nat) :
    Changes (foot [.sentinelLog, .otpJobs]) s (s.joinLog slot bits sev flags).1 := by
  unfold State.joinLog
  split
  · extract_lets _ s₂ _ s₄
    have h₂ : Changes (foot [.sentinelLog, .otpJobs]) s s₂ := .sub (State.updLog_changes ..)
    clear_value s₂
    have h₄ : Changes (foot [.sentinelLog, .otpJobs]) s s₄ := .ite (.upd h₂) h₂
    split
    · exact .after (State.programEntry_changes ..) h₄
    · exact h₂
  · exact .refl

theorem State.writeLog_changes (s : State) (bits : Nat) (sev : Nat) (flags : Nat) (join : Option Nat) :
    Changes (foot [.sentinel, .sentinelLog, .otpJobs]) s (s.writeLog bits sev flags join).1 := by
  unfold State.writeLog
  extract_lets _ _ _ _ _ _ _
  split
  · exact .sub (State.joinLog_changes ..)
  · split
    · extract_lets s₈
      have h₈ : Changes (foot [.sentinel, .sentinelLog, .otpJobs]) s s₈ := .upd .refl
      exact .ite (.after (State.programEntry_changes ..) h₈) h₈
    · split
      · exact .sub (State.joinLog_changes ..)
      · exact .refl

theorem State.restartZero_changes (s : State) : Changes (foot [.other, .signing]) s (s.restartZero) := by
  unfold State.restartZero
  extract_lets _ _
  exact .upd .refl

theorem State.isolate_changes (s : State) (tile : Option Nat) : Changes plainFoot s (s.isolate tile) := by
  unfold State.isolate
  extract_lets _ _ s₃ s₄ s₅ _
  have h₃ : Changes plainFoot s s₃ := .sub (State.mapAdmitted_changes ..)
  have h₄ : Changes plainFoot s s₄ := .after (State.voidCrossings_changes ..) h₃
  have h₅ : Changes plainFoot s s₅ := .after (State.restartZero_changes ..) h₄
  clear_value s₅
  split
  · exact .after (State.tileOut_changes ..) (.ite (.after (State.restartZero_changes ..) h₄) h₄)
  · exact .upd h₅

/-- What `State.stopActs` may change. -/
def stopActsFoot : Foot :=
  foot [.windows, .sessions, .realms, .functions, .privRest, .pairOwn, .otpJobs, .rseq, .staging, .rates, .outbox]

theorem State.stopActs_changes (s : State) : Changes stopActsFoot s (s.stopActs) := by
  unfold State.stopActs
  extract_lets s₁ _ _ _
  have h₁ : Changes stopActsFoot s s₁ := .foldl .refl fun u₂ _ h₂ => by
    split
    · exact .ite h₂ (.after (State.endAct_changes ..) h₂)
    · exact h₂
  clear_value s₁
  exact .upd h₁

/-- What `State.dropChanges` may change. -/
def dropChangesFoot : Foot :=
  foot [.other, .mailboxes, .sessions, .pairOwn, .pairRest]

theorem State.dropChanges_changes (s : State) : Changes dropChangesFoot s (s.dropChanges) := by
  unfold State.dropChanges
  extract_lets s₁ _ _ _
  have h₁ : Changes dropChangesFoot s s₁ := .foldl .refl fun u₂ _ h₂ => by
    split
    · exact .after (State.answer_changes ..) h₂
    · exact h₂
  clear_value s₁
  exact .upd h₁

theorem State.quarantine_changes (s : State) (cause : Nat) : Changes plainFoot s (s.quarantine cause) := by
  unfold State.quarantine
  extract_lets s₁ s₂ s₃ _ s₅ s₆ s₇ _ _ s₁₀
  have h₁ : Changes plainFoot s s₁ := .sub (State.mapAdmitted_changes ..)
  have h₂ : Changes plainFoot s s₂ := .after (State.dropTxns_changes ..) h₁
  have h₃ : Changes plainFoot s s₃ := .after (State.stopActs_changes ..) h₂
  clear_value s₃
  have h₅ : Changes plainFoot s s₅ := .upd h₃
  have h₆ : Changes plainFoot s s₆ := .after (State.closeAdmins_changes ..) h₅
  have h₇ : Changes plainFoot s s₇ := .after (State.dropChanges_changes ..) h₆
  clear_value s₇
  have h₁₀ : Changes plainFoot s s₁₀ := .upd h₇
  exact .after (State.announceMode_changes ..) (.after (State.releaseOut_changes ..) (.after (State.holdHost_changes ..) h₁₀))

/-- What `State.driveZeroise` may change. -/
def driveZeroiseFoot : Foot :=
  foot [.sentinel, .gates, .other, .cache, .loads, .pageData, .outbox]

theorem State.driveZeroise_changes (s : State) : Changes driveZeroiseFoot s (s.driveZeroise) := by
  unfold State.driveZeroise
  extract_lets s₁ _
  have h₁ : Changes driveZeroiseFoot s s₁ := .sub (State.zeroiseLine_changes ..)
  clear_value s₁
  exact .after (State.emit_changes ..) (.upd h₁)

theorem State.zeroiseResponse_changes (s : State) : Changes plainFoot s (s.zeroiseResponse) := by
  unfold State.zeroiseResponse
  extract_lets _ s₂ _ s₄ _
  have h₂ : Changes plainFoot s s₂ := .upd .refl
  clear_value s₂
  have h₄ : Changes plainFoot s s₄ := .ite (.upd h₂) h₂
  clear_value s₄
  exact .ite h₄
    (.ite
       (.after (State.dropChanges_changes ..) (.after (State.stopActs_changes ..) h₄)) (.ite (.upd h₄) (.after (State.quarantine_changes ..) h₄)))

theorem State.degrade_changes (s : State) (units : List Nat) : Changes (foot [.gates, .selftests]) s (s.degrade units) := by
  unfold State.degrade
  exact .foldl .refl (fun u₁ _ h₁ => .after (State.unitOut_changes ..) h₁)

/-- What `State.tellAlarm` may change. -/
def tellAlarmFoot : Foot :=
  foot [.windows, .sessions, .functions, .detectors, .rseq, .staging, .rates, .outbox]

theorem State.tellAlarm_changes (s : State) (n : Nat) (sev : Nat) : Changes tellAlarmFoot s (s.tellAlarm n sev) := by
  unfold State.tellAlarm
  extract_lets _
  exact .ite .refl (.after (State.notify_changes ..) (.sub (State.updDet_changes ..)))

theorem State.alarmMain_changes (s : State) (a : Alarm) (join : Option Nat) : Changes plainFoot s (s.alarmMain a join).1 := by
  unfold State.alarmMain
  extract_lets s₁ _ s₃ s₄ s₅ s₆ s₈ s₉ _
  have h₁ : Changes plainFoot s s₁ := .ite (.sub (State.driveZeroise_changes ..)) .refl
  clear_value s₁
  have h₃ : Changes plainFoot s s₃ := .upd h₁
  have h₄ : Changes plainFoot s s₄ := .after (State.trigger_changes ..) h₃
  have h₅ : Changes plainFoot s s₅ := by
    unfold s₅
    split
    · exact .after (State.trigger_changes ..) h₄
    · exact h₄
  have h₆ : Changes plainFoot s s₆ := .foldl h₅ (fun u₇ _ h₇ => .after (State.tellAlarm_changes ..) h₇)
  have h₈ : Changes plainFoot s s₈ := .ite (.after (State.degrade_changes ..) h₆) h₆
  have h₉ : Changes plainFoot s s₉ := .ite (.after (State.issueNotice_changes ..) h₈) h₈
  split
  next u₁₁ _ hp =>
    have h₁₁ : Changes plainFoot s u₁₁ := .of_eq (congrArg (·.1) hp) (by
        split
        · exact .after (State.writeLog_changes ..) h₉
        · exact h₉)
    extract_lets s₁₂
    have h₁₂ : Changes plainFoot s s₁₂ := .ite (.after (State.isolate_changes ..) h₁₁) h₁₁
    exact .ite (.after (State.zeroiseResponse_changes ..) h₁₂) h₁₂

/-- What `State.alarmSentinel` may change. -/
def alarmSentinelFoot : Foot :=
  foot [.sentinel, .other, .sentinelLog, .otpJobs, .outbox]

theorem State.alarmSentinel_changes (s : State) (a : Alarm) (join : Option Nat) : Changes alarmSentinelFoot s (s.alarmSentinel a join).1 := by
  unfold State.alarmSentinel
  extract_lets _ _ s₃ _
  have h₃ : Changes alarmSentinelFoot s s₃ := .ite (.after (State.emitAll_changes ..) (.upd .refl)) .refl
  split
  · exact .after (State.writeLog_changes ..) h₃
  · exact h₃

theorem State.alarm_changes (s : State) (a : Alarm) (join : Option Nat) : Changes plainFoot s (s.alarm a join).1 := by
  unfold State.alarm
  split
  · exact .sub (State.alarmSentinel_changes ..)
  · exact .sub (State.alarmMain_changes ..)

theorem State.faultDegrade_changes (s : State) (status : Nat) (arg : Nat) (units : List Nat) :
    Changes plainFoot s (s.faultDegrade status arg units) := by
  unfold State.faultDegrade
  exact .sub (State.alarm_changes ..)

theorem State.fatalFault_changes (s : State) (bits : Nat) (status : Nat) (arg : Nat) (tile : Option Nat) :
    Changes plainFoot s (s.fatalFault bits status arg tile) := by
  unfold State.fatalFault
  exact .sub (State.alarm_changes ..)

theorem State.drawTest_changes (s : State) (d : Nat) : Changes (foot [.detectors, .rng]) s (s.drawTest d) := by
  unfold State.drawTest
  split
  · split
    next _ u₁ hp =>
      have h₁ : Changes (foot [.detectors, .rng]) s u₁ := .of_eq (congrArg (·.2) hp) (.sub (State.draw_changes ..))
      exact .after (State.updDet_changes ..) h₁

theorem State.drawTests_changes (s : State) : Changes (foot [.detectors, .rng]) s (s.drawTests) := by
  unfold State.drawTests
  exact .foldl .refl (fun u₁ _ h₁ => .ite (.after (State.drawTest_changes ..) h₁) (.after (State.updDet_changes ..) h₁))

theorem State.duesNow_changes (s : State) : Changes (foot [.detectors]) s (s.duesNow) := by
  unfold State.duesNow
  exact .foldl .refl (fun u₁ _ h₁ => .after (State.updDet_changes ..) h₁)

/-! ### Otp -/

theorem State.driveWires_changes (s : State) : Changes (foot [.otpShadows]) s (s.driveWires) := by
  unfold State.driveWires
  extract_lets _ s₂
  have h₂ : Changes (foot [.otpShadows]) s s₂ := .upd .refl
  exact .upd .refl

theorem State.sense_changes (s : State) : Changes (foot [.otpShadows]) s (s.sense) := by
  unfold State.sense
  extract_lets _
  exact .after (State.driveWires_changes ..) (.upd .refl)

theorem State.pulse_changes (s : State) (w : Nat) (bits : Nat) (low : Nat) (high : Nat) :
    Changes (foot [.otpArray, .otpShadows]) s (s.pulse w bits low high) := by
  unfold State.pulse
  extract_lets _ _ _ s₄ _
  have h₄ : Changes (foot [.otpArray, .otpShadows]) s s₄ := .upd .refl
  clear_value s₄
  exact .after (State.driveWires_changes ..) (.upd h₄)

/-! ### Identity -/

theorem State.startSignature_changes (s : State) : Changes (foot [.signing]) s (s.startSignature) := by
  unfold State.startSignature
  extract_lets _
  exact .upd .refl

theorem State.enqueue_changes {s t : State} {j : SigJob} (h : s.enqueue j = some t) : Changes (foot [.signing]) s t := by
  unfold State.enqueue at h
  split at h
  · cases h
  · obtain rfl := Option.some.inj h
    exact .ite (.after (State.startSignature_changes ..) (.upd .refl)) (.upd .refl)

/-! ### Journal -/

theorem State.putJournal_changes (s : State) (addr : Nat) (b : Bytes) : Changes (foot [.journal]) s (s.putJournal addr b) := by
  unfold State.putJournal
  extract_lets _
  exact .upd .refl

theorem State.eraseJournal_changes (s : State) (first : Nat) (n : Nat) : Changes (foot [.journal]) s (s.eraseJournal first n) := by
  unfold State.eraseJournal
  extract_lets _
  exact .upd .refl

theorem State.openAt_changes (s : State) (addr : Nat) (first : Nat) : Changes (foot [.journal, .journalSeal]) s (s.openAt addr first).1 := by
  unfold State.openAt
  extract_lets _ _ _
  exact .after (State.putJournal_changes ..) (.upd .refl)

theorem State.openSector_changes (s : State) (keptArea : Bool) (first : Nat) (since : Bytes) :
    Changes (foot [.journal, .journalPos, .journalSeal]) s (s.openSector keptArea first since).1 := by
  unfold State.openSector
  extract_lets _ _ s₃ s₄ _ _ s₇ s₈ _
  have h₃ : Changes (foot [.journal, .journalPos, .journalSeal]) s s₃.1 := .sub (State.openAt_changes ..)
  clear_value s₃
  have h₄ : Changes (foot [.journal, .journalPos, .journalSeal]) s s₄ := h₃
  have h₇ : Changes (foot [.journal, .journalPos, .journalSeal]) s s₇.1 := .after (State.openAt_changes ..)
    (.after (State.eraseJournal_changes ..) (.sub (State.eraseJournal_changes ..)))
  clear_value s₇
  have h₈ : Changes (foot [.journal, .journalPos, .journalSeal]) s s₈ := h₇
  split
  · exact .refl
  · split
    · exact .upd h₄
    · exact .upd h₈

theorem State.useSlot_changes (s : State) (keptArea : Bool) (b : Bytes) : Changes (foot [.journal, .journalPos]) s (s.useSlot keptArea b) := by
  unfold State.useSlot
  extract_lets _
  exact .ite (.after (State.putJournal_changes ..) (.upd .refl)) (.after (State.putJournal_changes ..) (.upd .refl))

theorem State.writeRecord_changes (acc : State × Bytes) (x : Rec) :
    Changes (foot [.journal, .journalPos, .journalSeal]) acc.1 (State.writeRecord acc x).1 := by
  unfold State.writeRecord
  extract_lets _ s₂
  have h₂ : Changes (foot [.journal, .journalPos, .journalSeal]) acc.1 s₂.1 := .sub (State.openSector_changes ..)
  exact .after (State.useSlot_changes ..) h₂

theorem State.nextSeal_changes (s : State) (last : Nat) (since : Bytes) : Changes (foot [.journalSeal]) s (s.nextSeal last since).1 := by
  unfold State.nextSeal
  extract_lets _ _
  exact .upd .refl

theorem State.writeJournal_changes (s : State) (rs : List Rec) : Changes (foot [.journal, .journalPos, .journalSeal]) s (s.writeJournal rs) := by
  unfold State.writeJournal
  extract_lets s₁
  have h₁ : Changes (foot [.journal, .journalPos, .journalSeal]) s s₁.1 := .foldl_fst .refl fun a₂ _ h₂ =>
    .after (State.writeRecord_changes ..) h₂
  split
  · exact .refl
  · extract_lets _ s₄ s₅
    have h₄ : Changes (foot [.journal, .journalPos, .journalSeal]) s s₄.1 := .after (State.openSector_changes ..) h₁
    have h₅ : Changes (foot [.journal, .journalPos, .journalSeal]) s s₅.1 := .after (State.nextSeal_changes ..) h₄
    exact .after (State.useSlot_changes ..) h₅

theorem State.checkpointSector_changes (acc : State × Bytes) (addr : Nat) (data : Bytes) :
    Changes (foot [.journal, .journalSeal]) acc.1 (State.checkpointSector acc addr data).1 := by
  unfold State.checkpointSector
  extract_lets s₁ _
  have h₁ : Changes (foot [.journal, .journalSeal]) acc.1 s₁.1 := .sub (State.openAt_changes ..)
  exact .foldl h₁ (fun u₃ _ h₃ => .after (State.putJournal_changes ..) h₃)

theorem State.checkpointHists_changes (s : State) : Changes (foot [.journal, .checkpoints, .journalSeal]) s (s.checkpointHists) := by
  unfold State.checkpointHists
  extract_lets _ _ s₃ s₅ s₆ _
  have h₃ : Changes (foot [.journal, .checkpoints, .journalSeal]) s s₃.1 := .foldl_fst (.sub (State.eraseJournal_changes ..)) fun a₄ _ h₄ =>
    .after (State.checkpointSector_changes ..) h₄
  have h₅ : Changes (foot [.journal, .checkpoints, .journalSeal]) s s₅.1 := .after (State.nextSeal_changes ..) h₃
  have h₆ : Changes (foot [.journal, .checkpoints, .journalSeal]) s s₆ := .after (State.putJournal_changes ..) h₅
  clear_value s₆
  exact .upd h₆

theorem State.flush_changes (s : State) (pass : Bool) : Changes (foot [.staging, .journal, .journalPos, .journalSeal]) s (s.flush pass) := by
  unfold State.flush
  extract_lets _
  split
  · exact .upd .refl
  · extract_lets s₂ _
    have h₂ : Changes (foot [.staging, .journal, .journalPos, .journalSeal]) s s₂ := .sub (State.writeJournal_changes ..)
    clear_value s₂
    exact .ite (.upd h₂) (.upd .refl)

theorem State.flushBeforeReset_changes (s : State) : Changes (foot [.staging, .journal, .journalPos, .journalSeal]) s (s.flushBeforeReset) := by
  unfold State.flushBeforeReset
  exact .ite (.sub (State.flush_changes ..)) .refl

theorem State.spoilGolden_changes (s : State) (base : Nat) (len : Nat) : Changes (foot [.privImages]) s (s.spoilGolden base len) := by
  unfold State.spoilGolden
  extract_lets _
  exact .upd .refl

theorem State.eraseFlashRange_changes (s : State) (base : Nat) (len : Nat) :
    Changes (foot [.privImages, .fwSlots, .fwHeaders, .journal]) s (s.eraseFlashRange base len) := by
  unfold State.eraseFlashRange
  extract_lets _ _ _ s₄ s₅ _ _
  have h₄ : Changes (foot [.privImages, .fwSlots, .fwHeaders, .journal]) s s₄ := .upd .refl
  have h₅ : Changes (foot [.privImages, .fwSlots, .fwHeaders, .journal]) s s₅ := .after (State.spoilGolden_changes ..) h₄
  clear_value s₅
  exact .upd h₅

theorem State.programFlash_changes (s : State) (base : Nat) (data : Bytes) :
    Changes (foot [.privImages, .fwSlots, .fwHeaders, .journal]) s (s.programFlash base data) := by
  unfold State.programFlash State.spoilGolden
  extract_lets
  exact .upd .refl

/-- What `State.resumeJournal` may change. -/
def resumeJournalFoot : Foot :=
  foot [.other, .rseq, .staging, .journal, .journalPos, .checkpoints, .journalSeal, .rates]

theorem State.resumeJournal_changes (s : State) : Changes resumeJournalFoot s (s.resumeJournal) := by
  unfold State.resumeJournal
  extract_lets _ _ _ _
  exact .upd .refl

/-! ### Layout -/

theorem State.allotContexts_changes (s : State) : Changes (foot [.other]) s (s.allotContexts) := by
  unfold State.allotContexts
  extract_lets _
  exact .upd .refl

/-- What `State.rebuild` may change. -/
def rebuildFoot : Foot :=
  foot [.other, .channels, .wheel, .pageData, .signing]

theorem State.rebuild_changes (s : State) : Changes rebuildFoot s (s.rebuild) := by
  unfold State.rebuild
  extract_lets _ _ _ _ _ s₆ _ s₈
  have h₆ : Changes rebuildFoot s s₆ := .upd .refl
  clear_value s₆
  have h₈ : Changes rebuildFoot s s₈ := .upd h₆
  exact .after (State.allotContexts_changes ..) h₈

/-! ### PairOps -/

theorem State.noteAlarm_changes (s : State) : Changes plainFoot s (s.noteAlarm) := by
  unfold State.noteAlarm
  exact .sub (State.alarm_changes ..)

theorem State.sendFrame_changes (s : State) (type : Nat) (body : Bytes) : Changes (foot [.pairRest, .outbox]) s (s.sendFrame type body) := by
  unfold State.sendFrame
  extract_lets _ _
  exact .ite (.after (State.emit_changes ..) (.upd .refl)) .refl

theorem State.tellAdmit_changes (s : State) (c : Nat) (x : Item) : Changes (foot [.pairRest, .outbox]) s (s.tellAdmit c x) := by
  unfold State.tellAdmit
  extract_lets s₁ _
  have h₁ : Changes (foot [.pairRest, .outbox]) s s₁ := .sub (State.sendFrame_changes ..)
  clear_value s₁
  exact .ite (.upd h₁) .refl

theorem State.tellRel_changes (s : State) (c : Nat) (x : Item) : Changes (foot [.pairRest, .outbox]) s (s.tellRel c x) := by
  unfold State.tellRel
  extract_lets s₁ _
  have h₁ : Changes (foot [.pairRest, .outbox]) s s₁ := .sub (State.sendFrame_changes ..)
  clear_value s₁
  exact .ite (.upd h₁) .refl

theorem State.tellAll_changes (s : State) (c : Nat) : Changes (foot [.pairRest, .outbox]) s (s.tellAll c) := by
  unfold State.tellAll
  exact .foldl .refl (fun u₁ _ h₁ => .ite h₁ (.after (State.tellRel_changes ..) h₁))

theorem State.updPair_changes (s : State) (f : PairState → PairState) : Changes (foot [.pairOwn, .pairRest]) s (s.updPair f) := rfl

/-- What `State.setPairMode` may change. -/
def setPairModeFoot : Foot :=
  foot [.windows, .sessions, .functions, .pairRest, .rseq, .staging, .rates, .outbox]

theorem State.setPairMode_changes (s : State) (m : PairMode) : Changes setPairModeFoot s (s.setPairMode m) := by
  unfold State.setPairMode
  extract_lets _ s₂
  have h₂ : Changes setPairModeFoot s s₂ := .upd .refl
  exact .ite .refl (.after (State.trigger_changes ..) (.after (State.notify_changes ..) h₂))

theorem State.sendHello_changes (s : State) : Changes (foot [.pairRest, .rng, .outbox]) s (s.sendHello) := by
  unfold State.sendHello
  split
  · exact .refl
  · split
    · split
      next _ u₄ hp =>
        have h₄ : Changes (foot [.pairRest, .rng, .outbox]) s u₄ := .of_eq (congrArg (·.2) hp) (.sub (State.draw_changes ..))
        extract_lets _ _
        exact .after (State.emit_changes ..) (.upd h₄)
    · exact .refl

/-- What `State.startPair` may change. -/
def startPairFoot : Foot :=
  foot [.gates, .windows, .sessions, .functions, .pairRest, .rseq, .staging, .rates, .outbox]

theorem State.startPair_changes (s : State) (waited : Nat) : Changes startPairFoot s (s.startPair waited) := by
  unfold State.startPair
  extract_lets s₁ _ _ s₄
  have h₁ : Changes startPairFoot s s₁ := .sub (State.setGates_changes ..)
  clear_value s₁
  have h₄ : Changes startPairFoot s s₄ := .upd h₁
  exact .after (State.setPairMode_changes ..) h₄

/-! ### Gate -/

/-- What `State.clearRings` may change. -/
def clearRingsFoot : Foot :=
  foot [.other, .config, .channels, .cache, .loads, .pageData, .signing]

theorem State.clearRings_changes (s : State) : Changes clearRingsFoot s (s.clearRings) := by
  unfold State.clearRings
  extract_lets _ _ _ _
  exact .upd .refl

theorem State.setPhase_changes (s : State) (p : ReleasePhase) : Changes (foot [.relPhase]) s (s.setPhase p) := by
  unfold State.setPhase
  extract_lets _
  exact .upd .refl

theorem State.startStep_changes (s : State) (i : Nat) : Changes (foot [.relPhase, .relStep]) s (s.startStep i) := by
  unfold State.startStep
  extract_lets _
  exact .upd .refl

theorem State.startRelease_changes (s : State) : Changes (foot [.bootStep, .relPhase, .relStep]) s (s.startRelease) := by
  unfold State.startRelease
  extract_lets _
  exact .after (State.startStep_changes ..) (.upd .refl)

theorem State.openBus_changes (s : State) (b : Nat) : Changes (foot [.buses]) s (s.openBus b) := by
  unfold State.openBus
  exact .sub (State.updBus_changes ..)

theorem State.openFor_changes (s : State) (needs : Nat) : Changes (foot [.buses]) s (s.openFor needs) := by
  unfold State.openFor
  extract_lets s₁
  have h₁ : Changes (foot [.buses]) s s₁ := .ite (.sub (State.openBus_changes ..)) .refl
  exact .ite (.after (State.openBus_changes ..) h₁) h₁

theorem State.readRecord_changes (s : State) : Changes (foot [.other, .privRest]) s (s.readRecord) := by
  unfold State.readRecord
  extract_lets _ _ _
  exact .upd .refl

theorem State.compactRecord_changes (s : State) : Changes (foot [.sentinel, .privImages, .privRest]) s (s.compactRecord) := by
  unfold State.compactRecord
  extract_lets _ _ _ _ _
  exact .upd .refl

/-- What `State.appendRecord` may change. -/
def appendRecordFoot : Foot :=
  foot [.sentinel, .privImages, .privRest, .pairRest, .outbox]

theorem State.appendRecord_changes (s : State) (kind : Nat) (index : Nat) (value : Nat) (seedGen : Nat) (frame : Bytes) :
    Changes appendRecordFoot s (s.appendRecord kind index value seedGen frame) := by
  unfold State.appendRecord
  extract_lets _ _ _ _ _ s₆
  have h₆ : Changes appendRecordFoot s s₆ := .ite (.sub (State.compactRecord_changes ..)) (.upd .refl)
  exact .after (State.sendFrame_changes ..) h₆

theorem State.appendGen_changes (s : State) (key : Nat) (v : Nat) : Changes appendRecordFoot s (s.appendGen key v) := by
  unfold State.appendGen
  exact .sub (State.appendRecord_changes ..)

/-- What `State.raiseSvn` may change. -/
def raiseSvnFoot : Foot :=
  foot [.sentinel, .buses, .privImages, .privRest, .pairRest, .outbox]

theorem State.raiseSvn_changes (s : State) (b : Nat) (v : Nat) : Changes raiseSvnFoot s (s.raiseSvn b v) := by
  unfold State.raiseSvn
  extract_lets _
  exact .ite .refl (.ite (.sub (State.updBus_changes ..)) (.after (State.appendRecord_changes ..) (.upd .refl)))

/-- What `State.endRelease` may change. -/
def endReleaseFoot : Foot :=
  foot [.sentinel, .gates, .bootStep, .relPhase, .relStep, .buses, .privImages, .privRest, .pairRest, .outbox]

theorem State.endRelease_changes (s : State) : Changes endReleaseFoot s (s.endRelease) := by
  unfold State.endRelease
  extract_lets _ _ s₃ s₄
  have h₃ : Changes endReleaseFoot s s₃ := .upd .refl
  have h₄ : Changes endReleaseFoot s s₄ := .after (State.setGates_changes ..) h₃
  exact .foldl h₄ fun u₅ _ h₅ => by
    extract_lets s₆
    have h₆ : Changes endReleaseFoot s s₆ := .ite h₅ (.after (State.openBus_changes ..) h₅)
    split
    · exact .ite (.after (State.raiseSvn_changes ..) h₆) h₆
    · exact h₆

theorem State.stepDone_changes (s : State) : Changes endReleaseFoot s (s.stepDone) := by
  unfold State.stepDone
  extract_lets s₁
  have h₁ : Changes endReleaseFoot s s₁ := .sub (State.openFor_changes ..)
  exact .ite (.after (State.startStep_changes ..) h₁) (.after (State.endRelease_changes ..) h₁)

theorem State.releaseService_changes (s : State) (ok : Nat → Bool) : Changes (foot [.gpioOutputs, .outbox]) s (s.releaseService ok) := by
  unfold State.releaseService
  exact .sub (State.releaseOut_changes ..)

/-- What `State.holdInGate` may change. -/
def holdInGateFoot : Foot :=
  foot [.gates, .relPhase, .gpioOutputs, .buses, .outbox]

theorem State.holdInGate_changes (s : State) : Changes holdInGateFoot s (s.holdInGate) := by
  unfold State.holdInGate
  extract_lets s₁ s₂
  have h₁ : Changes holdInGateFoot s s₁ := .after (State.setGates_changes ..) (.sub (State.setPhase_changes ..))
  have h₂ : Changes holdInGateFoot s s₂ := .after (State.releaseService_changes ..) h₁
  exact .foldl h₂ fun u₃ _ h₃ => by
    extract_lets _
    exact .ite (.after (State.openFor_changes ..) h₃) h₃

theorem State.loadRelease_changes (s : State) : Changes (foot [.other, .relPhase, .relStep, .attempts]) s (s.loadRelease) := by
  unfold State.loadRelease
  extract_lets _
  exact .upd .refl

theorem State.settleGpios_changes (s : State) (old : Bytes) : Changes (foot [.gpioOutputs, .outbox]) s (s.settleGpios old) := by
  refine .foldl .refl fun u n hu => ?_
  have hforget : Changes (foot [.gpioOutputs, .outbox]) s { u with rel := { u.rel with released := u.rel.released.filter (· != n) } } := .upd hu
  have hdrop : Changes (foot [.gpioOutputs, .outbox]) s
      { u with rel := { u.rel with released := u.rel.released.filter (· != n), driven := KeyMap.del u.rel.driven n } } := .upd hu
  exact .ite (.ite (.after (State.emit_changes ..) hdrop) hu)
    (.ite (.after (State.drive_changes ..) hforget) (.ite hu (.after (State.drive_changes ..) hu)))

theorem State.passUnverified_changes (s : State) (b : Nat) : Changes (foot [.buses]) s (s.passUnverified b) := by
  unfold State.passUnverified
  exact .ite .refl (.sub (State.updBus_changes ..))

theorem State.startVerify_changes (s : State) (b : Nat) : Changes (foot [.buses]) s (s.startVerify b) := by
  unfold State.startVerify
  exact .after (State.passUnverified_changes ..) (.sub (State.updBus_changes ..))

theorem State.sendErases_changes (s : State) (b : Nat) (cs : Nat) (base : Nat) (len : Nat) :
    Changes (foot [.outbox]) s (s.sendErases b cs base len) := by
  unfold State.sendErases
  exact .foldl .refl (fun u₁ _ h₁ => .after (State.emit_changes ..) (.after (State.emit_changes ..) h₁))

theorem State.startArea_changes (s : State) (b : Nat) : Changes (foot [.outbox]) s (s.startArea b) := by
  unfold State.startArea
  extract_lets _ _
  split
  · extract_lets s₃
    have h₃ : Changes (foot [.outbox]) s s₃ := .sub (State.sendErases_changes ..)
    split
    · exact .refl
    · extract_lets _
      exact .ite
        (.foldl h₃ (fun u₅ _ h₅ => .after (State.emit_changes ..) (.after (State.emit_changes ..) h₅)))
        (.after (State.emit_changes ..) (.sub (State.sendErases_changes ..)))
  · exact .refl

theorem State.areasDone_changes (s : State) (b : Nat) : Changes denialFoot s (s.areasDone b) := by
  unfold State.areasDone
  extract_lets s₁ s₂
  have h₁ : Changes denialFoot s s₁ := .sub (State.updBus_changes ..)
  have h₂ : Changes denialFoot s s₂ := .after (State.trigger_changes ..) h₁
  exact .after (State.notify_changes ..) h₂

theorem State.enterRecover_changes (s : State) (buses : Nat) (cause : Nat) : Changes plainFoot s (s.enterRecover buses cause) := by
  unfold State.enterRecover
  extract_lets _ _ s₃ s₄ _ s₉ s₁₀ s₁₁ s₁₄ s₁₅
  have h₃ : Changes plainFoot s s₃ := .upd .refl
  have h₄ : Changes plainFoot s s₄ := .foldl h₃ fun u₅ _ h₅ => by
    extract_lets _
    exact .ite (.after (State.updBus_changes ..) h₅) h₅
  have h₉ : Changes plainFoot s s₉ := .after (State.hold_changes ..) h₄
  have h₁₀ : Changes plainFoot s s₁₀ := .after (State.releaseOut_changes ..) h₉
  have h₁₁ : Changes plainFoot s s₁₁ := .foldl h₁₀ fun u₁₂ _ h₁₂ => by
    extract_lets _
    exact .ite (.after (State.openFor_changes ..) h₁₂) h₁₂
  have h₁₄ : Changes plainFoot s s₁₄ := .after (State.dropTxns_changes ..) h₁₁
  have h₁₅ : Changes plainFoot s s₁₅ := .after (State.closeAdmins_changes ..)
    (.after (State.setMode_changes ..) (.after (State.setPhase_changes ..) h₁₄))
  exact .foldl h₁₅ (fun u₁₆ _ h₁₆ => .ite (.ite (.after (State.areasDone_changes ..) h₁₆) (.after (State.startArea_changes ..) h₁₆)) h₁₆)

theorem State.platformNext_changes (s : State) : Changes plainFoot s (s.platformNext) := by
  unfold State.platformNext
  extract_lets _ _ _
  exact .ite .refl
    (.ite (.sub (State.startRelease_changes ..))
       (.ite (.after (State.holdInGate_changes ..) (.upd .refl)) (.sub (State.enterRecover_changes ..))))

theorem State.enterGate_changes (s : State) (cause : Nat) : Changes plainFoot s (s.enterGate cause) := by
  unfold State.enterGate
  extract_lets s₁ s₃ _ _ _ s₇ s₈ s₉
  have h₁ : Changes plainFoot s s₁ := .foldl .refl (fun u₂ _ h₂ => .after (State.tellAll_changes ..) h₂)
  have h₃ : Changes plainFoot s s₃ := .after (State.clearRings_changes ..) h₁
  clear_value s₃
  have h₇ : Changes plainFoot s s₇ := .upd h₃
  have h₈ : Changes plainFoot s s₈ := .after (State.settleGpios_changes ..) (.after (State.loadRelease_changes ..) h₇)
  have h₉ : Changes plainFoot s s₉ := .after (State.dropTxns_changes ..) h₈
  exact .after (State.closeAdmins_changes ..) (.after (State.announceMode_changes ..) h₉)

theorem State.resetShadows_changes (s : State) (b : Nat) : Changes (foot [.buses]) s (s.resetShadows b) := by
  unfold State.resetShadows
  extract_lets _
  exact .sub (State.updBus_changes ..)

theorem State.busAtGate_changes (s : State) (b : Nat) (restored : Bool) : Changes (foot [.buses]) s (s.busAtGate b restored) := by
  unfold State.busAtGate
  extract_lets _ s₂
  have h₂ : Changes (foot [.buses]) s s₂ := .sub (State.resetShadows_changes ..)
  exact .ite (.after (State.startVerify_changes ..) h₂) h₂

theorem State.warmGate_changes (s : State) (restored : Nat) (cause : Nat) : Changes plainFoot s (s.warmGate restored cause) := by
  unfold State.warmGate
  exact .after (State.platformNext_changes ..)
    (.foldl (.sub (State.enterGate_changes ..)) (fun u₁ _ h₁ => .after (State.busAtGate_changes ..) h₁))

theorem State.gateAfterFailure_changes (s : State) (b : Nat) : Changes plainFoot s (s.gateAfterFailure b) := by
  unfold State.gateAfterFailure
  extract_lets _ _ s₃ _
  have h₃ : Changes plainFoot s s₃ := .after (State.busAtGate_changes ..)
    (.after (State.resetShadows_changes ..) (.sub (State.enterGate_changes ..)))
  clear_value s₃
  exact .after (State.holdInGate_changes ..) (.upd h₃)

theorem State.finishRestore_changes (s : State) : Changes plainFoot s (s.finishRestore) := by
  unfold State.finishRestore
  exact .ite .refl (.ite (.sub (State.warmGate_changes ..)) .refl)

theorem State.coldGate_changes (s : State) (power : Bool) (cause : Nat) : Changes restartFoot s (s.coldGate power cause) := by
  unfold State.coldGate
  extract_lets s₁ s₂ s₃ s₄ _ _ _ _ _ _ _ _ _ _ _ _ _ _ _ _ _ _ _ _ s₂₅ _ _ s₂₈
  have h₁ : Changes restartFoot s s₁ := .ite .refl (.sub (State.flushBeforeReset_changes ..))
  have h₂ : Changes restartFoot s s₂ := .after (State.clearRings_changes ..) h₁
  have h₃ : Changes restartFoot s s₃ := .after (State.floatAll_changes ..) h₂
  have h₄ : Changes restartFoot s s₄ := .ite (.after (State.emit_changes ..) h₃) h₃
  clear_value s₄
  have h₂₅ : Changes restartFoot s s₂₅ := .upd h₄
  clear_value s₂₅
  have h₂₈ : Changes restartFoot s s₂₈ := .upd h₂₅
  exact .after (State.rebuild_changes ..) h₂₈

/-! ### Balls -/

theorem State.showBalls_changes (s : State) (before : State) : Changes (foot [.outbox]) s (s.showBalls before) := by
  unfold State.showBalls
  exact .sub (State.emitAll_changes ..)

/-! ### Vault -/

theorem State.blobMade_changes (s : State) : Changes (foot [.created]) s (s.blobMade) := by
  unfold State.blobMade
  extract_lets _
  exact .upd .refl

theorem State.evict_changes (s : State) (k : Nat) : Changes (foot [.cache]) s (s.evict k) := by
  unfold State.evict
  extract_lets _
  exact .upd .refl

theorem State.makeRoom_changes (r n : Nat) (fuel : Nat) (s : State) : Changes (foot [.cache]) s (State.makeRoom r n fuel s) := by
  induction fuel generalizing s with
  | zero => exact .refl
  | succ fuel ih =>
    unfold State.makeRoom
    split
    · exact .refl
    · split
      · exact .after (ih _) (State.evict_changes ..)
      · exact .refl

theorem State.room_changes (s : State) (r : Nat) (n : Nat) : Changes (foot [.cache]) s (s.room r n) := by
  unfold State.room
  exact .sub (State.makeRoom_changes ..)

theorem State.insertKey_changes (s : State) (c : Nat) (tag : Nat) (k : KeyView) :
    Changes (foot [.cache, .loads, .loadCount]) s (s.insertKey c tag k) := by
  unfold State.insertKey
  extract_lets _ _ s₃ s₄ _ _
  have h₃ : Changes (foot [.cache, .loads, .loadCount]) s s₃ := .upd .refl
  have h₄ : Changes (foot [.cache, .loads, .loadCount]) s s₄ := .after (State.room_changes ..) h₃
  clear_value s₄
  exact .upd h₄

theorem State.failLoad_changes (s : State) (c : Nat) (tag : Nat) (status : Nat) : Changes (foot [.channels, .loads]) s (s.failLoad c tag status) := by
  unfold State.failLoad
  extract_lets _ s₂ _
  have h₂ : Changes (foot [.channels, .loads]) s s₂ := .upd .refl
  exact .after (State.updChan_changes ..) h₂

theorem State.updEntry_changes (s : State) (c : Nat) (tag : Nat) (f : CacheEntry → CacheEntry) : Changes (foot [.cache]) s (s.updEntry c tag f) := by
  unfold State.updEntry
  extract_lets _
  split
  · exact .upd .refl
  · exact .refl

theorem State.pin_changes (s : State) (c : Nat) (tag : Nat) : Changes (foot [.cache]) s (s.pin c tag) := by
  unfold State.pin
  exact .sub (State.updEntry_changes ..)

theorem State.unpin_changes (s : State) (c : Nat) (tag : Nat) : Changes (foot [.cache]) s (s.unpin c tag) := by
  unfold State.unpin
  extract_lets s₁
  have h₁ : Changes (foot [.cache]) s s₁ := .sub (State.updEntry_changes ..)
  split
  · exact .ite (.after (State.evict_changes ..) h₁) h₁
  · exact h₁

theorem State.flushCache_changes (s : State) (c : Nat) : Changes (foot [.cache]) s (s.flushCache c).1 := by
  unfold State.flushCache
  extract_lets _ _
  exact .upd .refl

theorem State.evictChannel_changes (s : State) (c : Nat) : Changes (foot [.cache]) s (s.evictChannel c) := by
  unfold State.evictChannel
  extract_lets _
  exact .upd .refl

theorem State.trimCache_changes (s : State) : Changes (foot [.cache]) s (s.trimCache) := by
  unfold State.trimCache
  exact .foldl .refl (fun u₁ _ h₁ => .ite (.after (State.room_changes ..) h₁) h₁)

theorem State.revokeChildren_changes (s : State) (c : Nat) (slot : Nat) (gen : Nat) (erased : Bool) :
    Changes (foot [.channels, .cache]) s (s.revokeChildren c slot gen erased) := by
  unfold State.revokeChildren
  extract_lets _ _ _ s₄
  have h₄ : Changes (foot [.channels, .cache]) s s₄ := .upd .refl
  exact .after (State.mapAdmitted_changes ..) h₄

/-! ### Plan -/

theorem State.takePages_changes (s : State) (c : Nat) (ps : List Nat) : Changes (foot [.other]) s (s.takePages c ps) := by
  unfold State.takePages
  extract_lets _
  exact .upd .refl

theorem State.dropPages_changes (s : State) (ps : List Nat) : Changes (foot [.other, .pageData]) s (s.dropPages ps) := by
  unfold State.dropPages
  extract_lets _
  exact .upd .refl

theorem State.fillPages_changes (s : State) (ps : List Nat) (held : Bytes) : Changes (foot [.pageData]) s (s.fillPages ps held) := by
  unfold State.fillPages
  extract_lets _
  exact .upd .refl

theorem State.saveContext_changes (s : State) (c : Nat) (x : Item) (ctx : Bytes) : Changes (foot [.other]) s (s.saveContext c x ctx) := by
  unfold State.saveContext
  extract_lets _ s₂
  have h₂ : Changes (foot [.other]) s s₂ := .upd .refl
  exact .ite (.foldl h₂ (fun u₃ _ h₃ => .upd h₃)) h₂

theorem State.useContext_changes (s : State) (core : Option Nat) (c : Nat) (x : Item) : Changes (foot [.other, .free]) s (s.useContext core c x) := by
  unfold State.useContext
  extract_lets _ s₂ _ s₄
  have h₂ : Changes (foot [.other, .free]) s s₂ := .upd .refl
  clear_value s₂
  have h₄ : Changes (foot [.other, .free]) s s₄ := by
    unfold s₄
    split
    · exact .upd h₂
    · exact h₂
  exact .ite .refl (.after (State.saveContext_changes ..) h₄)

theorem State.sweepContexts_changes (s : State) (c : Nat) : Changes (foot [.other]) s (s.sweepContexts c) := by
  unfold State.sweepContexts
  extract_lets _ _
  exact .upd .refl

theorem State.takeSlots_changes (s : State) (c : Nat) (op : Nat) (ks : List Nat) : Changes (foot [.other]) s (s.takeSlots c op ks) := by
  unfold State.takeSlots
  extract_lets _ _ _ _
  exact .upd .refl

theorem State.freeSlots_changes (s : State) (ks : List Nat) : Changes (foot [.other]) s (s.freeSlots ks) := by
  unfold State.freeSlots
  extract_lets _
  exact .upd .refl

theorem State.writeOperands_changes (s : State) (x : Item) : Changes (foot [.other, .free]) s (s.writeOperands x) := by
  unfold State.writeOperands
  exact .foldl .refl (fun u₁ _ h₁ => .upd h₁)

/-! ### Transport -/

theorem State.refuse_changes (s : State) (q : Request) (status : Nat) : Changes (foot [.mailboxes]) s (s.refuse q status) := by
  unfold State.refuse
  exact .sub (State.updMbox_changes ..)

theorem State.ackFragment_changes (s : State) (q : Request) : Changes (foot [.mailboxes]) s (s.ackFragment q) := by
  unfold State.ackFragment
  exact .sub (State.refuse_changes ..)

theorem State.replay_changes (s : State) (q : Request) : Changes (foot [.mailboxes, .sessions]) s (s.replay q) := by
  unfold State.replay
  split
  · exact .refl
  · split
    · exact .sub (State.updMbox_changes ..)
    · exact .sub (State.updSession_changes ..)

theorem State.setPartial_changes (s : State) (q : Request) (m : Option PartialMsg) : Changes (foot [.loose, .sessions]) s (s.setPartial q m) := by
  unfold State.setPartial
  extract_lets _
  exact .ite (.upd .refl) (.sub (State.updSession_changes ..))

theorem State.received_changes (s : State) (q : Request) : Changes (foot [.realms]) s (s.received q) := by
  unfold State.received
  extract_lets _
  exact .ite (.sub (State.updRealm_changes ..)) .refl

theorem State.joinFragment_changes (s : State) (q : Request) (more : Bool) :
    Changes (foot [.mailboxes, .loose, .sessions, .realms]) s (s.joinFragment q more) := by
  unfold State.joinFragment
  extract_lets _ _ s₃
  have h₃ : Changes (foot [.mailboxes, .loose, .sessions, .realms]) s s₃ := .sub (State.setPartial_changes ..)
  exact .ite
    (.after (State.ackFragment_changes ..) (.sub (State.setPartial_changes ..)))
    (.ite (.after (State.answer_changes ..) h₃) (.after (State.updMbox_changes ..) (.after (State.received_changes ..) h₃)))

theorem State.discardOn_changes (s : State) (q : Request) (status : Nat) : Changes (foot [.loose, .sessions]) s (s.discardOn q status) := by
  unfold State.discardOn
  exact .ite (.sub (State.setPartial_changes ..)) .refl

theorem State.deliver_changes (s : State) (p : Port) (msg : Bytes) : Changes (foot [.mailboxes, .loose, .sessions, .realms]) s (s.deliver p msg) := by
  unfold State.deliver
  extract_lets _ x₂ _ _ s₅
  have h₅ : Changes (foot [.mailboxes, .loose, .sessions, .realms]) s s₅ := .sub (State.updSession_changes ..)
  split
  · exact .sub (State.refuse_changes ..)
  · split
    · exact .sub (State.refuse_changes ..)
    · split
      · exact .sub (State.refuse_changes ..)
      · split
        · exact .sub (State.refuse_changes ..)
        · clear_value x₂
          split
          · split
            · exact .after (State.refuse_changes ..) (.sub (State.discardOn_changes ..))
            · exact .sub (State.joinFragment_changes ..)
          · extract_lets _
            split
            · extract_lets s₇₃
              have h₇₃ : Changes (foot [.mailboxes, .loose, .sessions, .realms]) s s₇₃ := .after (State.updSession_changes ..) h₅
              split
              · exact .after (State.refuse_changes ..) h₅
              · exact .after (State.replay_changes ..) h₅
              · split
                · exact .after (State.answer_changes ..) (.after (State.discardOn_changes ..) h₇₃)
                · exact .after (State.joinFragment_changes ..) h₇₃

theorem State.grantNext_changes (s : State) : Changes (foot [.mailboxes, .windows, .functions, .outbox]) s (s.grantNext) := by
  unfold State.grantNext
  split
  · exact .refl
  · extract_lets s₁
    have h₁ : Changes (foot [.mailboxes, .windows, .functions, .outbox]) s s₁ := .sub (State.updMbox_changes ..)
    exact .after (State.raiseSource_changes ..) h₁

theorem State.endGrant_changes (s : State) : Changes (foot [.mailboxes, .windows, .functions, .outbox]) s (s.endGrant) := by
  unfold State.endGrant
  split
  · exact .refl
  · exact .after (State.grantNext_changes ..) (.sub (State.updMbox_changes ..))

theorem State.dropGrant_changes (s : State) (f : Nat) : Changes (foot [.mailboxes, .windows, .functions, .outbox]) s (s.dropGrant f) := by
  unfold State.dropGrant
  extract_lets s₁
  have h₁ : Changes (foot [.mailboxes, .windows, .functions, .outbox]) s s₁ := .sub (State.updMbox_changes ..)
  exact .ite (.after (State.endGrant_changes ..) h₁) h₁

/-- What `State.sendReply` may change. -/
def sendReplyFoot : Foot :=
  foot [.mailboxes, .windows, .functions, .rseq, .staging, .rates, .outbox]

theorem State.sendReply_changes (s : State) (p : Port) (r : Reply) : Changes sendReplyFoot s (s.sendReply p r) := by
  unfold State.sendReply
  extract_lets _ s₂ _ s₄ s₅
  have h₂ : Changes sendReplyFoot s s₂ := .sub (State.updMbox_changes ..)
  have h₄ : Changes sendReplyFoot s s₄ := .sub (State.updMbox_changes ..)
  have h₅ : Changes sendReplyFoot s s₅ := by
    unfold s₅
    split
    · exact .after (State.emit_changes ..) h₂
    · exact .after (State.raiseSource_changes ..) h₄
  exact .ite h₅ (.after (State.sourceEvent_changes ..) h₅)

theorem execMbResponseReady_leads (p : Port) (s : State) : Leads sendReplyFoot s (execMbResponseReady p s) :=
  .runOn fun u => by
    extract_lets _
    split
    · exact .refl
    · split
      · exact .refl
      · extract_lets s₃
        have h₃ : Changes sendReplyFoot u s₃ := .sub (State.updMbox_changes ..)
        exact .ite (.after (State.sendReply_changes ..) h₃) h₃

theorem State.ackResponse_changes (s : State) (p : Port) : Changes sendReplyFoot s (s.ackResponse p) := by
  unfold State.ackResponse
  extract_lets _ s₂
  have h₂ : Changes sendReplyFoot s s₂ := .sub (State.updMbox_changes ..)
  split
  · exact .refl
  · split
    · exact h₂
    · split
      · split
        · exact .after (State.endGrant_changes ..) h₂
        · exact h₂
      · exact .after (State.sendReply_changes ..) h₂

theorem execMbRspAck_leads (p : Port) (s : State) : Leads sendReplyFoot s (execMbRspAck p s) :=
  .runOn (fun u => .sub (State.ackResponse_changes ..))

theorem State.requestGrant_changes (s : State) (f : Nat) : Changes (foot [.mailboxes, .windows, .functions, .outbox]) s (s.requestGrant f) := by
  unfold State.requestGrant
  extract_lets _ s₂
  have h₂ : Changes (foot [.mailboxes, .windows, .functions, .outbox]) s s₂ := .sub (State.updMbox_changes ..)
  exact .ite .refl (.ite (.after (State.grantNext_changes ..) h₂) h₂)

theorem execMbGrantRequest_leads (fn : Nat) (s : State) : Leads (foot [.mailboxes, .windows, .functions, .outbox]) s (execMbGrantRequest fn s) :=
  .runOn (fun u => .sub (State.requestGrant_changes ..))

theorem execMbGrantRelease_leads (fn : Nat) (s : State) : Leads (foot [.mailboxes, .windows, .functions, .outbox]) s (execMbGrantRelease fn s) :=
  .runOn (fun u => .ite (.sub (State.endGrant_changes ..)) .refl)

/-- What `execGrantDoorbellTimeout` may change. -/
def grantDoorbellTimeoutFoot : Foot :=
  foot [.time, .mailboxes, .windows, .functions, .rtc, .outbox]

theorem execGrantDoorbellTimeout_leads (s : State) : Leads grantDoorbellTimeoutFoot s (execGrantDoorbellTimeout s) :=
  .runOn fun u => by
    split
    · exact .after (State.endGrant_changes ..) (.sub (State.advance_changes ..))
    · exact .refl

theorem execFragmentAckTimeout_leads (s : State) : Leads grantDoorbellTimeoutFoot s (execFragmentAckTimeout s) :=
  .runOn fun u => by
    split
    · exact .after (State.endGrant_changes ..) (.sub (State.advance_changes ..))
    · exact .refl

/-- What `State.doorbell` may change. -/
def doorbellFoot : Foot :=
  foot [.mailboxes, .windows, .loose, .sessions, .realms, .functions]

theorem State.doorbell_changes (s : State) (p : Port) (len : Nat) : Changes doorbellFoot s (s.doorbell p len) := by
  unfold State.doorbell
  extract_lets _ _ _ s₄
  have h₄ : Changes doorbellFoot s s₄ := .sub (State.updMbox_changes ..)
  split
  · exact .refl
  · exact .ite (.sub (State.updWindow_changes ..)) (.after (State.deliver_changes ..) h₄)

/-- What `execMbDoorbell` may change. -/
def mbDoorbellFoot : Foot :=
  foot [.mailboxes, .windows, .loose, .sessions, .realms, .nextAct, .functions, .actOutputs, .rng, .outbox]

theorem execMbDoorbell_leads (p : Port) (len : Nat) (s : State) : Leads mbDoorbellFoot s (execMbDoorbell p len s) :=
  .runOn (fun u => .sub (State.doorbell_changes ..))

/-- What `execMb1MctpMessage` may change. -/
def mb1MctpMessageFoot : Foot :=
  foot [.mailboxes, .loose, .sessions, .realms, .outbox]

theorem execMb1MctpMessage_leads (msg : Bytes) (s : State) : Leads mb1MctpMessageFoot s (execMb1MctpMessage msg s) :=
  .runOn fun u => by
    extract_lets _
    exact .ite (.sub (State.deliver_changes ..)) .refl

theorem State.bufferWrite_changes (s : State) (p : Port) (off : Nat) (b : Bytes) : Changes (foot [.mailboxes]) s (s.bufferWrite p off b) := by
  unfold State.bufferWrite
  exact .ite .refl (.sub (State.updMbox_changes ..))

/-- What `State.windowWrite` may change. -/
def windowWriteFoot : Foot :=
  foot [.mailboxes, .windows, .loose, .sessions, .realms, .functions, .rseq, .staging, .rates, .outbox]

theorem State.windowWrite_changes (s : State) (p : Port) (off : Nat) (v : Nat) : Changes windowWriteFoot s (s.windowWrite p off v) := by
  unfold State.windowWrite
  split
  · exact .sub (State.doorbell_changes ..)
  · split
    · exact .sub (State.updWindow_changes ..)
    · split
      · exact .ite (.sub (State.ackResponse_changes ..)) .refl
      · split
        · split
          · extract_lets s₃₄
            have h₃₄ : Changes windowWriteFoot s s₃₄ := .ite (.sub (State.requestGrant_changes ..)) .refl
            exact .ite (.after (State.endGrant_changes ..) h₃₄) h₃₄
          · exact .refl
        · exact .ite (.sub (State.updWindow_changes ..))
            (.ite (.sub (State.updWindow_changes ..))
               (.ite (.sub (State.updWindow_changes ..)) (.ite (.sub (State.bufferWrite_changes ..)) .refl)))

theorem execI3cPrivateWrite_leads (data : Bytes) (s : State) :
    Leads (foot [.i3cPointer, .wrIgnored, .outbox]) s (execI3cPrivateWrite data s) :=
  .runOn fun u => by
    split
    · exact .refl
    · refine .foldl (.upd .refl) fun u₁ _ h₁ => ?_
      extract_lets _ _ c
      unfold c
      split
      · exact .upd h₁
      · exact .upd h₁

theorem execI3cPrivateRead_leads (len : Nat) (s : State) : Leads (foot [.i3cPointer, .outbox]) s (execI3cPrivateRead len s) :=
  .runOn fun u => by
    extract_lets _ _ _ _
    exact .after (State.emit_changes ..) (.upd .refl)

/-! ### Rings -/

/-- What `State.markErr` may change. -/
def markErrFoot : Foot :=
  foot [.functions, .channels, .rseq, .staging, .rates, .outbox]

theorem State.markErr_changes (s : State) (c : Nat) (f : Channel → Channel) : Changes markErrFoot s (s.markErr c f) := by
  unfold State.markErr
  extract_lets _ s₂ _ _ s₅ _ s₇
  have h₂ : Changes markErrFoot s s₂ := .sub (State.updChan_changes ..)
  have h₅ : Changes markErrFoot s s₅ := .after (State.updFn_changes ..) h₂
  have h₇ : Changes markErrFoot s s₇ := .ite (.after (State.raiseVector_changes ..) h₅) h₅
  exact .ite (.after (State.sourceEvent_changes ..) h₇) h₂

theorem State.readHost_changes (s : State) (fn : Nat) (addr : Nat) (len : Nat) : Changes (foot [.outbox]) s (s.readHost fn addr len) := by
  unfold State.readHost
  extract_lets _
  exact .sub (State.emitAll_changes ..)

theorem State.raiseCq_changes (s : State) (c : Nat) : Changes (foot [.functions, .channels, .outbox]) s (s.raiseCq c) := by
  unfold State.raiseCq
  extract_lets _ s₂
  have h₂ : Changes (foot [.functions, .channels, .outbox]) s s₂ := .sub (State.updCq_changes ..)
  exact .after (State.raiseVector_changes ..) h₂

theorem State.moderate_changes (s : State) (c : Nat) : Changes (foot [.functions, .channels, .outbox]) s (s.moderate c) := by
  unfold State.moderate
  extract_lets _ _
  exact .ite (.sub (State.raiseCq_changes ..)) .refl

/-- What `State.putRecord` may change. -/
def putRecordFoot : Foot :=
  foot [.functions, .channels, .pairRest, .rseq, .staging, .rates, .outbox]

theorem State.putRecord_changes (s : State) (c : Nat) (bytes : Bytes) (irqNow : Bool) (ok : Bool) (status : Nat) :
    Changes putRecordFoot s (s.putRecord c bytes irqNow ok status) := by
  unfold State.putRecord
  extract_lets _ s₂ _ s₄ s₅
  have h₂ : Changes putRecordFoot s s₂ := .sub (State.emit_changes ..)
  have h₄ : Changes putRecordFoot s s₄ := .after (State.updCq_changes ..) h₂
  have h₅ : Changes putRecordFoot s s₅ := .after (State.sourceEvent_changes ..) h₄
  exact .ite (.after (State.moderate_changes ..) h₅) (.after (State.markErr_changes ..) (.sub (State.tellAll_changes ..)))

theorem State.writeItem_changes (s : State) (c : Nat) (x : Item) (ok : Bool) : Changes putRecordFoot s (s.writeItem c x ok) := by
  unfold State.writeItem
  extract_lets _ _ s₃
  have h₃ : Changes putRecordFoot s s₃ := .sub (State.putRecord_changes ..)
  exact .after (State.tellRel_changes ..) h₃

theorem State.flushHeld_changes (c fuel : Nat) (s : State) : Changes putRecordFoot s (State.flushHeld c fuel s) := by
  induction fuel generalizing s with
  | zero => exact .refl
  | succ fuel ih =>
    unfold State.flushHeld
    split
    · exact .refl
    · exact .ite (.after (ih _) (.after (State.writeItem_changes ..) (.sub (State.updChan_changes ..)))) .refl

theorem State.writeHeld_changes (s : State) (c : Nat) : Changes putRecordFoot s (s.writeHeld c) := by
  unfold State.writeHeld
  exact .foldl (.sub (State.updChan_changes ..)) (fun u₁ _ h₁ => .after (State.writeItem_changes ..) h₁)

theorem State.flushRecords_changes (s : State) (c : Nat) : Changes putRecordFoot s (s.flushRecords c) := by
  unfold State.flushRecords
  exact .sub (State.flushHeld_changes ..)

theorem State.kick_changes (s : State) (c : Nat) : Changes (foot [.channels, .outbox]) s (s.kick c) := by
  unfold State.kick
  split
  · exact .refl
  · extract_lets _
    exact .after (State.emit_changes ..) (.sub (State.updChan_changes ..))

theorem State.kickAll_changes (s : State) : Changes (foot [.channels, .outbox]) s (s.kickAll) := by
  unfold State.kickAll
  exact .foldl .refl (fun u₁ _ h₁ => .after (State.kick_changes ..) h₁)

theorem State.tailDoorbell_changes (s : State) (fn : Nat) (c : Nat) (ring : Nat) (value : Nat) :
    Changes markErrFoot s (s.tailDoorbell fn c ring value) := by
  unfold State.tailDoorbell
  extract_lets _ _ _ _
  exact .ite .refl (.ite (.sub (State.markErr_changes ..)) (.after (State.kick_changes ..) (.sub (State.updSq_changes ..))))

theorem execSqTailDoorbell_leads (fn : Nat) (c : Nat) (ring : Nat) (value : Nat) (s : State) :
    Leads markErrFoot s (execSqTailDoorbell fn c ring value s) :=
  .runOn (fun u => .sub (State.tailDoorbell_changes ..))

theorem State.headDoorbell_changes (s : State) (fn : Nat) (c : Nat) (value : Nat) : Changes markErrFoot s (s.headDoorbell fn c value) := by
  unfold State.headDoorbell
  extract_lets _ _ _ _ s₅ s₆
  have h₅ : Changes markErrFoot s s₅ := .sub (State.updChan_changes ..)
  have h₆ : Changes markErrFoot s s₆ := .ite h₅
    (.ite (.after (State.raiseCq_changes ..) h₅) (.after (State.moderate_changes ..) h₅))
  exact .ite .refl (.ite (.sub (State.markErr_changes ..)) (.after (State.kick_changes ..) h₆))

theorem execCqHeadDoorbell_leads (fn : Nat) (c : Nat) (value : Nat) (s : State) : Leads markErrFoot s (execCqHeadDoorbell fn c value s) :=
  .runOn (fun u => .sub (State.headDoorbell_changes ..))

theorem State.lookUp_changes (s : State) (c : Nat) (x : Item) : Changes (foot [.cache]) s (s.lookUp c x).1 := by
  unfold State.lookUp
  extract_lets _ _ _ _ _ s₆
  have h₆ : Changes (foot [.cache]) s s₆ := .foldl .refl (fun u₇ _ h₇ => .ite (.after (State.pin_changes ..) h₇) h₇)
  exact h₆

theorem State.decode_changes (s : State) (c : Nat) (r : Nat) (desc : Bytes) : Changes (foot [.channels, .cache, .outbox]) s (s.decode c r desc) := by
  unfold State.decode
  extract_lets _ _ _ _ _ _
  split
  next u₇ _ hp =>
    have h₇ : Changes (foot [.channels, .cache, .outbox]) s u₇ := .of_eq (congrArg (·.1) hp) (by
        split
        · exact .refl
        · exact .sub (State.lookUp_changes ..))
    extract_lets s₈ s₉
    have h₈ : Changes (foot [.channels, .cache, .outbox]) s s₈ := .after (State.updSq_changes ..) h₇
    have h₉ : Changes (foot [.channels, .cache, .outbox]) s s₉ := .after (State.updChan_changes ..) h₈
    exact .after (State.kick_changes ..) h₉

theorem State.relook_changes (s : State) (c : Nat) : Changes (foot [.channels, .cache]) s (s.relook c) := by
  unfold State.relook
  extract_lets _ s₂
  have h₂ : Changes (foot [.channels, .cache]) s s₂ := .sub (State.updChan_changes ..)
  exact .foldl h₂ fun u₃ _ h₃ => by
    split
    next u₄ _ hp =>
      have h₄ : Changes (foot [.channels, .cache]) s u₄ := .of_eq (congrArg (·.1) hp) (by
          split
          · exact h₃
          · exact .after (State.lookUp_changes ..) h₃)
      exact .after (State.updChan_changes ..) h₄

theorem State.endFetch_changes (s : State) (c : Nat) : Changes (foot [.channels]) s (s.endFetch c) := by
  unfold State.endFetch
  exact .sub (State.updChan_changes ..)

theorem State.fetched_changes (s : State) (c : Nat) (r : Nat) (desc : Bytes) :
    Changes (foot [.channels, .cache, .outbox]) s (s.fetched c r desc) := by
  unfold State.fetched
  exact .ite (.ite (.after (State.kick_changes ..) (.sub (State.endFetch_changes ..))) (.sub (State.decode_changes ..))) .refl

theorem execDescriptorUndefinedOpcode_leads (c : Nat) (ring : Nat) (desc : Bytes) (s : State) :
    Leads (foot [.channels, .cache, .outbox]) s (execDescriptorUndefinedOpcode c ring desc s) :=
  .runOn (fun u => .ite .refl (.sub (State.fetched_changes ..)))

theorem execDescriptorFetchFailed_leads (c : Nat) (ring : Nat) (s : State) : Leads markErrFoot s (execDescriptorFetchFailed c ring s) :=
  .runOn fun u => by
    extract_lets s₃
    have h₃ : Changes markErrFoot u s₃ := .sub (State.markErr_changes ..)
    exact .ite (.after (State.kick_changes ..) (.sub (State.endFetch_changes ..))) (.ite (.after (State.kick_changes ..) h₃) .refl)

theorem State.startLoad_changes (s : State) (c : Nat) (tag : Nat) (iova : Nat) (n : Nat) (m : Nat) :
    Changes (foot [.cache, .loads, .outbox]) s (s.startLoad c tag iova n m) := by
  unfold State.startLoad
  extract_lets s₁ _ s₃
  have h₁ : Changes (foot [.cache, .loads, .outbox]) s s₁ := .sub (State.room_changes ..)
  clear_value s₁
  have h₃ : Changes (foot [.cache, .loads, .outbox]) s s₃ := .upd h₁
  split
  · exact .upd h₁
  · exact .ite .refl (.after (State.readHost_changes ..) h₃)

theorem execKeyBlobHeaderRead_leads (c : Nat) (tag : Nat) (data : Option Bytes) (s : State) :
    Leads (foot [.channels, .cache, .loads, .outbox]) s (execKeyBlobHeaderRead c tag data s) :=
  .runOn fun u => by
    split
    · split
      · exact .sub (State.failLoad_changes ..)
      · extract_lets _ _ s₃ _ _ s₆
        have h₃ : Changes (foot [.channels, .cache, .loads, .outbox]) u s₃ := .sub (State.room_changes ..)
        clear_value s₃
        have h₆ : Changes (foot [.channels, .cache, .loads, .outbox]) u s₆ := .upd h₃
        exact .ite (.sub (State.failLoad_changes ..)) (.ite (.after (State.readHost_changes ..) h₆) (.sub (State.failLoad_changes ..)))
    · exact .refl

theorem State.refuseKey_changes (s : State) (c : Nat) (tag : Nat) (k : KeyView) : Changes (foot [.channels, .loads]) s (s.refuseKey c tag k) := by
  unfold State.refuseKey
  extract_lets _ _ _ s₄
  have h₄ : Changes (foot [.channels, .loads]) s s₄ := .upd .refl
  exact .after (State.updChan_changes ..) h₄

theorem State.takeBlob_changes (s : State) (c : Nat) (tag : Nat) (l : Load) (blob : Bytes) :
    Changes (foot [.channels, .cache, .loads, .loadCount]) s (s.takeBlob c tag l blob) := by
  unfold State.takeBlob
  extract_lets _
  split
  · exact .sub (State.failLoad_changes ..)
  · exact .ite (.sub (State.insertKey_changes ..)) (.upd .refl)

theorem State.settleLoad_changes (s : State) (c : Nat) (tag : Nat) :
    Changes (foot [.channels, .cache, .loads, .loadCount]) s (s.settleLoad c tag) := by
  unfold State.settleLoad
  split
  · exact .refl
  · split
    · exact .sub (State.failLoad_changes ..)
    · exact .ite (.sub (State.insertKey_changes ..)) (.sub (State.refuseKey_changes ..))

/-- What `execKeyBlobLoaded` may change. -/
def keyBlobLoadedFoot : Foot :=
  foot [.channels, .cache, .loads, .loadCount, .outbox]

theorem execKeyBlobLoaded_leads (c : Nat) (tag : Nat) (data : Option Bytes) (s : State) :
    Leads keyBlobLoadedFoot s (execKeyBlobLoaded c tag data s) :=
  .runOn fun u => by
    split
    · split
      · exact .sub (State.failLoad_changes ..)
      · exact .sub (State.takeBlob_changes ..)
    · exact .refl

theorem State.updItem_changes (s : State) (c : Nat) (seq : Nat) (f : Item → Item) : Changes (foot [.channels]) s (s.updItem c seq f) := by
  unfold State.updItem
  extract_lets _
  exact .sub (State.updChan_changes ..)

/-- What `execKeyCheckInstant` may change. -/
def keyCheckInstantFoot : Foot :=
  foot [.time, .channels, .cache, .loads, .loadCount, .rtc, .outbox]

theorem execKeyCheckInstant_leads (c : Nat) (s : State) : Leads keyCheckInstantFoot s (execKeyCheckInstant c s) :=
  .runOn fun u => by
    extract_lets x₁
    clear_value x₁
    split
    · exact .refl
    · extract_lets s₂ _
      have h₂ : Changes keyCheckInstantFoot u s₂ := .foldl (.sub (State.advance_changes ..)) fun u₃ _ h₃ =>
        .after (State.settleLoad_changes ..) h₃
      exact .after (State.updItem_changes ..) h₂

/-- What `State.admitItem` may change. -/
def admitItemFoot : Foot :=
  foot [.other, .channels, .wheel, .cache, .loads, .pairRest, .rseq, .staging, .rates, .outbox]

theorem State.admitItem_changes (s : State) (c : Nat) (x : Item) (budget : Int) (pool : Nat) (a : Nat) :
    Changes admitItemFoot s (s.admitItem c x budget pool a) := by
  unfold State.admitItem
  extract_lets _ _ s₃ s₄ s₅ s₆ s₇ s₉ s₁₁ _ s₁₄ s₁₅
  have h₃ : Changes admitItemFoot s s₃ := .upd .refl
  have h₄ : Changes admitItemFoot s s₄ := .after (State.updChan_changes ..) h₃
  have h₅ : Changes admitItemFoot s s₅ := .after (State.takePages_changes ..) h₄
  have h₆ : Changes admitItemFoot s s₆ := .ite h₅ (.after (State.takeSlots_changes ..) h₅)
  have h₇ : Changes admitItemFoot s s₇ := .foldl h₆ fun u₈ _ h₈ =>
    .after (State.updEntry_changes ..) h₈
  have h₉ : Changes admitItemFoot s s₉ := .foldl h₇ fun u₁₀ _ h₁₀ =>
    .ite (.after (State.pin_changes ..) h₁₀) h₁₀
  have h₁₁ : Changes admitItemFoot s s₁₁ := .foldl h₉ fun u₁₂ _ h₁₂ =>
    .after (State.startLoad_changes ..) h₁₂
  have h₁₄ : Changes admitItemFoot s s₁₄ := .ite h₁₁ (.after (State.updItem_changes ..) h₁₁)
  have h₁₅ : Changes admitItemFoot s s₁₅ := .after (State.sampleSubject_changes ..) h₁₄
  exact .after (State.tellAdmit_changes ..) h₁₅

theorem State.anchorLoop_changes (c : Nat) (miss : Bool) (a fuel : Nat) (s : State) :
    Changes admitItemFoot s (State.anchorLoop c miss a fuel s) := by
  induction fuel generalizing s with
  | zero => exact .refl
  | succ fuel ih =>
    unfold State.anchorLoop
    split
    · exact .refl
    · refine .ite .refl ?_
      split
      · exact .after (ih _) (State.admitItem_changes ..)
      · exact .refl

theorem execAnchor_leads (c : Nat) (miss : Bool) (s : State) : Leads wheelFoot s (execAnchor c miss s) :=
  .runOn fun u => by
    extract_lets _ _ s₃
    have h₃ : Changes wheelFoot u s₃ := .sub (State.advance_changes ..)
    exact .ite .refl (.after (State.kick_changes ..) (.after (State.anchorLoop_changes ..) h₃))

theorem State.writeOut_changes (s : State) (c : Nat) (r : Result) (k : Nat) (n : Nat) : Changes (foot [.outbox]) s (s.writeOut c r k n) := by
  unfold State.writeOut
  exact .foldl .refl (fun u₁ _ h₁ => .after (State.emit_changes ..) h₁)

theorem State.flushItem_changes (s : State) (c : Nat) (seq : Nat) : Changes (foot [.channels, .outbox]) s (s.flushItem c seq) := by
  unfold State.flushItem
  split
  · split
    · extract_lets _
      exact .ite .refl (.ite (.after (State.updItem_changes ..) (.sub (State.writeOut_changes ..))) (.sub (State.updItem_changes ..)))
    · exact .refl
  · exact .refl

/-- What `State.workOn` may change. -/
def workOnFoot : Foot :=
  foot [.channels, .created, .pageData, .rng, .free, .outbox]

theorem State.workOn_changes (s : State) (c : Nat) (x : Item) (inList : Option Bytes) (outList : Option Bytes) (out : ExecOut) :
    Changes workOnFoot s (s.workOn c x inList outList out) := by
  unfold State.workOn
  extract_lets _ _ _ _ _ _ s₇ s₈ s₉
  have h₇ : Changes workOnFoot s s₇ := .upd .refl
  have h₈ : Changes workOnFoot s s₈ := .ite (.after (State.blobMade_changes ..) h₇) h₇
  have h₉ : Changes workOnFoot s s₉ := .after (State.fillPages_changes ..) h₈
  exact .after (State.flushItem_changes ..) (.after (State.updItem_changes ..) h₉)

theorem State.work_changes (s : State) (op : Nat) (c : Nat) (seq : Nat) (input : Option Bytes) (inList : Option Bytes) (outList : Option Bytes)
    (f : State → Item → ExecIn → ExecOut) :
    Changes workOnFoot s (s.work op c seq input inList outList f) := by
  unfold State.work
  split
  · exact .refl
  · extract_lets _ _ _
    exact .ite (.ite (.sub (State.updItem_changes ..)) (.sub (State.workOn_changes ..))) .refl

theorem State.letGo_changes (s : State) (c : Nat) (x : Item) : Changes (foot [.other, .cache, .pageData]) s (s.letGo c x) := by
  unfold State.letGo
  extract_lets s₁ s₃ _ s₅
  have h₁ : Changes (foot [.other, .cache, .pageData]) s s₁ := .foldl .refl (fun u₂ _ h₂ => .after (State.unpin_changes ..) h₂)
  have h₃ : Changes (foot [.other, .cache, .pageData]) s s₃ := .after (State.dropPages_changes ..) h₁
  clear_value s₃
  have h₅ : Changes (foot [.other, .cache, .pageData]) s s₅ := .upd h₃
  exact .after (State.freeSlots_changes ..) h₅

theorem State.releaseItem_changes (s : State) (c : Nat) (x : Item) (ok : Bool) : Changes plainFoot s (s.releaseItem c x ok) := by
  unfold State.releaseItem
  extract_lets s₁ s₂ s₃ _ s₅ _ s₇ _
  have h₁ : Changes plainFoot s s₁ := .sub (State.advance_changes ..)
  have h₂ : Changes plainFoot s s₂ := .after (State.updChan_changes ..) h₁
  have h₃ : Changes plainFoot s s₃ := .after (State.letGo_changes ..) h₂
  clear_value s₃
  have h₅ : Changes plainFoot s s₅ := .ite (.after (State.sampleSubject_changes ..) h₃) (.after (State.faultDegrade_changes ..) (.upd h₃))
  have h₇ : Changes plainFoot s s₇ := .after (State.writeOut_changes ..) h₅
  exact .ite h₃ (.ite (.after (State.updChan_changes ..) h₇) (.after (State.writeItem_changes ..) h₇))

theorem execItemRelease_leads (c : Nat) (s : State) : Leads plainFoot s (execItemRelease c s) :=
  .runOn fun u => by
    split
    · exact .after (State.kick_changes ..) (.sub (State.releaseItem_changes ..))
    · exact .refl

theorem execCompletionWriteFailed_leads (c : Nat) (s : State) : Leads plainFoot s (execCompletionWriteFailed c s) :=
  .runOn fun u => by
    split
    · exact .sub (State.releaseItem_changes ..)
    · exact .refl

theorem execOutputWriteFailed_leads (c : Nat) (written : Nat) (s : State) : Leads (foot [.channels, .outbox]) s (execOutputWriteFailed c written s) :=
  .runOn fun u => by
    split
    · extract_lets _
      split
      · exact .ite .refl (.sub (State.updItem_changes ..))
      · exact .refl
    · exact .refl

/-- What `execCqModTimerExpire` may change. -/
def cqModTimerExpireFoot : Foot :=
  foot [.time, .functions, .channels, .rtc, .outbox]

theorem execCqModTimerExpire_leads (c : Nat) (s : State) : Leads cqModTimerExpireFoot s (execCqModTimerExpire c s) :=
  .runOn fun u => by
    split
    · exact .after (State.moderate_changes ..) (.sub (State.advance_changes ..))
    · exact .refl

theorem execFnTimeLoRead_leads (fn : Nat) (s : State) : Leads (foot [.functions, .outbox]) s (execFnTimeLoRead fn s) :=
  .runOn (fun u => .after (State.emit_changes ..) (.sub (State.updFn_changes ..)))

theorem execBusMasterEnableClear_leads (fn : Nat) (s : State) : Leads (foot [.functions, .outbox]) s (execBusMasterEnableClear fn s) :=
  .runOn (fun u => .sub (State.updFn_changes ..))

theorem execBusMasterEnableSet_leads (fn : Nat) (s : State) : Leads (foot [.functions, .channels, .outbox]) s (execBusMasterEnableSet fn s) :=
  .runOn (fun u => .after (State.kickAll_changes ..) (.sub (State.updFn_changes ..)))

theorem State.resetRings_changes (retire : Bool) (s : State) (c : Nat) :
    Changes (foot [.channels, .cache, .pairRest, .outbox]) s (State.resetRings retire s c) := by
  unfold State.resetRings
  extract_lets _ s₂ s₃
  have h₂ : Changes (foot [.channels, .cache, .pairRest, .outbox]) s s₂ := .ite (.sub (State.tellAll_changes ..)) .refl
  have h₃ : Changes (foot [.channels, .cache, .pairRest, .outbox]) s s₃ := .foldl h₂ fun u₄ _ h₄ =>
    .foldl h₄ (fun u₅ _ h₅ => .ite (.after (State.unpin_changes ..) h₅) h₅)
  exact .after (State.updChan_changes ..) h₃

theorem State.dropFunction_changes (retire : Bool) (s : State) (fn : Nat) : Changes plainFoot s (State.dropFunction retire s fn) := by
  unfold State.dropFunction
  extract_lets s₁ _ s₄ s₆ s₇ _
  have h₁ : Changes plainFoot s s₁ := .foldl .refl (fun u₂ _ h₂ => .after (State.resetRings_changes ..) h₂)
  have h₄ : Changes plainFoot s s₄ := .foldl h₁ (fun u₅ _ h₅ => .after (State.closeSession_changes ..) h₅)
  have h₆ : Changes plainFoot s s₆ := .ite h₄ (.after (State.dropGrant_changes ..) h₄)
  have h₇ : Changes plainFoot s s₇ := .after (State.voidCrossings_changes ..) h₆
  clear_value s₇
  exact .upd h₇

theorem State.resetFunction_changes (s : State) (fn : Nat) : Changes plainFoot s (s.resetFunction fn) := by
  unfold State.resetFunction
  exact .sub (State.dropFunction_changes ..)

theorem execFunctionLevelReset_leads (fn : Nat) (s : State) : Leads plainFoot s (execFunctionLevelReset fn s) :=
  .runOn (fun u => .sub (State.resetFunction_changes ..))

theorem execPcieLinkDown_leads (perst : Bool) (s : State) : Leads plainFoot s (execPcieLinkDown perst s) :=
  .run fun u => by
    extract_lets _ s₆ _ _
    have h₆ : Changes plainFoot u s₆ := .foldl .refl (fun u₇ _ h₇ => .after (State.dropFunction_changes ..) h₇)
    clear_value s₆
    exact .ite (.upd .refl) (.upd h₆)

theorem execPerstRise_leads (s : State) : Leads (foot [.perst, .linkReady, .outbox]) s (execPerstRise s) := .run (fun u => .upd .refl)

theorem execPcieLinkTrained_leads (width : Nat) (speed : Nat) (s : State) : Leads plainFoot s (execPcieLinkTrained width speed s) :=
  .runOn fun u => by
    split
    · exact .refl
    · extract_lets s₁ _ _ s₄ s₅
      have h₁ : Changes plainFoot u s₁ := .sub (State.advance_changes ..)
      clear_value s₁
      have h₄ : Changes plainFoot u s₄ := .upd h₁
      have h₅ : Changes plainFoot u s₅ := .ite h₄ (.after (State.noteAlarm_changes ..) h₄)
      exact .ite (.after (State.kickAll_changes ..) h₅) .refl

/-! ### Boot -/

theorem State.powerUp_changes (s : State) (elapsed : Nat) : Changes powerFoot s (s.powerUp elapsed) := by
  unfold State.powerUp
  extract_lets _ s₂ _ _ s₅
  have h₂ : Changes powerFoot s s₂ := .refl
  have h₅ : Changes powerFoot s s₅ := .upd .refl
  exact .ite (.after (State.showBalls_changes ..) (.after (State.coldGate_changes ..) h₅)) .refl

theorem execSysPwrgdRise_leads (rails : Rails) (elapsed : Nat) (s : State) : Leads powerFoot s (execSysPwrgdRise rails elapsed s) :=
  .run (fun u => .after (State.powerUp_changes ..) (.upd .refl))

theorem execRailEntersWindow_leads (x : RailEntry) (s : State) : Leads powerFoot s (execRailEntersWindow x s) :=
  .run (fun u => .after (State.powerUp_changes ..) (.upd .refl))

theorem State.quietOutputs_changes (s : State) : Changes (foot [.gpioOutputs, .buses, .pairRest, .outbox]) s (s.quietOutputs) := by
  unfold State.quietOutputs
  extract_lets _ _ _ s₄
  have h₄ : Changes (foot [.gpioOutputs, .buses, .pairRest, .outbox]) s s₄ := .upd .refl
  exact .after (State.floatAll_changes ..) h₄

theorem execSysPwrgdFall_leads (rails : Rails) (s : State) : Leads supplyFoot s (execSysPwrgdFall rails s) :=
  .run fun u => by
    extract_lets _ s₂
    have h₂ : Changes supplyFoot u s₂ := .upd .refl
    exact .ite h₂ (.after (State.showBalls_changes ..) (.after (State.quietOutputs_changes ..) h₂))

theorem execMainPowerLost_leads (loss : PowerLoss) (partLow : Nat) (partHigh : Nat) (s : State) :
    Leads lossFoot s (execMainPowerLost loss partLow partHigh s) :=
  .run fun u => by
    extract_lets _ s₂ s₃ s₄ s₅ _ _ _ _ _ _ _ _ _ _ s₁₆ _ _ _ s₂₀
    have h₂ : Changes lossFoot u s₂ := .upd .refl
    have h₃ : Changes lossFoot u s₃ := h₂
    have h₄ : Changes lossFoot u s₄ := .after (State.clearRings_changes ..) (.after (State.quietOutputs_changes ..) h₂)
    have h₅ : Changes lossFoot u s₅ := by
      unfold s₅
      split
      · split
        · exact .after (State.pulse_changes ..) h₄
        · exact h₄
      · exact h₄
    clear_value s₅
    have h₁₆ : Changes lossFoot u s₁₆ := .upd h₅
    clear_value s₁₆
    have h₂₀ : Changes lossFoot u s₂₀ := .ite (.after (State.drawTests_changes ..) (.ite (.upd h₁₆) h₁₆)) (.upd h₁₆)
    exact .ite h₂ (.after (State.showBalls_changes ..) h₂₀)

theorem execDeviceReset_leads (s : State) : Leads powerFoot s (execDeviceReset s) :=
  .run fun u => by
    extract_lets _ _ s₃
    have h₃ : Changes powerFoot u s₃ := .upd .refl
    exact .ite h₃ (.after (State.showBalls_changes ..) (.after (State.coldGate_changes ..) h₃))

theorem execDeviceResetRelease_leads (s : State) : Leads (foot [.inReset, .outbox]) s (execDeviceResetRelease s) := .run (fun u => .upd .refl)

theorem State.platformReset_changes (s : State) : Changes plainFoot s (s.platformReset) := by
  unfold State.platformReset
  split
  · exact .after (State.warmGate_changes ..) (.foldl .refl (fun u₁ _ h₁ => .after (State.writeHeld_changes ..) h₁))
  · exact .after (State.warmGate_changes ..) (.foldl .refl (fun u₂ _ h₂ => .after (State.writeHeld_changes ..) h₂))
  · exact .after (State.warmGate_changes ..) (.foldl .refl (fun u₃ _ h₃ => .after (State.writeHeld_changes ..) h₃))
  · exact .after (State.warmGate_changes ..) (.foldl .refl (fun u₄ _ h₄ => .after (State.writeHeld_changes ..) h₄))
  · exact .ite (.sub (State.warmGate_changes ..)) .refl
  · exact .refl

theorem execPlatformResetRequest_leads (s : State) : Leads plainFoot s (execPlatformResetRequest s) :=
  .runOn (fun u => .sub (State.platformReset_changes ..))

/-- What `execPllLockComplete` may change. -/
def pllLockCompleteFoot : Foot :=
  foot [.bootStep, .linkReady, .addrStrap, .avs, .tiles, .outbox]

theorem execPllLockComplete_leads (addrSel : Bool) (s : State) : Leads pllLockCompleteFoot s (execPllLockComplete addrSel s) :=
  .runOn fun u => by
    extract_lets s₆ _ _ _
    have h₆ : Changes pllLockCompleteFoot u s₆ := .foldl .refl fun u₇ _ h₇ =>
      .after (State.updTile_changes ..) h₇
    clear_value s₆
    exact .ite .refl (.upd h₆)

theorem State.afterStep3_changes (s : State) : Changes (foot [.bootStep, .shadowCheck]) s (s.afterStep3) := by
  unfold State.afterStep3
  extract_lets _
  exact .ite (.upd .refl) .refl

/-- What `execOtpSenseComplete` may change. -/
def otpSenseCompleteFoot : Foot :=
  foot [.bootStep, .stopped, .shadowCheck, .sentinelLog, .otpShadows, .otpJobs, .rng, .outbox]

theorem execOtpSenseComplete_leads (weak : List (Nat × Nat)) (s : State) : Leads otpSenseCompleteFoot s (execOtpSenseComplete weak s) :=
  .runOn fun u => by
    extract_lets _ s₁₈ _ _ s₂₁ s₂₂ s₂₃ _ s₂₅ s₂₆ s₂₈ s₃₀ s₃₁
    have h₁₈ : Changes otpSenseCompleteFoot u s₁₈ := .after (State.sense_changes ..) (.upd .refl)
    clear_value s₁₈
    have h₂₁ : Changes otpSenseCompleteFoot u s₂₁ := .upd h₁₈
    have h₂₂ : Changes otpSenseCompleteFoot u s₂₂.2 := .after (State.draw_changes ..) h₂₁
    clear_value s₂₂
    have h₂₃ : Changes otpSenseCompleteFoot u s₂₃ := h₂₂
    have h₂₅ : Changes otpSenseCompleteFoot u s₂₅ := .upd h₂₃
    have h₂₆ : Changes otpSenseCompleteFoot u s₂₆ := .ite
      (.foldl h₂₅ (fun u₂₇ _ h₂₇ => .after (State.programEntry_changes ..) h₂₇)) h₂₅
    have h₂₈ : Changes otpSenseCompleteFoot u s₂₈ := .foldl h₂₆ fun u₂₉ _ h₂₉ =>
      .ite (.after (State.programWord_changes ..) h₂₉) h₂₉
    have h₃₀ : Changes otpSenseCompleteFoot u s₃₀ := .ite (.after (State.programWord_changes ..) h₂₈) h₂₈
    have h₃₁ : Changes otpSenseCompleteFoot u s₃₁ := .ite
      (.foldl h₃₀ (fun u₃₂ _ h₃₂ => .ite h₃₂ (.after (State.programWord_changes ..) h₃₂))) h₃₀
    exact .ite .refl (.after (State.afterStep3_changes ..) h₃₁)

theorem State.vertexFault_changes (s : State) : Changes plainFoot s (s.vertexFault) := by
  unfold State.vertexFault
  extract_lets s₁ _
  have h₁ : Changes plainFoot s s₁ := .sub (State.fatalFault_changes ..)
  clear_value s₁
  exact .upd h₁

theorem State.deriveIdentity_changes (s : State) : Changes (foot [.other]) s (s.deriveIdentity) := by
  unfold State.deriveIdentity
  extract_lets _
  exact .upd .refl

theorem execRootVertexReconstructed_leads (value : Bytes) (corrected : Nat) (s : State) :
    Leads plainFoot s (execRootVertexReconstructed value corrected s) :=
  .runOn fun u => by
    extract_lets _ _ s₁ _
    have h₁ : Changes plainFoot u s₁ := .upd .refl
    split
    · exact .refl
    · split
      · exact .sub (State.vertexFault_changes ..)
      · exact .ite (.after (State.deriveIdentity_changes ..) (.upd h₁)) (.ite (.after (State.vertexFault_changes ..) h₁) (.upd h₁))

theorem State.loadImages_changes (s : State) (kind : Nat) (slot0 : Bytes) (slot1 : Bytes) :
    Changes (foot [.fwSlots, .fwRunning]) s (s.loadImages kind slot0 slot1) := by
  unfold State.loadImages
  extract_lets _ s₂ _
  have h₂ : Changes (foot [.fwSlots, .fwRunning]) s s₂ := .upd .refl
  clear_value s₂
  split
  · exact .upd h₂
  · exact h₂

theorem State.stopInGate_changes (s : State) : Changes (foot [.gates, .stopped]) s (s.stopInGate) := by
  unfold State.stopInGate
  extract_lets _
  exact .after (State.setGates_changes ..) (.upd .refl)

/-- What `execApexImageVerified` may change. -/
def apexImageVerifiedFoot : Foot :=
  foot [.gates, .bootStep, .apex, .stopped, .fwSlots, .fwRunning, .outbox]

theorem execApexImageVerified_leads (slot0 : Bytes) (slot1 : Bytes) (s : State) :
    Leads apexImageVerifiedFoot s (execApexImageVerified slot0 slot1 s) :=
  .runOn fun u => by
    extract_lets s₃ _
    have h₃ : Changes apexImageVerifiedFoot u s₃ := .sub (State.loadImages_changes ..)
    clear_value s₃
    exact .ite .refl (.ite (.upd h₃) (.after (State.stopInGate_changes ..) h₃))

/-- What `State.setTime` may change. -/
def setTimeFoot : Foot :=
  foot [.time, .other, .linkReady, .wheel, .pairRest, .cell]

theorem State.setTime_changes (s : State) : Changes setTimeFoot s (s.setTime) := by
  unfold State.setTime
  extract_lets _ r moved
  clear_value moved r
  generalize r * revNs = now
  generalize ceilDiv now 64000 = window
  generalize r * revSectors + 1 = sector
  revert now window sector
  -- for any instant: the check of the proof then has none to compute
  refine id fun now window sector => ?_
  exact .upd .refl

theorem State.logUnattended_changes (s : State) (counted : Bool) :
    Changes (foot [.sentinel, .sentinelLog, .otpJobs, .free]) s (s.logUnattended counted) := by
  unfold State.logUnattended
  extract_lets _ s₂ _
  have h₂ : Changes (foot [.sentinel, .sentinelLog, .otpJobs, .free]) s s₂ := .upd .refl
  clear_value s₂
  split
  · exact .upd h₂
  · split
    · exact .after (State.joinLog_changes ..) h₂
    · exact h₂

/-- What `State.afterPowerOn` may change. -/
def afterPowerOnFoot : Foot :=
  foot [.sentinel, .other, .sentinelLog, .cell, .otpJobs, .free, .outbox]

theorem State.afterPowerOn_changes (s : State) (counted : Bool) : Changes afterPowerOnFoot s (s.afterPowerOn counted) := by
  unfold State.afterPowerOn
  extract_lets _ _ s₃ s₄ _ s₆ s₇ _ _
  have h₃ : Changes afterPowerOnFoot s s₃ := .upd .refl
  have h₄ : Changes afterPowerOnFoot s s₄ := by
    unfold s₄
    split
    · exact .ite h₃ (.after (State.setSlot_changes ..) h₃)
    · exact h₃
  clear_value s₄
  have h₆ : Changes afterPowerOnFoot s s₆ := .ite (.after (State.emit_changes ..) (.upd h₄)) h₄
  have h₇ : Changes afterPowerOnFoot s s₇ := .ite .refl (.ite h₆ (.after (State.logUnattended_changes ..) h₆))
  clear_value s₇
  exact .upd h₇

theorem State.checkSlot_changes (s : State) (k : Nat) : Changes plainFoot s (s.checkSlot k) := by
  unfold State.checkSlot
  extract_lets _ _
  split
  · exact .ite .refl (.after (State.faultDegrade_changes ..) (.upd .refl))
  · exact .refl

theorem State.openVault_changes (s : State) : Changes plainFoot s (s.openVault) := by
  unfold State.openVault
  extract_lets _ s₂ _ s₄ _ s₆ s₇ _
  have h₂ : Changes plainFoot s s₂ := .sub (State.readRecord_changes ..)
  clear_value s₂
  have h₄ : Changes plainFoot s s₄ := .upd h₂
  clear_value s₄
  have h₆ : Changes plainFoot s s₆ := .ite h₄ (.after (State.compactRecord_changes ..) (.after (State.faultDegrade_changes ..) (.upd h₄)))
  have h₇ : Changes plainFoot s s₇ := .foldl h₆ (fun u₈ _ h₈ => .after (State.checkSlot_changes ..) h₈)
  clear_value s₇
  exact .after (State.sendHello_changes ..) (.after (State.vaultGates_changes ..) (.upd h₇))

theorem State.checkDomain_changes (s : State) : Changes plainFoot s (s.checkDomain) := by
  unfold State.checkDomain
  extract_lets _ s₂
  have h₂ : Changes plainFoot s s₂ := .upd .refl
  clear_value s₂
  exact .ite (.after (State.faultDegrade_changes ..) (.upd h₂)) h₂

theorem State.protectFlash_changes (s : State) : Changes (foot [.privLock, .privRest]) s (s.protectFlash) := by
  unfold State.protectFlash
  extract_lets _ _
  exact .upd .refl

/-- What `State.driveHeld` may change. -/
def driveHeldFoot : Foot :=
  foot [.other, .relPhase, .relStep, .attempts, .gpioOutputs, .outbox]

theorem State.driveHeld_changes (s : State) : Changes driveHeldFoot s (s.driveHeld) := by
  unfold State.driveHeld
  exact .after (State.hold_changes ..) (.sub (State.loadRelease_changes ..))

theorem State.carryOver_changes (s : State) : Changes (foot [.other, .rseq, .staging]) s (s.carryOver) := by
  unfold State.carryOver
  extract_lets _ _ _
  exact .foldl .refl fun u₄ _ h₄ => by
    extract_lets s₅ _
    have h₅ : Changes (foot [.other, .rseq, .staging]) s s₅ := .after (State.stage_changes ..) h₄
    clear_value s₅
    exact .upd h₅

theorem State.startRecorder_changes (s : State) : Changes plainFoot s (s.startRecorder) := by
  unfold State.startRecorder
  extract_lets _ _ s₃ _ s₅ s₆ s₇ s₈
  have h₃ : Changes plainFoot s s₃ := .ite (.upd .refl) (.sub (State.resumeJournal_changes ..))
  clear_value s₃
  have h₅ : Changes plainFoot s s₅ := .upd h₃
  have h₆ : Changes plainFoot s s₆ := .after (State.trigger_changes ..) h₅
  have h₇ : Changes plainFoot s s₇ := .after (State.carryOver_changes ..) h₆
  have h₈ : Changes plainFoot s s₈ := .foldl h₇ fun u₉ _ h₉ =>
    .ite (.after (State.notify_changes ..) (.after (State.trigger_changes ..) h₉)) h₉
  exact .foldr h₈ (fun _ u₁₀ h₁₀ => .after (State.sampleSubject_changes ..) h₁₀)

theorem State.startStep8_changes (s : State) : Changes plainFoot s (s.startStep8) := by
  unfold State.startStep8
  extract_lets _ s₂
  have h₂ : Changes plainFoot s s₂ := .upd .refl
  exact .after (State.platformNext_changes ..) (.after (State.startVerify_changes ..) (.after (State.startVerify_changes ..) h₂))

theorem State.startFacet_changes (s : State) (counted : Bool) : Changes wheelFoot s (s.startFacet counted) := by
  unfold State.startFacet
  extract_lets _ s₂ s₃ s₄ s₅ _ s₇ s₈ _ s₁₀ s₁₁
  have h₂ : Changes wheelFoot s s₂ := .sub (State.setTime_changes ..)
  have h₃ : Changes wheelFoot s s₃ := .after (State.duesNow_changes ..) (.after (State.afterPowerOn_changes ..) h₂)
  have h₄ : Changes wheelFoot s s₄ := .after (State.driveHeld_changes ..) h₃
  have h₅ : Changes wheelFoot s s₅ := .after (State.protectFlash_changes ..) h₄
  clear_value s₅
  have h₇ : Changes wheelFoot s s₇ := .after (State.cellGate_changes ..) (.after (State.setGates_changes ..) (.upd h₅))
  have h₈ : Changes wheelFoot s s₈ := .after (State.startRecorder_changes ..) h₇
  clear_value s₈
  have h₁₀ : Changes wheelFoot s s₁₀ := .ite (.upd h₈) h₈
  have h₁₁ : Changes wheelFoot s s₁₁ := .after (State.startPair_changes ..) h₁₀
  exact .ite (.after (State.quarantine_changes ..) h₁₁)
    (.after (State.startStep8_changes ..) (.after (State.checkDomain_changes ..) (.after (State.openVault_changes ..) h₁₁)))

theorem State.enterStep7_changes (s : State) : Changes wheelFoot s (s.enterStep7) := by
  unfold State.enterStep7
  extract_lets _ s₂
  have h₂ : Changes wheelFoot s s₂ := .upd .refl
  exact .ite (.after (State.programStep_changes ..) h₂) (.after (State.startFacet_changes ..) h₂)

theorem execFacetImageVerified_leads (slot0 : Bytes) (slot1 : Bytes) (s : State) : Leads imageFoot s (execFacetImageVerified slot0 slot1 s) :=
  .runOn fun u => by
    extract_lets s₂
    have h₂ : Changes imageFoot u s₂ := .sub (State.loadImages_changes ..)
    exact .ite .refl (.ite (.after (State.enterStep7_changes ..) h₂) (.after (State.stopInGate_changes ..) h₂))

theorem execUnitSelftestDone_leads (unit : Nat) (pass : Bool) (s : State) :
    Leads (foot [.gates, .selftests, .outbox]) s (execUnitSelftestDone unit pass s) :=
  .runOn fun u => by
    extract_lets _ s₆ _ s₈
    have h₆ : Changes (foot [.gates, .selftests, .outbox]) u s₆ := .upd .refl
    clear_value s₆
    have h₈ : Changes (foot [.gates, .selftests, .outbox]) u s₈ := .ite (.upd h₆) h₆
    exact .ite (.after (State.setGates_changes ..) h₈) .refl

theorem execReleaseDelayExpire_leads (s : State) : Leads plainFoot s (execReleaseDelayExpire s) :=
  .runOn fun u => by
    extract_lets _
    split
    · extract_lets s₂ s₃ _
      have h₂ : Changes plainFoot u s₂ := .sub (State.advance_changes ..)
      have h₃ : Changes plainFoot u s₃ := .after (State.releaseOut_changes ..) h₂
      exact .ite (.ite (.after (State.stepDone_changes ..) h₃) (.after (State.setPhase_changes ..) h₃)) .refl
    · exact .refl

theorem State.withInput_changes (w : Nat) (level : Bool) (s : State) : Changes (foot [.gpioInputs]) s (State.withInput w level s) := by
  unfold State.withInput
  extract_lets _
  exact .ite .refl (.upd .refl)

theorem execAwaitedInputChange_leads (level : Bool) (s : State) : Leads (foot [.relPhase, .gpioInputs, .outbox]) s (execAwaitedInputChange level s) :=
  .runOn fun u => by
    extract_lets _
    split
    · exact .after (State.setPhase_changes ..) (.sub (State.withInput_changes ..))
    · exact .ite .refl (.sub (State.withInput_changes ..))
    · exact .refl

theorem execReleaseInputStable_leads (s : State) : Leads plainFoot s (execReleaseInputStable s) :=
  .runOn fun u => by
    split
    · exact .after (State.stepDone_changes ..) (.sub (State.advance_changes ..))
    · exact .refl

/-- What `execReleaseTimeout` may change. -/
def releaseTimeoutFoot : Foot :=
  foot [.time, .relPhase, .attempts, .rtc, .rseq, .staging, .outbox]

theorem execReleaseTimeout_leads (s : State) : Leads releaseTimeoutFoot s (execReleaseTimeout s) :=
  .runOn fun u => by
    split
    · extract_lets s₁ _ s₃ s₄
      have h₁ : Changes releaseTimeoutFoot u s₁ := .sub (State.advance_changes ..)
      clear_value s₁
      have h₃ : Changes releaseTimeoutFoot u s₃ := .upd h₁
      have h₄ : Changes releaseTimeoutFoot u s₄ := .after (State.trigger_changes ..) h₃
      exact .ite .refl (.after (State.setPhase_changes ..) h₄)
    · exact .refl

/-- What `execReleaseUnwindStep` may change. -/
def releaseUnwindStepFoot : Foot :=
  foot [.time, .relPhase, .gpioOutputs, .rtc, .outbox]

theorem execReleaseUnwindStep_leads (s : State) : Leads releaseUnwindStepFoot s (execReleaseUnwindStep s) :=
  .runOn fun u => by
    split
    · extract_lets s₁ _
      have h₁ : Changes releaseUnwindStepFoot u s₁ := .sub (State.advance_changes ..)
      clear_value s₁
      split
      · extract_lets s₃
        have h₃ : Changes releaseUnwindStepFoot u s₃ := .after (State.drive_changes ..) (.upd h₁)
        exact .after (State.setPhase_changes ..) h₃
      · exact .after (State.setPhase_changes ..) h₁
    · exact .refl

theorem execReleaseRestart_leads (s : State) : Leads plainFoot s (execReleaseRestart s) :=
  .runOn fun u => by
    split
    · extract_lets s₁
      have h₁ : Changes plainFoot u s₁ := .sub (State.advance_changes ..)
      exact .ite (.after (State.holdInGate_changes ..) h₁) (.after (State.startRelease_changes ..) h₁)
    · exact .refl

/-! ### Frames -/

theorem State.updShadow_changes (s : State) (b : Nat) (cs : Nat) (f : Shadow → Shadow) : Changes (foot [.buses]) s (s.updShadow b cs f) := by
  unfold State.updShadow
  exact .sub (State.updBus_changes ..)

theorem State.countDenial_changes (s : State) (b : Nat) (op : Nat) (cs : Nat) (addr : Nat) : Changes denialFoot s (s.countDenial b op cs addr) := by
  unfold State.countDenial
  extract_lets _ s₂ s₃ s₄
  have h₂ : Changes denialFoot s s₂ := .sub (State.updBus_changes ..)
  have h₃ : Changes denialFoot s s₃ := .after (State.trigger_changes ..) h₂
  have h₄ : Changes denialFoot s s₄ := .after (State.notify_changes ..) h₃
  exact .ite h₃ (.after (State.updBus_changes ..) h₄)

theorem State.deny_changes (s : State) (b : Nat) (op : Nat) (cs : Nat) (cls : Nat) (addr : Nat) : Changes denialFoot s (s.deny b op cs cls addr) := by
  unfold State.deny
  extract_lets s₁
  have h₁ : Changes denialFoot s s₁ := .sub (State.updShadow_changes ..)
  exact .after (State.countDenial_changes ..) h₁

theorem State.settleTiming_changes (s : State) (b : Nat) : Changes (foot [.buses]) s (s.settleTiming b) := by
  unfold State.settleTiming
  exact .ite (.sub (State.updBus_changes ..)) .refl

theorem execHostCsFall_leads (bus : Nat) (cs : Nat) (s : State) : Leads (foot [.buses, .outbox]) s (execHostCsFall bus cs s) :=
  .runOn (fun u => .ite (.sub (State.updBus_changes ..)) .refl)

theorem State.endFrame_changes (s : State) (b : Nat) (cs : Nat) (armed : Bool) : Changes (foot [.buses]) s (s.endFrame b cs armed) := by
  unfold State.endFrame
  exact .after (State.settleTiming_changes ..) (.after (State.updBus_changes ..) (.sub (State.updShadow_changes ..)))

theorem State.mb2Frame_changes {F : Foot} {s t : State} {f : State → State} (h : Changes F s t) (hf : ∀ u, Changes F s u → Changes F s (f u))
    (hF : (foot [.buses]) ||| F = F := by decide) : Changes F s (t.mb2Frame f) := by
  unfold State.mb2Frame
  split
  · exact .ite h (hf _ (.after (State.endFrame_changes ..) h hF))
  · exact hf _ h

theorem execMb2Read_leads (off : Nat) (len : Nat) (s : State) : Leads (foot [.buses, .outbox]) s (execMb2Read off len s) :=
  .runOn (fun u => State.mb2Frame_changes .refl (fun u₁ h₁ => .ite (.after (State.emit_changes ..) h₁) h₁))

theorem execMb2Write_leads (off : Nat) (data : Bytes) (s : State) : Leads plainFoot s (execMb2Write off data s) :=
  .runOn fun u =>
    State.mb2Frame_changes .refl (fun u₁ h₁ => .ite (.foldl h₁ (fun u₂ _ h₂ => .after (State.windowWrite_changes ..) h₂)) h₁)

theorem hostFrame_leads {F : Foot} {s : State} {bus op : Nat} {classes : List Nat} {act : State → Frame → Nat → State × Bool}
    (hact : ∀ u x cls, Changes F u (act u x cls).1) (hF : foot [.buses, .outbox] ||| F = F := by decide)
    (hp : F.has .pending = false := by decide) : Leads F s (hostFrame bus op classes act s) := by
  have hend : ∀ {u v : State} b cs armed, Changes F u v → Changes F u (v.endFrame b cs armed) := fun _ _ _ h =>
    .after (State.endFrame_changes ..) h (Foot.subset_trans (by decide) hF)
  refine .runOn (fun u => ?_) (Foot.subset_trans (by decide) hF) hp
  split
  · exact .refl
  · exact .ite .refl (.ite (hend _ _ _ (hact ..)) (hend _ _ _ .refl))

theorem State.readOr_changes {s t : State} {x : Frame} {b op : Nat} {f : HostFrame} {ok : State → State} (h : Changes denialFoot s t)
    (hok : ∀ u, Changes denialFoot s u → Changes denialFoot s (ok u)) : Changes denialFoot s (t.readOr x b op f ok).1 := by
  unfold State.readOr
  split
  · exact hok t h
  · exact .after (State.emit_changes ..) (.after (State.countDenial_changes ..) h)

theorem State.readFlash_changes (b : Nat) (op : Nat) (f : HostFrame) (s : State) (x : Frame) (cls : Nat) :
    Changes denialFoot s (State.readFlash b op f s x cls).1 := by
  unfold State.readFlash
  exact State.readOr_changes .refl fun u₁ h₁ => by
    extract_lets _ _
    split
    · exact h₁
    · split
      · exact .after (State.emit_changes ..) h₁
      · split
        · exact .after (State.emit_changes ..) h₁
        · extract_lets s₈
          have h₈ : Changes denialFoot s s₈ := .after (State.emit_changes ..) h₁
          exact .after (State.emit_changes ..) h₈

theorem State.readId_changes (b : Nat) (op : Nat) (f : HostFrame) (s : State) (x : Frame) (_cls : Nat) :
    Changes denialFoot s (State.readId b op f s x _cls).1 := by
  unfold State.readId
  exact State.readOr_changes .refl fun u₁ h₁ =>
    .ite (.after (State.emit_changes ..) h₁) (.after (State.emit_changes ..) (.after (State.emit_changes ..) h₁))

theorem State.readSfdp_changes (b : Nat) (op : Nat) (f : HostFrame) (s : State) (x : Frame) (_cls : Nat) :
    Changes denialFoot s (State.readSfdp b op f s x _cls).1 := by
  unfold State.readSfdp
  extract_lets _
  exact State.readOr_changes .refl fun u₂ h₂ => by
    extract_lets _
    exact .ite h₂ (.after (State.emit_changes ..) h₂)

theorem State.readStatus_changes (b : Nat) (op : Nat) (f : HostFrame) (s : State) (x : Frame) (cls : Nat) :
    Changes denialFoot s (State.readStatus b op f s x cls).1 := by
  unfold State.readStatus
  exact State.readOr_changes .refl fun u₁ h₁ => by
    extract_lets _ _
    exact .after (State.emit_changes ..) h₁

theorem State.issueOp_changes (s : State) (x : Frame) (b : Nat) (cls : Nat) (f : HostFrame) :
    Changes (foot [.buses, .outbox]) s (s.issueOp x b cls f) := by
  unfold State.issueOp
  extract_lets _ _ _ s₄ s₅
  have h₄ : Changes (foot [.buses, .outbox]) s s₄ := .sub (State.emit_changes ..)
  have h₅ : Changes (foot [.buses, .outbox]) s s₅ := .after (State.emit_changes ..) h₄
  exact .after (State.updBus_changes ..) (.after (State.updShadow_changes ..) h₅)

theorem State.sendReset_changes (s : State) (b : Nat) (cs : Nat) : Changes (foot [.outbox]) s (s.sendReset b cs) := by
  unfold State.sendReset
  exact .after (State.emit_changes ..) (.sub (State.emit_changes ..))

theorem State.settleResets_changes (s : State) (b : Nat) : Changes (foot [.buses, .outbox]) s (s.settleResets b) := by
  unfold State.settleResets
  exact .ite (.foldl (.sub (State.updBus_changes ..)) (fun u₁ _ h₁ => .after (State.sendReset_changes ..) h₁)) .refl

theorem State.buffered_changes (b : Nat) (op : Nat) (f : HostFrame) (s : State) (x : Frame) (cls : Nat) :
    Changes denialFoot s (State.buffered b op f s x cls).1 := by
  unfold State.buffered
  extract_lets _ _ _ s₁
  have h₁ : Changes denialFoot s s₁ := .sub (State.updShadow_changes ..)
  refine .ite_fst .refl (.ite_fst (.sub (State.updBus_changes ..)) (.ite_fst .refl (.ite_fst (.sub (State.deny_changes ..)) (.ite_fst .refl ?_))))
  refine .ite_fst (.sub (State.deny_changes ..)) (.ite_fst (.sub (State.issueOp_changes ..)) (.ite_fst (.sub (State.updShadow_changes ..)) ?_))
  refine .ite_fst (.sub (State.updShadow_changes ..)) (.ite_fst (.sub (State.updShadow_changes ..)) (.ite_fst .refl ?_))
  exact .ite_fst (.after (State.settleResets_changes ..) (.after (State.updBus_changes ..) h₁)) .refl

theorem execSpiRead_leads (bus : Nat) (opcode : Nat) (f : HostFrame) (s : State) : Leads denialFoot s (execSpiRead bus opcode f s) :=
  hostFrame_leads (fun u _ _ => .sub (State.readFlash_changes ..))

theorem execSpiRead4byte_leads (bus : Nat) (opcode : Nat) (f : HostFrame) (s : State) : Leads denialFoot s (execSpiRead4byte bus opcode f s) :=
  hostFrame_leads (fun u _ _ => .sub (State.readFlash_changes ..))

theorem execSpiFastRead_leads (bus : Nat) (opcode : Nat) (f : HostFrame) (s : State) : Leads denialFoot s (execSpiFastRead bus opcode f s) :=
  hostFrame_leads (fun u _ _ => .sub (State.readFlash_changes ..))

theorem execSpiDualOutputRead_leads (bus : Nat) (opcode : Nat) (f : HostFrame) (s : State) :
    Leads denialFoot s (execSpiDualOutputRead bus opcode f s) :=
  hostFrame_leads (fun u _ _ => .sub (State.readFlash_changes ..))

theorem execSpiDualIoRead_leads (bus : Nat) (opcode : Nat) (f : HostFrame) (s : State) : Leads denialFoot s (execSpiDualIoRead bus opcode f s) :=
  hostFrame_leads (fun u _ _ => .sub (State.readFlash_changes ..))

theorem execSpiQuadOutputRead_leads (bus : Nat) (opcode : Nat) (f : HostFrame) (s : State) :
    Leads denialFoot s (execSpiQuadOutputRead bus opcode f s) :=
  hostFrame_leads (fun u _ _ => .sub (State.readFlash_changes ..))

theorem execSpiQuadIoRead_leads (bus : Nat) (opcode : Nat) (f : HostFrame) (s : State) : Leads denialFoot s (execSpiQuadIoRead bus opcode f s) :=
  hostFrame_leads (fun u _ _ => .sub (State.readFlash_changes ..))

theorem execSpiReadId_leads (bus : Nat) (opcode : Nat) (f : HostFrame) (s : State) : Leads denialFoot s (execSpiReadId bus opcode f s) :=
  hostFrame_leads (fun u _ _ => .sub (State.readId_changes ..))

theorem execSpiReadSfdp_leads (bus : Nat) (opcode : Nat) (f : HostFrame) (s : State) : Leads denialFoot s (execSpiReadSfdp bus opcode f s) :=
  hostFrame_leads (fun u _ _ => .sub (State.readSfdp_changes ..))

theorem execSpiReadStatus1_leads (bus : Nat) (opcode : Nat) (f : HostFrame) (s : State) : Leads denialFoot s (execSpiReadStatus1 bus opcode f s) :=
  hostFrame_leads (fun u _ _ => .sub (State.readStatus_changes ..))

theorem execSpiReadStatus2_leads (bus : Nat) (opcode : Nat) (f : HostFrame) (s : State) : Leads denialFoot s (execSpiReadStatus2 bus opcode f s) :=
  hostFrame_leads (fun u _ _ => .sub (State.readStatus_changes ..))

theorem execSpiReadFlagStatus_leads (bus : Nat) (opcode : Nat) (f : HostFrame) (s : State) :
    Leads denialFoot s (execSpiReadFlagStatus bus opcode f s) :=
  hostFrame_leads (fun u _ _ => .sub (State.readStatus_changes ..))

theorem execSpiWriteEnable_leads (bus : Nat) (opcode : Nat) (f : HostFrame) (s : State) : Leads plainFoot s (execSpiWriteEnable bus opcode f s) :=
  hostFrame_leads (fun u _ _ => .sub (State.buffered_changes ..))

theorem execSpiWriteDisable_leads (bus : Nat) (opcode : Nat) (f : HostFrame) (s : State) : Leads plainFoot s (execSpiWriteDisable bus opcode f s) :=
  hostFrame_leads (fun u _ _ => .sub (State.buffered_changes ..))

theorem execSpiPageProgram_leads (bus : Nat) (opcode : Nat) (f : HostFrame) (s : State) : Leads plainFoot s (execSpiPageProgram bus opcode f s) :=
  hostFrame_leads (fun u _ _ => .sub (State.buffered_changes ..))

theorem execSpiQuadPageProgram_leads (bus : Nat) (opcode : Nat) (f : HostFrame) (s : State) :
    Leads plainFoot s (execSpiQuadPageProgram bus opcode f s) :=
  hostFrame_leads (fun u _ _ => .sub (State.buffered_changes ..))

theorem execSpiSectorErase_leads (bus : Nat) (opcode : Nat) (f : HostFrame) (s : State) : Leads plainFoot s (execSpiSectorErase bus opcode f s) :=
  hostFrame_leads (fun u _ _ => .sub (State.buffered_changes ..))

theorem execSpiBlockErase32k_leads (bus : Nat) (opcode : Nat) (f : HostFrame) (s : State) : Leads plainFoot s (execSpiBlockErase32k bus opcode f s) :=
  hostFrame_leads (fun u _ _ => .sub (State.buffered_changes ..))

theorem execSpiBlockErase64k_leads (bus : Nat) (opcode : Nat) (f : HostFrame) (s : State) : Leads plainFoot s (execSpiBlockErase64k bus opcode f s) :=
  hostFrame_leads (fun u _ _ => .sub (State.buffered_changes ..))

theorem execSpiChipErase_leads (bus : Nat) (opcode : Nat) (f : HostFrame) (s : State) : Leads plainFoot s (execSpiChipErase bus opcode f s) :=
  hostFrame_leads (fun u _ _ => .sub (State.buffered_changes ..))

theorem execSpiWriteStatus1_leads (bus : Nat) (opcode : Nat) (f : HostFrame) (s : State) : Leads plainFoot s (execSpiWriteStatus1 bus opcode f s) :=
  hostFrame_leads (fun u _ _ => .sub (State.buffered_changes ..))

theorem execSpiWriteStatus2_leads (bus : Nat) (opcode : Nat) (f : HostFrame) (s : State) : Leads plainFoot s (execSpiWriteStatus2 bus opcode f s) :=
  hostFrame_leads (fun u _ _ => .sub (State.buffered_changes ..))

theorem execSpiEnter4byteMode_leads (bus : Nat) (opcode : Nat) (f : HostFrame) (s : State) :
    Leads plainFoot s (execSpiEnter4byteMode bus opcode f s) :=
  hostFrame_leads (fun u _ _ => .sub (State.buffered_changes ..))

theorem execSpiExit4byteMode_leads (bus : Nat) (opcode : Nat) (f : HostFrame) (s : State) : Leads plainFoot s (execSpiExit4byteMode bus opcode f s) :=
  hostFrame_leads (fun u _ _ => .sub (State.buffered_changes ..))

theorem execSpiResetEnable_leads (bus : Nat) (opcode : Nat) (f : HostFrame) (s : State) : Leads plainFoot s (execSpiResetEnable bus opcode f s) :=
  hostFrame_leads (fun u _ _ => .sub (State.buffered_changes ..))

theorem execSpiReset_leads (bus : Nat) (opcode : Nat) (f : HostFrame) (s : State) : Leads plainFoot s (execSpiReset bus opcode f s) :=
  hostFrame_leads (fun u _ _ => .sub (State.buffered_changes ..))

theorem execSpiClearFlagStatus_leads (bus : Nat) (opcode : Nat) (f : HostFrame) (s : State) :
    Leads plainFoot s (execSpiClearFlagStatus bus opcode f s) :=
  hostFrame_leads (fun u _ _ => .sub (State.buffered_changes ..))

theorem execDeniedOpcodeFrame_leads (bus : Nat) (opcode : Nat) (f : HostFrame) (s : State) :
    Leads denialFoot s (execDeniedOpcodeFrame bus opcode f s) :=
  hostFrame_leads (fun u _ _ => .after (State.emit_changes ..) (.sub (State.deny_changes ..)))

/-! ### Validate -/

/-- What `State.ifStored` may change. -/
def ifStoredFoot : Foot :=
  foot [.other, .config, .channels, .wheel, .pageData, .signing]

theorem State.ifStored_changes (s : State) (store : KeyMap Bytes) : Changes ifStoredFoot s (s.ifStored store) := by
  unfold State.ifStored
  extract_lets _
  exact .after (State.rebuild_changes ..) (.upd .refl)

/-! ### Orfer -/

theorem execSessionOpen_leads (p : Port) (s : State) : Leads (foot [.mailboxes, .sessions, .nextSession, .outbox]) s (execSessionOpen p s) :=
  .runOn fun u =>
    serve_changes .refl fun u₁ _ h₁ => by
      extract_lets _ _ _ _
      split
      · exact .after (State.answer_changes ..) h₁
      · split
        · exact .after (State.answer_changes ..) h₁
        · split
          · exact .after (State.answer_changes ..) h₁
          · extract_lets _ s₁₅
            have h₁₅ : Changes (foot [.mailboxes, .sessions, .nextSession, .outbox]) u s₁₅ := .upd h₁
            exact .ite (.after (State.answer_changes ..) h₁) (.after (State.answer_changes ..) h₁₅)

theorem noPayload_changes {F : Foot} {s t : State} {q : Request} {f : State → State} (h : Changes F s t)
    (hf : ∀ u, Changes F s u → Changes F s (f u)) (hF : foot [.mailboxes, .sessions] ||| F = F := by decide) :
    Changes F s (noPayload t q f) :=
  .ite (hf _ h) (.after (State.answer_changes ..) h hF)

theorem execSessionClose_leads (p : Port) (s : State) : Leads plainFoot s (execSessionClose p s) :=
  .runOn fun u =>
    serve_changes .refl fun u₁ _ h₁ =>
      noPayload_changes h₁ (fun u₂ h₂ => .after (State.closeSession_changes ..) (.after (State.answer_changes ..) h₂))

theorem execIdentityQuery_leads (p : Port) (s : State) : Leads queryFoot s (execIdentityQuery p s) :=
  .runOn fun u =>
    serve_changes .refl (fun u₁ _ h₁ => noPayload_changes h₁ (fun u₂ h₂ => .after (State.answer_changes ..) h₂))

theorem execStateQuery_leads (p : Port) (s : State) : Leads queryFoot s (execStateQuery p s) :=
  .runOn fun u =>
    serve_changes .refl (fun u₁ _ h₁ => noPayload_changes h₁ (fun u₂ h₂ => .after (State.answer_changes ..) h₂))

/-- What `execNoticeFetch` may change. -/
def noticeFetchFoot : Foot :=
  foot [.mailboxes, .windows, .sessions, .functions, .outbox]

theorem execNoticeFetch_leads (p : Port) (s : State) : Leads noticeFetchFoot s (execNoticeFetch p s) :=
  .runOn fun u =>
    serve_changes .refl fun u₁ _ h₁ => by
      extract_lets _
      split
      · exact .after (State.answer_changes ..) h₁
      · split
        · exact .after (State.answer_changes ..) h₁
        · extract_lets _ s₁₁ s₁₂
          have h₁₁ : Changes noticeFetchFoot u s₁₁ := .after (State.updSession_changes ..) h₁
          have h₁₂ : Changes noticeFetchFoot u s₁₂ := .after (State.updWindow_changes ..) h₁₁
          exact .after (State.answer_changes ..) h₁₂

theorem execSessionTimeout_leads (id : Nat) (s : State) : Leads plainFoot s (execSessionTimeout id s) :=
  .runOn fun u => by
    split
    · exact .after (State.closeSession_changes ..) (.sub (State.advance_changes ..))
    · exact .refl

/-- What `execCfgBegin` may change. -/
def cfgBeginFoot : Foot :=
  foot [.mailboxes, .sessions, .realms, .nextTxn, .outbox]

theorem execCfgBegin_leads (p : Port) (s : State) : Leads cfgBeginFoot s (execCfgBegin p s) :=
  .runOn fun u =>
    serve_changes .refl fun u₁ _ h₁ =>
      noPayload_changes h₁ fun u₂ h₂ => by
        extract_lets _ s₈ _ s₁₀
        have h₈ : Changes cfgBeginFoot u s₈ := .after (State.updRealm_changes ..) h₂
        clear_value s₈
        have h₁₀ : Changes cfgBeginFoot u s₁₀ := .upd h₈
        exact .ite (.after (State.answer_changes ..) h₂) (.after (State.answer_changes ..) h₁₀)

theorem State.applyPlain_changes (s : State) (f : Nat) (i : Nat) (v : Bytes) : Changes (foot [.config]) s (s.applyPlain f i v) := by
  unfold State.applyPlain
  exact .sub (State.setCfg_changes ..)

/-- What `execCfgSet` may change. -/
def cfgSetFoot : Foot :=
  foot [.mailboxes, .sessions, .realms, .config, .outbox]

theorem execCfgSet_leads (p : Port) (s : State) : Leads cfgSetFoot s (execCfgSet p s) :=
  .runOn fun u =>
    serve_changes .refl fun u₁ _ h₁ => by
      extract_lets _
      split
      · exact .after (State.answer_changes ..) h₁
      · extract_lets _
        split
        · split
          · exact .after (State.answer_changes ..) h₁
          · split
            · exact .after (State.answer_changes ..) h₁
            · split
              · exact .after (State.answer_changes ..) h₁
              · exact .after (State.answer_changes ..) (.foldl h₁ (fun u₈ _ h₈ => .after (State.applyPlain_changes ..) h₈))
        · split
          · exact .after (State.answer_changes ..) h₁
          · extract_lets _
            split
            · exact .after (State.answer_changes ..) h₁
            · split
              · exact .after (State.answer_changes ..) h₁
              · exact .ite (.after (State.answer_changes ..) h₁) (.after (State.answer_changes ..) (.after (State.updRealm_changes ..) h₁))

theorem execCfgGet_leads (p : Port) (s : State) : Leads queryFoot s (execCfgGet p s) :=
  .runOn fun u =>
    serve_changes .refl fun u₁ _ h₁ => by
      extract_lets _ _ _ _
      exact .ite (.after (State.answer_changes ..) h₁)
        (.ite (.after (State.answer_changes ..) h₁)
           (.ite (.after (State.answer_changes ..) h₁) (.ite (.after (State.answer_changes ..) h₁) (.after (State.answer_changes ..) h₁))))

theorem execCfgRollback_leads (p : Port) (s : State) : Leads giveUpFoot s (execCfgRollback p s) :=
  .runOn fun u =>
    serve_changes .refl fun u₁ _ h₁ => by
      split
      · exact .after (State.answer_changes ..) h₁
      · split
        · exact .after (State.answer_changes ..) h₁
        · exact .ite (.after (State.answer_changes ..) h₁) (.after (State.giveUp_changes ..) (.after (State.answer_changes ..) h₁))

theorem execCfgStatus_leads (p : Port) (s : State) : Leads queryFoot s (execCfgStatus p s) :=
  .runOn fun u =>
    serve_changes .refl fun u₁ _ h₁ =>
      noPayload_changes h₁ fun u₂ h₂ => by
        split
        · exact .after (State.answer_changes ..) h₂
        · extract_lets _ _
          exact .after (State.answer_changes ..) h₂

theorem execTxnTimeout_leads (realm : Nat) (s : State) : Leads plainFoot s (execTxnTimeout realm s) :=
  .runOn fun u => by
    split
    · exact .after (State.rollback_changes ..) (.sub (State.advance_changes ..))
    · exact .refl

/-- What `State.makeAct` may change. -/
def makeActFoot : Foot :=
  foot [.mailboxes, .sessions, .realms, .nextAct, .actOutputs, .rng]

theorem State.makeAct_changes {F : Foot} {s t : State} {q : Request} {realm cls target : Nat} {exempt : Bool} {encoding : Bytes} {txn : Option Nat}
    {refused created : State → State} (h : Changes F s t) (hrefused : ∀ u, Changes F s u → Changes F s (refused u))
    (hcreated : ∀ u, Changes F s u → Changes F s (created u))
    (hF : foot [.mailboxes, .sessions, .realms, .nextAct, .actOutputs, .rng] ||| F = F := by decide) :
    Changes F s (t.makeAct q realm cls target exempt encoding txn refused created) := by
  have hanswer : ∀ {u}, Changes F s u → ∀ st b, Changes F s (u.answer q st b) := fun hu _ _ =>
    .after ((State.answer_changes ..).sub (G := foot [.mailboxes, .sessions, .realms, .nextAct, .actOutputs, .rng])) hu hF
  refine .ite (hanswer (hrefused _ h) _ _) (.ite (hanswer (hrefused _ h) _ _) (hanswer (hcreated _ ?_) _ _))
  have hmade : Changes makeActFoot t
      { (({ (t.draw 16).2 with orfer := { (t.draw 16).2.orfer with nextAct := t.orfer.nextAct + 1 } } : State).updRealm realm fun r => { r with
          acts := (⟨t.orfer.nextAct, q.opcode, realm, cls, target, q.session, q.port, q.payload, txn, (t.draw 16).1, sha384 encoding, [], 0,
            (t.draw 16).2.now + 300000000000, .awaiting, 0⟩ :: r.acts).take 16
          admin := r.admin.map fun d => { d with deadline := (t.draw 16).2.now + 900000000000 } }) with
        ident := { t.ident with outputs := KeyMap.del t.ident.outputs realm } } := rfl
  exact .after hmade h hF

theorem State.request_changes (s : State) (q : Request) (cls : Nat) : Changes makeActFoot s (s.request q cls) := by
  unfold State.request
  exact State.makeAct_changes .refl (fun u₁ h₁ => h₁) (fun u₂ h₂ => h₂)

theorem State.requestFree_changes (s : State) (q : Request) (cls : Nat) : Changes makeActFoot s (s.requestFree q cls) := by
  unfold State.requestFree
  exact State.makeAct_changes .refl (fun u₁ h₁ => h₁) (fun u₂ h₂ => h₂)

theorem State.requestDevice_changes (s : State) (q : Request) (cls : Nat) : Changes makeActFoot s (s.requestDevice q cls) := by
  unfold State.requestDevice
  exact .ite (.sub (State.answer_changes ..)) (.sub (State.request_changes ..))

theorem execAdminOpen_leads (p : Port) (s : State) : Leads requestFoot s (execAdminOpen p s) :=
  .runOn fun u =>
    serve_changes .refl fun u₁ _ h₁ =>
      .ite (.after (State.answer_changes ..) h₁) (.ite (.after (State.answer_changes ..) h₁) (.after (State.requestFree_changes ..) h₁))

theorem execAdminClose_leads (p : Port) (s : State) : Leads plainFoot s (execAdminClose p s) :=
  .runOn fun u =>
    serve_changes .refl fun u₁ _ h₁ =>
      noPayload_changes h₁ fun u₂ h₂ => by
        split
        · exact .ite (.after (State.answer_changes ..) (.after (State.closeAdmin_changes ..) h₂)) (.after (State.answer_changes ..) h₂)
        · exact .after (State.answer_changes ..) h₂

theorem execActCancel_leads (p : Port) (s : State) : Leads giveUpFoot s (execActCancel p s) :=
  .runOn fun u =>
    serve_changes .refl fun u₁ _ h₁ => by
      split
      · exact .after (State.answer_changes ..) h₁
      · split
        · exact .after (State.answer_changes ..) h₁
        · split
          · exact .after (State.endAct_changes ..) (.after (State.answer_changes ..) h₁)
          · exact .after (State.answer_changes ..) h₁
          · exact .after (State.answer_changes ..) h₁
          · exact .after (State.answer_changes ..) h₁

theorem execOfficerEnrol_leads (p : Port) (s : State) : Leads requestFoot s (execOfficerEnrol p s) :=
  .runOn fun u =>
    serve_changes .refl fun u₁ _ h₁ => by
      extract_lets _
      split
      · exact .after (State.answer_changes ..) h₁
      · exact .ite (.after (State.answer_changes ..) h₁)
          (.ite (.after (State.answer_changes ..) h₁) (State.makeAct_changes h₁ (fun u₃ h₃ => h₃) (fun u₄ h₄ => h₄)))

theorem execOfficerRemove_leads (p : Port) (s : State) : Leads requestFoot s (execOfficerRemove p s) :=
  .runOn fun u =>
    serve_changes .refl fun u₁ _ h₁ => by
      extract_lets _ _ _
      exact .ite (.after (State.answer_changes ..) h₁) (.ite (.after (State.answer_changes ..) h₁) (.after (State.request_changes ..) h₁))

theorem execOfficerList_leads (p : Port) (s : State) : Leads requestFoot s (execOfficerList p s) :=
  .runOn fun u =>
    serve_changes .refl (fun u₁ _ h₁ => noPayload_changes h₁ (fun u₂ h₂ => .after (State.request_changes ..) h₂))

theorem execQuorumTimeout_leads (realm : Nat) (s : State) : Leads plainFoot s (execQuorumTimeout realm s) :=
  .runOn fun u => by
    split
    · extract_lets s₁
      have h₁ : Changes plainFoot u s₁ := .sub (State.advance_changes ..)
      exact .ite (.after (State.endAct_changes ..) h₁) .refl
    · exact .refl

theorem execAdminSessionTimeout_leads (realm : Nat) (s : State) : Leads plainFoot s (execAdminSessionTimeout realm s) :=
  .runOn fun u => by
    split
    · exact .after (State.closeAdmin_changes ..) (.sub (State.advance_changes ..))
    · exact .refl

theorem State.setOutput_changes (s : State) (realm : Nat) (id : Nat) (out : Bytes) : Changes (foot [.actOutputs]) s (s.setOutput realm id out) := by
  unfold State.setOutput
  extract_lets _
  exact .upd .refl

theorem execActOutputExpire_leads (realm : Nat) (s : State) : Leads (foot [.time, .actOutputs, .rtc, .outbox]) s (execActOutputExpire realm s) :=
  .runOn fun u => by
    split
    · extract_lets s₁ _
      have h₁ : Changes (foot [.time, .actOutputs, .rtc, .outbox]) u s₁ := .sub (State.advance_changes ..)
      clear_value s₁
      exact .upd h₁
    · exact .refl

theorem State.readOutput_changes (s : State) (q : Request) : Changes (foot [.mailboxes, .sessions]) s (s.readOutput q) := by
  unfold State.readOutput
  extract_lets _
  split
  · exact .sub (State.answer_changes ..)
  · split
    · exact .ite (.sub (State.answer_changes ..)) (.sub (State.answer_changes ..))
    · exact .sub (State.answer_changes ..)

/-! ### Sectors -/

theorem State.zeroPace_changes (s : State) (n : Nat) : Changes (foot [.time, .rtc]) s (s.zeroPace n) := by
  unfold State.zeroPace
  exact .sub (State.advance_changes ..)

theorem State.sectorEnd_changes (s : State) (core : Option Nat) (c : Nat) (x : Item) :
    Changes (foot [.other, .channels, .free, .outbox]) s (s.sectorEnd core c x) := by
  unfold State.sectorEnd
  extract_lets _ _ s₃ s₄
  have h₃ : Changes (foot [.other, .channels, .free, .outbox]) s s₃ := .sub (State.updItem_changes ..)
  have h₄ : Changes (foot [.other, .channels, .free, .outbox]) s s₄ := .ite
    (.after (State.useContext_changes ..) (.after (State.writeOperands_changes ..) h₃)) h₃
  exact .after (State.flushItem_changes ..) (.after (State.updItem_changes ..) h₄)

theorem State.playSector_changes (s : State) (own : Bool) (cs : List Nat) (n : Nat) :
    Changes (foot [.other, .channels, .free, .outbox]) s (s.playSector own cs n).1 := by
  unfold State.playSector
  extract_lets _ _ _ s₄
  have h₄ : Changes (foot [.other, .channels, .free, .outbox]) s s₄ := .foldl .refl (fun u₅ _ h₅ => .after (State.sectorEnd_changes ..) h₅)
  exact .foldl h₄ (fun u₆ _ h₆ => .after (State.sweepContexts_changes ..) h₆)

theorem State.serveZero_changes (s : State) (r : Room) : Changes (foot [.other, .signing]) s (s.serveZero r) := by
  unfold State.serveZero
  extract_lets _ _ _
  exact .upd .refl

theorem execSectorStart_leads (s : State) : Leads wheelFoot s (execSectorStart s) :=
  .runOn fun u => by
    extract_lets _ s₂ _ _ _ _ s₇ s₈
    have h₂ : Changes wheelFoot u s₂ := .sub (State.advance_changes ..)
    clear_value s₂
    have h₇ : Changes wheelFoot u s₇ := .upd h₂
    have h₈ : Changes wheelFoot u s₈.1 := by
      unfold s₈
      split
      · exact .after (State.playSector_changes ..) h₇
      · split
        · exact h₇
        · exact .after (State.playSector_changes ..) (.after (State.updChan_changes ..) h₇)
    exact .ite (.after (State.serveZero_changes ..) h₈) h₈

theorem execRecoverDrainEnd_leads (s : State) : Leads plainFoot s (execRecoverDrainEnd s) :=
  .runOn fun u => by
    extract_lets _
    split
    · exact .refl
    · extract_lets s₂ s₃
      have h₂ : Changes plainFoot u s₂ := .ite .refl (.sub (State.advance_changes ..))
      have h₃ : Changes plainFoot u s₃ := .after (State.mapAdmitted_changes ..) h₂
      exact .after (State.finishRestore_changes ..) (.after (State.enterRecover_changes ..) h₃)

/-! ### Platform -/

theorem State.startDrain_changes (s : State) (buses : Nat) : Changes (foot [.other]) s (s.startDrain buses) := by
  unfold State.startDrain
  extract_lets _
  exact .ite (.upd .refl) (.upd .refl)

theorem State.endVerify_changes (s : State) (b : Nat) : Changes plainFoot s (s.endVerify b) := by
  unfold State.endVerify
  extract_lets _ _ _ _ _ s₆ s₇ s₈ s₉
  have h₆ : Changes plainFoot s s₆ := .upd .refl
  have h₇ : Changes plainFoot s s₇ := .after (State.updBus_changes ..) h₆
  have h₈ : Changes plainFoot s s₈ := .after (State.trigger_changes ..) (.after (State.settleTiming_changes ..) h₇)
  have h₉ : Changes plainFoot s s₉ := .after (State.notify_changes ..) h₈
  exact .ite
    (.ite (.after (State.holdInGate_changes ..) h₈) (.after (State.platformNext_changes ..) h₈)) (.ite (.after (State.startDrain_changes ..) h₉) h₉)

theorem State.failBus_changes (s : State) (b : Nat) (status : Nat) : Changes plainFoot s (s.failBus b status) := by
  unfold State.failBus
  extract_lets _
  exact .after (State.endVerify_changes ..) (.sub (State.updBus_changes ..))

theorem State.nextRegion_changes (s : State) (b : Nat) : Changes plainFoot s (s.nextRegion b) := by
  unfold State.nextRegion
  extract_lets _
  split
  · extract_lets _ _
    exact .upd .refl
  · exact .sub (State.endVerify_changes ..)

theorem State.regionDone_changes (s : State) (b : Nat) (status : Nat) : Changes plainFoot s (s.regionDone b status) := by
  unfold State.regionDone
  split
  · exact .refl
  · exact .after (State.nextRegion_changes ..) (.sub (State.updBus_changes ..))

theorem State.startFlash_changes (s : State) (b : Nat) (octal : Bool) (flashes : List (Nat × Option Bytes)) :
    Changes (foot [.supplyRest, .outbox]) s (s.startFlash b octal flashes) := by
  unfold State.startFlash
  extract_lets _
  exact .foldl (.after (State.emit_changes ..) (.upd .refl)) fun u₂ _ h₂ => by
    extract_lets s₃
    have h₃ : Changes (foot [.supplyRest, .outbox]) s s₃ := .after (State.emit_changes ..)
      (.after (State.sendReset_changes ..) (.after (State.sendReset_changes ..) h₂))
    split
    · exact .ite (.after (State.emitAll_changes ..) h₃) h₃
    · exact h₃

theorem execFlashSideUp_leads (bus : Nat) (sfdp0 : Option Bytes) (sfdp1 : Option Bytes) (octal : Bool) (s : State) :
    Leads supplyFoot s (execFlashSideUp bus sfdp0 sfdp1 octal s) :=
  .runOn fun u => by
    extract_lets _ _ _ s₄ _ _ s₇
    have h₄ : Changes supplyFoot u s₄ := .sub (State.startFlash_changes ..)
    clear_value s₄
    have h₇ : Changes supplyFoot u s₇ := .after (State.updBus_changes ..) (.sub (State.startFlash_changes ..))
    exact .ite .refl
      (.ite (.ite .refl (.upd h₄))
         (.ite .refl
            (.ite (.ite (.after (State.failBus_changes ..) h₇) h₇)
               (.ite (.after (State.platformNext_changes ..) (.after (State.passUnverified_changes ..) h₇)) h₇))))

theorem execManifestCheckComplete_leads (bus : Nat) (manifest : Option Bytes) (s : State) :
    Leads plainFoot s (execManifestCheckComplete bus manifest s) :=
  .runOn fun u => by
    extract_lets _ _ s₃
    have h₃ : Changes plainFoot u s₃ := .sub (State.updBus_changes ..)
    exact .ite .refl
      (.ite (.after (State.failBus_changes ..) h₃) (.after (State.nextRegion_changes ..) (.after (State.updBus_changes ..) h₃)))

theorem State.compareGolden_changes (s : State) (b : Nat) (region : Nat) (digest : Bytes) :
    Changes (foot [.buses]) s (s.compareGolden b region digest) := by
  unfold State.compareGolden
  split
  · extract_lets _ _
    exact .ite (.sub (State.updBus_changes ..)) .refl
  · exact .refl

theorem execRegionDigestComplete_leads (bus : Nat) (region : Nat) (digest : Bytes) (s : State) :
    Leads plainFoot s (execRegionDigestComplete bus region digest s) :=
  .runOn fun u => by
    extract_lets s₄
    have h₄ : Changes plainFoot u s₄ := .sub (State.zeroPace_changes ..)
    split
    · exact .ite (.sub (State.compareGolden_changes ..)) .refl
    · split
      · extract_lets _ _
        exact .ite .refl (.after (State.regionDone_changes ..) h₄)
      · exact .refl

theorem State.endFeed_changes (s : State) (key : Nat) (received : Nat) (status : Nat) : Changes plainFoot s (s.endFeed key received status) := by
  unfold State.endFeed
  extract_lets _
  split
  · exact .refl
  · extract_lets _
    exact .ite (.sub (State.regionDone_changes ..)) (.upd .refl)

theorem execDigestFeedSilence_leads (c : Nat) (item : Nat) (received : Nat) (s : State) :
    Leads plainFoot s (execDigestFeedSilence c item received s) :=
  .runOn fun u => by
    extract_lets _
    split
    · split
      · exact .refl
      · exact .after (State.endFeed_changes ..) (.sub (State.advance_changes ..))
    · exact .sub (State.updChan_changes ..)

theorem State.areaFailed_changes (s : State) (b : Nat) (status : Nat) (r : Restore) : Changes plainFoot s (s.areaFailed b status r) := by
  unfold State.areaFailed
  extract_lets _ s₂ s₃ s₄
  have h₂ : Changes plainFoot s s₂ := .sub (State.updBus_changes ..)
  have h₃ : Changes plainFoot s s₃ := .after (State.trigger_changes ..) h₂
  have h₄ : Changes plainFoot s s₄ := .after (State.notify_changes ..) h₃
  exact .ite (.after (State.startArea_changes ..) (.sub (State.updBus_changes ..))) (.after (State.gateAfterFailure_changes ..) h₄)

theorem execRestoreAreaDone_leads (bus : Nat) (status : Nat) (s : State) : Leads plainFoot s (execRestoreAreaDone bus status s) :=
  .runOn fun u => by
    split
    · exact .refl
    · extract_lets _ s₂
      have h₂ : Changes plainFoot u s₂ := .sub (State.updBus_changes ..)
      exact .ite .refl
        (.ite
           (.ite (.after (State.startArea_changes ..) h₂) (.after (State.finishRestore_changes ..) (.after (State.areasDone_changes ..) h₂)))
             (.sub (State.areaFailed_changes ..)))

/-- What `State.issuePage` may change. -/
def issuePageFoot : Foot :=
  foot [.privImages, .privGather, .manifests, .privRest, .fwSlots, .fwHeaders, .journal, .outbox]

theorem State.issuePage_changes (s : State) : Changes issuePageFoot s (s.issuePage) := by
  unfold State.issuePage
  split
  · exact .refl
  · extract_lets _ _ _ s₄ _
    have h₄ : Changes issuePageFoot s s₄ := .after (State.programFlash_changes ..)
      (.after (State.emit_changes ..) (.sub (State.emit_changes ..)))
    clear_value s₄
    exact .upd h₄

theorem State.stallWrite_changes (s : State) (off : Nat) (data : Bytes) : Changes (foot [.privGather]) s (s.stallWrite off data) := by
  unfold State.stallWrite
  extract_lets _
  exact .upd .refl

theorem State.gatherByte_changes (s : State) (off : Nat) (v : Byte) : Changes issuePageFoot s (s.gatherByte off v) := by
  unfold State.gatherByte
  extract_lets _ s₂ _ _ s₅
  have h₂ : Changes issuePageFoot s s₂ := by
    unfold s₂
    split
    · exact .ite (.sub (State.issuePage_changes ..)) .refl
    · exact .refl
  have h₅ : Changes issuePageFoot s s₅ := .upd h₂
  exact .ite (.after (State.stallWrite_changes ..) h₂) (.ite (.after (State.issuePage_changes ..) h₅) h₅)

theorem State.windowBytesIn_changes (s : State) (off : Nat) (data : Bytes) : Changes issuePageFoot s (s.windowBytesIn off data) := by
  unfold State.windowBytesIn
  exact .ite (.sub (State.stallWrite_changes ..))
    (.foldl .refl (fun u₁ _ h₁ => .ite (.after (State.stallWrite_changes ..) h₁) (.after (State.gatherByte_changes ..) h₁)))

theorem State.resumeWindow_changes (s : State) : Changes issuePageFoot s (s.resumeWindow) := by
  unfold State.resumeWindow
  extract_lets _ _ s₃
  have h₃ : Changes issuePageFoot s s₃ := .upd .refl
  exact .foldl h₃ (fun u₄ _ h₄ => .after (State.windowBytesIn_changes ..) h₄)

theorem State.readWindow_changes (s : State) (off : Nat) (n : Nat) : Changes (foot [.manifests]) s (s.readWindow off n).2 := by
  unfold State.readWindow
  extract_lets _ _ _
  exact .upd .refl

/-- What `State.endCapture` may change. -/
def endCaptureFoot : Foot :=
  foot [.windows, .sessions, .realms, .functions, .privImages, .privRest, .pairOwn, .rseq, .staging, .rates, .outbox]

theorem State.endCapture_changes (s : State) (ok : Bool) : Changes endCaptureFoot s (s.endCapture ok) := by
  unfold State.endCapture
  extract_lets _ s₂ _
  have h₂ : Changes endCaptureFoot s s₂ := .upd .refl
  clear_value s₂
  split
  · exact .refl
  · split
    · extract_lets _
      exact .ite (.after (State.endAct_changes ..) h₂)
        (.ite (.after (State.endAct_changes ..) h₂) (.after (State.endAct_changes ..) (.upd h₂)))
    · exact .after (State.endAct_changes ..) h₂

theorem State.privAnswers_changes (s : State) : Changes flashFoot s (s.privAnswers) := by
  unfold State.privAnswers
  extract_lets _ s₂
  have h₂ : Changes flashFoot s s₂ := .upd .refl
  exact .after (State.endCapture_changes ..) (.ite (.after (State.resumeWindow_changes ..) h₂) h₂)

theorem execFlashStatusPoll_leads (bus : Nat) (cs : Nat) (sr1 : Nat) (sr2 : Nat) (s : State) :
    Leads flashFoot s (execFlashStatusPoll bus cs sr1 sr2 s) :=
  .runOn fun u => by
    extract_lets s₃
    have h₃ : Changes flashFoot u s₃ := .sub (State.updShadow_changes ..)
    split
    · exact .ite (.sub (State.privAnswers_changes ..)) .refl
    · split
      · exact .refl
      · extract_lets s₅
        have h₅ : Changes flashFoot u s₅ := .after (State.updShadow_changes ..) h₃
        exact .ite .refl
          (.ite h₃ (.after (State.settleTiming_changes ..) (.after (State.settleResets_changes ..) (.after (State.updBus_changes ..) h₅))))

theorem State.flashSilent_changes (s : State) (b : Nat) (cs : Nat) : Changes plainFoot s (s.flashSilent b cs) := by
  unfold State.flashSilent
  split
  · exact .ite (.sub (State.areaFailed_changes ..)) .refl
  · exact .ite (.sub (State.regionDone_changes ..)) .refl
  · exact .refl

theorem execFlashOperationTimeout_leads (bus : Nat) (cs : Nat) (s : State) : Leads plainFoot s (execFlashOperationTimeout bus cs s) :=
  .runOn fun u => by
    extract_lets _
    split
    · exact .ite (.after (State.endCapture_changes ..) (.upd .refl)) .refl
    · split
      · exact .ite (.sub (State.flashSilent_changes ..)) .refl
      · extract_lets s₆ s₇
        have h₆ : Changes plainFoot u s₆ := .sub (State.advance_changes ..)
        have h₇ : Changes plainFoot u s₇ := .after (State.updShadow_changes ..) h₆
        exact .ite .refl
          (.after (State.settleTiming_changes ..) (.after (State.settleResets_changes ..) (.after (State.updBus_changes ..) h₇)))

/-- What `execPfWindowWrite` may change. -/
def pfWindowWriteFoot : Foot :=
  foot [.privImages, .privGather, .wpFault, .privLock, .manifests, .privRest, .fwSlots, .fwHeaders, .journal, .outbox]

theorem execPfWindowWrite_leads (who : Master) (addr : Nat) (data : Bytes) (s : State) :
    Leads pfWindowWriteFoot s (execPfWindowWrite who addr data s) :=
  .runOn fun u => by
    extract_lets _ _ _
    exact .ite .refl
      (.ite (.sub (State.emit_changes ..)) (.ite (.after (State.emit_changes ..) (.upd .refl)) (.sub (State.windowBytesIn_changes ..))))

theorem execPfGatherTimeout_leads (s : State) : Leads flashFoot s (execPfGatherTimeout s) :=
  .runOn (fun u => .ite (.after (State.issuePage_changes ..) (.sub (State.advance_changes ..))) .refl)

theorem execPfStallTimeout_leads (s : State) : Leads (foot [.time, .privGather, .rtc, .outbox]) s (execPfStallTimeout s) :=
  .runOn fun u => by
    split
    · extract_lets s₁ _
      have h₁ : Changes (foot [.time, .privGather, .rtc, .outbox]) u s₁ := .sub (State.advance_changes ..)
      exact .after (State.emit_changes ..)
        (.map (f := fun v => { v with priv := { v.priv with timeout := true, gathered := none, waiting := [], waitSince := none } }) h₁ fun _ => rfl)
    · exact .refl

/-- What `State.eraseGo` may change. -/
def eraseGoFoot : Foot :=
  foot [.privImages, .wpFault, .manifests, .fwSlots, .fwHeaders, .journal, .outbox]

theorem State.eraseGo_changes (s : State) (who : Master) : Changes eraseGoFoot s (s.eraseGo who) := by
  unfold State.eraseGo
  extract_lets _ _ _ _ s₅ _
  have h₅ : Changes eraseGoFoot s s₅ := .after (State.eraseFlashRange_changes ..)
    (.after (State.emit_changes ..) (.sub (State.emit_changes ..)))
  clear_value s₅
  exact .ite .refl (.ite (.after (State.emit_changes ..) (.upd .refl)) (.upd h₅))

theorem execPfEraseGo_leads (who : Master) (s : State) : Leads eraseGoFoot s (execPfEraseGo who s) :=
  .runOn (fun u => .sub (State.eraseGo_changes ..))

theorem State.eraseFlash_changes (s : State) : Changes flashFoot s (s.eraseFlash) := by
  unfold State.eraseFlash
  extract_lets _ _ _ _ _ _ _
  exact .upd .refl

theorem State.scrapOtp_changes (s : State) (act : Option (Nat × Nat)) : Changes (foot [.otpJobs]) s (s.scrapOtp act) := by
  unfold State.scrapOtp
  extract_lets _
  exact .sub (State.programAll_changes ..)

/-- What `State.startScrap` may change. -/
def startScrapFoot : Foot :=
  foot [.gates, .other, .cache, .loads, .pageData, .privImages, .privRest, .otpJobs, .outbox]

theorem State.startScrap_changes (s : State) (act : Option (Nat × Nat)) : Changes startScrapFoot s (s.startScrap act) := by
  unfold State.startScrap
  extract_lets s₁ _ s₃ _
  have h₁ : Changes startScrapFoot s s₁ := .sub (State.zeroiseLine_changes ..)
  clear_value s₁
  have h₃ : Changes startScrapFoot s s₃ := .after (State.emit_changes ..) (.after (State.emit_changes ..) h₁)
  clear_value s₃
  exact .ite (.after (State.scrapOtp_changes ..) (.upd h₁)) (.upd h₃)

theorem State.endChipErase_changes (s : State) (e : ChipErase) (pass : Bool) : Changes flashFoot s (s.endChipErase e pass) := by
  unfold State.endChipErase
  extract_lets s₁ _ s₃
  have h₁ : Changes flashFoot s s₁ := .ite (.sub (State.eraseFlash_changes ..)) .refl
  clear_value s₁
  have h₃ : Changes flashFoot s s₃ := .after (State.resumeWindow_changes ..) (.upd h₁)
  exact .ite (.after (State.scrapOtp_changes ..) h₃) h₃

theorem execPfEraseDone_leads (pass : Bool) (s : State) : Leads flashFoot s (execPfEraseDone pass s) :=
  .runOn fun u => by
    extract_lets _
    split
    · exact .sub (State.endChipErase_changes ..)
    · exact .ite (.after (State.resumeWindow_changes ..) (.upd .refl)) .refl

theorem State.lockPriv_changes (s : State) (who : Master) : Changes (foot [.wpFault, .privLock]) s (s.lockPriv who) := by
  unfold State.lockPriv
  extract_lets _
  exact .ite (.upd .refl) (.upd .refl)

theorem execPfLockWrite_leads (who : Master) (s : State) : Leads (foot [.wpFault, .privLock, .outbox]) s (execPfLockWrite who s) :=
  .runOn (fun u => .sub (State.lockPriv_changes ..))

theorem execPlatStatus_leads (p : Port) (s : State) : Leads queryFoot s (execPlatStatus p s) :=
  .runOn fun u =>
    serve_changes .refl (fun u₁ _ h₁ => noPayload_changes h₁ (fun u₂ h₂ => .after (State.answer_changes ..) h₂))

theorem onePayload_changes {F : Foot} {s t : State} {q : Request} {ok : Nat → Bool} {f : Nat → State} (h : Changes F s t)
    (hf : ∀ n, Changes F s (f n)) (hF : foot [.mailboxes, .sessions] ||| F = F := by decide) : Changes F s (onePayload t q ok f) :=
  .ite (.after (State.answer_changes ..) h hF) (.ite (hf _) (.after (State.answer_changes ..) h hF))

theorem State.verifyNow_changes (s : State) (b : Nat) : Changes plainFoot s (s.verifyNow b) := by
  unfold State.verifyNow
  extract_lets s₁ s₂
  have h₁ : Changes plainFoot s s₁ := .sub (State.updBus_changes ..)
  have h₂ : Changes plainFoot s s₂ := .after (State.updBus_changes ..) h₁
  exact .ite .refl (.ite (.after (State.endVerify_changes ..) h₁) (.ite h₂ (.after (State.failBus_changes ..) h₂)))

theorem execPlatVerify_leads (p : Port) (s : State) : Leads plainFoot s (execPlatVerify p s) :=
  .runOn fun u =>
    serve_changes .refl fun u₁ _ h₁ =>
      onePayload_changes h₁ fun _ =>
        .foldl (.after (State.answer_changes ..) h₁) (fun u₃ _ h₃ => .ite (.after (State.verifyNow_changes ..) h₃) h₃)

theorem execPlatReset_leads (p : Port) (s : State) : Leads plainFoot s (execPlatReset p s) :=
  .runOn fun u =>
    serve_changes .refl fun u₁ _ h₁ =>
      noPayload_changes h₁ (fun u₂ h₂ => .after (State.platformReset_changes ..) (.after (State.answer_changes ..) h₂))

theorem execPlatRecover_leads (p : Port) (s : State) : Leads requestFoot s (execPlatRecover p s) :=
  .runOn fun u =>
    serve_changes .refl fun u₁ _ h₁ =>
      onePayload_changes h₁ (fun _ => .ite (.after (State.answer_changes ..) h₁) (.after (State.requestDevice_changes ..) h₁))

/-- What `execPlatReleaseRetry` may change. -/
def platReleaseRetryFoot : Foot :=
  foot [.bootStep, .relPhase, .relStep, .attempts, .mailboxes, .sessions, .outbox]

theorem execPlatReleaseRetry_leads (p : Port) (s : State) : Leads platReleaseRetryFoot s (execPlatReleaseRetry p s) :=
  .runOn fun u =>
    serve_changes .refl fun u₁ _ h₁ =>
      noPayload_changes h₁ fun u₂ h₂ => by
        extract_lets s₅ _
        have h₅ : Changes platReleaseRetryFoot u s₅ := .after (State.answer_changes ..) h₂
        clear_value s₅
        exact .ite (.after (State.startRelease_changes ..) (.upd h₅)) (.after (State.answer_changes ..) h₂)

theorem State.capture_changes (s : State) (id : Nat) (b : Nat) : Changes (foot [.privRest]) s (s.capture id b).2 := by
  unfold State.capture
  extract_lets _
  split
  · exact .refl
  · split
    · exact .refl
    · exact .upd .refl

theorem execPlatGoldenCapture_leads (p : Port) (s : State) : Leads requestFoot s (execPlatGoldenCapture p s) :=
  .runOn fun u =>
    serve_changes .refl (fun u₁ _ h₁ => onePayload_changes h₁ (fun _ => .after (State.requestDevice_changes ..) h₁))

theorem execPlatSvnAdvance_leads (p : Port) (s : State) : Leads requestFoot s (execPlatSvnAdvance p s) :=
  .runOn fun u =>
    serve_changes .refl fun u₁ _ h₁ =>
      .ite (.after (State.answer_changes ..) h₁) (.ite (.after (State.answer_changes ..) h₁) (.after (State.requestDevice_changes ..) h₁))

theorem State.advanceSvn_changes (s : State) (p : Bytes) : Changes raiseSvnFoot s (s.advanceSvn p).2 := by
  unfold State.advanceSvn
  split
  · exact .sub (State.raiseSvn_changes ..)
  · exact .refl

theorem execPlatDenials_leads (p : Port) (s : State) : Leads queryFoot s (execPlatDenials p s) :=
  .runOn fun u =>
    serve_changes .refl fun u₁ _ h₁ =>
      onePayload_changes h₁ fun _ => by
        extract_lets _
        exact .after (State.answer_changes ..) h₁

theorem execPlatManifestRead_leads (p : Port) (s : State) : Leads (foot [.mailboxes, .sessions, .manifests, .outbox]) s (execPlatManifestRead p s) :=
  .runOn fun u =>
    serve_changes .refl fun u₁ _ h₁ => by
      extract_lets _ _
      split
      · exact .after (State.answer_changes ..) h₁
      · split
        · exact .after (State.answer_changes ..) h₁
        · split
          · split
            · exact .after (State.answer_changes ..) h₁
            · exact .after (State.answer_changes ..) h₁
          · split
            · extract_lets s₁₆
              have h₁₆ : Changes (foot [.mailboxes, .sessions, .manifests, .outbox]) u s₁₆.2 := .after (State.readWindow_changes ..) h₁
              exact .after (State.answer_changes ..) h₁₆
            · exact .after (State.answer_changes ..) h₁

/-! ### Roots -/

/-- What `State.raiseRecord` may change. -/
def raiseRecordFoot : Foot :=
  foot [.sentinel, .other, .privImages, .privRest, .pairRest, .outbox]

theorem State.raiseRecord_changes (s : State) (c : Nat) (i : Nat) (v : Nat) : Changes raiseRecordFoot s (s.raiseRecord c i v) := by
  unfold State.raiseRecord
  extract_lets _
  exact .ite .refl (.after (State.appendGen_changes ..) (.upd .refl))

/-- What `State.writeSlot` may change. -/
def writeSlotFoot : Foot :=
  foot [.sentinel, .gates, .other, .privImages, .privRest, .pairRest, .outbox]

theorem State.writeSlot_changes (s : State) (c : Nat) (i : Nat) (v : Slot) : Changes writeSlotFoot s (s.writeSlot c i v) := by
  unfold State.writeSlot
  extract_lets s₁ _ s₃
  have h₁ : Changes writeSlotFoot s s₁ := .after (State.raiseRecord_changes ..) (.sub (State.setSlot_changes ..))
  clear_value s₁
  have h₃ : Changes writeSlotFoot s s₃ := .ite (.upd h₁) h₁
  exact .after (State.vaultGates_changes ..) h₃

theorem State.rootChanged_changes (s : State) (c : Nat) (i : Nat) : Changes noticeFoot s (s.rootChanged c i) := by
  unfold State.rootChanged
  exact .sub (State.notify_changes ..)

theorem State.stageKey_changes (s : State) (realm : Nat) (p : Bytes) : Changes (foot [.rng]) s (s.stageKey realm p).2.2 := by
  unfold State.stageKey
  extract_lets _ _ _ _ _ _ _ _ _ s₁₀
  have h₁₀ : Changes (foot [.rng]) s s₁₀ := .sub (State.skipDraws_changes ..)
  split
  · exact .refl
  · split
    · split
      next _ u₁₁ hp =>
        have h₁₁ : Changes (foot [.rng]) s u₁₁ := .of_eq (congrArg (·.2) hp) (.sub (State.draw_changes ..))
        exact h₁₁
    · split
      · exact h₁₀
      · split
        · exact h₁₀
        · exact h₁₀

theorem State.putStaged_changes (s : State) (c : Nat) (x : Staged) : Changes (foot [.other]) s (s.putStaged c x) := by
  unfold State.putStaged
  extract_lets _
  exact .upd .refl

theorem State.unstage_changes (s : State) (c : Nat) : Changes (foot [.other]) s (s.unstage c) := by
  unfold State.unstage
  extract_lets _
  exact .upd .refl

theorem State.swapStaged_changes (s : State) (c : Nat) (i : Nat) (x : Staged) : Changes plainFoot s (s.swapStaged c i x).2 := by
  unfold State.swapStaged
  extract_lets _ _ s₃ s₄ s₆
  have h₃ : Changes plainFoot s s₃ := .after (State.writeSlot_changes ..) (.sub (State.unstage_changes ..))
  have h₄ : Changes plainFoot s s₄ := .ite (.foldl h₃ (fun u₅ _ h₅ => .after (State.writeSlot_changes ..) h₅)) h₃
  have h₆ : Changes plainFoot s s₆ := .ite h₄ (.after (State.revokeChildren_changes ..) h₄)
  exact .after (State.rootChanged_changes ..) h₆

theorem State.swapRoot_changes (s : State) (c : Nat) (i : Nat) : Changes plainFoot s (s.swapRoot c i).2 := by
  unfold State.swapRoot
  extract_lets _
  split
  · exact .refl
  · split
    · exact .refl
    · exact .sub (State.swapStaged_changes ..)

theorem State.invalidateSlot_changes (s : State) (c : Nat) (i : Nat) : Changes plainFoot s (s.invalidateSlot c i).2 := by
  unfold State.invalidateSlot
  extract_lets _ _ s₃
  have h₃ : Changes plainFoot s s₃ := .after (State.revokeChildren_changes ..) (.sub (State.writeSlot_changes ..))
  split
  · exact .after (State.rootChanged_changes ..) h₃
  · exact .after (State.rootChanged_changes ..) (.sub (State.raiseRecord_changes ..))

theorem State.invalidateRoot_changes (s : State) (c : Nat) (i : Nat) : Changes plainFoot s (s.invalidateRoot c i).2 := by
  unfold State.invalidateRoot
  extract_lets _
  split
  · exact .refl
  · split
    · exact .foldl_snd .refl fun a₂ _ h₂ => by
        extract_lets s₃
        have h₃ : Changes plainFoot s s₃.2 := .after (State.invalidateSlot_changes ..) h₂
        exact h₃
    · exact .sub (State.invalidateSlot_changes ..)

theorem State.eraseSlot_changes (s : State) (c : Nat) (i : Nat) : Changes plainFoot s (s.eraseSlot c i) := by
  unfold State.eraseSlot
  exact .after (State.rootChanged_changes ..) (.after (State.revokeChildren_changes ..) (.sub (State.writeSlot_changes ..)))

theorem State.eraseRoot_changes (s : State) (c : Nat) (i : Nat) : Changes plainFoot s (s.eraseRoot c i).2 := by
  unfold State.eraseRoot
  extract_lets _
  split
  · exact .refl
  · split
    · exact .refl
    · exact .sub (State.eraseSlot_changes ..)

theorem execVaultStatus_leads (p : Port) (s : State) : Leads queryFoot s (execVaultStatus p s) :=
  .runOn fun u =>
    serve_changes .refl fun u₁ _ h₁ =>
      .ite (.after (State.answer_changes ..) h₁) (.ite (.after (State.answer_changes ..) h₁) (.after (State.answer_changes ..) h₁))

/-- What `execKeyTransportOpen` may change. -/
def keyTransportOpenFoot : Foot :=
  foot [.mailboxes, .sessions, .realms, .rng, .outbox]

theorem execKeyTransportOpen_leads (p : Port) (s : State) : Leads keyTransportOpenFoot s (execKeyTransportOpen p s) :=
  .runOn fun u =>
    serve_changes .refl fun u₁ _ h₁ =>
      noPayload_changes h₁ fun u₂ h₂ => by
        split
        · exact .after (State.answer_changes ..) h₂
        · split
          next _ u₇ hp =>
            have h₇ : Changes keyTransportOpenFoot u u₇ := .of_eq (congrArg (·.2) hp) (.after (State.draw_changes ..) h₂)
            extract_lets _
            exact .after (State.answer_changes ..) (.after (State.updRealm_changes ..) h₇)

theorem execRootStage_leads (p : Port) (s : State) : Leads requestFoot s (execRootStage p s) :=
  .runOn fun u =>
    serve_changes .refl fun u₁ _ h₁ => by
      extract_lets _ _ _ _
      exact .ite (.after (State.answer_changes ..) h₁)
        (.ite (.after (State.answer_changes ..) h₁)
           (.ite (.after (State.answer_changes ..) h₁)
              (.ite (.after (State.answer_changes ..) h₁)
                 (.ite (.after (State.answer_changes ..) h₁)
                    (.ite (.after (State.answer_changes ..) h₁)
                       (.ite (.after (State.answer_changes ..) h₁) (.after (State.request_changes ..) h₁)))))))

theorem State.rootAct_changes (s : State) (q : Request) : Changes makeActFoot s (s.rootAct q) := by
  unfold State.rootAct
  extract_lets _ _ _
  exact .ite (.sub (State.answer_changes ..))
    (.ite (.sub (State.answer_changes ..))
       (.ite (.sub (State.answer_changes ..)) (.ite (.sub (State.answer_changes ..)) (.sub (State.request_changes ..)))))

theorem execRootSwap_leads (p : Port) (s : State) : Leads requestFoot s (execRootSwap p s) :=
  .runOn (fun u => serve_changes .refl (fun u₁ _ h₁ => .after (State.rootAct_changes ..) h₁))

theorem execRootUnstage_leads (p : Port) (s : State) : Leads requestFoot s (execRootUnstage p s) :=
  .runOn (fun u => serve_changes .refl (fun u₁ _ h₁ => .after (State.rootAct_changes ..) h₁))

theorem execRootInvalidate_leads (p : Port) (s : State) : Leads requestFoot s (execRootInvalidate p s) :=
  .runOn (fun u => serve_changes .refl (fun u₁ _ h₁ => .after (State.rootAct_changes ..) h₁))

theorem execRootErase_leads (p : Port) (s : State) : Leads requestFoot s (execRootErase p s) :=
  .runOn (fun u => serve_changes .refl (fun u₁ _ h₁ => .after (State.rootAct_changes ..) h₁))

theorem execKeyAttest_leads (p : Port) (s : State) :
    Leads (foot [.mailboxes, .sessions, .signing, .outbox]) s (execKeyAttest p s) :=
  .runOn fun u => serve_changes .refl fun v q hv => by
    have hanswer : ∀ st b, Changes (foot [.mailboxes, .sessions, .signing, .outbox]) u (v.answer q st b) := fun _ _ =>
      .after (State.answer_changes ..) hv
    extract_lets blob
    refine .ite (hanswer _ _) (.ite (hanswer _ _) (.ite (hanswer _ _) ?_))
    split
    · exact hanswer _ _
    · refine .ite (hanswer _ _) ?_
      split
      · exact hanswer _ _
      · next w hw => exact .after (State.enqueue_changes hw) hv

theorem execCacheFlush_leads (p : Port) (s : State) : Leads (foot [.mailboxes, .sessions, .cache, .outbox]) s (execCacheFlush p s) :=
  .runOn fun u =>
    serve_changes .refl fun u₁ _ h₁ => by
      extract_lets s₄
      have h₄ : Changes (foot [.mailboxes, .sessions, .cache, .outbox]) u s₄.1 := .after (State.flushCache_changes ..) h₁
      exact .ite (.after (State.answer_changes ..) h₁) (.ite (.after (State.answer_changes ..) h₁) (.after (State.answer_changes ..) h₄))

/-- What `execKeyGenerateRsa` may change. -/
def keyGenerateRsaFoot : Foot :=
  foot [.mailboxes, .sessions, .created, .rng, .outbox]

theorem execKeyGenerateRsa_leads (p : Port) (s : State) : Leads keyGenerateRsaFoot s (execKeyGenerateRsa p s) :=
  .runOn fun u =>
    serve_changes .refl fun u₁ _ h₁ => by
      extract_lets _ _ _
      split
      · exact .after (State.answer_changes ..) h₁
      · split
        · exact .after (State.answer_changes ..) h₁
        · split
          · exact .after (State.answer_changes ..) h₁
          · split
            next _ u₄₁ hp =>
              have h₄₁ : Changes keyGenerateRsaFoot u u₄₁ := .of_eq (congrArg (·.2) hp) (.after (State.draw_changes ..) h₁)
              split
              · exact .after (State.answer_changes ..) h₄₁
              · extract_lets _ _
                exact .after (State.answer_changes ..) (.ite (.after (State.blobMade_changes ..) h₄₁) h₄₁)

theorem execPeerKeyLoad_leads (p : Port) (s : State) : Leads requestFoot s (execPeerKeyLoad p s) :=
  .runOn fun u =>
    serve_changes .refl fun u₁ _ h₁ => by
      extract_lets _ _
      exact .ite (.after (State.answer_changes ..) h₁)
        (.ite (.after (State.answer_changes ..) h₁) (.ite (.after (State.answer_changes ..) h₁) (.after (State.request_changes ..) h₁)))

theorem State.peerKey_changes (s : State) (realm : Nat) (p : Bytes) : Changes (foot [.created]) s (s.peerKey realm p).2.2 := by
  unfold State.peerKey
  extract_lets _
  split
  · exact .refl
  · split
    · exact .refl
    · extract_lets _
      split
      · exact .refl
      · dsimp only
        exact .ite (.sub (State.blobMade_changes ..)) .refl

/-! ### Commit -/

theorem State.clearSq_changes (s : State) (c : Nat) (r : Nat) : Changes (foot [.config, .channels, .cache]) s (s.clearSq c r) := by
  unfold State.clearSq
  extract_lets _ _ s₃ s₆ _
  have h₃ : Changes (foot [.config, .channels, .cache]) s s₃ := .foldl .refl fun u₄ _ h₄ =>
    .foldl h₄ (fun u₅ _ h₅ => .ite (.after (State.unpin_changes ..) h₅) h₅)
  have h₆ : Changes (foot [.config, .channels, .cache]) s s₆ := .after (State.updChan_changes ..) h₃
  clear_value s₆
  exact .upd h₆

theorem State.clearCq_changes (s : State) (c : Nat) : Changes (foot [.config, .channels]) s (s.clearCq c) := by
  unfold State.clearCq
  extract_lets _ _ s₃ _
  have h₃ : Changes (foot [.config, .channels]) s s₃ := .sub (State.updChan_changes ..)
  clear_value s₃
  exact .ite h₃ (.upd h₃)

theorem State.settleBinding_changes (s : State) (c : Nat) : Changes (foot [.config, .channels, .cache]) s (s.settleBinding c) := by
  unfold State.settleBinding
  extract_lets _ _ _ s₄ s₆ s₇ s₈
  have h₄ : Changes (foot [.config, .channels, .cache]) s s₄ := .foldl .refl (fun u₅ _ h₅ => .ite (.after (State.clearSq_changes ..) h₅) h₅)
  have h₆ : Changes (foot [.config, .channels, .cache]) s s₆ := .ite (.after (State.clearCq_changes ..) h₄) h₄
  have h₇ : Changes (foot [.config, .channels, .cache]) s s₇ := .after (State.evictChannel_changes ..) h₆
  have h₈ : Changes (foot [.config, .channels, .cache]) s s₈ := .after (State.updChan_changes ..) h₇
  exact .ite .refl (.after (State.relook_changes ..) (.after (State.trimCache_changes ..) h₈))

theorem State.settleCq_changes (s : State) (c : Nat) : Changes (foot [.channels]) s (s.settleCq c) := by
  unfold State.settleCq
  extract_lets _ _
  exact .ite .refl (.sub (State.updChan_changes ..))

theorem State.settlePages_changes (s : State) : Changes (foot [.other]) s (s.settlePages) := by
  unfold State.settlePages
  extract_lets _
  exact .ite .refl (.upd .refl)

theorem State.settleLayout_changes (s : State) : Changes (foot [.other]) s (s.settleLayout) := by
  unfold State.settleLayout
  extract_lets _ _ _ _ _
  exact .ite .refl (.upd .refl)

/-- What `State.takeMapChange` may change. -/
def takeMapChangeFoot : Foot :=
  foot [.other, .windows, .sessions, .functions, .channels, .wheel, .rseq, .staging, .rates, .outbox]

theorem State.takeMapChange_changes (s : State) (x : MapChange) : Changes takeMapChangeFoot s (s.takeMapChange x) := by
  unfold State.takeMapChange
  extract_lets _ _ s₃ s₄
  have h₃ : Changes takeMapChangeFoot s s₃ := .upd .refl
  clear_value s₃
  have h₄ : Changes takeMapChangeFoot s s₄ := .upd h₃
  exact .foldl (.after (State.allotContexts_changes ..) h₄) (fun u₅ _ h₅ => .after (State.notify_changes ..) h₅)

theorem State.settleMap_changes (s : State) : Changes takeMapChangeFoot s (s.settleMap) := by
  unfold State.settleMap
  extract_lets _ _
  exact .foldl (.upd .refl) (fun u₃ _ h₃ => .after (State.takeMapChange_changes ..) h₃)

theorem State.settleAll_changes (s : State) : Changes wheelFoot s (s.settleAll) := by
  unfold State.settleAll
  extract_lets _ s₂ s₄
  have h₂ : Changes wheelFoot s s₂ := .foldl .refl (fun u₃ _ h₃ => .after (State.settleBinding_changes ..) h₃)
  have h₄ : Changes wheelFoot s s₄ := .foldl h₂ (fun u₅ _ h₅ => .after (State.settleCq_changes ..) h₅)
  exact .after (State.settleMap_changes ..) (.after (State.settleLayout_changes ..) (.after (State.settlePages_changes ..) h₄))

theorem State.startMap_changes (s : State) (old : State) (binds : List Nat) (limits : List Nat) :
    Changes (foot [.wheel]) s (s.startMap old binds limits) := by
  unfold State.startMap
  extract_lets _ _ _ _ _ s₆ _ _ _ _ _ _ _
  have h₆ : Changes (foot [.wheel]) s s₆ := .upd .refl
  exact .ite .refl (.upd .refl)

theorem State.takeSq_changes (s : State) (i : Nat) : Changes (foot [.channels]) s (s.takeSq i) := by
  unfold State.takeSq
  extract_lets s₁ _
  have h₁ : Changes (foot [.channels]) s s₁ := .sub (State.updChan_changes ..)
  exact .after (State.updSq_changes ..) h₁

/-- What `State.enterCell` may change. -/
def enterCellFoot : Foot :=
  foot [.windows, .sessions, .functions, .cell, .rseq, .staging, .rates, .outbox]

theorem State.enterCell_changes (s : State) (st : Nat) : Changes enterCellFoot s (s.enterCell st) := by
  unfold State.enterCell
  extract_lets _ _ _ _ _ _ s₇ s₈ _ _
  have h₇ : Changes enterCellFoot s s₇ := .upd .refl
  have h₈ : Changes enterCellFoot s s₈ := .after (State.notify_changes ..) h₇
  clear_value s₈
  exact .ite .refl (.ite (.after (State.notify_changes ..) (.upd h₈)) h₈)

theorem State.applyCommit_changes (s : State) (mine : Bool) (entries : KeyMap Bytes) : Changes wheelFoot s (s.applyCommit mine entries) := by
  unfold State.applyCommit
  extract_lets s₁ _ s₃ _ _ s₇ s₈ s₁₁ s₁₃ _ s₁₆ s₁₈ s₂₀ _ s₂₂ _ s₂₄ s₂₅ s₂₇ _ _ s₃₆ _ s₃₈ s₃₉
  have h₁ : Changes wheelFoot s s₁ := .refl
  have h₃ : Changes wheelFoot s s₃ := .foldl .refl (fun u₄ _ h₄ => .ite (.upd h₄) (.after (State.setCfg_changes ..) h₄))
  have h₇ : Changes wheelFoot s s₇ := .after (State.startMap_changes ..) h₃
  have h₈ : Changes wheelFoot s s₈ := .foldl h₇ fun u₉ _ h₉ => by
    extract_lets s₁₀
    have h₁₀ : Changes wheelFoot s s₁₀ := .ite h₉ (.after (State.updChan_changes ..) h₉)
    exact .after (State.updChan_changes ..) h₁₀
  have h₁₁ : Changes wheelFoot s s₁₁ := .foldl h₈ (fun u₁₂ _ h₁₂ => .after (State.settleBinding_changes ..) h₁₂)
  have h₁₃ : Changes wheelFoot s s₁₃ := .foldl h₁₁ (fun u₁₄ _ h₁₄ => .after (State.takeSq_changes ..) h₁₄)
  have h₁₆ : Changes wheelFoot s s₁₆ := .foldl h₁₃ (fun u₁₇ _ h₁₇ => .after (State.updChan_changes ..) h₁₇)
  have h₁₈ : Changes wheelFoot s s₁₈ := .foldl h₁₆ (fun u₁₉ _ h₁₉ => .after (State.settleCq_changes ..) h₁₉)
  have h₂₀ : Changes wheelFoot s s₂₀ := .ite h₁₈ (.after (State.trimCache_changes ..) h₁₈)
  clear_value s₂₀
  have h₂₂ : Changes wheelFoot s s₂₂ := .ite h₂₀ (.after (State.settlePages_changes ..) (.upd h₂₀))
  clear_value s₂₂
  have h₂₄ : Changes wheelFoot s s₂₄ := .ite h₂₂ (.after (State.settleLayout_changes ..) (.upd h₂₂))
  have h₂₅ : Changes wheelFoot s s₂₅ := .foldl h₂₄ fun u₂₆ _ h₂₆ =>
    .ite (.after (State.settleTiming_changes ..) h₂₆) (.ite h₂₆ (.upd h₂₆))
  have h₂₇ : Changes wheelFoot s s₂₇ := .foldl h₂₅ fun u₂₈ _ h₂₈ => by
    extract_lets _ _ _ s₃₂ _
    have h₃₂ : Changes wheelFoot s s₃₂ := .upd h₂₈
    clear_value s₃₂
    exact .ite (.upd h₃₂) (.ite (.upd h₃₂) h₃₂)
  clear_value s₂₇
  have h₃₆ : Changes wheelFoot s s₃₆ := .upd h₂₇
  clear_value s₃₆
  have h₃₈ : Changes wheelFoot s s₃₈ := .upd h₃₆
  have h₃₉ : Changes wheelFoot s s₃₉ := .ite h₃₈ (.after (State.enterCell_changes ..) h₃₈)
  exact .after (State.cellGate_changes ..) h₃₉

/-! ### Domain -/

theorem State.signed_changes (s : State) (material : Bytes) (m : Bytes) : Changes (foot [.rng]) s (s.signed material m).2 := by
  unfold State.signed
  split
  next _ u₁ hp =>
    have h₁ : Changes (foot [.rng]) s u₁ := .of_eq (congrArg (·.2) hp) (.sub (State.draw_changes ..))
    exact h₁

theorem State.package_changes (s : State) (domain : Bytes) (epoch : Nat) (keys : KeyMap Bytes) (card : Bytes) :
    Changes (foot [.rng]) s (s.package domain epoch keys card).2 := by
  unfold State.package
  split
  next _ u₁ hp =>
    have h₁ : Changes (foot [.rng]) s u₁ := .of_eq (congrArg (·.2) hp) (.sub (State.draw_changes ..))
    extract_lets _
    exact h₁

theorem State.freshKeys_changes (s : State) (cs : List Nat) : Changes (foot [.rng]) s (s.freshKeys cs).2 := by
  induction cs generalizing s with
  | nil => exact .refl
  | cons c rest ih => exact .after (ih _) (State.draw_changes ..)

theorem State.setDomain_changes (s : State) (d : Domain) : Changes (foot [.other]) s (s.setDomain d) := by
  unfold State.setDomain
  extract_lets _
  exact .upd .refl

theorem State.joinDomain_changes (s : State) (d : Domain) (keys : KeyMap Bytes) : Changes plainFoot s (s.joinDomain d keys) := by
  unfold State.joinDomain
  extract_lets _ s₂ _
  have h₂ : Changes plainFoot s s₂ := .foldl .refl (fun u₃ _ h₃ => .after (State.swapStaged_changes ..) h₃)
  clear_value s₂
  exact .after (State.setDomain_changes ..) (.upd h₂)

theorem State.leaveDomain_changes (s : State) : Changes plainFoot s (s.leaveDomain) := by
  unfold State.leaveDomain
  split
  · exact .refl
  · extract_lets _ s₂ s₄ _
    have h₂ : Changes plainFoot s s₂ := .foldl .refl (fun u₃ _ h₃ => .ite (.after (State.unstage_changes ..) h₃) h₃)
    have h₄ : Changes plainFoot s s₄ := .foldl h₂ (fun u₅ _ h₅ => .ite (.after (State.eraseSlot_changes ..) h₅) h₅)
    clear_value s₄
    exact .upd h₄

theorem State.takeRoster_changes (s : State) (r : Bytes) : Changes plainFoot s (s.takeRoster r) := by
  unfold State.takeRoster
  split
  · exact .refl
  · split
    · exact .sub (State.leaveDomain_changes ..)
    · exact .sub (State.setDomain_changes ..)

theorem State.stageRoll_changes (s : State) (r : Roll) (keys : KeyMap Bytes) : Changes (foot [.other]) s (s.stageRoll r keys) := by
  unfold State.stageRoll
  extract_lets s₁ _
  have h₁ : Changes (foot [.other]) s s₁ := .foldl .refl (fun u₂ _ h₂ => .after (State.putStaged_changes ..) h₂)
  clear_value s₁
  exact .upd h₁

theorem State.abandonRoll_changes (s : State) : Changes (foot [.other]) s (s.abandonRoll) := by
  unfold State.abandonRoll
  split
  · exact .refl
  · extract_lets s₁ _
    have h₁ : Changes (foot [.other]) s s₁ := .foldl .refl (fun u₂ _ h₂ => .ite (.after (State.unstage_changes ..) h₂) h₂)
    clear_value s₁
    exact .upd h₁

theorem State.activateRoll_changes (s : State) : Changes plainFoot s (s.activateRoll).2 := by
  unfold State.activateRoll
  split
  · extract_lets _ s₂
    have h₂ : Changes plainFoot s s₂ := .foldl .refl fun u₃ _ h₃ => by
      split
      · exact .ite (.after (State.swapStaged_changes ..) h₃) h₃
      · exact h₃
    split
    · exact .after (State.leaveDomain_changes ..) h₂
    · extract_lets s₄ _ s₆
      have h₄ : Changes plainFoot s s₄ := .after (State.setDomain_changes ..) h₂
      clear_value s₄
      have h₆ : Changes plainFoot s s₆ := .upd h₄
      exact .after (State.notify_changes ..) h₆
  · exact .refl

theorem State.newAuthority_changes (s : State) : Changes (foot [.rng]) s (s.newAuthority).2 := by
  unfold State.newAuthority
  split
  next _ u₁ hp =>
    have h₁ : Changes (foot [.rng]) s u₁ := .of_eq (congrArg (·.2) hp) (.sub (State.draw_changes ..))
    exact h₁

theorem State.makeDomain_changes (s : State) (p : Bytes) : Changes (foot [.created, .rng]) s (s.makeDomain p).2.2.2 := by
  unfold State.makeDomain
  extract_lets _ _
  split
  · exact .refl
  · split
    next _ u₃ hp =>
      have h₃ : Changes (foot [.created, .rng]) s u₃ := .of_eq (congrArg (·.2) hp) (.sub (State.draw_changes ..))
      split
      next _ u₄ hp =>
        have h₄ : Changes (foot [.created, .rng]) s u₄ := .of_eq (congrArg (·.2) hp) (.after (State.newAuthority_changes ..) h₃)
        split
        next _ u₅ hp =>
          have h₅ : Changes (foot [.created, .rng]) s u₅ := .of_eq (congrArg (·.2) hp) (.after (State.freshKeys_changes ..) h₄)
          extract_lets _ _ _
          split
          next _ u₉ hp =>
            have h₉ : Changes (foot [.created, .rng]) s u₉ := .of_eq (congrArg (·.2) hp) (.after (State.signed_changes ..) h₅)
            split
            next _ u₁₀ hp =>
              have h₁₀ : Changes (foot [.created, .rng]) s u₁₀ := .of_eq (congrArg (·.2) hp) (.after (State.signed_changes ..) h₉)
              extract_lets _
              exact .after (State.blobMade_changes ..) h₁₀

theorem State.packages_changes (s : State) (domain : Bytes) (epoch : Nat) (keys : KeyMap Bytes) (cards : List Bytes) :
    Changes (foot [.rng]) s (s.packages domain epoch keys cards).2 := by
  induction cards generalizing s with
  | nil => exact .refl
  | cons c rest ih =>
    unfold State.packages
    exact .after (ih _) (State.package_changes s domain epoch keys c)

theorem State.makeAdmission_changes (s : State) (p : Bytes) : Changes (foot [.rng]) s (s.makeAdmission p).2.2.2 := by
  unfold State.makeAdmission
  extract_lets bad cards pair
  clear_value pair cards bad
  -- for any cards: the check of the proof then has none to compute
  revert cards
  refine id fun cards => ?_
  split
  · extract_lets
    split
    · exact .refl
    · split
      next _ u hu =>
        have h : Changes (foot [.rng]) s u := .of_eq (congrArg (·.2) hu) (State.signed_changes ..)
        split
        next _ v hv =>
          have h' : Changes (foot [.rng]) s v := .of_eq (congrArg (·.2) hv) (.after (State.packages_changes ..) h)
          exact h'
  · exact .refl

theorem State.makeRoll_changes (s : State) (p : Bytes) : Changes (foot [.created, .rng]) s (s.makeRoll p).2.2.2 := by
  unfold State.makeRoll
  extract_lets _ _
  split
  · extract_lets _
    split
    · exact .refl
    · split
      next _ u₄ hp =>
        have h₄ : Changes (foot [.created, .rng]) s u₄ := .of_eq (congrArg (·.2) hp) (.sub (State.freshKeys_changes ..))
        extract_lets _
        split
        next _ u₆ hp =>
          have h₆ : Changes (foot [.created, .rng]) s u₆ := .of_eq (congrArg (·.2) hp) (.after (State.signed_changes ..) h₄)
          split
          next _ u₇ hp =>
            have h₇ : Changes (foot [.created, .rng]) s u₇ := .of_eq (congrArg (·.2) hp) (.after (State.signed_changes ..) h₆)
            split
            next _ u₈ hp =>
              have h₈ : Changes (foot [.created, .rng]) s u₈ := .of_eq (congrArg (·.2) hp) (.after (State.signed_changes ..) h₇)
              extract_lets _ _
              exact .after (State.blobMade_changes ..) h₈
  · exact .refl

/-! ### Mirror -/

theorem State.unstageRoot_changes (s : State) (c : Nat) (i : Nat) : Changes (foot [.other]) s (s.unstageRoot c i).2 := by
  unfold State.unstageRoot
  extract_lets _
  split
  · exact .refl
  · split
    · exact .sub (State.abandonRoll_changes ..)
    · exact .sub (State.unstage_changes ..)

theorem State.rekeyLink_changes (s : State) (k : Bytes) : Changes plainFoot s (s.rekeyLink k).2 := by
  unfold State.rekeyLink
  extract_lets _ s₂
  have h₂ : Changes plainFoot s s₂ := .sub (State.writeSlot_changes ..)
  split
  · exact .refl
  · exact .after (State.rootChanged_changes ..) h₂

theorem State.bind_changes (s : State) (role : Nat) (card : Bytes) (key : Bytes) (hint : Nat) :
    Changes plainFoot s (s.bind role card key hint).2 := by
  unfold State.bind
  extract_lets _ _ s₃ s₄ _ s₆
  have h₃ : Changes plainFoot s s₃ := .sub (State.writeSlot_changes ..)
  have h₄ : Changes plainFoot s s₄ := .after (State.setCfg_changes ..) (.after (State.setCfg_changes ..) h₃)
  clear_value s₄
  have h₆ : Changes plainFoot s s₆ := .upd h₄
  split
  · exact .refl
  · exact .after (State.sendHello_changes ..) (.after (State.rootChanged_changes ..) (.after (State.startPair_changes ..) h₆))

theorem State.unbind_changes (s : State) : Changes plainFoot s (s.unbind) := by
  unfold State.unbind
  extract_lets s₁ s₂ s₃ s₅ _
  have h₁ : Changes plainFoot s s₁ := .ite (.sub (State.emit_changes ..)) .refl
  have h₂ : Changes plainFoot s s₂ := .after (State.eraseSlot_changes ..) h₁
  have h₃ : Changes plainFoot s s₃ := .foldl h₂ (fun u₄ _ h₄ => .after (State.setCfg_changes ..) h₄)
  have h₅ : Changes plainFoot s s₅ := .after (State.setPairMode_changes ..) h₃
  clear_value s₅
  exact .upd h₅

theorem State.applyMirrored_changes (s : State) (mine : Bool) (m : Mirrored) : Changes wheelFoot s (s.applyMirrored mine m).2 := by
  unfold State.applyMirrored
  split
  · exact .sub (State.applyCommit_changes ..)
  · split
    · exact .refl
    · exact .sub (State.putStaged_changes ..)
  · split
    · exact .sub (State.swapRoot_changes ..)
    · split
      · exact .sub (State.unstageRoot_changes ..)
      · split
        · exact .sub (State.invalidateRoot_changes ..)
        · exact .sub (State.eraseRoot_changes ..)
  · split
    · exact .refl
    · exact .sub (State.joinDomain_changes ..)
  · exact .sub (State.takeRoster_changes ..)
  · split
    · exact .refl
    · exact .sub (State.stageRoll_changes ..)
  · exact .sub (State.activateRoll_changes ..)
  · exact .sub (State.leaveDomain_changes ..)
  · exact .sub (State.rekeyLink_changes ..)
  · exact .sub (State.bind_changes ..)
  · split
    · exact .sub (State.unbind_changes ..)
    · exact .refl
  · exact .refl

/-- What `State.finishChange` may change. -/
def finishChangeFoot : Foot :=
  foot [.mailboxes, .windows, .sessions, .realms, .functions, .actOutputs, .pairOwn, .rseq, .staging, .rates, .outbox]

theorem State.finishChange_changes (s : State) (c : Change) (status : Nat) (time : Nat) :
    Changes finishChangeFoot s (s.finishChange c status time) := by
  unfold State.finishChange
  extract_lets _ _ s₃ s₄
  have h₃ : Changes finishChangeFoot s s₃ := .ite (.sub (State.updRealm_changes ..)) .refl
  have h₄ : Changes finishChangeFoot s s₄ := .ite (.sub (State.setOutput_changes ..)) .refl
  split
  · split
    · exact .after (State.endAct_changes ..) h₃
    · split
      · exact .after (State.answer_changes ..) h₃
      · exact h₃
  · exact .sub (State.answer_changes ..)
  · exact .after (State.endAct_changes ..) h₄

theorem State.applyChange_changes (s : State) (mine : Bool) (alone : Bool) (m : Mirrored) : Changes wheelFoot s (s.applyChange mine alone m).2 := by
  unfold State.applyChange
  extract_lets s₁ s₂ _
  have h₁ : Changes wheelFoot s s₁.2 := .sub (State.applyMirrored_changes ..)
  clear_value s₁
  have h₂ : Changes wheelFoot s s₂ := h₁
  split
  · exact .refl
  · split
    · exact .upd h₂
    · exact h₁

theorem State.applyWaiting_changes (s : State) : Changes wheelFoot s (s.applyWaiting) := by
  unfold State.applyWaiting
  extract_lets _ _ s₃
  have h₃ : Changes wheelFoot s s₃ := .upd .refl
  exact .foldl h₃ fun u₄ _ h₄ => by
    extract_lets s₉ s₁₀ _
    have h₉ : Changes wheelFoot s s₉.2 := .after (State.applyChange_changes ..) h₄
    have h₁₀ : Changes wheelFoot s s₁₀ := .after (State.finishChange_changes ..) h₉
    clear_value s₁₀
    exact .ite (.ite (.foldl (.upd h₁₀) (fun u₁₂ _ h₁₂ => .after (State.finishChange_changes ..) h₁₂)) h₁₀) h₄

theorem State.prepare_changes (s : State) (n : Nat) (e : Exchange) : Changes (foot [.pairOwn, .pairRest, .outbox]) s (s.prepare n e) := by
  unfold State.prepare
  extract_lets _ s₂
  have h₂ : Changes (foot [.pairOwn, .pairRest, .outbox]) s s₂ := .upd .refl
  exact .after (State.sendFrame_changes ..) h₂

theorem State.submit_changes (s : State) (c : Change) : Changes wheelFoot s (s.submit c) := by
  unfold State.submit
  extract_lets _ _ _ _ s₅ s₆
  have h₅ : Changes wheelFoot s s₅ := .upd .refl
  have h₆ : Changes wheelFoot s s₆.2 := .sub (State.applyChange_changes ..)
  exact .ite (.sub (State.finishChange_changes ..))
    (.ite (.ite (.after (State.prepare_changes ..) h₅) h₅) (.ite (.upd .refl) (.after (State.finishChange_changes ..) h₆)))

/-! ### Attest -/

theorem execIdCertRead_leads (p : Port) (s : State) : Leads queryFoot s (execIdCertRead p s) :=
  .runOn fun u =>
    serve_changes .refl fun u₁ _ h₁ => by
      extract_lets _
      exact .ite (.after (State.answer_changes ..) h₁) (.ite (.after (State.answer_changes ..) h₁) (.after (State.answer_changes ..) h₁))

theorem execIdCertWrite_leads (p : Port) (s : State) : Leads requestFoot s (execIdCertWrite p s) :=
  .runOn fun u =>
    serve_changes .refl fun u₁ _ h₁ =>
      .ite (.after (State.answer_changes ..) h₁) (.ite (.after (State.answer_changes ..) h₁) (.after (State.requestDevice_changes ..) h₁))

theorem State.writeChain_changes (s : State) (p : Bytes) : Changes (foot [.other]) s (s.writeChain p).2 := by
  unfold State.writeChain
  extract_lets _
  split
  · exact .upd .refl
  · exact .refl

theorem State.signAnswer_changes (s : State) (q : Request) (body : Bytes) :
    Changes (foot [.mailboxes, .sessions, .signing]) s (s.signAnswer q body) := by
  unfold State.signAnswer
  split
  · next u hu => exact .sub (State.enqueue_changes hu)
  · exact .sub (State.answer_changes ..)

theorem execAttestReport_leads (p : Port) (s : State) : Leads (foot [.mailboxes, .sessions, .signing, .outbox]) s (execAttestReport p s) :=
  .runOn fun u =>
    serve_changes .refl fun u₁ _ h₁ =>
      .ite (.after (State.answer_changes ..) h₁) (.ite (.after (State.signAnswer_changes ..) h₁) (.after (State.answer_changes ..) h₁))

theorem State.spdmReply_changes (s : State) (q : Request) (c : SpdmConn) (r : Bytes) :
    Changes (foot [.mailboxes, .sessions]) s (s.spdmReply q c r) := by
  unfold State.spdmReply
  exact .after (State.answer_changes ..) (.sub (State.updSession_changes ..))

theorem serveSpdm_changes {F : Foot} {s t : State} {p : Port} {codes : Nat → Bool} {f : State → Request → SpdmConn → State} (h : Changes F s t)
    (hf : ∀ u q c, Changes F s u → Changes F s (f u q c)) (hF : foot [.mailboxes, .sessions] ||| F = F := by decide) :
    Changes F s (serveSpdm t p codes f) := by
  have htake : ∀ q, Changes F s (t.take p q) := fun q => .after ((State.take_changes ..).sub (G := foot [.mailboxes, .sessions])) h hF
  unfold serveSpdm
  split
  · exact h
  · extract_lets u
    split
    · exact .after (State.answer_changes ..) (htake _) hF
    · exact hf _ _ _ (htake _)

theorem State.spdmGuard_changes {F : Foot} {s t u : State} {q : Request} {c : SpdmConn} {stage : Nat} {lenOk : Bool} (h : Changes F s t)
    (hu : Changes F s u) (hF : (foot [.mailboxes, .sessions]) ||| F = F := by decide) : Changes F s (t.spdmGuard q c stage lenOk u) := by
  have hreply : ∀ body, Changes F s (t.spdmReply q c body) := fun _ => .after (State.spdmReply_changes ..) h hF
  exact .ite (hreply _) (.ite (hreply _) (.ite (hreply _) (.ite (hreply _) hu)))

theorem execSpdmGetVersion_leads (p : Port) (s : State) : Leads queryFoot s (execSpdmGetVersion p s) :=
  .runOn fun u =>
    serveSpdm_changes .refl fun u₁ _ _ h₁ => by
      extract_lets _
      exact .ite (.after (State.spdmReply_changes ..) h₁)
        (.ite (.after (State.spdmReply_changes ..) h₁) (.after (State.spdmReply_changes ..) h₁))

/-- What `execSpdmGetCapabilities` may change. -/
def spdmGetCapabilitiesFoot : Foot :=
  foot [.mailboxes, .sessions, .rseq, .staging, .outbox]

theorem execSpdmGetCapabilities_leads (p : Port) (s : State) : Leads spdmGetCapabilitiesFoot s (execSpdmGetCapabilities p s) :=
  .runOn fun u =>
    serveSpdm_changes .refl fun u₁ _ _ h₁ =>
      State.spdmGuard_changes h₁ (by
          extract_lets _
          exact .ite (.after (State.spdmReply_changes ..) h₁) (.after (State.spdmReply_changes ..) h₁))

theorem execSpdmNegotiateAlgorithms_leads (p : Port) (s : State) : Leads spdmGetCapabilitiesFoot s (execSpdmNegotiateAlgorithms p s) :=
  .runOn fun u =>
    serveSpdm_changes .refl fun u₁ _ _ h₁ => by
      extract_lets _ _ _ _ _
      exact State.spdmGuard_changes h₁ (.ite (.after (State.spdmReply_changes ..) h₁) (.after (State.spdmReply_changes ..) h₁))

theorem execSpdmGetDigests_leads (p : Port) (s : State) : Leads spdmGetCapabilitiesFoot s (execSpdmGetDigests p s) :=
  .runOn fun u =>
    serveSpdm_changes .refl fun u₁ _ _ h₁ =>
      State.spdmGuard_changes h₁ (by
          extract_lets _ _
          exact .after (State.spdmReply_changes ..) h₁)

theorem execSpdmGetCertificate_leads (p : Port) (s : State) : Leads spdmGetCapabilitiesFoot s (execSpdmGetCertificate p s) :=
  .runOn fun u =>
    serveSpdm_changes .refl fun u₁ _ _ h₁ => by
      extract_lets _ _ _ _ _ _
      exact State.spdmGuard_changes h₁ (.after (State.spdmReply_changes ..) h₁)

theorem State.spdmSign_changes (s : State) (m : Bytes) : Changes (foot [.rng]) s (s.spdmSign m).2 := by
  unfold State.spdmSign
  exact .sub (State.skipDraws_changes ..)

/-- What `execSpdmChallenge` may change. -/
def spdmChallengeFoot : Foot :=
  foot [.mailboxes, .sessions, .rseq, .staging, .rng, .outbox]

theorem execSpdmChallenge_leads (p : Port) (s : State) : Leads spdmChallengeFoot s (execSpdmChallenge p s) :=
  .runOn fun u =>
    serveSpdm_changes .refl fun u₁ _ _ h₁ => by
      extract_lets _ _ _ _ _
      exact State.spdmGuard_changes h₁ (by
          split
          next _ u₇ hp =>
            have h₇ : Changes spdmChallengeFoot u u₇ := .of_eq (congrArg (·.2) hp) (.after (State.draw_changes ..) h₁)
            extract_lets _
            split
            next _ u₉ hp =>
              have h₉ : Changes spdmChallengeFoot u u₉ := .of_eq (congrArg (·.2) hp) (.after (State.spdmSign_changes ..) h₇)
              exact .after (State.spdmReply_changes ..) h₉)

theorem execSpdmGetMeasurements_leads (p : Port) (s : State) : Leads spdmChallengeFoot s (execSpdmGetMeasurements p s) :=
  .runOn fun u =>
    serveSpdm_changes .refl fun u₁ _ _ h₁ => by
      extract_lets _ _ _ _ _ _
      exact State.spdmGuard_changes h₁ (by
          split
          next _ u₈ hp =>
            have h₈ : Changes spdmChallengeFoot u u₈ := .of_eq (congrArg (·.2) hp) (.after (State.draw_changes ..) h₁)
            extract_lets _ _
            split
            · split
              next _ u₁₂ hp =>
                have h₁₂ : Changes spdmChallengeFoot u u₁₂ := .of_eq (congrArg (·.2) hp) (.after (State.spdmSign_changes ..) h₈)
                exact .after (State.spdmReply_changes ..) h₁₂
            · exact .after (State.spdmReply_changes ..) h₈)

theorem execSpdmUnsupportedRequest_leads (p : Port) (s : State) : Leads queryFoot s (execSpdmUnsupportedRequest p s) :=
  .runOn fun u =>
    serveSpdm_changes .refl (fun u₁ _ _ h₁ => .ite (.after (State.spdmReply_changes ..) h₁) (.after (State.spdmReply_changes ..) h₁))

/-! ### DomainRows -/

theorem execDomainStatus_leads (p : Port) (s : State) : Leads queryFoot s (execDomainStatus p s) :=
  .runOn fun u =>
    serve_changes .refl (fun u₁ _ h₁ => noPayload_changes h₁ (fun u₂ h₂ => .after (State.answer_changes ..) h₂))

theorem execDomainCard_leads (p : Port) (s : State) : Leads (foot [.mailboxes, .sessions, .signing, .outbox]) s (execDomainCard p s) :=
  .runOn fun u =>
    serve_changes .refl (fun u₁ _ h₁ => noPayload_changes h₁ (fun u₂ h₂ => .after (State.signAnswer_changes ..) h₂))

theorem execDomainCreate_leads (p : Port) (s : State) : Leads requestFoot s (execDomainCreate p s) :=
  .runOn fun u =>
    serve_changes .refl fun u₁ _ h₁ =>
      .ite (.after (State.answer_changes ..) h₁) (.ite (.after (State.answer_changes ..) h₁) (.after (State.requestDevice_changes ..) h₁))

theorem execDomainJoinRequest_leads (p : Port) (s : State) : Leads requestFoot s (execDomainJoinRequest p s) :=
  .runOn fun u =>
    serve_changes .refl (fun u₁ _ h₁ => .ite (.after (State.answer_changes ..) h₁) (.after (State.requestDevice_changes ..) h₁))

theorem State.openTicket_changes (s : State) (p : Bytes) : Changes (foot [.ticket, .rng]) s (s.openTicket p).2 := by
  unfold State.openTicket
  extract_lets _ _
  split
  next _ u₃ hp =>
    have h₃ : Changes (foot [.ticket, .rng]) s u₃ := .of_eq (congrArg (·.2) hp) (.sub (State.signed_changes ..))
    split
    next _ u₄ hp =>
      have h₄ : Changes (foot [.ticket, .rng]) s u₄ := .of_eq (congrArg (·.2) hp) (.after (State.signed_changes ..) h₃)
      extract_lets _ s₆
      have h₆ : Changes (foot [.ticket, .rng]) s s₆ := .upd h₄
      exact h₆

theorem execDomainAdmit_leads (p : Port) (s : State) : Leads requestFoot s (execDomainAdmit p s) :=
  .runOn fun u =>
    serve_changes .refl fun u₁ _ h₁ => by
      extract_lets _ _
      exact .ite (.after (State.answer_changes ..) h₁)
        (.ite (.after (State.answer_changes ..) h₁) (.after (State.requestDevice_changes ..) h₁))

theorem State.domainChange_changes (s : State) (q : Request) (r : Nat × Mirrored) : Changes wheelFoot s (s.domainChange q r) := by
  unfold State.domainChange
  exact .ite (.sub (State.answer_changes ..)) (.sub (State.submit_changes ..))

theorem execDomainAccept_leads (p : Port) (s : State) : Leads wheelFoot s (execDomainAccept p s) :=
  .runOn (fun u => serve_changes .refl (fun u₁ _ h₁ => .after (State.domainChange_changes ..) h₁))

theorem execDomainRosterUpdate_leads (p : Port) (s : State) : Leads wheelFoot s (execDomainRosterUpdate p s) :=
  .runOn fun u =>
    serve_changes .refl (fun u₁ _ h₁ => .ite (.after (State.answer_changes ..) h₁) (.after (State.domainChange_changes ..) h₁))

theorem execDomainRoll_leads (p : Port) (s : State) : Leads requestFoot s (execDomainRoll p s) :=
  .runOn fun u =>
    serve_changes .refl fun u₁ _ h₁ => by
      extract_lets _
      exact .ite (.after (State.answer_changes ..) h₁)
        (.ite (.after (State.answer_changes ..) h₁) (.after (State.requestDevice_changes ..) h₁))

theorem execDomainPackageFetch_leads (p : Port) (s : State) : Leads (foot [.mailboxes, .sessions, .rng, .outbox]) s (execDomainPackageFetch p s) :=
  .runOn fun u =>
    serve_changes .refl fun u₁ _ h₁ => by
      split
      · exact .after (State.answer_changes ..) h₁
      · split
        · split
          · exact .after (State.answer_changes ..) h₁
          · split
            next _ u₇ hp =>
              have h₇ : Changes (foot [.mailboxes, .sessions, .rng, .outbox]) u u₇ :=
                .of_eq (congrArg (·.2) hp) (.after (State.package_changes ..) h₁)
              exact .after (State.answer_changes ..) h₇
        · exact .after (State.answer_changes ..) h₁

theorem execDomainPackageLoad_leads (p : Port) (s : State) : Leads wheelFoot s (execDomainPackageLoad p s) :=
  .runOn (fun u => serve_changes .refl (fun u₁ _ h₁ => .after (State.domainChange_changes ..) h₁))

theorem execDomainActivate_leads (p : Port) (s : State) : Leads wheelFoot s (execDomainActivate p s) :=
  .runOn fun u =>
    serve_changes .refl (fun u₁ _ h₁ => .ite (.after (State.answer_changes ..) h₁) (.after (State.domainChange_changes ..) h₁))

theorem execDomainLeave_leads (p : Port) (s : State) : Leads requestFoot s (execDomainLeave p s) :=
  .runOn fun u =>
    serve_changes .refl fun u₁ _ h₁ =>
      noPayload_changes h₁ (fun u₂ h₂ => .ite (.after (State.answer_changes ..) h₂) (.after (State.requestDevice_changes ..) h₂))

/-- What `execDomainReport` may change. -/
def domainReportFoot : Foot :=
  foot [.mailboxes, .windows, .sessions, .functions, .issued, .outgoing, .faultTable, .rseq, .staging, .rates, .outbox]

theorem execDomainReport_leads (p : Port) (s : State) : Leads domainReportFoot s (execDomainReport p s) :=
  .runOn fun u =>
    serve_changes .refl fun u₁ _ h₁ => by
      extract_lets _ _
      split
      · exact .after (State.answer_changes ..) h₁
      · split
        · exact .after (State.answer_changes ..) h₁
        · exact .ite (.after (State.answer_changes ..) h₁) (.after (State.answer_changes ..) (.after (State.issueNotice_changes ..) h₁))

theorem execDomainNoticeFetch_leads (p : Port) (s : State) : Leads (foot [.mailboxes, .sessions, .outgoing, .outbox]) s (execDomainNoticeFetch p s) :=
  .runOn fun u =>
    serve_changes .refl fun u₁ _ h₁ => by
      extract_lets _ _ _
      exact .ite (.after (State.answer_changes ..) h₁)
        (.ite (.after (State.answer_changes ..) h₁) (.after (State.answer_changes ..) (.upd h₁)))

/-- What `State.takeNotice` may change. -/
def takeNoticeFoot : Foot :=
  foot [.windows, .sessions, .functions, .received, .faultTable, .rseq, .staging, .rates, .outbox]

theorem State.takeNotice_changes (s : State) (n : Bytes) : Changes takeNoticeFoot s (s.takeNotice n) := by
  unfold State.takeNotice
  extract_lets _ _ s₃ _
  have h₃ : Changes takeNoticeFoot s s₃ := .upd .refl
  clear_value s₃
  exact .ite h₃ (.after (State.coalesce_changes ..) (.upd h₃))

/-- What `execDomainNoticeIn` may change. -/
def domainNoticeInFoot : Foot :=
  foot [.mailboxes, .windows, .sessions, .functions, .received, .faultTable, .rseq, .staging, .rates, .outbox]

theorem execDomainNoticeIn_leads (p : Port) (s : State) : Leads domainNoticeInFoot s (execDomainNoticeIn p s) :=
  .runOn fun u =>
    serve_changes .refl fun u₁ _ h₁ => by
      extract_lets _ s₃
      have h₃ : Changes domainNoticeInFoot u s₃ := .foldl h₁ fun u₄ _ h₄ =>
        .after (State.takeNotice_changes ..) h₄
      exact .ite (.after (State.answer_changes ..) h₁)
        (.ite (.after (State.answer_changes ..) h₁) (.ite (.after (State.answer_changes ..) h₁) (.after (State.answer_changes ..) h₃)))

theorem execDomainFaults_leads (p : Port) (s : State) : Leads queryFoot s (execDomainFaults p s) :=
  .runOn fun u =>
    serve_changes .refl fun u₁ _ h₁ => by
      extract_lets _
      exact .ite (.after (State.answer_changes ..) h₁) (.ite (.after (State.answer_changes ..) h₁) (.after (State.answer_changes ..) h₁))

theorem execDomainResultRead_leads (p : Port) (s : State) : Leads queryFoot s (execDomainResultRead p s) :=
  .runOn (fun u => serve_changes .refl (fun u₁ _ h₁ => .after (State.readOutput_changes ..) h₁))

theorem execCoalesceEntryClose_leads (s : State) : Leads plainFoot s (execCoalesceEntryClose s) :=
  .runOn fun u => by
    split
    · exact .after (State.closeEntry_changes ..) (.sub (State.advance_changes ..))
    · exact .refl

theorem execJoinTicketExpire_leads (s : State) : Leads (foot [.time, .ticket, .rtc, .outbox]) s (execJoinTicketExpire s) :=
  .runOn fun u => by
    split
    · extract_lets s₁ _
      have h₁ : Changes (foot [.time, .ticket, .rtc, .outbox]) u s₁ := .sub (State.advance_changes ..)
      clear_value s₁
      exact .upd h₁
    · exact .refl

/-! ### PairSync -/

theorem State.takeCheckpoint_changes (s : State) (b : Bytes) : Changes (foot [.channels, .pairOwn, .pairRest]) s (s.takeCheckpoint b) := by
  unfold State.takeCheckpoint
  extract_lets _ _ s₃ s₄
  have h₃ : Changes (foot [.channels, .pairOwn, .pairRest]) s s₃ := .sub (State.updPair_changes ..)
  have h₄ : Changes (foot [.channels, .pairOwn, .pairRest]) s s₄ := .foldl h₃ (fun u₅ _ h₅ => .after (State.updSq_changes ..) h₅)
  exact .ite h₃ (.after (State.updCq_changes ..) h₄)

/-- What `State.syncSlot` may change. -/
def syncSlotFoot : Foot :=
  foot [.sentinel, .gates, .other, .channels, .cache, .privImages, .privRest, .pairRest, .outbox]

theorem State.syncSlot_changes (s : State) (records : List Bytes) (k : Nat) : Changes syncSlotFoot s (s.syncSlot records k) := by
  unfold State.syncSlot
  extract_lets _ _
  exact .ite .refl (.after (State.revokeChildren_changes ..) (.sub (State.writeSlot_changes ..)))

theorem State.applySync_changes (s : State) : Changes wheelFoot s (s.applySync) := by
  unfold State.applySync
  extract_lets +onlyGivenNames _ s₁ s₂ s₃
  have h₁ : Changes wheelFoot s s₁ := .ite .refl (.sub (State.notify_changes ..))
  have h₂ : Changes wheelFoot s s₂ := .after (State.applyCommit_changes ..) h₁
  have h₃ : Changes wheelFoot s s₃ := .foldl h₂ (fun u _ h => .after (State.syncSlot_changes ..) h)
  clear_value s₃
  -- for any state here: the check of the proof then has no slots to go through
  revert s₃
  refine id fun s₃ h₃ => ?_
  extract_lets _ _ s₄ domain _ _ s₅ s₆ s₇
  have h₄ : Changes wheelFoot s s₄ := .upd h₃
  have h₅ : Changes wheelFoot s s₅ := .upd h₄
  have h₆ : Changes wheelFoot s s₆ := by
    unfold s₆
    clear_value domain
    split
    · exact .after (State.setDomain_changes ..) h₅
    · exact h₅
  have h₇ : Changes wheelFoot s s₇ := .foldl h₆ (fun u _ h => .after (State.takeCheckpoint_changes ..) h)
  exact .after (State.updPair_changes ..) h₇

/-- What `State.takeRecord` may change. -/
def takeRecordFoot : Foot :=
  foot [.sentinel, .other, .buses, .privImages, .privRest, .pairRest, .outbox]

theorem State.takeRecord_changes (s : State) (b : Bytes) : Changes takeRecordFoot s (s.takeRecord b) := by
  unfold State.takeRecord
  extract_lets _
  exact .ite (.sub (State.raiseSvn_changes ..)) (.ite (.after (State.appendGen_changes ..) (.upd .refl)) .refl)

theorem State.sendRecords_changes (s : State) : Changes (foot [.pairRest, .outbox]) s (s.sendRecords) := by
  unfold State.sendRecords
  exact .foldl .refl (fun u₁ _ h₁ => .after (State.sendFrame_changes ..) h₁)

theorem State.dropStaged_changes (s : State) : Changes (foot [.other]) s (s.dropStaged) := by
  unfold State.dropStaged
  extract_lets _ _
  exact .upd .refl

theorem State.sendSync_changes (s : State) : Changes (foot [.pairRest, .outbox]) s (s.sendSync) := by
  unfold State.sendSync
  exact .foldl .refl (fun u₁ _ h₁ => .after (State.sendFrame_changes ..) h₁)

/-- What `State.startSync` may change. -/
def startSyncFoot : Foot :=
  foot [.windows, .sessions, .functions, .pairOwn, .pairRest, .rseq, .staging, .rates, .outbox]

theorem State.startSync_changes (s : State) (theirMseq : Nat) : Changes startSyncFoot s (s.startSync theirMseq) := by
  unfold State.startSync
  extract_lets _ _ s₃ s₄ s₅ s₆ s₇
  have h₃ : Changes startSyncFoot s s₃ := .sub (State.updPair_changes ..)
  have h₄ : Changes startSyncFoot s s₄ := .ite h₃ (.after (State.setPairMode_changes ..) h₃)
  have h₅ : Changes startSyncFoot s s₅ := .ite
    (.after (State.sendFrame_changes ..) (.after (State.updPair_changes ..) h₄)) h₄
  have h₆ : Changes startSyncFoot s s₆ := .ite (.after (State.sendFrame_changes ..) h₅) h₅
  have h₇ : Changes startSyncFoot s s₇ := .after (State.sendRecords_changes ..) h₆
  exact .ite (.after (State.sendSync_changes ..) h₇) h₇

theorem State.tellLedger_changes (s : State) : Changes (foot [.pairOwn, .pairRest, .outbox]) s (s.tellLedger) := by
  unfold State.tellLedger
  extract_lets s₁
  have h₁ : Changes (foot [.pairOwn, .pairRest, .outbox]) s s₁ := .sub (State.updPair_changes ..)
  exact .foldl h₁ (fun u₂ _ h₂ => .foldl h₂ (fun u₃ _ h₃ => .ite h₃ (.after (State.tellAdmit_changes ..) h₃)))

theorem State.startWaiting_changes (s : State) : Changes (foot [.pairOwn, .pairRest, .outbox]) s (s.startWaiting) := by
  unfold State.startWaiting
  exact .foldl .refl (fun u₁ _ h₁ => .after (State.prepare_changes ..) h₁)

theorem State.failbackHomes_changes (s : State) : Changes (foot [.pairOwn, .pairRest]) s (s.failbackHomes) := by
  unfold State.failbackHomes
  extract_lets _ _ _
  exact .sub (State.updPair_changes ..)

theorem State.enterPaired_changes (s : State) : Changes startSyncFoot s (s.enterPaired) := by
  unfold State.enterPaired
  extract_lets s₁ s₂
  have h₁ : Changes startSyncFoot s s₁ := .sub (State.setPairMode_changes ..)
  have h₂ : Changes startSyncFoot s s₂ := .after (State.updPair_changes ..) h₁
  exact .after (State.startWaiting_changes ..) (.after (State.tellLedger_changes ..) (.after (State.failbackHomes_changes ..) h₂))

theorem State.resolveDoubts_changes (s : State) : Changes (foot [.pairRest, .outbox]) s (s.resolveDoubts) := by
  unfold State.resolveDoubts
  exact .foldl .refl (fun u₁ _ h₁ => .after (State.sendFrame_changes ..) h₁)

theorem State.resumePaired_changes (s : State) : Changes startSyncFoot s (s.resumePaired) := by
  unfold State.resumePaired
  exact .after (State.startWaiting_changes ..)
    (.after (State.tellLedger_changes ..)
       (.after (State.sendRecords_changes ..)
          (.after (State.resolveDoubts_changes ..) (.after (State.updPair_changes ..) (.sub (State.setPairMode_changes ..))))))

theorem State.endOwn_changes (s : State) (which : Exchange → Bool) (status : Nat) : Changes plainFoot s (s.endOwn which status) := by
  unfold State.endOwn
  extract_lets _ s₂
  have h₂ : Changes plainFoot s s₂ := .sub (State.updPair_changes ..)
  exact .foldl h₂ (fun u₃ _ h₃ => .after (State.finishChange_changes ..) h₃)

theorem State.settleAlone_changes (s : State) : Changes wheelFoot s (s.settleAlone) := by
  unfold State.settleAlone
  extract_lets s₁ s₂ _ s₄
  have h₁ : Changes wheelFoot s s₁ := .sub (State.endOwn_changes ..)
  have h₂ : Changes wheelFoot s s₂ := .after (State.updPair_changes ..) h₁
  have h₄ : Changes wheelFoot s s₄ := .after (State.updPair_changes ..) h₂
  exact .foldl h₄ (fun u₅ _ h₅ => .after (State.submit_changes ..) h₅)

theorem State.tellApplied_changes (s : State) : Changes startSyncFoot s (s.tellApplied) := by
  unfold State.tellApplied
  extract_lets s₁
  have h₁ : Changes startSyncFoot s s₁ := .foldl .refl fun u₂ _ h₂ =>
    .after (State.notify_changes ..) h₂
  exact .after (State.updPair_changes ..) h₁

theorem State.stopChannel_changes (s : State) (c : Nat) : Changes (foot [.other, .channels, .cache, .pageData]) s (s.stopChannel c) := by
  unfold State.stopChannel
  extract_lets _ _ s₃ s₅ s₈
  have h₃ : Changes (foot [.other, .channels, .cache, .pageData]) s s₃ := .foldl .refl (fun u₄ _ h₄ => .after (State.letGo_changes ..) h₄)
  have h₅ : Changes (foot [.other, .channels, .cache, .pageData]) s s₅ := .foldl h₃ fun u₆ _ h₆ =>
    .foldl h₆ (fun u₇ _ h₇ => .ite (.after (State.unpin_changes ..) h₇) h₇)
  have h₈ : Changes (foot [.other, .channels, .cache, .pageData]) s s₈ := .after (State.updChan_changes ..) h₅
  exact .foldl h₈ (fun u₉ _ h₉ => .after (State.updSq_changes ..) h₉)

theorem State.fence_changes (s : State) : Changes plainFoot s (s.fence) := by
  unfold State.fence
  extract_lets s₁ s₃ _ s₅ s₆ s₇
  have h₁ : Changes plainFoot s s₁ := .foldl .refl (fun u₂ _ h₂ => .after (State.stopChannel_changes ..) h₂)
  have h₃ : Changes plainFoot s s₃ := .after (State.setGates_changes ..) h₁
  have h₅ : Changes plainFoot s s₅ := .after (State.updPair_changes ..) h₃
  have h₆ : Changes plainFoot s s₆ := .after (State.setPairMode_changes ..) h₅
  have h₇ : Changes plainFoot s s₇ := .foldl h₆ (fun u₈ _ h₈ => .after (State.finishChange_changes ..) h₈)
  exact .after (State.endOwn_changes ..) h₇

theorem State.driveFence_changes (s : State) (level : Bool) : Changes (foot [.pairOwn, .pairRest, .outbox]) s (s.driveFence level) := by
  unfold State.driveFence
  exact .ite .refl (.after (State.emit_changes ..) (.sub (State.updPair_changes ..)))

/-- What `State.unfence` may change. -/
def unfenceFoot : Foot :=
  foot [.gates, .windows, .sessions, .functions, .pairOwn, .pairRest, .rseq, .staging, .rates, .outbox]

theorem State.unfence_changes (s : State) : Changes unfenceFoot s (s.unfence) := by
  unfold State.unfence
  extract_lets s₁ s₂
  have h₁ : Changes unfenceFoot s s₁ := .after (State.setGates_changes ..) (.sub (State.updPair_changes ..))
  have h₂ : Changes unfenceFoot s s₂ := .after (State.updPair_changes ..) h₁
  exact .ite
    (.after (State.setPairMode_changes ..) (.after (State.updPair_changes ..) h₁))
    (.ite (.after (State.enterPaired_changes ..) h₁)
       (.ite (.after (State.startSync_changes ..) h₂) (.after (State.setPairMode_changes ..) h₂)))

theorem State.queueRetry_changes (s : State) (c : Nat) (e : LedgerEntry) : Changes (foot [.channels]) s (s.queueRetry c e) := by
  unfold State.queueRetry
  exact .sub (State.updChan_changes ..)

theorem State.takeoverScan_changes (s : State) (c : Nat) (bytes : Bytes) :
    Changes (foot [.channels, .pairOwn, .pairRest]) s (s.takeoverScan c bytes).1 := by
  unfold State.takeoverScan
  extract_lets _ _ _ _ s₅ s₆
  have h₅ : Changes (foot [.channels, .pairOwn, .pairRest]) s s₅ := .sub (State.updPair_changes ..)
  have h₆ : Changes (foot [.channels, .pairOwn, .pairRest]) s s₆ := .after (State.updChan_changes ..) h₅
  exact .foldl h₆ (fun u₇ _ h₇ => .after (State.queueRetry_changes ..) h₇)

theorem State.releaseDue_changes (c fuel : Nat) (s : State) : Changes plainFoot s (State.releaseDue c fuel s) := by
  induction fuel generalizing s with
  | zero => exact .refl
  | succ fuel ih =>
    unfold State.releaseDue
    split
    · exact .ite (.after (ih _) (State.releaseItem_changes ..)) .refl
    · exact .refl

theorem State.becomeSolo_changes (s : State) (reads : List (Nat × Bytes)) : Changes wheelFoot s (s.becomeSolo reads) := by
  unfold State.becomeSolo
  extract_lets _ _ s₃ s₄ s₅ s₇ s₈ s₁₁ _ s₁₄ s₁₆
  have h₃ : Changes wheelFoot s s₃ := .sub (State.setPairMode_changes ..)
  have h₄ : Changes wheelFoot s s₄ := .after (State.updPair_changes ..) h₃
  have h₅ : Changes wheelFoot s s₅ := .foldl h₄ (fun u₆ _ h₆ => .after (State.flushRecords_changes ..) h₆)
  have h₇ : Changes wheelFoot s s₇ := .after (State.tellApplied_changes ..) (.after (State.settleAlone_changes ..) h₅)
  have h₈ : Changes wheelFoot s s₈.1 := .foldl_fst h₇ fun a₉ _ h₉ => by
    extract_lets s₁₀
    have h₁₀ : Changes wheelFoot s s₁₀.1 := .after (State.takeoverScan_changes ..) h₉
    exact h₁₀
  have h₁₁ : Changes wheelFoot s s₁₁ := .foldl h₈ (fun u₁₂ _ h₁₂ => .after (State.releaseDue_changes ..) h₁₂)
  have h₁₄ : Changes wheelFoot s s₁₄ := .foldl h₁₁ (fun u₁₅ _ h₁₅ => .after (State.notifyAt_changes ..) h₁₅)
  have h₁₆ : Changes wheelFoot s s₁₆ := .after (State.trigger_changes ..) (.after (State.issueNotice_changes ..) h₁₄)
  exact .after (State.updPair_changes ..) h₁₆

theorem State.startServing_changes (s : State) (c : Nat) : Changes (foot [.channels, .pairOwn, .pairRest]) s (s.startServing c) := by
  unfold State.startServing
  extract_lets s₁
  have h₁ : Changes (foot [.channels, .pairOwn, .pairRest]) s s₁ := .sub (State.updChan_changes ..)
  exact .ite (.after (State.updPair_changes ..) h₁) (.after (State.updPair_changes ..) h₁)

/-! ### Pair -/

theorem execLinkTrained_leads (lanes : Nat) (margins : List (Nat × Nat)) (s : State) : Leads plainFoot s (execLinkTrained lanes margins s) :=
  .runOn fun u => by
    extract_lets _ _ _ s₄ s₅
    have h₄ : Changes plainFoot u s₄ := .sub (State.updPair_changes ..)
    have h₅ : Changes plainFoot u s₅ := .ite (.after (State.noteAlarm_changes ..) h₄) h₄
    exact .ite .refl (.ite (.after (State.sendHello_changes ..) h₅) h₅)

theorem execLaneRetrain_leads (lane : Nat) (s : State) : Leads (foot [.pairOwn, .pairRest, .outbox]) s (execLaneRetrain lane s) :=
  .runOn (fun u => .ite (.sub (State.updPair_changes ..)) .refl)

theorem State.helloFails_changes (s : State) (m : PairMode) : Changes wheelFoot s (s.helloFails m) := by
  unfold State.helloFails
  extract_lets s₁
  have h₁ : Changes wheelFoot s s₁ := .sub (State.updPair_changes ..)
  exact .ite h₁ (.after (State.settleAlone_changes ..) (.after (State.setPairMode_changes ..) h₁))

theorem State.helloAgrees_changes (s : State) (k : Bytes) (f : Bytes) : Changes startSyncFoot s (s.helloAgrees k f) := by
  unfold State.helloAgrees
  extract_lets _ _ _ _ _ s₆
  have h₆ : Changes startSyncFoot s s₆ := .sub (State.updPair_changes ..)
  exact .after (State.startSync_changes ..) (.after (State.resolveDoubts_changes ..) h₆)

theorem State.takeHello_changes (s : State) (frame : Bytes) : Changes wheelFoot s (s.takeHello frame) := by
  unfold State.takeHello
  extract_lets s₁
  have h₁ : Changes wheelFoot s s₁ := .sub (State.updPair_changes ..)
  split
  · exact .after (State.updPair_changes ..) h₁
  · exact .ite (.after (State.helloFails_changes ..) h₁)
      (.ite (.after (State.helloFails_changes ..) h₁) (.after (State.helloAgrees_changes ..) h₁))

theorem execChordHello_leads (frame : Bytes) (s : State) : Leads wheelFoot s (execChordHello frame s) :=
  .runOn (fun u => .sub (State.takeHello_changes ..))

theorem chordFrame_leads {F : Foot} {s : State} {type : Nat} {frame : Bytes} {f : Bytes → State → State} (hf : ∀ b u, Changes F u (f b u))
    (hF : foot [.pairOwn, .pairRest, .outbox] ||| F = F := by decide) (hp : F.has .pending = false := by decide) :
    Leads F s (chordFrame type frame f s) := by
  have hpair : ∀ (u : State) g, Changes F u (u.updPair g) := fun u g => ((State.updPair_changes u g).sub (Foot.subset_trans (by decide) hF))
  refine .runOn (fun u => .ite .refl ?_) (Foot.subset_trans (by decide) hF) hp
  extract_lets drop
  split
  · exact hpair ..
  · split
    · exact hpair ..
    · extract_lets u₁ u₂
      have h₁ : Changes F u u₁ := hpair ..
      have h₂ : Changes F u u₂ := h₁.trans (hf ..)
      exact .ite h₂ (.after (State.sendFrame_changes ..) h₂ (Foot.subset_trans (by decide) hF))

theorem execChordAdmit_leads (frame : Bytes) (s : State) : Leads (foot [.channels, .pairOwn, .pairRest, .outbox]) s (execChordAdmit frame s) :=
  chordFrame_leads fun _ u =>
    .foldl .refl fun u₁ _ h₁ => by
      extract_lets _ _ _ _ _ _ s₈
      have h₈ : Changes (foot [.channels, .pairOwn, .pairRest, .outbox]) u s₈ := .ite h₁ (.after (State.updSq_changes ..) h₁)
      exact .after (State.updPair_changes ..) h₈

theorem execChordRel_leads (frame : Bytes) (s : State) : Leads (foot [.channels, .pairOwn, .pairRest, .outbox]) s (execChordRel frame s) :=
  chordFrame_leads fun _ u =>
    .foldl .refl fun u₁ _ h₁ => by
      extract_lets _ s₃
      have h₃ : Changes (foot [.channels, .pairOwn, .pairRest, .outbox]) u s₃ := .after (State.updPair_changes ..) h₁
      exact .ite h₃ (.after (State.updCq_changes ..) h₃)

/-- What `execChordAck` may change. -/
def chordAckFoot : Foot :=
  foot [.functions, .channels, .pairOwn, .pairRest, .rseq, .staging, .rates, .outbox]

theorem execChordAck_leads (frame : Bytes) (s : State) : Leads chordAckFoot s (execChordAck frame s) :=
  chordFrame_leads fun _ u => by
    extract_lets _ s₂
    have h₂ : Changes chordAckFoot u s₂ := .sub (State.updPair_changes ..)
    exact .foldl h₂ (fun u₃ _ h₃ => .after (State.flushRecords_changes ..) h₃)

theorem execChordFenceTest_leads (frame : Bytes) (s : State) : Leads (foot [.pairOwn, .pairRest, .outbox]) s (execChordFenceTest frame s) :=
  chordFrame_leads (fun _ u => .sub (State.updPair_changes ..))

theorem execChordSync_leads (frame : Bytes) (s : State) : Leads plainFoot s (execChordSync frame s) :=
  chordFrame_leads fun _ u =>
    .ite (.sub (State.updPair_changes ..))
      (.ite (.sub (State.dropStaged_changes ..))
         (.ite (.sub (State.takeRecord_changes ..)) (.ite (.sub (State.updPair_changes ..)) (.ite (.sub (State.updPair_changes ..)) .refl))))

theorem exchangeFrame_leads {F : Foot} {s : State} {kind : Nat} {frame : Bytes} {f : Nat → Bytes → State → State}
    (hf : ∀ n b u, Changes F u (f n b u)) (hF : foot [.pairOwn, .pairRest, .outbox] ||| F = F := by decide)
    (hp : F.has .pending = false := by decide) : Leads F s (exchangeFrame kind frame f s) :=
  chordFrame_leads (fun _ _ => .ite (hf ..) .refl) hF hp

theorem State.updOwn_changes (s : State) (n : Nat) (e : Exchange) : Changes (foot [.pairOwn, .pairRest]) s (s.updOwn n e) := by
  unfold State.updOwn
  exact .sub (State.updPair_changes ..)

theorem State.updTheirs_changes (s : State) (n : Nat) (e : Exchange) : Changes (foot [.pairOwn, .pairRest]) s (s.updTheirs n e) := by
  unfold State.updTheirs
  exact .sub (State.updPair_changes ..)

theorem State.endExchange_changes (s : State) (n : Nat) (e : Exchange) (status : Nat) : Changes plainFoot s (s.endExchange n e status) := by
  unfold State.endExchange
  exact .after (State.finishChange_changes ..) (.sub (State.updPair_changes ..))

theorem execChordPrepare_leads (frame : Bytes) (s : State) : Leads plainFoot s (execChordPrepare frame s) :=
  exchangeFrame_leads fun _ _ u => by
    extract_lets _ _
    exact .ite (.sub (State.sendFrame_changes ..)) (.after (State.sendFrame_changes ..) (.sub (State.updTheirs_changes ..)))

theorem execChordReady_leads (frame : Bytes) (s : State) : Leads (foot [.pairOwn, .pairRest, .outbox]) s (execChordReady frame s) :=
  exchangeFrame_leads fun _ _ u => by
    extract_lets _
    split
    · exact .ite
        (.after (State.sendFrame_changes ..) (.sub (State.updPair_changes ..)))
        (.ite (.after (State.sendFrame_changes ..) (.sub (State.updOwn_changes ..))) .refl)
    · exact .sub (State.sendFrame_changes ..)

theorem execChordCommit_leads (frame : Bytes) (s : State) : Leads (foot [.pairOwn, .pairRest, .outbox]) s (execChordCommit frame s) :=
  exchangeFrame_leads fun _ _ u => by
    split
    · exact .ite .refl
        (.ite
           (.after (State.sendFrame_changes ..) (.sub (State.updTheirs_changes ..)))
           (.after (State.sendFrame_changes ..) (.sub (State.updPair_changes ..))))
    · exact .sub (State.sendFrame_changes ..)

theorem execChordCommitAck_leads (frame : Bytes) (s : State) : Leads (foot [.pairOwn, .pairRest, .outbox]) s (execChordCommitAck frame s) :=
  exchangeFrame_leads fun _ _ u => by
    split
    · exact .ite (.sub (State.updOwn_changes ..)) (.ite (.sub (State.updOwn_changes ..)) .refl)
    · exact .refl

theorem execChordNack_leads (frame : Bytes) (s : State) : Leads plainFoot s (execChordNack frame s) :=
  exchangeFrame_leads fun _ _ u => by
    split
    · extract_lets s₁
      have h₁ : Changes plainFoot u s₁ := .ite .refl (.sub (State.sendFrame_changes ..))
      exact .ite .refl (.after (State.endExchange_changes ..) h₁)
    · exact .refl

theorem execChordAbort_leads (frame : Bytes) (s : State) : Leads (foot [.pairOwn, .pairRest, .outbox]) s (execChordAbort frame s) :=
  exchangeFrame_leads fun _ _ u => by
    split
    · exact .ite (.sub (State.updPair_changes ..)) .refl
    · exact .refl

theorem execChordResolve_leads (frame : Bytes) (s : State) : Leads (foot [.pairOwn, .pairRest, .outbox]) s (execChordResolve frame s) :=
  exchangeFrame_leads fun _ _ u => by
    extract_lets _
    exact .ite (.sub (State.sendFrame_changes ..)) (.after (State.sendFrame_changes ..) (.sub (State.updPair_changes ..)))

theorem execReadyTimeout_leads (s : State) : Leads plainFoot s (execReadyTimeout s) :=
  .runOn fun u => by
    split
    · exact .after (State.endExchange_changes ..) (.after (State.sendFrame_changes ..) (.sub (State.advance_changes ..)))
    · exact .refl

/-- What `execCommitWaitTimeout` may change. -/
def commitWaitTimeoutFoot : Foot :=
  foot [.time, .pairOwn, .pairRest, .rtc, .outbox]

theorem execCommitWaitTimeout_leads (s : State) : Leads commitWaitTimeoutFoot s (execCommitWaitTimeout s) :=
  .runOn fun u => by
    split
    · exact .after (State.updPair_changes ..) (.sub (State.advance_changes ..))
    · exact .refl

theorem execHeartbeatWindow_leads (s : State) : Leads wheelFoot s (execHeartbeatWindow s) :=
  .runOn fun u => by
    extract_lets s₁ _ s₃ s₄ _ s₆ _ s₈
    have h₁ : Changes wheelFoot u s₁ := .sub (State.advance_changes ..)
    have h₃ : Changes wheelFoot u s₃ := .after (State.updPair_changes ..) h₁
    have h₄ : Changes wheelFoot u s₄ := .ite h₃ (.after (State.takeHello_changes ..) h₃)
    have h₆ : Changes wheelFoot u s₆ := .ite h₄
      (.ite (.after (State.setPairMode_changes ..) h₄)
         (.ite (.after (State.settleAlone_changes ..) (.after (State.setPairMode_changes ..) (.after (State.updPair_changes ..) h₄))) h₄))
    have h₈ : Changes wheelFoot u s₈ := .ite (.after (State.updPair_changes ..) h₆) h₆
    exact .ite h₃ (.after (State.sendFrame_changes ..) h₈)

theorem State.slew_changes (s : State) (theirs : Nat) : Changes (foot [.time]) s (s.slew theirs) := by
  unfold State.slew
  exact .ite (.upd .refl) .refl

theorem execChordBeat_leads (frame : Bytes) (s : State) : Leads plainFoot s (execChordBeat frame s) :=
  chordFrame_leads fun _ u => by
    extract_lets s₁ _ _ _ s₅ s₆ s₈ s₉
    have h₁ : Changes plainFoot u s₁ := .sub (State.slew_changes ..)
    have h₅ : Changes plainFoot u s₅ := .after (State.updPair_changes ..) h₁
    have h₆ : Changes plainFoot u s₆ := .foldl h₅ (fun u₇ _ h₇ => .after (State.takeCheckpoint_changes ..) h₇)
    have h₈ : Changes plainFoot u s₈ := .ite (.after (State.dropStaged_changes ..) h₆) h₆
    have h₉ : Changes plainFoot u s₉ := .ite (.after (State.resumePaired_changes ..) h₈) h₈
    exact .ite (.ite h₉ (.after (State.updPair_changes ..) h₉))
      (.ite (.after (State.startSync_changes ..) h₉) (.ite (.after (State.updPair_changes ..) h₉) h₉))

theorem execPairDeadline_leads (reads : List (Nat × Bytes)) (s : State) : Leads wheelFoot s (execPairDeadline reads s) :=
  .runOn fun u => by
    split
    · exact .refl
    · extract_lets s₁ s₂ s₃
      have h₁ : Changes wheelFoot u s₁ := .after (State.updPair_changes ..) (.sub (State.advance_changes ..))
      have h₂ : Changes wheelFoot u s₂ := .after (State.setPairMode_changes ..) h₁
      have h₃ : Changes wheelFoot u s₃ := .after (State.driveFence_changes ..) h₁
      exact .ite h₁
        (.ite h₁
           (.ite
              (.after (State.settleAlone_changes ..) (.foldl h₂ (fun u₄ _ h₄ => .after (State.flushRecords_changes ..) h₄)))
              (.after (State.becomeSolo_changes ..) (.after (State.advance_changes ..) h₃))))

theorem execFenceInAsserted_leads (s : State) : Leads plainFoot s (execFenceInAsserted s) :=
  .runOn fun u => by
    extract_lets s₁
    have h₁ : Changes plainFoot u s₁ := .sub (State.updPair_changes ..)
    exact .ite h₁ (.ite h₁ (.after (State.fence_changes ..) (.after (State.driveFence_changes ..) h₁)))

theorem execFenceInReleased_leads (s : State) : Leads plainFoot s (execFenceInReleased s) :=
  .runOn fun u =>
    .ite
      (.after (State.kickAll_changes ..) (.sub (State.unfence_changes ..)))
      (.ite (.after (State.kickAll_changes ..) (.sub (State.updPair_changes ..))) (.sub (State.sendFrame_changes ..)))

theorem execFenceTestPulse_leads (s : State) : Leads plainFoot s (execFenceTestPulse s) :=
  .runOn fun u => by
    split
    · exact .refl
    · extract_lets s₁ _ s₃ s₄ s₅
      have h₁ : Changes plainFoot u s₁ := .sub (State.advance_changes ..)
      have h₃ : Changes plainFoot u s₃ := .after (State.updPair_changes ..) h₁
      clear_value s₃
      have h₄ : Changes plainFoot u s₄ := .ite (.after (State.notify_changes ..) (.after (State.faultDegrade_changes ..) (.upd h₃))) h₃
      have h₅ : Changes plainFoot u s₅ := .after (State.updPair_changes ..) h₄
      exact .ite .refl (.after (State.advance_changes ..) (.after (State.emitAll_changes ..) h₅))

theorem execTimeStep_leads (s : State) : Leads wheelFoot s (execTimeStep s) :=
  .runOn fun u => by
    extract_lets _ _
    split
    · exact .refl
    · extract_lets +onlyGivenNames now
      generalize ceilDiv now 64000 = window
      generalize ceilDiv now revNs = revolution
      generalize ceilDiv now sectorNs = sector
      clear_value now
      revert now window revolution sector
      -- for any instant: the check of the proof then has none to compute
      refine id fun now window revolution sector => ?_
      extract_lets s₁
      have h₁ : Changes wheelFoot u s₁ := .upd .refl
      exact .ite .refl (.after (State.kickAll_changes ..) (.after (State.trigger_changes ..) h₁))

theorem execResyncComplete_leads (s : State) : Leads wheelFoot s (execResyncComplete s) :=
  .runOn fun u => by
    extract_lets s₃ s₄
    have h₃ : Changes wheelFoot u s₃ := .sub (State.advance_changes ..)
    have h₄ : Changes wheelFoot u s₄ := .after (State.applySync_changes ..) h₃
    split
    · exact .refl
    · split
      · exact .refl
      · exact .after (State.kickAll_changes ..) (.after (State.enterPaired_changes ..) (.after (State.driveFence_changes ..) h₃))
      · exact .ite .refl
          (.ite (.after (State.updPair_changes ..) h₄) (.after (State.kickAll_changes ..) (.after (State.enterPaired_changes ..) h₄)))

/-! ### PairRows -/

theorem execPairStatus_leads (p : Port) (s : State) : Leads queryFoot s (execPairStatus p s) :=
  .runOn fun u =>
    serve_changes .refl (fun u₁ _ h₁ => noPayload_changes h₁ (fun u₂ h₂ => .after (State.answer_changes ..) h₂))

theorem execPairBind_leads (p : Port) (s : State) : Leads requestFoot s (execPairBind p s) :=
  .runOn fun u =>
    serve_changes .refl fun u₁ _ h₁ =>
      .ite (.after (State.answer_changes ..) h₁) (.ite (.after (State.answer_changes ..) h₁) (.after (State.requestDevice_changes ..) h₁))

theorem State.makeBinding_changes (s : State) (card : Bytes) : Changes (foot [.rng]) s (s.makeBinding card).2.2.2 := by
  unfold State.makeBinding
  extract_lets _
  split
  · exact .refl
  · split
    next _ u₂ hp =>
      have h₂ : Changes (foot [.rng]) s u₂ := .of_eq (congrArg (·.2) hp) (.sub (State.draw_changes ..))
      split
      next _ u₃ hp =>
        have h₃ : Changes (foot [.rng]) s u₃ := .of_eq (congrArg (·.2) hp) (.after (State.draw_changes ..) h₂)
        extract_lets _ _
        split
        next _ u₆ hp =>
          have h₆ : Changes (foot [.rng]) s u₆ := .of_eq (congrArg (·.2) hp) (.after (State.signed_changes ..) h₃)
          exact h₆

theorem execPairAccept_leads (p : Port) (s : State) : Leads requestFoot s (execPairAccept p s) :=
  .runOn fun u =>
    serve_changes .refl fun u₁ _ h₁ => by
      extract_lets _ s₅
      have h₅ : Changes requestFoot u s₅ := .after (State.skipDraws_changes ..) h₁
      exact .ite (.after (State.answer_changes ..) h₁)
        (.ite (.after (State.answer_changes ..) h₅) (.after (State.requestDevice_changes ..) h₅))

theorem State.pairAct_changes (s : State) (q : Request) (cls : Nat) : Changes makeActFoot s (s.pairAct q cls) := by
  unfold State.pairAct
  exact noPayload_changes .refl (fun u₁ h₁ => .ite (.after (State.answer_changes ..) h₁) (.after (State.requestDevice_changes ..) h₁))

theorem execPairUnbind_leads (p : Port) (s : State) : Leads requestFoot s (execPairUnbind p s) :=
  .runOn (fun u => serve_changes .refl (fun u₁ _ h₁ => .after (State.pairAct_changes ..) h₁))

theorem execPairTakeover_leads (p : Port) (s : State) : Leads requestFoot s (execPairTakeover p s) :=
  .runOn (fun u => serve_changes .refl (fun u₁ _ h₁ => .after (State.pairAct_changes ..) h₁))

theorem execPairUnfence_leads (p : Port) (s : State) : Leads requestFoot s (execPairUnfence p s) :=
  .runOn (fun u => serve_changes .refl (fun u₁ _ h₁ => .after (State.pairAct_changes ..) h₁))

theorem execPairRekey_leads (p : Port) (s : State) : Leads requestFoot s (execPairRekey p s) :=
  .runOn fun u =>
    serve_changes .refl fun u₁ _ h₁ =>
      noPayload_changes h₁ (fun u₂ h₂ => .ite (.after (State.answer_changes ..) h₂) (.after (State.requestDevice_changes ..) h₂))

theorem execPairResultRead_leads (p : Port) (s : State) : Leads queryFoot s (execPairResultRead p s) :=
  .runOn (fun u => serve_changes .refl (fun u₁ _ h₁ => .after (State.readOutput_changes ..) h₁))

theorem State.takeoverAct_changes (s : State) : Changes (foot [.pairOwn, .pairRest, .outbox]) s (s.takeoverAct).2 := by
  unfold State.takeoverAct
  split
  · exact .refl
  · split
    · exact .refl
    · split
      · exact .refl
      · dsimp only
        exact .after (State.updPair_changes ..) (.sub (State.driveFence_changes ..))

theorem State.unfenceAct_changes (s : State) : Changes startSyncFoot s (s.unfenceAct).2 := by
  unfold State.unfenceAct
  extract_lets s₁
  have h₁ : Changes startSyncFoot s s₁ := .sub (State.driveFence_changes ..)
  split
  · exact .refl
  · split
    · exact .refl
    · exact .ite (.after (State.startSync_changes ..) h₁) h₁

/-! ### Sentinel -/

theorem State.alarmEvent_changes (s : State) (dets : List Nat) (least : Nat) (tile : Nat) : Changes plainFoot s (s.alarmEvent dets least tile) := by
  unfold State.alarmEvent
  extract_lets _ _ _ _ _ s₆
  have h₆ : Changes plainFoot s s₆.1 := .sub (State.alarm_changes ..)
  exact .foldl h₆ (fun u₇ _ h₇ => .after (State.updDet_changes ..) h₇)

theorem State.sampled_changes (s : State) (clock : TileClock) (m : Sample) : Changes (foot [.time, .rtc, .tiles]) s (s.sampled clock m) := by
  unfold State.sampled
  extract_lets _ s₂
  have h₂ : Changes (foot [.time, .rtc, .tiles]) s s₂ := .sub (State.advance_changes ..)
  exact .ite (.upd .refl) (.ite (.after (State.updTile_changes ..) h₂) h₂)

theorem execDetectorTrip_leads (ds : List Nat) (clock : TileClock) (m : Sample) (s : State) : Leads plainFoot s (execDetectorTrip ds clock m s) :=
  .run fun u => by
    extract_lets s₄ _
    have h₄ : Changes plainFoot u s₄ := .sub (State.sampled_changes ..)
    exact .ite .refl (.ite h₄ (.after (State.alarmEvent_changes ..) (.foldl h₄ (fun u₆ _ h₆ => .after (State.updDet_changes ..) h₆))))

theorem execDetectorQuiet_leads (d : Nat) (s : State) : Leads (foot [.detectors, .outbox]) s (execDetectorQuiet d s) :=
  .run (fun u => .ite (.sub (State.updDet_changes ..)) .refl)

theorem State.stimulate_changes (s : State) (d : Nat) (tripped : Bool) (tile : Nat) : Changes plainFoot s (s.stimulate d tripped tile) := by
  unfold State.stimulate
  extract_lets s₁
  have h₁ : Changes plainFoot s s₁ := .sub (State.updDet_changes ..)
  exact .ite h₁ (.after (State.notify_changes ..) (.after (State.alarmEvent_changes ..) h₁))

theorem execDetectorStimulationTest_leads (d : Nat) (tripped : Bool) (tile : Nat) (s : State) :
    Leads plainFoot s (execDetectorStimulationTest d tripped tile s) :=
  .run fun u => by
    extract_lets _
    split
    · exact .refl
    · extract_lets s₂
      have h₂ : Changes plainFoot u s₂ := .ite (.upd .refl) (.sub (State.advance_changes ..))
      exact .after (State.drawTest_changes ..) (.after (State.stimulate_changes ..) h₂)

theorem execLockstepDisagree_leads (s : State) : Leads plainFoot s (execLockstepDisagree s) :=
  .runOn (fun u => .after (State.fatalFault_changes ..) (.upd .refl))

theorem execBusIntegrityMismatch_leads (master : Nat) (target : Nat) (s : State) : Leads plainFoot s (execBusIntegrityMismatch master target s) :=
  .runOn (fun u => .ite (.sub (State.fatalFault_changes ..)) (.sub (State.alarm_changes ..)))

/-- What `execSentinelPowerOn` may change. -/
def sentinelPowerOnFoot : Foot :=
  foot [.mode, .sentinel, .sentinelUp, .sentinelLog, .rtc, .detectors, .cell, .rng, .outbox]

theorem execSentinelPowerOn_leads (s : State) : Leads sentinelPowerOnFoot s (execSentinelPowerOn s) :=
  .run fun u => by
    extract_lets _ _ _ _ s₁₀
    have h₁₀ : Changes sentinelPowerOnFoot u s₁₀ := .upd .refl
    exact .ite .refl (.after (State.drawTests_changes ..) h₁₀)

theorem execCellStateChange_leads (vbat : Nat) (current : Int) (ntc : Option Int) (s : State) :
    Leads plainFoot s (execCellStateChange vbat current ntc s) :=
  .runOn fun u => by
    extract_lets _ _ _ _ s₅
    have h₅ : Changes plainFoot u s₅ := .upd .refl
    exact .after (State.cellGate_changes ..) (.after (State.enterCell_changes ..) h₅)

theorem execChargerTimerExpire_leads (s : State) : Leads plainFoot s (execChargerTimerExpire s) :=
  .runOn fun u => by
    split
    · exact .refl
    · exact .ite .refl (.after (State.cellGate_changes ..) (.after (State.enterCell_changes ..) (.sub (State.advance_changes ..))))

theorem execChargeEstimate_leads (vbat : Nat) (s : State) : Leads (foot [.gates, .cell, .outbox]) s (execChargeEstimate vbat s) :=
  .runOn fun u => by
    extract_lets _ _ _
    exact .ite .refl (.after (State.cellGate_changes ..) (.upd .refl))

theorem execGaugeLevelCross_leads (remaining : Nat) (s : State) : Leads (foot [.gates, .cell, .outbox]) s (execGaugeLevelCross remaining s) :=
  .run fun u => by
    extract_lets _ _ s₆
    have h₆ : Changes (foot [.gates, .cell, .outbox]) u s₆ := .upd .refl
    exact .ite .refl (.ite (.after (State.cellGate_changes ..) h₆) h₆)

theorem execChgSupplyChange_leads (present : Bool) (s : State) : Leads (foot [.cell, .outbox]) s (execChgSupplyChange present s) :=
  .run fun u => by
    extract_lets _ _
    exact .upd .refl

theorem execTamperStatus_leads (p : Port) (s : State) : Leads queryFoot s (execTamperStatus p s) :=
  .runOn fun u =>
    serve_changes .refl (fun u₁ _ h₁ => noPayload_changes h₁ (fun u₂ h₂ => .after (State.answer_changes ..) h₂))

theorem execCellStatus_leads (p : Port) (s : State) : Leads (foot [.mailboxes, .sessions, .free, .outbox]) s (execCellStatus p s) :=
  .runOn fun u =>
    serve_changes .refl fun u₁ _ h₁ =>
      noPayload_changes h₁ fun u₂ h₂ => by
        extract_lets _ _
        exact .after (State.answer_changes ..) (.upd h₂)

theorem execSentinelLogRead_leads (p : Port) (s : State) : Leads queryFoot s (execSentinelLogRead p s) :=
  .runOn fun u =>
    serve_changes .refl (fun u₁ _ h₁ => noPayload_changes h₁ (fun u₂ h₂ => .after (State.answer_changes ..) h₂))

theorem execDetectorTest_leads (p : Port) (tripped : Bool) (tile : Nat) (s : State) : Leads plainFoot s (execDetectorTest p tripped tile s) :=
  .runOn fun u =>
    serve_changes .refl fun u₁ _ h₁ => by
      extract_lets _
      exact .ite (.after (State.answer_changes ..) h₁)
        (.ite (.after (State.answer_changes ..) h₁) (.after (State.answer_changes ..) (.after (State.stimulate_changes ..) h₁)))

theorem execZeroiseCommand_leads (p : Port) (s : State) : Leads requestFoot s (execZeroiseCommand p s) :=
  .runOn fun u =>
    serve_changes .refl (fun u₁ _ h₁ => noPayload_changes h₁ (fun u₂ h₂ => .after (State.requestDevice_changes ..) h₂))

theorem execRtcSet_leads (p : Port) (s : State) : Leads requestFoot s (execRtcSet p s) :=
  .runOn fun u =>
    serve_changes .refl (fun u₁ _ h₁ => .ite (.after (State.answer_changes ..) h₁) (.after (State.requestDevice_changes ..) h₁))

theorem State.zeroiseAct_changes (s : State) : Changes plainFoot s (s.zeroiseAct) := by
  unfold State.zeroiseAct
  exact .after (State.fatalFault_changes ..) (.upd .refl)

theorem State.rtcAct_changes (s : State) (p : Bytes) : Changes (foot [.sentinel, .rtc, .detectors]) s (s.rtcAct p) := by
  unfold State.rtcAct
  extract_lets _ _
  exact .upd .refl

/-! ### Lifecycle -/

theorem State.installOwner_changes (s : State) (payload : Bytes) : Changes (foot [.gates, .realms, .config]) s (s.installOwner payload) := by
  unfold State.installOwner
  split
  · exact .refl
  · extract_lets s₁
    have h₁ : Changes (foot [.gates, .realms, .config]) s s₁ := .sub (State.updRealm_changes ..)
    exact .after (State.setGates_changes ..) (.after (State.setCfg_changes ..) h₁)

theorem State.recommission_changes (s : State) : Changes restartFoot s (s.recommission) := by
  unfold State.recommission
  extract_lets +onlyGivenNames hists quorum
  clear_value hists quorum
  revert hists
  -- for any histograms: the check of the proof then has none to compute
  refine id fun hists => ?_
  extract_lets _ _ _ _ _ s₁
  have h₁ : Changes restartFoot s s₁ := .upd .refl
  exact .after (State.coldGate_changes ..) (.after (State.emit_changes ..) (.after (State.checkpointHists_changes ..) h₁))

theorem State.closeJtag_changes (s : State) : Changes (foot [.jtag, .rseq, .staging, .outbox]) s (s.closeJtag) := by
  unfold State.closeJtag
  extract_lets _
  split
  · exact .after (State.trigger_changes ..) (.after (State.emit_changes ..) (.upd .refl))
  · exact .refl

theorem State.closeForGood_changes (s : State) : Changes (foot [.jtag, .rseq, .staging, .outbox]) s (s.closeForGood) := by
  unfold State.closeForGood
  exact .ite (.sub (State.closeJtag_changes ..)) .refl

theorem State.tellDone_changes (s : State) (j : OtpJob) : Changes endingFoot s (s.tellDone j) := by
  unfold State.tellDone
  split
  · exact .sub (State.endAct_changes ..)
  · exact .refl

theorem State.afterProgram_changes (s : State) (j : OtpJob) : Changes restartFoot s (s.afterProgram j) := by
  unfold State.afterProgram
  extract_lets _
  split
  · exact .refl
  · exact .refl
  · exact .sub (State.markDone_changes ..)
  · exact .sub (State.startFacet_changes ..)
  · split
    · exact .sub (State.endAct_changes ..)
    · exact .refl
  · split
    · extract_lets s₂
      have h₂ : Changes restartFoot s s₂ := .sub (State.installOwner_changes ..)
      exact .after (State.endAct_changes ..) h₂
    · exact .refl
  · exact .after (State.recommission_changes ..) (.sub (State.tellDone_changes ..))
  · exact .after (State.coldGate_changes ..) (.sub (State.tellDone_changes ..))
  · exact .after (State.vaultGates_changes ..) (.upd .refl)

theorem State.programFailed_changes (s : State) (j : OtpJob) (status : Nat) : Changes wheelFoot s (s.programFailed j status) := by
  unfold State.programFailed
  extract_lets _ s₂
  have h₂ : Changes wheelFoot s s₂ := .upd .refl
  split
  · exact .after (State.endAct_changes ..) h₂
  · split
    · exact .upd .refl
    · split
      · exact .upd .refl
      · exact .sub (State.startFacet_changes ..)
      · exact .refl

theorem execOtpWordProgram_leads (word : Nat) (bits : Nat) (low : Nat) (high : Nat) (s : State) :
    Leads programFoot s (execOtpWordProgram word bits low high s) :=
  .runOn fun u => by
    extract_lets _
    split
    · extract_lets x₂ s₃ s₄
      have h₃ : Changes programFoot u s₃ := .upd .refl
      have h₄ : Changes programFoot u s₄ := by
        unfold s₄
        split
        · exact .after (State.programFailed_changes ..) h₃
        · clear_value x₂
          split
          · exact .after (State.afterProgram_changes ..) h₃
          · extract_lets s₇
            have h₇ : Changes programFoot u s₇ := .after (State.closeForGood_changes ..) (.after (State.pulse_changes ..) h₃)
            exact .ite
              (.after (State.afterProgram_changes ..) (.after (State.trigger_changes ..) h₇))
              (.after (State.programFailed_changes ..) (.after (State.trigger_changes ..) h₇))
      exact .after (State.afterStep3_changes ..) h₄
    · exact .ite (.sub (State.pulse_changes ..)) .refl

theorem execFactoryBlankToTest_leads (s : State) : Leads (foot [.otpJobs, .outbox]) s (execFactoryBlankToTest s) :=
  .runOn (fun u => .ite (.sub (State.programWord_changes ..)) .refl)

theorem execFactoryEnrolment_leads (copy : Nat) (data : Bytes) (s : State) : Leads (foot [.otpJobs, .outbox]) s (execFactoryEnrolment copy data s) :=
  .runOn (fun u => .ite (.sub (State.programAll_changes ..)) .refl)

theorem execFactoryTestToProduction_leads (s : State) : Leads (foot [.otpJobs, .outbox]) s (execFactoryTestToProduction s) :=
  .runOn (fun u => .ite (.after (State.programWord_changes ..) (.sub (State.programWord_changes ..))) .refl)

theorem execFactoryScrap_leads (s : State) : Leads plainFoot s (execFactoryScrap s) :=
  .runOn (fun u => .ite (.sub (State.startScrap_changes ..)) .refl)

theorem execLcStatus_leads (p : Port) (s : State) : Leads queryFoot s (execLcStatus p s) :=
  .runOn fun u =>
    serve_changes .refl (fun u₁ _ h₁ => noPayload_changes h₁ (fun u₂ h₂ => .after (State.answer_changes ..) h₂))

theorem execOtpRead_leads (p : Port) (s : State) : Leads queryFoot s (execOtpRead p s) :=
  .runOn fun u =>
    serve_changes .refl fun u₁ _ h₁ => by
      extract_lets _ _
      exact .ite (.after (State.answer_changes ..) h₁) (.ite (.after (State.answer_changes ..) h₁) (.after (State.answer_changes ..) h₁))

theorem execLcCommission_leads (p : Port) (s : State) : Leads requestFoot s (execLcCommission p s) :=
  .runOn fun u =>
    serve_changes .refl fun u₁ _ h₁ =>
      .ite (.after (State.answer_changes ..) h₁) (.ite (.after (State.answer_changes ..) h₁) (.after (State.requestFree_changes ..) h₁))

theorem State.commission_changes (s : State) (id : Nat) (payload : Bytes) :
    Changes (foot [.gates, .realms, .config, .otpJobs]) s (s.commission id payload).2 := by
  unfold State.commission
  extract_lets _
  split
  · exact .refl
  · split
    · exact .refl
    · split
      · exact .sub (State.installOwner_changes ..)
      · split
        · extract_lets _
          exact .after (State.programWord_changes ..) (.sub (State.programAll_changes ..))
        · exact .sub (State.programWord_changes ..)

theorem State.startRecommission_changes (s : State) (id : Nat) (payload : Bytes) :
    Changes (foot [.otpJobs]) s (s.startRecommission id payload).2 := by
  unfold State.startRecommission
  split
  · exact .refl
  · exact .sub (State.programStep_changes ..)

/-- What `State.assembleUnowned` may change. -/
def assembleUnownedFoot : Foot :=
  foot [.windows, .sessions, .realms, .functions, .pairOwn, .otpJobs, .rseq, .staging, .rates, .outbox]

theorem State.assembleUnowned_changes (s : State) : Changes assembleUnownedFoot s (s.assembleUnowned) := by
  unfold State.assembleUnowned
  split
  · split
    · split
      · next _ u₃ hp =>
          have h₃ : Changes assembleUnownedFoot s u₃ := .of_eq (congrArg (·.2) hp)
            (.after (State.startRecommission_changes ..) (.sub (State.updAct_changes ..)))
          exact .after (State.endAct_changes ..) h₃
      · next u₄ hp =>
          have h₄ : Changes assembleUnownedFoot s u₄ := .of_eq (congrArg (·.2) hp)
            (.after (State.startRecommission_changes ..) (.sub (State.updAct_changes ..)))
          exact h₄
    · exact .refl
  · exact .refl

theorem execLcRecommission_leads (p : Port) (s : State) : Leads plainFoot s (execLcRecommission p s) :=
  .runOn fun u =>
    serve_changes .refl fun u₁ _ h₁ =>
      .ite (.after (State.answer_changes ..) h₁)
        (.ite (.after (State.answer_changes ..) h₁) (.after (State.assembleUnowned_changes ..) (.after (State.requestFree_changes ..) h₁)))

theorem execLcScrap_leads (p : Port) (s : State) : Leads plainFoot s (execLcScrap p s) :=
  .runOn fun u =>
    serve_changes .refl fun u₁ _ h₁ =>
      .ite (.after (State.answer_changes ..) h₁)
        (.ite (.after (State.answer_changes ..) h₁) (.ite (.after (State.requestFree_changes ..) h₁) (.after (State.request_changes ..) h₁)))

theorem State.scrap_changes (s : State) (id : Nat) (payload : Bytes) : Changes startScrapFoot s (s.scrap id payload).2 := by
  unfold State.scrap
  split
  · exact .refl
  · exact .sub (State.startScrap_changes ..)

theorem execDebugChallenge_leads (p : Port) (s : State) : Leads (foot [.mailboxes, .sessions, .rng, .outbox]) s (execDebugChallenge p s) :=
  .runOn fun u =>
    serve_changes .refl fun u₁ _ h₁ =>
      noPayload_changes h₁ fun u₂ h₂ => by
        split
        next _ u₃ hp =>
          have h₃ : Changes (foot [.mailboxes, .sessions, .rng, .outbox]) u u₃ := .of_eq (congrArg (·.2) hp) (.after (State.draw_changes ..) h₂)
          exact .after (State.answer_changes ..) (.after (State.updSession_changes ..) h₃)

theorem execDebugOpen_leads (p : Port) (s : State) : Leads requestFoot s (execDebugOpen p s) :=
  .runOn fun u =>
    serve_changes .refl fun u₁ _ h₁ => by
      extract_lets _ s₇
      have h₇ : Changes requestFoot u s₇ := .after (State.updSession_changes ..) h₁
      exact .ite (.after (State.answer_changes ..) h₁)
        (.ite (.after (State.answer_changes ..) h₁)
           (.ite (.after (State.requestDevice_changes ..) h₇) (.after (State.answer_changes ..) h₇)))

/-- What `State.openDebug` may change. -/
def openDebugFoot : Foot :=
  foot [.gates, .other, .cache, .loads, .pageData, .jtag, .rseq, .staging, .outbox]

theorem State.openDebug_changes (s : State) (token : Bytes) : Changes openDebugFoot s (s.openDebug token).2 := by
  unfold State.openDebug
  extract_lets _ s₂ _ s₄
  have h₂ : Changes openDebugFoot s s₂ := .sub (State.zeroiseLine_changes ..)
  clear_value s₂
  have h₄ : Changes openDebugFoot s s₄ := .upd h₂
  split
  · exact .refl
  · exact .after (State.trigger_changes ..) (.after (State.emit_changes ..) h₄)

theorem execDebugClose_leads (p : Port) (s : State) : Leads restartFoot s (execDebugClose p s) :=
  .runOn fun u =>
    serve_changes .refl fun u₁ _ h₁ =>
      noPayload_changes h₁ fun u₂ h₂ => by
        extract_lets s₃
        have h₃ : Changes restartFoot u s₃ := .after (State.answer_changes ..) h₂
        exact .ite (.after (State.coldGate_changes ..) (.after (State.closeJtag_changes ..) h₃)) h₃

theorem execDebugLifetimeExpire_leads (s : State) : Leads restartFoot s (execDebugLifetimeExpire s) :=
  .runOn fun u => by
    split
    · exact .after (State.coldGate_changes ..) (.after (State.closeJtag_changes ..) (.sub (State.advance_changes ..)))
    · exact .refl

theorem execDebugDisablePermanent_leads (p : Port) (s : State) : Leads requestFoot s (execDebugDisablePermanent p s) :=
  .runOn fun u =>
    serve_changes .refl fun u₁ _ h₁ =>
      noPayload_changes h₁ (fun u₂ h₂ => .ite (.after (State.requestDevice_changes ..) h₂) (.after (State.answer_changes ..) h₂))

theorem State.disableDebug_changes (s : State) (id : Nat) : Changes (foot [.otpJobs]) s (s.disableDebug id).2 := by
  unfold State.disableDebug
  split
  · exact .sub (State.programWord_changes ..)
  · exact .refl

/-! ### Firmware -/

theorem State.putImage_changes (s : State) (kind : Nat) (slot : Nat) (b : Bytes) : Changes (foot [.fwSlots]) s (s.putImage kind slot b) := by
  unfold State.putImage
  extract_lets _
  exact .upd .refl

theorem execFwStatus_leads (p : Port) (s : State) : Leads queryFoot s (execFwStatus p s) :=
  .runOn fun u =>
    serve_changes .refl fun u₁ _ h₁ =>
      noPayload_changes h₁ fun u₂ h₂ => by
        extract_lets _
        exact .after (State.answer_changes ..) h₂

/-- What `execFwSlotErase` may change. -/
def fwSlotEraseFoot : Foot :=
  foot [.mailboxes, .sessions, .fwSlots, .fwErasing, .outbox]

theorem execFwSlotErase_leads (p : Port) (s : State) : Leads fwSlotEraseFoot s (execFwSlotErase p s) :=
  .runOn fun u =>
    serve_changes .refl fun u₁ _ h₁ =>
      onePayload_changes h₁ fun _ =>
        .ite (.after (State.answer_changes ..) h₁) (.after (State.answer_changes ..) (.after (State.putImage_changes ..) (.upd h₁)))

theorem execFwSlotEraseDone_leads (pass : Bool) (s : State) : Leads flashFoot s (execFwSlotEraseDone pass s) :=
  .runOn fun u => by
    extract_lets _ s₂
    have h₂ : Changes flashFoot u s₂ := .upd .refl
    clear_value s₂
    split
    · exact .refl
    · exact .ite (.after (State.notify_changes ..) h₂) (.after (State.notify_changes ..) (.after (State.putImage_changes ..) (.upd h₂)))

theorem execFwStage_leads (p : Port) (s : State) : Leads (foot [.mailboxes, .sessions, .fwSlots, .outbox]) s (execFwStage p s) :=
  .runOn fun u =>
    serve_changes .refl fun u₁ _ h₁ => by
      extract_lets _ _ _ _
      exact .ite (.after (State.answer_changes ..) h₁)
        (.ite (.after (State.answer_changes ..) h₁)
           (.ite (.after (State.answer_changes ..) h₁)
              (.ite (.after (State.answer_changes ..) h₁) (.after (State.answer_changes ..) (.after (State.putImage_changes ..) h₁)))))

theorem execFwStageEnd_leads (p : Port) (s : State) : Leads queryFoot s (execFwStageEnd p s) :=
  .runOn fun u =>
    serve_changes .refl fun u₁ _ h₁ =>
      onePayload_changes h₁ (fun _ => .ite (.after (State.answer_changes ..) h₁) (.after (State.answer_changes ..) h₁))

theorem execFwActivate_leads (p : Port) (s : State) : Leads requestFoot s (execFwActivate p s) :=
  .runOn fun u =>
    serve_changes .refl (fun u₁ _ h₁ => .ite (.after (State.answer_changes ..) h₁) (.after (State.requestDevice_changes ..) h₁))

theorem State.writeHeader_changes (s : State) (apex : Nat) (facet : Nat) : Changes (foot [.fwHeaders]) s (s.writeHeader apex facet) := by
  unfold State.writeHeader
  extract_lets _
  split
  · exact .upd .refl

theorem State.activateImage_changes (s : State) (p : Bytes) : Changes (foot [.fwHeaders, .fwRestart, .rseq, .staging]) s (s.activateImage p).2 := by
  unfold State.activateImage
  extract_lets _ s₂ _ s₄
  have h₂ : Changes (foot [.fwHeaders, .fwRestart, .rseq, .staging]) s s₂ :=
    .ite (.sub (State.writeHeader_changes ..)) (.sub (State.writeHeader_changes ..))
  clear_value s₂
  have h₄ : Changes (foot [.fwHeaders, .fwRestart, .rseq, .staging]) s s₄ := .upd h₂
  split
  · exact .refl
  · exact .after (State.trigger_changes ..) h₄

theorem execFwActivateRestart_leads (s : State) : Leads restartFoot s (execFwActivateRestart s) :=
  .runOn fun u => by
    split
    · exact .after (State.coldGate_changes ..) (.sub (State.advance_changes ..))
    · exact .refl

theorem execFwSvnCommit_leads (p : Port) (s : State) : Leads requestFoot s (execFwSvnCommit p s) :=
  .runOn fun u =>
    serve_changes .refl fun u₁ _ h₁ =>
      noPayload_changes h₁ (fun u₂ h₂ => .ite (.after (State.answer_changes ..) h₂) (.after (State.requestDevice_changes ..) h₂))

theorem State.commitSvn_changes (s : State) (id : Nat) : Changes (foot [.actOutputs, .otpJobs]) s (s.commitSvn id).2 := by
  unfold State.commitSvn
  extract_lets _ _ _ s₄
  have h₄ : Changes (foot [.actOutputs, .otpJobs]) s s₄ := .sub (State.setOutput_changes ..)
  split
  · exact .refl
  · split
    · exact h₄
    · extract_lets _
      exact .after (State.programAll_changes ..) h₄

theorem execFwKeyRevoke_leads (p : Port) (s : State) : Leads requestFoot s (execFwKeyRevoke p s) :=
  .runOn fun u =>
    serve_changes .refl (fun u₁ _ h₁ => .ite (.after (State.answer_changes ..) h₁) (.after (State.requestDevice_changes ..) h₁))

theorem State.revokeKey_changes (s : State) (id : Nat) (p : Bytes) : Changes (foot [.otpJobs]) s (s.revokeKey id p).2 := by
  unfold State.revokeKey
  split
  · exact .refl
  · exact .sub (State.program_changes ..)

/-! ### Recorder -/

/-- What `execJournalFlush` may change. -/
def journalFlushFoot : Foot :=
  foot [.time, .rtc, .staging, .journal, .journalPos, .journalSeal, .outbox]

theorem execJournalFlush_leads (pass : Bool) (s : State) : Leads journalFlushFoot s (execJournalFlush pass s) :=
  .runOn fun u => by
    split
    · exact .ite (.after (State.flush_changes ..) (.sub (State.advance_changes ..))) .refl
    · exact .refl

theorem execJournalFlushRetry_leads (pass : Bool) (s : State) : Leads journalFlushFoot s (execJournalFlushRetry pass s) :=
  .runOn fun u => by
    split
    · exact .ite (.after (State.flush_changes ..) (.sub (State.advance_changes ..))) .refl
    · exact .refl

theorem execRecorderRoomReturns_leads (s : State) : Leads noticeFoot s (execRecorderRoomReturns s) :=
  .runOn fun u => by
    extract_lets _ _
    exact .ite (.after (State.notify_changes ..) (.after (State.trigger_changes ..) (.upd .refl))) .refl

/-- What `execPeriodicTrigger` may change. -/
def periodicTriggerFoot : Foot :=
  foot [.time, .rtc, .rseq, .staging, .rates, .outbox]

theorem execPeriodicTrigger_leads (trigger : Nat) (s : State) : Leads periodicTriggerFoot s (execPeriodicTrigger trigger s) :=
  .runOn fun u => by
    extract_lets _ _
    exact .ite (.after (State.fireRated_changes ..) (.sub (State.advance_changes ..))) .refl

theorem State.observe_changes (s : State) (subject : Nat) (arg : Nat) (v : Int) (mv : Nat) :
    Changes (foot [.i3cValues, .pairRest, .cell, .tiles]) s (s.observe subject arg v mv) := by
  unfold State.observe
  extract_lets _ _ _ _
  exact .ite (.ite (.upd .refl) (.sub (State.updTile_changes ..)))
    (.ite (.upd .refl) (.ite (.upd .refl) (.ite (.upd .refl) (.ite (.upd .refl) .refl))))

theorem execHistSample_leads (hist : Nat) (x : Measured) (s : State) : Leads i3cFoot s (execHistSample hist x s) :=
  .runOn fun u => by
    extract_lets _ _ _ _ _ _ s₇
    have h₇ : Changes i3cFoot u s₇ := .ite (.upd .refl) .refl
    exact .ite .refl (.ite .refl (.after (State.sample_changes ..) (.after (State.observe_changes ..) h₇)))

/-- What `execHistCheckpoint` may change. -/
def histCheckpointFoot : Foot :=
  foot [.time, .rtc, .journal, .checkpoints, .journalSeal, .outbox]

theorem execHistCheckpoint_leads (s : State) : Leads histCheckpointFoot s (execHistCheckpoint s) :=
  .runOn fun u => by
    extract_lets s₄ _ s₆
    have h₄ : Changes histCheckpointFoot u s₄ := .sub (State.advance_changes ..)
    clear_value s₄
    have h₆ : Changes histCheckpointFoot u s₆ := .upd h₄
    exact .ite (.after (State.checkpointHists_changes ..) h₆) .refl

theorem execRecStatus_leads (p : Port) (s : State) : Leads queryFoot s (execRecStatus p s) :=
  .runOn fun u =>
    serve_changes .refl fun u₁ _ h₁ =>
      noPayload_changes h₁ fun u₂ h₂ => by
        extract_lets _
        exact .after (State.answer_changes ..) h₂

theorem execRecRead_leads (p : Port) (s : State) : Leads queryFoot s (execRecRead p s) :=
  .runOn fun u =>
    serve_changes .refl fun u₁ _ h₁ => by
      extract_lets _ _
      exact .ite (.after (State.answer_changes ..) h₁) (.ite (.after (State.answer_changes ..) h₁) (.after (State.answer_changes ..) h₁))

theorem execRecHistRead_leads (p : Port) (s : State) : Leads queryFoot s (execRecHistRead p s) :=
  .runOn fun u =>
    serve_changes .refl fun u₁ _ h₁ => by
      extract_lets _ _
      exact .ite (.after (State.answer_changes ..) h₁) (.ite (.after (State.answer_changes ..) h₁) (.after (State.answer_changes ..) h₁))

theorem execRecExport_leads (p : Port) (s : State) : Leads requestFoot s (execRecExport p s) :=
  .runOn fun u =>
    serve_changes .refl (fun u₁ _ h₁ => .ite (.after (State.answer_changes ..) h₁) (.after (State.requestDevice_changes ..) h₁))

theorem execRecResultRead_leads (p : Port) (s : State) : Leads queryFoot s (execRecResultRead p s) :=
  .runOn (fun u => serve_changes .refl (fun u₁ _ h₁ => .after (State.readOutput_changes ..) h₁))

theorem execRecHistReset_leads (p : Port) (s : State) : Leads requestFoot s (execRecHistReset p s) :=
  .runOn fun u =>
    serve_changes .refl (fun u₁ _ h₁ => .ite (.after (State.answer_changes ..) h₁) (.after (State.requestDevice_changes ..) h₁))

theorem State.resetHists_changes (s : State) (mask : Nat) : Changes (foot [.other]) s (s.resetHists mask) := by
  unfold State.resetHists
  exact .foldl .refl (fun u₁ _ h₁ => .ite (.upd h₁) h₁)

/-! ### Tiles -/

theorem execCrossingTimeout_leads (src : Nat) (dst : Nat) (items : List (Nat × Nat)) (s : State) :
    Leads plainFoot s (execCrossingTimeout src dst items s) :=
  .runOn fun u => by
    extract_lets _ s₈ s₉ s₁₀ s₁₁
    have h₈ : Changes plainFoot u s₈ := .upd .refl
    have h₉ : Changes plainFoot u s₉ := .after (State.updTile_changes ..) h₈
    have h₁₀ : Changes plainFoot u s₁₀ := .after (State.trigger_changes ..) h₉
    have h₁₁ : Changes plainFoot u s₁₁ := .foldl h₁₀ (fun u₁₂ _ h₁₂ => .after (State.endFeed_changes ..) h₁₂)
    exact .ite .refl (.after (State.mapAdmitted_changes ..) h₁₁)

theorem State.carryCount_changes (s : State) (t : Nat) : Changes (foot [.tiles]) s (s.carryCount t) := by
  unfold State.carryCount
  extract_lets _
  split
  · exact .refl
  · extract_lets _ _ s₄ s₅
    have h₄ : Changes (foot [.tiles]) s s₄ := .upd .refl
    have h₅ : Changes (foot [.tiles]) s s₅ := .after (State.updTile_changes ..) h₄
    exact .ite .refl (.ite (.after (State.updTile_changes ..) h₅) h₅)

theorem State.countStretch_changes (s : State) (t : Nat) : Changes (foot [.tiles]) s (s.countStretch t) := by
  unfold State.countStretch
  extract_lets _ _
  exact .after (State.carryCount_changes ..) (.upd .refl)

theorem execLivenessToggleResumes_leads (src : Nat) (dst : Nat) (s : State) :
    Leads (foot [.avs, .tiles, .outbox]) s (execLivenessToggleResumes src dst s) :=
  .runOn fun u => by
    extract_lets _ s₂
    have h₂ : Changes (foot [.avs, .tiles, .outbox]) u s₂ := .upd .refl
    exact .ite (.after (State.carryCount_changes ..) h₂) h₂

theorem State.avsLower_changes (s : State) : Changes (foot [.avs, .outbox]) s (s.avsLower) := by
  unfold State.avsLower
  extract_lets _ _
  exact .after (State.avsWrite_changes ..) (.upd .refl)

theorem execAvsLowerTimer_leads (s : State) : Leads (foot [.time, .rtc, .avs, .outbox]) s (execAvsLowerTimer s) :=
  .runOn fun u => by
    extract_lets _
    split
    · exact .ite .refl (.after (State.avsLower_changes ..) (.sub (State.advance_changes ..)))
    · exact .refl

/-- What `State.avsFailed` may change. -/
def avsFailedFoot : Foot :=
  foot [.windows, .sessions, .functions, .rseq, .staging, .rates, .avs, .outbox]

theorem State.avsFailed_changes (s : State) (w : AvsWrite) : Changes avsFailedFoot s (s.avsFailed w) := by
  unfold State.avsFailed
  extract_lets _ _ s₃
  have h₃ : Changes avsFailedFoot s s₃ := .upd .refl
  exact .ite (.upd .refl) (.after (State.notify_changes ..) h₃)

theorem execAvsFrameComplete_leads (good : Bool) (readback : Nat) (s : State) : Leads avsFailedFoot s (execAvsFrameComplete good readback s) :=
  .runOn fun u => by
    extract_lets _ _ s₃ _ _
    have h₃ : Changes avsFailedFoot u s₃ := .upd .refl
    clear_value s₃
    split
    · exact .refl
    · exact .ite .refl
        (.ite
           (.ite (.after (State.emit_changes ..) (.upd .refl)) (.sub (State.avsFailed_changes ..)))
           (.ite (.after (State.avsUpdate_changes ..) (.upd h₃)) (.after (State.avsFailed_changes ..) h₃)))

theorem execAvsWriteRetry_leads (s : State) : Leads (foot [.time, .rtc, .avs, .outbox]) s (execAvsWriteRetry s) :=
  .runOn fun u => by
    split
    · extract_lets s₁ _ _
      have h₁ : Changes (foot [.time, .rtc, .avs, .outbox]) u s₁ := .sub (State.advance_changes ..)
      clear_value s₁
      exact .after (State.avsSend_changes ..) (.upd h₁)
    · exact .refl

theorem execAvsFaultRetry_leads (s : State) : Leads (foot [.time, .rtc, .avs, .outbox]) s (execAvsFaultRetry s) :=
  .runOn fun u => by
    split
    · extract_lets s₁ _ _
      have h₁ : Changes (foot [.time, .rtc, .avs, .outbox]) u s₁ := .sub (State.advance_changes ..)
      clear_value s₁
      exact .ite (.after (State.avsWrite_changes ..) h₁) (.ite (.after (State.avsLower_changes ..) h₁) (.upd h₁))
    · exact .refl

theorem State.failTile_changes (s : State) (t : Nat) : Changes plainFoot s (s.failTile t) := by
  unfold State.failTile
  exact .after (State.tileOut_changes ..) (.sub (State.faultDegrade_changes ..))

theorem execLoopInterval_leads (tile : Nat) (slack : Int) (vdd : Nat) (s : State) : Leads plainFoot s (execLoopInterval tile slack vdd s) :=
  .runOn fun u => by
    extract_lets s₈ _ _ _ _ _ s₁₄
    have h₈ : Changes plainFoot u s₈ := .sub (State.advance_changes ..)
    have h₁₄ : Changes plainFoot u s₁₄ := .after (State.avsUpdate_changes ..) (.after (State.updTile_changes ..) h₈)
    exact .ite .refl (.ite (.after (State.failTile_changes ..) h₁₄) h₁₄)

theorem execClockStretch_leads (tile : Nat) (s : State) : Leads plainFoot s (execClockStretch tile s) :=
  .runOn fun u => by
    extract_lets _ s₁₀ _ _ _ _ _ s₁₆
    have h₁₀ : Changes plainFoot u s₁₀ := .sub (State.countStretch_changes ..)
    have h₁₆ : Changes plainFoot u s₁₆ := .after (State.updTile_changes ..) h₁₀
    exact .ite .refl (.ite h₁₀ (.ite (.after (State.updTile_changes ..) h₁₀) (.ite (.after (State.failTile_changes ..) h₁₆) h₁₆)))

/-! ### Acts -/

theorem State.updTxn_changes (s : State) (realm : Nat) (f : Txn → Txn) : Changes (foot [.realms]) s (s.updTxn realm f) := by
  unfold State.updTxn
  exact .sub (State.updRealm_changes ..)

theorem execCfgCommit_leads (p : Port) (s : State) : Leads wheelFoot s (execCfgCommit p s) :=
  .runOn fun u =>
    serve_changes .refl fun u₁ _ h₁ => by
      extract_lets _
      split
      · exact .after (State.answer_changes ..) h₁
      · split
        · exact .after (State.answer_changes ..) h₁
        · extract_lets _
          split
          · exact .after (State.answer_changes ..) h₁
          · split
            · exact .after (State.answer_changes ..) h₁
            · split
              · exact .after (State.answer_changes ..) (.after (State.rollback_changes ..) h₁)
              · exact .ite
                  (.after (State.submit_changes ..) (.after (State.updTxn_changes ..) h₁))
                  (State.makeAct_changes h₁ (fun u₂₃ h₂₃ => .after (State.updTxn_changes ..) h₂₃) fun u₂₄ h₂₄ =>
                     .after (State.updTxn_changes ..) h₂₄)

theorem execActStatus_leads (p : Port) (s : State) : Leads (foot [.mailboxes, .sessions, .rng, .outbox]) s (execActStatus p s) :=
  .runOn fun u =>
    serve_changes .refl fun u₁ _ h₁ => by
      split
      · exact .after (State.answer_changes ..) h₁
      · split
        · exact .after (State.answer_changes ..) h₁
        · extract_lets _
          exact .after (State.answer_changes ..) h₁

theorem State.withOutput_changes (s : State) (a : Act) (out : Bytes) : Changes (foot [.actOutputs]) s (s.withOutput a out) := by
  unfold State.withOutput
  exact .sub (State.setOutput_changes ..)

theorem State.awaitSignature_changes (s : State) (a : Act) (n bad : Nat) (body rest : Bytes) :
    Changes (foot [.signing]) s (s.awaitSignature a n bad body rest).2 := by
  unfold State.awaitSignature
  split
  · exact .refl
  · split
    · next u hu => exact State.enqueue_changes hu
    · exact .refl

theorem State.submitAct_changes (s : State) (a : Act) (out : Bytes) (m : Mirrored) : Changes wheelFoot s (s.submitAct a out m).2 := by
  unfold State.submitAct
  exact .sub (State.submit_changes ..)

theorem ended_changes {F : Foot} {s : State} {r : Nat × State} (h : Changes F s r.2) : Changes F s (ended r).2 := h

theorem State.carryCommit_changes (s : State) (a : Act) : Changes wheelFoot s (s.carryCommit a).2 := by
  unfold State.carryCommit
  split
  · exact .after (State.submitAct_changes ..) (.sub (State.updTxn_changes ..))
  · exact .refl

/-- What `State.openAdmin` may change. -/
def openAdminFoot : Foot :=
  foot [.mode, .other, .windows, .sessions, .realms, .functions, .rseq, .staging, .rates, .outbox]

theorem State.openAdmin_changes (s : State) (a : Act) : Changes openAdminFoot s (s.openAdmin a).2 := by
  unfold State.openAdmin
  extract_lets _ s₂
  have h₂ : Changes openAdminFoot s s₂ := .sub (State.updRealm_changes ..)
  exact .ite h₂ (.after (State.setMode_changes ..) h₂)

theorem State.enrol_changes (s : State) (a : Act) : Changes (foot [.realms, .config]) s (s.enrol a).2 := by
  unfold State.enrol
  extract_lets _ s₁
  have h₁ : Changes (foot [.realms, .config]) s s₁ := .ite (.foldl .refl (fun u _ h => .after (State.setCfg_changes ..) h)) .refl
  split
  · exact .refl
  · split
    · exact .refl
    · dsimp only
      exact .after (State.updRealm_changes ..) h₁

theorem State.removeOfficer_changes (s : State) (a : Act) : Changes (foot [.realms]) s (s.removeOfficer a).2 := by
  unfold State.removeOfficer
  extract_lets _ _
  split
  · exact .refl
  · dsimp only
    exact .sub (State.updRealm_changes ..)

theorem State.carryStage_changes (s : State) (a : Act) : Changes wheelFoot s (s.carryStage a).2 := by
  unfold State.carryStage
  split
  next _ _ u₁ hp =>
    have h₁ : Changes wheelFoot s u₁ := .of_eq (congrArg (·.2.2) hp) (.sub (State.stageKey_changes ..))
    split
    · exact h₁
    · exact .after (State.submitAct_changes ..) h₁

theorem State.carryRoot_changes (s : State) (a : Act) : Changes wheelFoot s (s.carryRoot a).2 := by
  unfold State.carryRoot
  extract_lets _ _
  split
  · exact .refl
  · exact .sub (State.submitAct_changes ..)

theorem State.carryPeer_changes (s : State) (a : Act) : Changes (foot [.created, .actOutputs]) s (s.carryPeer a).2 := by
  unfold State.carryPeer
  split
  next _ _ u₁ hp =>
    have h₁ : Changes (foot [.created, .actOutputs]) s u₁ := .of_eq (congrArg (·.2.2) hp) (.sub (State.peerKey_changes ..))
    split
    · exact h₁
    · exact .after (State.withOutput_changes ..) h₁

theorem State.carryRekey_changes (s : State) (a : Act) : Changes wheelFoot s (s.carryRekey a).2 := by
  unfold State.carryRekey
  split
  · exact .refl
  · split
    next _ u₁ hp =>
      have h₁ : Changes wheelFoot s u₁ := .of_eq (congrArg (·.2) hp) (.sub (State.draw_changes ..))
      exact .after (State.submitAct_changes ..) h₁

theorem State.ownChange_changes (s : State) (a : Act) (bad : Nat) (m : Mirrored) : Changes (foot [.pairRest]) s (s.ownChange a bad m).2 := by
  unfold State.ownChange
  extract_lets _ _
  split
  · exact .refl
  · exact .upd .refl

theorem State.carryExport_changes (s : State) (a : Act) : Changes (foot [.signing, .actOutputs]) s (s.carryExport a).2 := by
  unfold State.carryExport
  extract_lets _
  split
  · split
    · exact .refl
    · split
      · exact .sub (State.awaitSignature_changes ..)
      · exact .sub (State.withOutput_changes ..)

/-- What `State.carryRecover` may change. -/
def carryRecoverFoot : Foot :=
  foot [.other, .windows, .sessions, .realms, .functions, .pairOwn, .rseq, .staging, .rates, .outbox]

theorem State.carryRecover_changes (s : State) (a : Act) : Changes carryRecoverFoot s (s.carryRecover a).2 := by
  unfold State.carryRecover
  extract_lets _
  split
  · exact .refl
  · exact .after (State.startDrain_changes ..) (.sub (State.endAct_changes ..))

theorem State.carry_changes (s : State) (a : Act) : Changes actFoot s (s.carry a).2 := by
  unfold State.carry
  extract_lets _
  split
  · exact .sub (State.carryCommit_changes ..)
  · exact .sub (State.openAdmin_changes ..)
  · exact ended_changes (.sub (State.enrol_changes ..))
  · exact ended_changes (.sub (State.removeOfficer_changes ..))
  · exact .sub (State.withOutput_changes ..)
  · exact .sub (State.carryStage_changes ..)
  · exact .sub (State.carryRoot_changes ..)
  · exact .sub (State.carryRoot_changes ..)
  · exact .sub (State.carryRoot_changes ..)
  · exact .sub (State.carryRoot_changes ..)
  · exact .sub (State.carryPeer_changes ..)
  · exact .sub (State.carryRecover_changes ..)
  · exact .sub (State.capture_changes ..)
  · exact ended_changes (.sub (State.advanceSvn_changes ..))
  · exact ended_changes (.sub (State.writeChain_changes ..))
  · exact .sub (State.awaitSignature_changes ..)
  · exact .sub (State.awaitSignature_changes ..)
  · exact .sub (State.awaitSignature_changes ..)
  · exact .sub (State.awaitSignature_changes ..)
  · split
    · exact .refl
    · exact .sub (State.submitAct_changes ..)
  · exact .sub (State.awaitSignature_changes ..)
  · exact .after (State.ownChange_changes ..) (.sub (State.skipDraws_changes ..))
  · exact .sub (State.ownChange_changes ..)
  · exact ended_changes (.sub (State.takeoverAct_changes ..))
  · exact ended_changes (.sub (State.unfenceAct_changes ..))
  · exact .sub (State.carryRekey_changes ..)
  · exact .after (State.zeroiseAct_changes ..) (.sub (State.endAct_changes ..))
  · exact .sub (State.rtcAct_changes ..)
  · exact .sub (State.commission_changes ..)
  · exact .sub (State.startRecommission_changes ..)
  · exact .sub (State.scrap_changes ..)
  · exact ended_changes (.sub (State.openDebug_changes ..))
  · exact .sub (State.disableDebug_changes ..)
  · exact .sub (State.carryExport_changes ..)
  · exact .sub (State.resetHists_changes ..)
  · exact ended_changes (.sub (State.activateImage_changes ..))
  · exact .sub (State.commitSvn_changes ..)
  · exact .sub (State.revokeKey_changes ..)
  · exact .refl

theorem State.assemble_changes (s : State) (a : Act) : Changes actFoot s (s.assemble a) := by
  unfold State.assemble
  extract_lets s₁
  have h₁ : Changes actFoot s s₁ := .sub (State.updAct_changes ..)
  split
  · exact .after (State.endAct_changes ..) h₁
  · split
    · next _ u₄ hp =>
        have h₄ : Changes actFoot s u₄ := .of_eq (congrArg (·.2) hp) (.after (State.carry_changes ..) h₁)
        exact .after (State.endAct_changes ..) h₄
    · next u₅ hp =>
        have h₅ : Changes actFoot s u₅ := .of_eq (congrArg (·.2) hp) (.after (State.carry_changes ..) h₁)
        exact h₅

theorem execOfficerSign_leads (p : Port) (s : State) : Leads actFoot s (execOfficerSign p s) :=
  .runOn fun u =>
    serve_changes .refl fun u₁ _ h₁ => by
      extract_lets _
      split
      · exact .after (State.answer_changes ..) h₁
      · split
        · exact .after (State.answer_changes ..) h₁
        · extract_lets s₁₂ _ _ s₁₅
          have h₁₂ : Changes actFoot u s₁₂ := .after (State.answer_changes ..) (.after (State.updAct_changes ..) h₁)
          have h₁₅ : Changes actFoot u s₁₅ := .after (State.answer_changes ..) (.after (State.updAct_changes ..) h₁)
          exact .ite (.after (State.answer_changes ..) h₁)
            (.ite (.after (State.answer_changes ..) h₁)
               (.ite (.ite (.after (State.endAct_changes ..) h₁₂) h₁₂)
                  (.ite (.after (State.answer_changes ..) h₁) (.ite (.after (State.assemble_changes ..) h₁₅) h₁₅))))

theorem State.carryMade_changes {s : State} {a : Act} {r : Nat × Bytes × Mirrored × State} (h : Changes wheelFoot s r.2.2.2) :
    Changes wheelFoot s (State.carryMade a r).2 := by
  unfold State.carryMade
  split
  · exact h
  · exact .after (State.submitAct_changes ..) h

theorem State.afterSignature_changes (s : State) (a : Act) (j : SigJob) : Changes wheelFoot s (s.afterSignature a j).2 := by
  unfold State.afterSignature
  extract_lets s₁ s₂
  have h₁ : Changes wheelFoot s s₁.2 := .sub (State.openTicket_changes ..)
  have h₂ : Changes wheelFoot s s₂.2 := .sub (State.signed_changes ..)
  split
  · exact State.carryMade_changes (.sub (State.makeDomain_changes ..))
  · exact .after (State.withOutput_changes ..) h₁
  · exact State.carryMade_changes (.sub (State.makeAdmission_changes ..))
  · exact State.carryMade_changes (.sub (State.makeRoll_changes ..))
  · exact State.carryMade_changes (.sub (State.makeBinding_changes ..))
  · exact .after (State.withOutput_changes ..) h₂

theorem execApexSignatureComplete_leads (s : State) : Leads wheelFoot s (execApexSignatureComplete s) :=
  .runOn fun u => by
    extract_lets _
    split
    · exact .refl
    · extract_lets +onlyGivenNames s₁
      have h₁ : Changes wheelFoot u s₁ := .sub (State.zeroPace_changes ..)
      clear_value s₁
      -- for any state here: the check of the proof then has no pace to compute
      revert s₁
      refine id fun s₁ h₁ => ?_
      extract_lets _ s₂ s₃
      have h₂ : Changes wheelFoot u s₂ := .after (State.startSignature_changes ..) (.upd h₁)
      have h₃ : Changes wheelFoot u s₃.2 := .after (State.signed_changes ..) h₂
      split
      · exact .after (State.answer_changes ..) h₃
      · split
        · split
          · split
            · next _ v hp =>
                have h : Changes wheelFoot u v := .of_eq (congrArg (·.2) hp) (.after (State.afterSignature_changes ..) h₂)
                exact .after (State.endAct_changes ..) h
            · next v hp => exact .of_eq (congrArg (·.2) hp) (.after (State.afterSignature_changes ..) h₂)
          · exact h₂
        · exact h₂

/-! ### Boundary -/

theorem State.applyDue_changes (s : State) (x : DueExchange) : Changes wheelFoot s (s.applyDue x) := by
  unfold State.applyDue
  extract_lets _ s₂ s₃ s₄ s₅ s₆
  have h₂ : Changes wheelFoot s s₂ := .sub (State.updPair_changes ..)
  have h₃ : Changes wheelFoot s s₃.2 := .after (State.applyChange_changes ..) h₂
  have h₄ : Changes wheelFoot s s₄ := .sub (State.updPair_changes ..)
  have h₅ : Changes wheelFoot s s₅.2 := .after (State.applyChange_changes ..) h₄
  have h₆ : Changes wheelFoot s s₆ := .after (State.updPair_changes ..) h₅
  exact .ite (.ite (.after (State.finishChange_changes ..) h₃) h₂) (.ite h₅ (.ite (.after (State.tellApplied_changes ..) h₆) h₆))

theorem State.settleExchanges_changes (s : State) : Changes wheelFoot s (s.settleExchanges) := by
  unfold State.settleExchanges
  extract_lets s₁
  have h₁ : Changes wheelFoot s s₁ := .sub (State.updPair_changes ..)
  exact .foldl h₁ (fun u₂ _ h₂ => .after (State.applyDue_changes ..) h₂)

/-- What `State.settleHandover` may change. -/
def settleHandoverFoot : Foot :=
  foot [.windows, .sessions, .functions, .channels, .cache, .pairOwn, .pairRest, .rseq, .staging, .rates, .outbox]

theorem State.settleHandover_changes (s : State) (c : Nat) (home : Nat) : Changes settleHandoverFoot s (s.settleHandover c home) := by
  unfold State.settleHandover
  extract_lets _ _ s₃ s₄ s₆ s₉
  have h₃ : Changes settleHandoverFoot s s₃ := .sub (State.updPair_changes ..)
  have h₄ : Changes settleHandoverFoot s s₄ := .foldl h₃ fun u₅ _ h₅ =>
    .after (State.updSq_changes ..) h₅
  have h₆ : Changes settleHandoverFoot s s₆ := .foldl h₄ fun u₇ _ h₇ =>
    .foldl h₇ (fun u₈ _ h₈ => .ite (.after (State.unpin_changes ..) h₈) h₈)
  have h₉ : Changes settleHandoverFoot s s₉ := .ite
    (.after (State.startServing_changes ..) (.after (State.updChan_changes ..) h₃)) (.after (State.updChan_changes ..) h₆)
  exact .ite .refl (.after (State.notifyAt_changes ..) h₉)

theorem State.settleHomes_changes (s : State) : Changes settleHandoverFoot s (s.settleHomes) := by
  unfold State.settleHomes
  extract_lets s₁ _
  have h₁ : Changes settleHandoverFoot s s₁ := .foldl .refl fun u₂ _ h₂ =>
    .after (State.settleHandover_changes ..) h₂
  exact .foldl (.after (State.updPair_changes ..) h₁) (fun u₄ _ h₄ => .after (State.startServing_changes ..) h₄)

/-- What `State.evaluateGates` may change. -/
def evaluateGatesFoot : Foot :=
  foot [.mode, .gates, .other, .bootStep, .windows, .sessions, .functions, .rseq, .staging, .rates, .outbox]

theorem State.evaluateGates_changes (s : State) : Changes evaluateGatesFoot s (s.evaluateGates) := by
  unfold State.evaluateGates
  extract_lets s₁ _ _ _ s₅ _ _
  have h₁ : Changes evaluateGatesFoot s s₁ := .sub (State.cellGate_changes ..)
  clear_value s₁
  have h₅ : Changes evaluateGatesFoot s s₅ := .after (State.setMode_changes ..) h₁
  clear_value s₅
  split
  · exact .ite (.after (State.setMode_changes ..) (.upd h₁)) h₁
  · exact .ite h₁ (.after (State.setMode_changes ..) h₁)
  · exact .ite (.upd h₅) h₁
  · exact .upd h₁
  · exact h₁

theorem State.settleTimings_changes (s : State) : Changes (foot [.buses, .privRest]) s (s.settleTimings) := by
  unfold State.settleTimings
  extract_lets s₁ _
  have h₁ : Changes (foot [.buses, .privRest]) s s₁ := .after (State.settleTiming_changes ..) (.sub (State.settleTiming_changes ..))
  clear_value s₁
  exact .ite h₁ (.upd h₁)

theorem execRevolutionBoundary_leads (s : State) : Leads wheelFoot s (execRevolutionBoundary s) :=
  .runOn fun u => by
    extract_lets +onlyGivenNames r s₁
    have h₁ : Changes wheelFoot u s₁ := .sub (State.advance_changes ..)
    clear_value s₁ r
    -- for any state here: the check of the proof then has no instant to compute
    revert s₁
    refine id fun s₁ h₁ => ?_
    extract_lets _ s₂ s₃ _ s₄ s₅ _
    have h₂ : Changes wheelFoot u s₂ := .upd h₁
    have h₃ : Changes wheelFoot u s₃ := .after (State.settleHomes_changes ..) (.after (State.settleAll_changes ..)
      (.after (State.applyWaiting_changes ..) (.after (State.settleExchanges_changes ..) (.after (State.settleAll_changes ..) h₂))))
    clear_value s₃
    have h₄ : Changes wheelFoot u s₄ := by
      unfold s₄
      split
      · exact .ite (.upd h₃) h₃
      · exact h₃
    have h₅ : Changes wheelFoot u s₅ := .after (State.evaluateGates_changes ..) h₄
    clear_value s₅
    exact .after (State.kickAll_changes ..) (.after (State.settleTimings_changes ..) (.upd h₅))

/-! ### Items -/

theorem descriptor_leads (op : Nat) (ph : ItemPhase) (f : State → Item → ExecIn → ExecOut) (s : State) : Leads itemFoot s (descriptor op ph f s) :=
  .runOn fun u => by
    split
    · exact .ite (.sub (State.fetched_changes ..)) .refl
    · exact .sub (State.work_changes ..)

theorem execPinTranslate_leads (ph : ItemPhase) (s : State) : Leads itemFoot s (execPinTranslate ph s) :=
  descriptor_leads ..

theorem execPinTranslateTdukpt_leads (ph : ItemPhase) (s : State) : Leads itemFoot s (execPinTranslateTdukpt ph s) :=
  descriptor_leads ..

theorem execPinTranslateAdukpt_leads (ph : ItemPhase) (s : State) : Leads itemFoot s (execPinTranslateAdukpt ph s) :=
  descriptor_leads ..

theorem execPinVerify3624_leads (ph : ItemPhase) (s : State) : Leads itemFoot s (execPinVerify3624 ph s) :=
  descriptor_leads ..

theorem execPinVerify3624Tdukpt_leads (ph : ItemPhase) (s : State) : Leads itemFoot s (execPinVerify3624Tdukpt ph s) :=
  descriptor_leads ..

theorem execPinVerify3624Adukpt_leads (ph : ItemPhase) (s : State) : Leads itemFoot s (execPinVerify3624Adukpt ph s) :=
  descriptor_leads ..

theorem execPinVerifyPvv_leads (ph : ItemPhase) (s : State) : Leads itemFoot s (execPinVerifyPvv ph s) :=
  descriptor_leads ..

theorem execPinVerifyPvvTdukpt_leads (ph : ItemPhase) (s : State) : Leads itemFoot s (execPinVerifyPvvTdukpt ph s) :=
  descriptor_leads ..

theorem execPinVerifyPvvAdukpt_leads (ph : ItemPhase) (s : State) : Leads itemFoot s (execPinVerifyPvvAdukpt ph s) :=
  descriptor_leads ..

theorem execMacGenerateAlg1_leads (ph : ItemPhase) (s : State) : Leads itemFoot s (execMacGenerateAlg1 ph s) :=
  descriptor_leads ..

theorem execMacVerifyAlg1_leads (ph : ItemPhase) (s : State) : Leads itemFoot s (execMacVerifyAlg1 ph s) :=
  descriptor_leads ..

theorem execMacGenerateAlg3_leads (ph : ItemPhase) (s : State) : Leads itemFoot s (execMacGenerateAlg3 ph s) :=
  descriptor_leads ..

theorem execMacVerifyAlg3_leads (ph : ItemPhase) (s : State) : Leads itemFoot s (execMacVerifyAlg3 ph s) :=
  descriptor_leads ..

theorem execMacGenerateCmac_leads (ph : ItemPhase) (s : State) : Leads itemFoot s (execMacGenerateCmac ph s) :=
  descriptor_leads ..

theorem execMacVerifyCmac_leads (ph : ItemPhase) (s : State) : Leads itemFoot s (execMacVerifyCmac ph s) :=
  descriptor_leads ..

theorem execMacGenerateAlg3Tdukpt_leads (ph : ItemPhase) (s : State) : Leads itemFoot s (execMacGenerateAlg3Tdukpt ph s) :=
  descriptor_leads ..

theorem execMacVerifyAlg3Tdukpt_leads (ph : ItemPhase) (s : State) : Leads itemFoot s (execMacVerifyAlg3Tdukpt ph s) :=
  descriptor_leads ..

theorem execMacGenerateCmacAdukpt_leads (ph : ItemPhase) (s : State) : Leads itemFoot s (execMacGenerateCmacAdukpt ph s) :=
  descriptor_leads ..

theorem execMacVerifyCmacAdukpt_leads (ph : ItemPhase) (s : State) : Leads itemFoot s (execMacVerifyCmacAdukpt ph s) :=
  descriptor_leads ..

theorem execArqcVerify_leads (ph : ItemPhase) (s : State) : Leads itemFoot s (execArqcVerify ph s) :=
  descriptor_leads ..

theorem execArqcGenerate_leads (ph : ItemPhase) (s : State) : Leads itemFoot s (execArqcGenerate ph s) :=
  descriptor_leads ..

theorem execCvvGenerate_leads (ph : ItemPhase) (s : State) : Leads itemFoot s (execCvvGenerate ph s) :=
  descriptor_leads ..

theorem execCvvVerify_leads (ph : ItemPhase) (s : State) : Leads itemFoot s (execCvvVerify ph s) :=
  descriptor_leads ..

theorem execDukptIkDerive_leads (ph : ItemPhase) (s : State) : Leads itemFoot s (execDukptIkDerive ph s) :=
  descriptor_leads ..

theorem execEmvIccDerive_leads (ph : ItemPhase) (s : State) : Leads itemFoot s (execEmvIccDerive ph s) :=
  descriptor_leads ..

theorem execDukptDataTdes_leads (ph : ItemPhase) (s : State) : Leads itemFoot s (execDukptDataTdes ph s) :=
  descriptor_leads ..

theorem execDukptDataAes_leads (ph : ItemPhase) (s : State) : Leads itemFoot s (execDukptDataAes ph s) :=
  descriptor_leads ..

theorem execAesEcb_leads (ph : ItemPhase) (s : State) : Leads itemFoot s (execAesEcb ph s) :=
  descriptor_leads ..

theorem execAesCbcEncrypt_leads (ph : ItemPhase) (s : State) : Leads itemFoot s (execAesCbcEncrypt ph s) :=
  descriptor_leads ..

theorem execAesCbcDecrypt_leads (ph : ItemPhase) (s : State) : Leads itemFoot s (execAesCbcDecrypt ph s) :=
  descriptor_leads ..

theorem execAesCtr_leads (ph : ItemPhase) (s : State) : Leads itemFoot s (execAesCtr ph s) :=
  descriptor_leads ..

theorem execAesCfbEncrypt_leads (ph : ItemPhase) (s : State) : Leads itemFoot s (execAesCfbEncrypt ph s) :=
  descriptor_leads ..

theorem execAesCfbDecrypt_leads (ph : ItemPhase) (s : State) : Leads itemFoot s (execAesCfbDecrypt ph s) :=
  descriptor_leads ..

theorem execAesOfb_leads (ph : ItemPhase) (s : State) : Leads itemFoot s (execAesOfb ph s) :=
  descriptor_leads ..

theorem execAesXts_leads (ph : ItemPhase) (s : State) : Leads itemFoot s (execAesXts ph s) :=
  descriptor_leads ..

theorem execAesGcmEncrypt_leads (ph : ItemPhase) (s : State) : Leads itemFoot s (execAesGcmEncrypt ph s) :=
  descriptor_leads ..

theorem execAesGcmDecrypt_leads (ph : ItemPhase) (s : State) : Leads itemFoot s (execAesGcmDecrypt ph s) :=
  descriptor_leads ..

theorem execAesGcmDecryptRbv_leads (ph : ItemPhase) (s : State) : Leads itemFoot s (execAesGcmDecryptRbv ph s) :=
  descriptor_leads ..

theorem execTdesEcb_leads (ph : ItemPhase) (s : State) : Leads itemFoot s (execTdesEcb ph s) :=
  descriptor_leads ..

theorem execTdesCbcEncrypt_leads (ph : ItemPhase) (s : State) : Leads itemFoot s (execTdesCbcEncrypt ph s) :=
  descriptor_leads ..

theorem execTdesCbcDecrypt_leads (ph : ItemPhase) (s : State) : Leads itemFoot s (execTdesCbcDecrypt ph s) :=
  descriptor_leads ..

theorem execSha256_leads (ph : ItemPhase) (s : State) : Leads itemFoot s (execSha256 ph s) :=
  descriptor_leads ..

theorem execSha384_leads (ph : ItemPhase) (s : State) : Leads itemFoot s (execSha384 ph s) :=
  descriptor_leads ..

theorem execSha512_leads (ph : ItemPhase) (s : State) : Leads itemFoot s (execSha512 ph s) :=
  descriptor_leads ..

theorem execHmacSha256Generate_leads (ph : ItemPhase) (s : State) : Leads itemFoot s (execHmacSha256Generate ph s) :=
  descriptor_leads ..

theorem execHmacSha256Verify_leads (ph : ItemPhase) (s : State) : Leads itemFoot s (execHmacSha256Verify ph s) :=
  descriptor_leads ..

theorem execEcdsaP256Sign_leads (ph : ItemPhase) (s : State) : Leads itemFoot s (execEcdsaP256Sign ph s) :=
  descriptor_leads ..

theorem execEcdsaP256Verify_leads (ph : ItemPhase) (s : State) : Leads itemFoot s (execEcdsaP256Verify ph s) :=
  descriptor_leads ..

theorem execEcdsaP384Sign_leads (ph : ItemPhase) (s : State) : Leads itemFoot s (execEcdsaP384Sign ph s) :=
  descriptor_leads ..

theorem execEcdsaP384Verify_leads (ph : ItemPhase) (s : State) : Leads itemFoot s (execEcdsaP384Verify ph s) :=
  descriptor_leads ..

theorem execEcdhDerive_leads (ph : ItemPhase) (s : State) : Leads itemFoot s (execEcdhDerive ph s) :=
  descriptor_leads ..

theorem execMlkemEncaps_leads (ph : ItemPhase) (s : State) : Leads itemFoot s (execMlkemEncaps ph s) :=
  descriptor_leads ..

theorem execMlkemDecaps_leads (ph : ItemPhase) (s : State) : Leads itemFoot s (execMlkemDecaps ph s) :=
  descriptor_leads ..

theorem execRsaSign_leads (ph : ItemPhase) (s : State) : Leads itemFoot s (execRsaSign ph s) :=
  descriptor_leads ..

theorem execRsaPublic_leads (ph : ItemPhase) (s : State) : Leads itemFoot s (execRsaPublic ph s) :=
  descriptor_leads ..

theorem execSlh128sSign_leads (ph : ItemPhase) (s : State) : Leads itemFoot s (execSlh128sSign ph s) :=
  descriptor_leads ..

theorem execSlh128fSign_leads (ph : ItemPhase) (s : State) : Leads itemFoot s (execSlh128fSign ph s) :=
  descriptor_leads ..

theorem execSlh256sSign_leads (ph : ItemPhase) (s : State) : Leads itemFoot s (execSlh256sSign ph s) :=
  descriptor_leads ..

theorem execSlh128sVerify_leads (ph : ItemPhase) (s : State) : Leads itemFoot s (execSlh128sVerify ph s) :=
  descriptor_leads ..

theorem execSlh128fVerify_leads (ph : ItemPhase) (s : State) : Leads itemFoot s (execSlh128fVerify ph s) :=
  descriptor_leads ..

theorem execSlh256sVerify_leads (ph : ItemPhase) (s : State) : Leads itemFoot s (execSlh256sVerify ph s) :=
  descriptor_leads ..

theorem execSlhTopTree_leads (ph : ItemPhase) (s : State) : Leads itemFoot s (execSlhTopTree ph s) :=
  descriptor_leads ..

theorem execKeyGenerate_leads (ph : ItemPhase) (s : State) : Leads itemFoot s (execKeyGenerate ph s) :=
  descriptor_leads ..

theorem execKeyGeneratePair_leads (ph : ItemPhase) (s : State) : Leads itemFoot s (execKeyGeneratePair ph s) :=
  descriptor_leads ..

theorem execKeyRewrap_leads (ph : ItemPhase) (s : State) : Leads itemFoot s (execKeyRewrap ph s) :=
  descriptor_leads ..

theorem execKeyExportKb_leads (ph : ItemPhase) (s : State) : Leads itemFoot s (execKeyExportKb ph s) :=
  descriptor_leads ..

theorem execKeyImportKb_leads (ph : ItemPhase) (s : State) : Leads itemFoot s (execKeyImportKb ph s) :=
  descriptor_leads ..

theorem execKeyImportTr34_leads (ph : ItemPhase) (s : State) : Leads itemFoot s (execKeyImportTr34 ph s) :=
  descriptor_leads ..

theorem execKeyExportTr34_leads (ph : ItemPhase) (s : State) : Leads itemFoot s (execKeyExportTr34 ph s) :=
  descriptor_leads ..

theorem execKeyCheck_leads (ph : ItemPhase) (s : State) : Leads itemFoot s (execKeyCheck ph s) :=
  descriptor_leads ..

theorem execLegacyImport_leads (ph : ItemPhase) (s : State) : Leads itemFoot s (execLegacyImport ph s) :=
  descriptor_leads ..

/-! ### Registers -/

theorem State.pageWrite_changes (s : State) (fn : Nat) (c : Nat) (off : Nat) (v : Nat) : Changes markErrFoot s (s.pageWrite fn c off v) := by
  unfold State.pageWrite
  exact .ite .refl
    (.ite (.sub (State.updChan_changes ..))
       (.ite (.sub (State.headDoorbell_changes ..)) (.ite (.sub (State.tailDoorbell_changes ..)) .refl)))

theorem State.fnWrite_changes (s : State) (fn : Nat) (off : Nat) (v : Nat) : Changes (foot [.functions]) s (s.fnWrite fn off v) := by
  unfold State.fnWrite
  exact .ite (.sub (State.updFn_changes ..)) (.ite (.sub (State.updFn_changes ..)) (.ite (.sub (State.updFn_changes ..)) .refl))

theorem State.msixWrite_changes (s : State) (fn : Nat) (i : Nat) (v : Nat) : Changes (foot [.functions, .outbox]) s (s.msixWrite fn i v) := by
  unfold State.msixWrite
  extract_lets s₁
  have h₁ : Changes (foot [.functions, .outbox]) s s₁ := .sub (State.updFn_changes ..)
  exact .ite (.after (State.emit_changes ..) (.after (State.updFn_changes ..) h₁)) h₁

/-- What `State.barWrite` may change. -/
def barWriteFoot : Foot :=
  foot [.mailboxes, .windows, .loose, .sessions, .realms, .functions, .channels, .rseq, .staging, .rates, .outbox]

theorem State.barWrite_changes (s : State) (fn : Nat) (off : Nat) (v : Nat) : Changes barWriteFoot s (s.barWrite fn off v) := by
  unfold State.barWrite
  extract_lets _
  split
  · exact .sub (State.windowWrite_changes ..)
  · split
    · exact .sub (State.fnWrite_changes ..)
    · split
      · exact .sub (State.msixWrite_changes ..)
      · split
        · split
          · exact .sub (State.pageWrite_changes ..)
          · exact .refl
        · exact .refl

theorem State.configWrite_changes (s : State) (fn : Nat) (off : Nat) (v : Nat) : Changes (foot [.other, .functions]) s (s.configWrite fn off v) := by
  unfold State.configWrite
  extract_lets _
  exact .ite (.ite (.upd .refl) .refl)
    (.ite (.ite (.sub (State.updFn_changes ..)) .refl) (.ite (.ite (.sub (State.updFn_changes ..)) .refl) .refl))

theorem State.privWrite_changes (s : State) (who : Master) (off : Nat) (v : Nat) : Changes pfWindowWriteFoot s (s.privWrite who off v) := by
  unfold State.privWrite
  extract_lets _ _ _ _ _
  exact .ite (.upd .refl)
    (.ite (.upd .refl)
       (.ite (.upd .refl)
          (.ite (.ite (.sub (State.eraseGo_changes ..)) .refl)
             (.ite (.ite (.upd .refl) (.ite .refl (.upd .refl))) (.ite (.ite (.sub (State.lockPriv_changes ..)) .refl) .refl)))))

theorem State.tileWrite_changes (s : State) (who : Master) (off : Nat) (v : Nat) : Changes (foot [.avs, .tiles]) s (s.tileWrite who off v) := by
  unfold State.tileWrite
  extract_lets _ _
  exact .ite .refl (.ite (.ite (.sub (State.updTile_changes ..)) .refl) (.ite (.upd .refl) .refl))

theorem State.regWrite_changes (s : State) (who : Master) (addr : Nat) (v : Nat) : Changes flashFoot s (s.regWrite who addr v) := by
  unfold State.regWrite
  extract_lets _
  split
  · exact .ite .refl (.ite (.sub (State.configWrite_changes ..)) (.sub (State.barWrite_changes ..)))
  · exact .ite (.ite (.sub (State.privWrite_changes ..)) .refl) (.ite (.sub (State.tileWrite_changes ..)) .refl)

theorem State.byteWrite_changes (s : State) (who : Master) (addr : Nat) (b : Byte) : Changes (foot [.mailboxes]) s (s.byteWrite who addr b) := by
  unfold State.byteWrite
  split
  · exact .ite (.sub (State.bufferWrite_changes ..)) .refl
  · exact .refl

theorem State.writeAt_changes (who : Master) (fuel addr : Nat) (b : Bytes) (s : State) : Changes flashFoot s (State.writeAt who fuel addr b s) := by
  induction fuel generalizing addr b s with
  | zero => exact .refl
  | succ fuel ih =>
    cases b with
    | nil => exact .refl
    | cons b rest => exact .ite (.after (ih ..) (State.regWrite_changes ..)) (.after (ih ..) (.sub (State.byteWrite_changes ..)))

theorem execRegisterWrite_leads (who : Master) (addr : Nat) (data : Bytes) (s : State) : Leads flashFoot s (execRegisterWrite who addr data s) :=
  .runOn (fun u => .sub (State.writeAt_changes ..))

end Sys2Proof.Machine
end

section
/-!
PROOFS. What each command changes, and the frames of the statements.
-/

namespace Sys2Proof.Machine
open Sys2Proof Sys2Proof.Slice0
set_option Elab.async false

/-- What a command may change. -/
def footOf : Instr → Foot
  | .mainPowerLost .. => lossFoot
  | .pllLockComplete .. => pllLockCompleteFoot
  | .otpSenseComplete .. => otpSenseCompleteFoot
  | .apexImageVerified .. => apexImageVerifiedFoot
  | .facetImageVerified .. => imageFoot
  | .unitSelftestDone .. => foot [.gates, .selftests, .outbox]
  | .releaseTimeout .. => releaseTimeoutFoot
  | .releaseUnwindStep .. => releaseUnwindStepFoot
  | .mbDoorbell .. => mbDoorbellFoot
  | .mb1MctpMessage .. => mb1MctpMessageFoot
  | .i3cPrivateWrite .. => foot [.i3cPointer, .wrIgnored, .outbox]
  | .i3cPrivateRead .. => foot [.i3cPointer, .outbox]
  | .sessionOpen .. => foot [.mailboxes, .sessions, .nextSession, .outbox]
  | .noticeFetch .. => noticeFetchFoot
  | .cfgBegin .. => cfgBeginFoot
  | .cfgSet .. => cfgSetFoot
  | .officerSign .. => actFoot
  | .descriptorUndefinedOpcode .. => foot [.channels, .cache, .outbox]
  | .keyBlobHeaderRead .. => foot [.channels, .cache, .loads, .outbox]
  | .keyBlobLoaded .. => keyBlobLoadedFoot
  | .keyCheckInstant .. => keyCheckInstantFoot
  | .cqModTimerExpire .. => cqModTimerExpireFoot
  | .outputWriteFailed .. => foot [.channels, .outbox]
  | .perstRise .. => foot [.perst, .linkReady, .outbox]
  | .keyTransportOpen .. => keyTransportOpenFoot
  | .cacheFlush .. => foot [.mailboxes, .sessions, .cache, .outbox]
  | .keyGenerateRsa .. => keyGenerateRsaFoot
  | .pfWindowWrite .. => pfWindowWriteFoot
  | .pfStallTimeout .. => foot [.time, .privGather, .rtc, .outbox]
  | .pfEraseGo .. => eraseGoFoot
  | .pfLockWrite .. => foot [.wpFault, .privLock, .outbox]
  | .platReleaseRetry .. => platReleaseRetryFoot
  | .platManifestRead .. => foot [.mailboxes, .sessions, .manifests, .outbox]
  | .domainReport .. => domainReportFoot
  | .domainNoticeFetch .. => foot [.mailboxes, .sessions, .outgoing, .outbox]
  | .domainNoticeIn .. => domainNoticeInFoot
  | .joinTicketExpire .. => foot [.time, .ticket, .rtc, .outbox]
  | .actOutputExpire .. => foot [.time, .actOutputs, .rtc, .outbox]
  | .chordAck .. => chordAckFoot
  | .commitWaitTimeout .. => commitWaitTimeoutFoot
  | .sentinelPowerOn .. => sentinelPowerOnFoot
  | .cellStatus .. => foot [.mailboxes, .sessions, .free, .outbox]
  | .otpWordProgram .. => programFoot
  | .fwSlotErase .. => fwSlotEraseFoot
  | .fwStage .. => foot [.mailboxes, .sessions, .fwSlots, .outbox]
  | .periodicTrigger .. => periodicTriggerFoot
  | .recorderRoomReturns .. => noticeFoot
  | .histSample .. => i3cFoot
  | .histCheckpoint .. => histCheckpointFoot
  | .avsFrameComplete .. => avsFailedFoot
  | .deviceResetRelease .. => foot [.inReset, .outbox]
  | .awaitedInputChange .. => foot [.relPhase, .gpioInputs, .outbox]
  | .detectorQuiet .. => foot [.detectors, .outbox]
  | .livenessToggleResumes .. => foot [.avs, .tiles, .outbox]
  | .busMasterEnableSet .. => foot [.functions, .channels, .outbox]
  | .chgSupplyChange .. => foot [.cell, .outbox]
  | .sysPwrgdFall .. | .flashSideUp .. => supplyFoot
  | .mbResponseReady .. | .mbRspAck .. => sendReplyFoot
  | .mbGrantRequest .. | .mbGrantRelease .. => foot [.mailboxes, .windows, .functions, .outbox]
  | .grantDoorbellTimeout .. | .fragmentAckTimeout .. => grantDoorbellTimeoutFoot
  | .cfgRollback .. | .actCancel .. => giveUpFoot
  | .fnTimeLoRead .. | .busMasterEnableClear .. => foot [.functions, .outbox]
  | .hostCsFall .. | .mb2Read .. => foot [.buses, .outbox]
  | .spdmChallenge .. | .spdmGetMeasurements .. => spdmChallengeFoot
  | .chordAdmit .. | .chordRel .. => foot [.channels, .pairOwn, .pairRest, .outbox]
  | .chargeEstimate .. | .gaugeLevelCross .. => foot [.gates, .cell, .outbox]
  | .journalFlush .. | .journalFlushRetry .. => journalFlushFoot
  | .sysPwrgdRise .. | .deviceReset .. | .railEntersWindow .. => powerFoot
  | .actStatus .. | .domainPackageFetch .. | .debugChallenge .. => foot [.mailboxes, .sessions, .rng, .outbox]
  | .sqTailDoorbell .. | .cqHeadDoorbell .. | .descriptorFetchFailed .. => markErrFoot
  | .keyAttest .. | .attestReport .. | .domainCard .. => foot [.mailboxes, .sessions, .signing, .outbox]
  | .factoryBlankToTest .. | .factoryEnrolment .. | .factoryTestToProduction .. => foot [.otpJobs, .outbox]
  | .debugClose .. | .debugLifetimeExpire .. | .fwActivateRestart .. => restartFoot
  | .avsLowerTimer .. | .avsWriteRetry .. | .avsFaultRetry .. => foot [.time, .rtc, .avs, .outbox]
  | .spdmGetCapabilities .. | .spdmNegotiateAlgorithms .. | .spdmGetDigests .. | .spdmGetCertificate .. => spdmGetCapabilitiesFoot
  | .registerWrite .. | .flashStatusPoll .. | .pfGatherTimeout .. | .pfEraseDone .. | .fwSlotEraseDone .. => flashFoot
  | .laneRetrain .. | .chordReady .. | .chordCommit .. | .chordCommitAck .. | .chordAbort .. | .chordResolve .. | .chordFenceTest ..
      => foot [.pairOwn, .pairRest, .outbox]
  | .spiRead .. | .spiRead4byte .. | .spiFastRead .. | .spiDualOutputRead .. | .spiDualIoRead .. | .spiQuadOutputRead .. | .spiQuadIoRead ..
  | .spiReadId .. | .spiReadSfdp .. | .spiReadStatus1 .. | .spiReadStatus2 .. | .spiReadFlagStatus .. | .deniedOpcodeFrame .. => denialFoot
  | .revolutionBoundary .. | .sectorStart .. | .cfgCommit .. | .anchor .. | .apexSignatureComplete .. | .domainAccept .. | .domainRosterUpdate ..
  | .domainPackageLoad .. | .domainActivate .. | .chordHello .. | .heartbeatWindow .. | .pairDeadline .. | .timeStep .. | .resyncComplete .. => wheelFoot
  | .identityQuery .. | .stateQuery .. | .cfgGet .. | .cfgStatus .. | .vaultStatus .. | .platStatus .. | .platDenials .. | .idCertRead ..
  | .spdmGetVersion .. | .spdmUnsupportedRequest .. | .domainStatus .. | .domainFaults .. | .domainResultRead .. | .pairStatus ..
  | .pairResultRead .. | .tamperStatus .. | .sentinelLogRead .. | .lcStatus .. | .otpRead .. | .fwStatus .. | .fwStageEnd .. | .recStatus ..
  | .recRead .. | .recHistRead .. | .recResultRead .. => queryFoot
  | .adminOpen .. | .officerEnrol .. | .officerRemove .. | .officerList .. | .rootStage .. | .rootSwap .. | .rootUnstage .. | .rootInvalidate ..
  | .rootErase .. | .peerKeyLoad .. | .platRecover .. | .platGoldenCapture .. | .platSvnAdvance .. | .idCertWrite .. | .domainCreate ..
  | .domainJoinRequest .. | .domainAdmit .. | .domainRoll .. | .domainLeave .. | .pairBind .. | .pairAccept .. | .pairUnbind .. | .pairTakeover ..
  | .pairUnfence .. | .pairRekey .. | .zeroiseCommand .. | .rtcSet .. | .lcCommission .. | .debugOpen .. | .debugDisablePermanent ..
  | .fwActivate .. | .fwSvnCommit .. | .fwKeyRevoke .. | .recExport .. | .recHistReset .. => requestFoot
  | .platformResetRequest .. | .rootVertexReconstructed .. | .releaseDelayExpire .. | .releaseInputStable .. | .releaseRestart ..
  | .recoverDrainEnd .. | .sessionClose .. | .txnTimeout .. | .adminClose .. | .sessionTimeout .. | .quorumTimeout .. | .adminSessionTimeout ..
  | .itemRelease .. | .completionWriteFailed .. | .functionLevelReset .. | .pcieLinkDown .. | .pcieLinkTrained .. | .digestFeedSilence ..
  | .spiWriteEnable .. | .spiWriteDisable .. | .spiPageProgram .. | .spiQuadPageProgram .. | .spiSectorErase .. | .spiBlockErase32k ..
  | .spiBlockErase64k .. | .spiChipErase .. | .spiWriteStatus1 .. | .spiWriteStatus2 .. | .spiEnter4byteMode .. | .spiExit4byteMode ..
  | .spiResetEnable .. | .spiReset .. | .spiClearFlagStatus .. | .mb2Write .. | .flashOperationTimeout .. | .regionDigestComplete ..
  | .restoreAreaDone .. | .platVerify .. | .platReset .. | .coalesceEntryClose .. | .linkTrained .. | .chordBeat .. | .chordPrepare ..
  | .chordNack .. | .chordSync .. | .readyTimeout .. | .fenceInAsserted .. | .fenceInReleased .. | .fenceTestPulse .. | .detectorTrip ..
  | .lockstepDisagree .. | .busIntegrityMismatch .. | .detectorStimulationTest .. | .cellStateChange .. | .chargerTimerExpire .. | .detectorTest ..
  | .factoryScrap .. | .lcRecommission .. | .lcScrap .. | .crossingTimeout .. | .loopInterval .. | .manifestCheckComplete .. | .clockStretch .. => plainFoot
  | .pinTranslate .. | .pinTranslateTdukpt .. | .pinTranslateAdukpt .. | .pinVerify3624 .. | .pinVerify3624Tdukpt .. | .pinVerify3624Adukpt ..
  | .pinVerifyPvv .. | .pinVerifyPvvTdukpt .. | .pinVerifyPvvAdukpt .. | .macGenerateAlg1 .. | .macVerifyAlg1 .. | .macGenerateAlg3 ..
  | .macVerifyAlg3 .. | .macGenerateCmac .. | .macVerifyCmac .. | .macGenerateAlg3Tdukpt .. | .macVerifyAlg3Tdukpt .. | .macGenerateCmacAdukpt ..
  | .macVerifyCmacAdukpt .. | .arqcVerify .. | .arqcGenerate .. | .cvvGenerate .. | .cvvVerify .. | .dukptIkDerive .. | .emvIccDerive ..
  | .dukptDataTdes .. | .dukptDataAes .. | .aesEcb .. | .aesCbcEncrypt .. | .aesCbcDecrypt .. | .aesCtr .. | .aesCfbEncrypt .. | .aesCfbDecrypt ..
  | .aesOfb .. | .aesXts .. | .aesGcmEncrypt .. | .aesGcmDecrypt .. | .aesGcmDecryptRbv .. | .tdesEcb .. | .tdesCbcEncrypt .. | .tdesCbcDecrypt ..
  | .sha256 .. | .sha384 .. | .sha512 .. | .hmacSha256Generate .. | .hmacSha256Verify .. | .ecdsaP256Sign .. | .ecdsaP256Verify ..
  | .ecdsaP384Sign .. | .ecdsaP384Verify .. | .ecdhDerive .. | .mlkemEncaps .. | .mlkemDecaps .. | .rsaSign .. | .rsaPublic .. | .slh128sSign ..
  | .slh128fSign .. | .slh256sSign .. | .slh128sVerify .. | .slh128fVerify .. | .slh256sVerify .. | .slhTopTree .. | .keyGenerate ..
  | .keyGeneratePair .. | .keyRewrap .. | .keyExportKb .. | .keyImportKb .. | .keyImportTr34 .. | .keyExportTr34 .. | .keyCheck ..
  | .legacyImport .. => itemFoot

/-- Every command leads to a next state, and changes only its own parts. -/
theorem exec_leads : ∀ (c : Instr) (s : State), Leads (footOf c) s (exec c s)
  | .sysPwrgdRise .., _ => execSysPwrgdRise_leads ..
  | .sysPwrgdFall .., _ => execSysPwrgdFall_leads ..
  | .mainPowerLost .., _ => execMainPowerLost_leads ..
  | .deviceReset .., _ => execDeviceReset_leads ..
  | .platformResetRequest .., _ => execPlatformResetRequest_leads ..
  | .pllLockComplete .., _ => execPllLockComplete_leads ..
  | .otpSenseComplete .., _ => execOtpSenseComplete_leads ..
  | .rootVertexReconstructed .., _ => execRootVertexReconstructed_leads ..
  | .apexImageVerified .., _ => execApexImageVerified_leads ..
  | .facetImageVerified .., _ => execFacetImageVerified_leads ..
  | .unitSelftestDone .., _ => execUnitSelftestDone_leads ..
  | .revolutionBoundary .., _ => execRevolutionBoundary_leads ..
  | .sectorStart .., _ => execSectorStart_leads ..
  | .releaseDelayExpire .., _ => execReleaseDelayExpire_leads ..
  | .releaseInputStable .., _ => execReleaseInputStable_leads ..
  | .releaseTimeout .., _ => execReleaseTimeout_leads ..
  | .releaseUnwindStep .., _ => execReleaseUnwindStep_leads ..
  | .releaseRestart .., _ => execReleaseRestart_leads ..
  | .recoverDrainEnd .., _ => execRecoverDrainEnd_leads ..
  | .mbDoorbell .., _ => execMbDoorbell_leads ..
  | .mbResponseReady .., _ => execMbResponseReady_leads ..
  | .mbRspAck .., _ => execMbRspAck_leads ..
  | .mbGrantRequest .., _ => execMbGrantRequest_leads ..
  | .mbGrantRelease .., _ => execMbGrantRelease_leads ..
  | .grantDoorbellTimeout .., _ => execGrantDoorbellTimeout_leads ..
  | .fragmentAckTimeout .., _ => execFragmentAckTimeout_leads ..
  | .mb1MctpMessage .., _ => execMb1MctpMessage_leads ..
  | .i3cPrivateWrite .., _ => execI3cPrivateWrite_leads ..
  | .i3cPrivateRead .., _ => execI3cPrivateRead_leads ..
  | .sessionOpen .., _ => execSessionOpen_leads ..
  | .sessionClose .., _ => execSessionClose_leads ..
  | .identityQuery .., _ => execIdentityQuery_leads ..
  | .stateQuery .., _ => execStateQuery_leads ..
  | .noticeFetch .., _ => execNoticeFetch_leads ..
  | .cfgBegin .., _ => execCfgBegin_leads ..
  | .cfgSet .., _ => execCfgSet_leads ..
  | .cfgGet .., _ => execCfgGet_leads ..
  | .cfgCommit .., _ => execCfgCommit_leads ..
  | .cfgRollback .., _ => execCfgRollback_leads ..
  | .cfgStatus .., _ => execCfgStatus_leads ..
  | .txnTimeout .., _ => execTxnTimeout_leads ..
  | .adminOpen .., _ => execAdminOpen_leads ..
  | .adminClose .., _ => execAdminClose_leads ..
  | .officerSign .., _ => execOfficerSign_leads ..
  | .actStatus .., _ => execActStatus_leads ..
  | .actCancel .., _ => execActCancel_leads ..
  | .officerEnrol .., _ => execOfficerEnrol_leads ..
  | .officerRemove .., _ => execOfficerRemove_leads ..
  | .officerList .., _ => execOfficerList_leads ..
  | .sessionTimeout .., _ => execSessionTimeout_leads ..
  | .quorumTimeout .., _ => execQuorumTimeout_leads ..
  | .adminSessionTimeout .., _ => execAdminSessionTimeout_leads ..
  | .sqTailDoorbell .., _ => execSqTailDoorbell_leads ..
  | .cqHeadDoorbell .., _ => execCqHeadDoorbell_leads ..
  | .fnTimeLoRead .., _ => execFnTimeLoRead_leads ..
  | .registerWrite .., _ => execRegisterWrite_leads ..
  | .descriptorUndefinedOpcode .., _ => execDescriptorUndefinedOpcode_leads ..
  | .descriptorFetchFailed .., _ => execDescriptorFetchFailed_leads ..
  | .keyBlobHeaderRead .., _ => execKeyBlobHeaderRead_leads ..
  | .keyBlobLoaded .., _ => execKeyBlobLoaded_leads ..
  | .anchor .., _ => execAnchor_leads ..
  | .keyCheckInstant .., _ => execKeyCheckInstant_leads ..
  | .itemRelease .., _ => execItemRelease_leads ..
  | .cqModTimerExpire .., _ => execCqModTimerExpire_leads ..
  | .outputWriteFailed .., _ => execOutputWriteFailed_leads ..
  | .completionWriteFailed .., _ => execCompletionWriteFailed_leads ..
  | .busMasterEnableClear .., _ => execBusMasterEnableClear_leads ..
  | .functionLevelReset .., _ => execFunctionLevelReset_leads ..
  | .pcieLinkDown .., _ => execPcieLinkDown_leads ..
  | .perstRise .., _ => execPerstRise_leads ..
  | .pcieLinkTrained .., _ => execPcieLinkTrained_leads ..
  | .pinTranslate .., _ => execPinTranslate_leads ..
  | .pinTranslateTdukpt .., _ => execPinTranslateTdukpt_leads ..
  | .pinTranslateAdukpt .., _ => execPinTranslateAdukpt_leads ..
  | .pinVerify3624 .., _ => execPinVerify3624_leads ..
  | .pinVerify3624Tdukpt .., _ => execPinVerify3624Tdukpt_leads ..
  | .pinVerify3624Adukpt .., _ => execPinVerify3624Adukpt_leads ..
  | .pinVerifyPvv .., _ => execPinVerifyPvv_leads ..
  | .pinVerifyPvvTdukpt .., _ => execPinVerifyPvvTdukpt_leads ..
  | .pinVerifyPvvAdukpt .., _ => execPinVerifyPvvAdukpt_leads ..
  | .macGenerateAlg1 .., _ => execMacGenerateAlg1_leads ..
  | .macVerifyAlg1 .., _ => execMacVerifyAlg1_leads ..
  | .macGenerateAlg3 .., _ => execMacGenerateAlg3_leads ..
  | .macVerifyAlg3 .., _ => execMacVerifyAlg3_leads ..
  | .macGenerateCmac .., _ => execMacGenerateCmac_leads ..
  | .macVerifyCmac .., _ => execMacVerifyCmac_leads ..
  | .macGenerateAlg3Tdukpt .., _ => execMacGenerateAlg3Tdukpt_leads ..
  | .macVerifyAlg3Tdukpt .., _ => execMacVerifyAlg3Tdukpt_leads ..
  | .macGenerateCmacAdukpt .., _ => execMacGenerateCmacAdukpt_leads ..
  | .macVerifyCmacAdukpt .., _ => execMacVerifyCmacAdukpt_leads ..
  | .arqcVerify .., _ => execArqcVerify_leads ..
  | .arqcGenerate .., _ => execArqcGenerate_leads ..
  | .cvvGenerate .., _ => execCvvGenerate_leads ..
  | .cvvVerify .., _ => execCvvVerify_leads ..
  | .dukptIkDerive .., _ => execDukptIkDerive_leads ..
  | .emvIccDerive .., _ => execEmvIccDerive_leads ..
  | .dukptDataTdes .., _ => execDukptDataTdes_leads ..
  | .dukptDataAes .., _ => execDukptDataAes_leads ..
  | .aesEcb .., _ => execAesEcb_leads ..
  | .aesCbcEncrypt .., _ => execAesCbcEncrypt_leads ..
  | .aesCbcDecrypt .., _ => execAesCbcDecrypt_leads ..
  | .aesCtr .., _ => execAesCtr_leads ..
  | .aesCfbEncrypt .., _ => execAesCfbEncrypt_leads ..
  | .aesCfbDecrypt .., _ => execAesCfbDecrypt_leads ..
  | .aesOfb .., _ => execAesOfb_leads ..
  | .aesXts .., _ => execAesXts_leads ..
  | .aesGcmEncrypt .., _ => execAesGcmEncrypt_leads ..
  | .aesGcmDecrypt .., _ => execAesGcmDecrypt_leads ..
  | .aesGcmDecryptRbv .., _ => execAesGcmDecryptRbv_leads ..
  | .tdesEcb .., _ => execTdesEcb_leads ..
  | .tdesCbcEncrypt .., _ => execTdesCbcEncrypt_leads ..
  | .tdesCbcDecrypt .., _ => execTdesCbcDecrypt_leads ..
  | .sha256 .., _ => execSha256_leads ..
  | .sha384 .., _ => execSha384_leads ..
  | .sha512 .., _ => execSha512_leads ..
  | .hmacSha256Generate .., _ => execHmacSha256Generate_leads ..
  | .hmacSha256Verify .., _ => execHmacSha256Verify_leads ..
  | .digestFeedSilence .., _ => execDigestFeedSilence_leads ..
  | .ecdsaP256Sign .., _ => execEcdsaP256Sign_leads ..
  | .ecdsaP256Verify .., _ => execEcdsaP256Verify_leads ..
  | .ecdsaP384Sign .., _ => execEcdsaP384Sign_leads ..
  | .ecdsaP384Verify .., _ => execEcdsaP384Verify_leads ..
  | .ecdhDerive .., _ => execEcdhDerive_leads ..
  | .mlkemEncaps .., _ => execMlkemEncaps_leads ..
  | .mlkemDecaps .., _ => execMlkemDecaps_leads ..
  | .rsaSign .., _ => execRsaSign_leads ..
  | .rsaPublic .., _ => execRsaPublic_leads ..
  | .slh128sSign .., _ => execSlh128sSign_leads ..
  | .slh128fSign .., _ => execSlh128fSign_leads ..
  | .slh256sSign .., _ => execSlh256sSign_leads ..
  | .slh128sVerify .., _ => execSlh128sVerify_leads ..
  | .slh128fVerify .., _ => execSlh128fVerify_leads ..
  | .slh256sVerify .., _ => execSlh256sVerify_leads ..
  | .slhTopTree .., _ => execSlhTopTree_leads ..
  | .keyGenerate .., _ => execKeyGenerate_leads ..
  | .keyGeneratePair .., _ => execKeyGeneratePair_leads ..
  | .keyRewrap .., _ => execKeyRewrap_leads ..
  | .keyExportKb .., _ => execKeyExportKb_leads ..
  | .keyImportKb .., _ => execKeyImportKb_leads ..
  | .keyImportTr34 .., _ => execKeyImportTr34_leads ..
  | .keyExportTr34 .., _ => execKeyExportTr34_leads ..
  | .keyCheck .., _ => execKeyCheck_leads ..
  | .legacyImport .., _ => execLegacyImport_leads ..
  | .vaultStatus .., _ => execVaultStatus_leads ..
  | .keyTransportOpen .., _ => execKeyTransportOpen_leads ..
  | .rootStage .., _ => execRootStage_leads ..
  | .rootSwap .., _ => execRootSwap_leads ..
  | .rootUnstage .., _ => execRootUnstage_leads ..
  | .rootInvalidate .., _ => execRootInvalidate_leads ..
  | .rootErase .., _ => execRootErase_leads ..
  | .keyAttest .., _ => execKeyAttest_leads ..
  | .cacheFlush .., _ => execCacheFlush_leads ..
  | .keyGenerateRsa .., _ => execKeyGenerateRsa_leads ..
  | .peerKeyLoad .., _ => execPeerKeyLoad_leads ..
  | .hostCsFall .., _ => execHostCsFall_leads ..
  | .spiRead .., _ => execSpiRead_leads ..
  | .spiRead4byte .., _ => execSpiRead4byte_leads ..
  | .spiFastRead .., _ => execSpiFastRead_leads ..
  | .spiDualOutputRead .., _ => execSpiDualOutputRead_leads ..
  | .spiDualIoRead .., _ => execSpiDualIoRead_leads ..
  | .spiQuadOutputRead .., _ => execSpiQuadOutputRead_leads ..
  | .spiQuadIoRead .., _ => execSpiQuadIoRead_leads ..
  | .spiReadId .., _ => execSpiReadId_leads ..
  | .spiReadSfdp .., _ => execSpiReadSfdp_leads ..
  | .spiReadStatus1 .., _ => execSpiReadStatus1_leads ..
  | .spiReadStatus2 .., _ => execSpiReadStatus2_leads ..
  | .spiReadFlagStatus .., _ => execSpiReadFlagStatus_leads ..
  | .spiWriteEnable .., _ => execSpiWriteEnable_leads ..
  | .spiWriteDisable .., _ => execSpiWriteDisable_leads ..
  | .spiPageProgram .., _ => execSpiPageProgram_leads ..
  | .spiQuadPageProgram .., _ => execSpiQuadPageProgram_leads ..
  | .spiSectorErase .., _ => execSpiSectorErase_leads ..
  | .spiBlockErase32k .., _ => execSpiBlockErase32k_leads ..
  | .spiBlockErase64k .., _ => execSpiBlockErase64k_leads ..
  | .spiChipErase .., _ => execSpiChipErase_leads ..
  | .spiWriteStatus1 .., _ => execSpiWriteStatus1_leads ..
  | .spiWriteStatus2 .., _ => execSpiWriteStatus2_leads ..
  | .spiEnter4byteMode .., _ => execSpiEnter4byteMode_leads ..
  | .spiExit4byteMode .., _ => execSpiExit4byteMode_leads ..
  | .spiResetEnable .., _ => execSpiResetEnable_leads ..
  | .spiReset .., _ => execSpiReset_leads ..
  | .spiClearFlagStatus .., _ => execSpiClearFlagStatus_leads ..
  | .deniedOpcodeFrame .., _ => execDeniedOpcodeFrame_leads ..
  | .mb2Read .., _ => execMb2Read_leads ..
  | .mb2Write .., _ => execMb2Write_leads ..
  | .flashStatusPoll .., _ => execFlashStatusPoll_leads ..
  | .flashOperationTimeout .., _ => execFlashOperationTimeout_leads ..
  | .pfWindowWrite .., _ => execPfWindowWrite_leads ..
  | .pfGatherTimeout .., _ => execPfGatherTimeout_leads ..
  | .pfStallTimeout .., _ => execPfStallTimeout_leads ..
  | .pfEraseGo .., _ => execPfEraseGo_leads ..
  | .pfEraseDone .., _ => execPfEraseDone_leads ..
  | .pfLockWrite .., _ => execPfLockWrite_leads ..
  | .regionDigestComplete .., _ => execRegionDigestComplete_leads ..
  | .restoreAreaDone .., _ => execRestoreAreaDone_leads ..
  | .platStatus .., _ => execPlatStatus_leads ..
  | .platVerify .., _ => execPlatVerify_leads ..
  | .platReset .., _ => execPlatReset_leads ..
  | .platRecover .., _ => execPlatRecover_leads ..
  | .platReleaseRetry .., _ => execPlatReleaseRetry_leads ..
  | .platGoldenCapture .., _ => execPlatGoldenCapture_leads ..
  | .platSvnAdvance .., _ => execPlatSvnAdvance_leads ..
  | .platDenials .., _ => execPlatDenials_leads ..
  | .platManifestRead .., _ => execPlatManifestRead_leads ..
  | .idCertRead .., _ => execIdCertRead_leads ..
  | .idCertWrite .., _ => execIdCertWrite_leads ..
  | .attestReport .., _ => execAttestReport_leads ..
  | .spdmGetVersion .., _ => execSpdmGetVersion_leads ..
  | .spdmGetCapabilities .., _ => execSpdmGetCapabilities_leads ..
  | .spdmNegotiateAlgorithms .., _ => execSpdmNegotiateAlgorithms_leads ..
  | .spdmGetDigests .., _ => execSpdmGetDigests_leads ..
  | .spdmGetCertificate .., _ => execSpdmGetCertificate_leads ..
  | .spdmChallenge .., _ => execSpdmChallenge_leads ..
  | .spdmGetMeasurements .., _ => execSpdmGetMeasurements_leads ..
  | .spdmUnsupportedRequest .., _ => execSpdmUnsupportedRequest_leads ..
  | .apexSignatureComplete .., _ => execApexSignatureComplete_leads ..
  | .domainStatus .., _ => execDomainStatus_leads ..
  | .domainCard .., _ => execDomainCard_leads ..
  | .domainCreate .., _ => execDomainCreate_leads ..
  | .domainJoinRequest .., _ => execDomainJoinRequest_leads ..
  | .domainAdmit .., _ => execDomainAdmit_leads ..
  | .domainAccept .., _ => execDomainAccept_leads ..
  | .domainRosterUpdate .., _ => execDomainRosterUpdate_leads ..
  | .domainRoll .., _ => execDomainRoll_leads ..
  | .domainPackageFetch .., _ => execDomainPackageFetch_leads ..
  | .domainPackageLoad .., _ => execDomainPackageLoad_leads ..
  | .domainActivate .., _ => execDomainActivate_leads ..
  | .domainLeave .., _ => execDomainLeave_leads ..
  | .domainReport .., _ => execDomainReport_leads ..
  | .domainNoticeFetch .., _ => execDomainNoticeFetch_leads ..
  | .domainNoticeIn .., _ => execDomainNoticeIn_leads ..
  | .domainFaults .., _ => execDomainFaults_leads ..
  | .domainResultRead .., _ => execDomainResultRead_leads ..
  | .coalesceEntryClose .., _ => execCoalesceEntryClose_leads ..
  | .joinTicketExpire .., _ => execJoinTicketExpire_leads ..
  | .actOutputExpire .., _ => execActOutputExpire_leads ..
  | .linkTrained .., _ => execLinkTrained_leads ..
  | .laneRetrain .., _ => execLaneRetrain_leads ..
  | .chordHello .., _ => execChordHello_leads ..
  | .chordBeat .., _ => execChordBeat_leads ..
  | .chordAdmit .., _ => execChordAdmit_leads ..
  | .chordRel .., _ => execChordRel_leads ..
  | .chordAck .., _ => execChordAck_leads ..
  | .chordPrepare .., _ => execChordPrepare_leads ..
  | .chordReady .., _ => execChordReady_leads ..
  | .chordCommit .., _ => execChordCommit_leads ..
  | .chordCommitAck .., _ => execChordCommitAck_leads ..
  | .chordNack .., _ => execChordNack_leads ..
  | .chordAbort .., _ => execChordAbort_leads ..
  | .chordResolve .., _ => execChordResolve_leads ..
  | .chordSync .., _ => execChordSync_leads ..
  | .chordFenceTest .., _ => execChordFenceTest_leads ..
  | .readyTimeout .., _ => execReadyTimeout_leads ..
  | .commitWaitTimeout .., _ => execCommitWaitTimeout_leads ..
  | .heartbeatWindow .., _ => execHeartbeatWindow_leads ..
  | .pairDeadline .., _ => execPairDeadline_leads ..
  | .fenceInAsserted .., _ => execFenceInAsserted_leads ..
  | .fenceInReleased .., _ => execFenceInReleased_leads ..
  | .fenceTestPulse .., _ => execFenceTestPulse_leads ..
  | .timeStep .., _ => execTimeStep_leads ..
  | .resyncComplete .., _ => execResyncComplete_leads ..
  | .pairStatus .., _ => execPairStatus_leads ..
  | .pairBind .., _ => execPairBind_leads ..
  | .pairAccept .., _ => execPairAccept_leads ..
  | .pairUnbind .., _ => execPairUnbind_leads ..
  | .pairTakeover .., _ => execPairTakeover_leads ..
  | .pairUnfence .., _ => execPairUnfence_leads ..
  | .pairRekey .., _ => execPairRekey_leads ..
  | .pairResultRead .., _ => execPairResultRead_leads ..
  | .detectorTrip .., _ => execDetectorTrip_leads ..
  | .lockstepDisagree .., _ => execLockstepDisagree_leads ..
  | .busIntegrityMismatch .., _ => execBusIntegrityMismatch_leads ..
  | .detectorStimulationTest .., _ => execDetectorStimulationTest_leads ..
  | .sentinelPowerOn .., _ => execSentinelPowerOn_leads ..
  | .cellStateChange .., _ => execCellStateChange_leads ..
  | .chargerTimerExpire .., _ => execChargerTimerExpire_leads ..
  | .chargeEstimate .., _ => execChargeEstimate_leads ..
  | .gaugeLevelCross .., _ => execGaugeLevelCross_leads ..
  | .tamperStatus .., _ => execTamperStatus_leads ..
  | .cellStatus .., _ => execCellStatus_leads ..
  | .sentinelLogRead .., _ => execSentinelLogRead_leads ..
  | .detectorTest .., _ => execDetectorTest_leads ..
  | .zeroiseCommand .., _ => execZeroiseCommand_leads ..
  | .rtcSet .., _ => execRtcSet_leads ..
  | .otpWordProgram .., _ => execOtpWordProgram_leads ..
  | .factoryBlankToTest .., _ => execFactoryBlankToTest_leads ..
  | .factoryEnrolment .., _ => execFactoryEnrolment_leads ..
  | .factoryTestToProduction .., _ => execFactoryTestToProduction_leads ..
  | .factoryScrap .., _ => execFactoryScrap_leads ..
  | .lcStatus .., _ => execLcStatus_leads ..
  | .otpRead .., _ => execOtpRead_leads ..
  | .lcCommission .., _ => execLcCommission_leads ..
  | .lcRecommission .., _ => execLcRecommission_leads ..
  | .lcScrap .., _ => execLcScrap_leads ..
  | .debugChallenge .., _ => execDebugChallenge_leads ..
  | .debugOpen .., _ => execDebugOpen_leads ..
  | .debugClose .., _ => execDebugClose_leads ..
  | .debugLifetimeExpire .., _ => execDebugLifetimeExpire_leads ..
  | .debugDisablePermanent .., _ => execDebugDisablePermanent_leads ..
  | .fwStatus .., _ => execFwStatus_leads ..
  | .fwSlotErase .., _ => execFwSlotErase_leads ..
  | .fwSlotEraseDone .., _ => execFwSlotEraseDone_leads ..
  | .fwStage .., _ => execFwStage_leads ..
  | .fwStageEnd .., _ => execFwStageEnd_leads ..
  | .fwActivate .., _ => execFwActivate_leads ..
  | .fwActivateRestart .., _ => execFwActivateRestart_leads ..
  | .fwSvnCommit .., _ => execFwSvnCommit_leads ..
  | .fwKeyRevoke .., _ => execFwKeyRevoke_leads ..
  | .periodicTrigger .., _ => execPeriodicTrigger_leads ..
  | .journalFlush .., _ => execJournalFlush_leads ..
  | .journalFlushRetry .., _ => execJournalFlushRetry_leads ..
  | .recorderRoomReturns .., _ => execRecorderRoomReturns_leads ..
  | .histSample .., _ => execHistSample_leads ..
  | .histCheckpoint .., _ => execHistCheckpoint_leads ..
  | .recStatus .., _ => execRecStatus_leads ..
  | .recRead .., _ => execRecRead_leads ..
  | .recHistRead .., _ => execRecHistRead_leads ..
  | .recExport .., _ => execRecExport_leads ..
  | .recResultRead .., _ => execRecResultRead_leads ..
  | .recHistReset .., _ => execRecHistReset_leads ..
  | .crossingTimeout .., _ => execCrossingTimeout_leads ..
  | .loopInterval .., _ => execLoopInterval_leads ..
  | .avsLowerTimer .., _ => execAvsLowerTimer_leads ..
  | .avsFrameComplete .., _ => execAvsFrameComplete_leads ..
  | .avsWriteRetry .., _ => execAvsWriteRetry_leads ..
  | .avsFaultRetry .., _ => execAvsFaultRetry_leads ..
  | .railEntersWindow .., _ => execRailEntersWindow_leads ..
  | .deviceResetRelease .., _ => execDeviceResetRelease_leads ..
  | .awaitedInputChange .., _ => execAwaitedInputChange_leads ..
  | .flashSideUp .., _ => execFlashSideUp_leads ..
  | .manifestCheckComplete .., _ => execManifestCheckComplete_leads ..
  | .detectorQuiet .., _ => execDetectorQuiet_leads ..
  | .livenessToggleResumes .., _ => execLivenessToggleResumes_leads ..
  | .clockStretch .., _ => execClockStretch_leads ..
  | .busMasterEnableSet .., _ => execBusMasterEnableSet_leads ..
  | .chgSupplyChange .., _ => execChgSupplyChange_leads ..

/-- No command changes the queue. -/
theorem footOf_pending (c : Instr) : (footOf c).has .pending = false := by
  cases c <;> (dsimp only [footOf]; rfl)

/-- None of the parts listed lies in the set. -/
def Foot.lacks (F : Foot) (ps : List Part) : Bool := ps.all fun p => !F.has p

theorem Foot.has_of_lacks {F : Foot} {ps : List Part} (h : F.lacks ps = true) {p : Part} (hp : p ∈ ps) : F.has p = false := by
  simpa using List.all_eq_true.1 h p hp

theorem Changes.supply_eq {F : Foot} {s t : State} (h : Changes F s t) (hF : F.lacks [.supplyRest, .sentinelUp, .addrStrap] = true) :
    t.supply = s.supply := by
  refine (congrArg State.supply h).trans ?_
  simp only [State.keep, Changes.pick_eq (F.has_of_lacks hF (p := .supplyRest) (by simp)),
    Changes.pick_eq (F.has_of_lacks hF (p := .sentinelUp) (by simp)), Changes.pick_eq (F.has_of_lacks hF (p := .addrStrap) (by simp))]

theorem Changes.jtag_eq {F : Foot} {s t : State} (h : Changes F s t) (hF : F.lacks [.jtag] = true) : t.jtag = s.jtag :=
  (congrArg State.jtag h).trans (Changes.pick_eq (F.has_of_lacks hF (List.mem_singleton.2 rfl)))

theorem Changes.fw_eq {F : Foot} {s t : State} (h : Changes F s t)
    (hF : F.lacks [.fwSlots, .fwHeaders, .fwRunning, .fwErasing, .fwRestart] = true) : t.fw = s.fw := by
  refine (congrArg State.fw h).trans ?_
  simp only [State.keep, Changes.pick_eq (F.has_of_lacks hF (p := .fwSlots) (by simp)), Changes.pick_eq (F.has_of_lacks hF (p := .fwHeaders) (by simp)),
    Changes.pick_eq (F.has_of_lacks hF (p := .fwRunning) (by simp)), Changes.pick_eq (F.has_of_lacks hF (p := .fwErasing) (by simp)),
    Changes.pick_eq (F.has_of_lacks hF (p := .fwRestart) (by simp))]

theorem Changes.i3c_eq {F : Foot} {s t : State} (h : Changes F s t) (hF : F.lacks [.i3cPointer, .wrIgnored, .i3cValues] = true) :
    t.i3c = s.i3c := by
  refine (congrArg State.i3c h).trans ?_
  simp only [State.keep, Changes.pick_eq (F.has_of_lacks hF (p := .i3cPointer) (by simp)),
    Changes.pick_eq (F.has_of_lacks hF (p := .wrIgnored) (by simp)), Changes.pick_eq (F.has_of_lacks hF (p := .i3cValues) (by simp))]

theorem Changes.wheel_eq {F : Foot} {s t : State} (h : Changes F s t) (hF : F.lacks [.wheel] = true) : t.wheel = s.wheel :=
  (congrArg State.wheel h).trans (Changes.pick_eq (F.has_of_lacks hF (List.mem_singleton.2 rfl)))

theorem Changes.otpArray_eq {F : Foot} {s t : State} (h : Changes F s t) (hF : F.lacks [.otpArray] = true) :
    t.otp.low = s.otp.low ∧ t.otp.high = s.otp.high :=
  have hout := Foot.has_of_lacks hF (List.mem_singleton.2 rfl)
  ⟨(congrArg (·.otp.low) h).trans (Changes.pick_eq hout), (congrArg (·.otp.high) h).trans (Changes.pick_eq hout)⟩

end Sys2Proof.Machine

namespace Sys2Proof.Slice0
open Sys2Proof Sys2Proof.Machine

/-- Settles O24: for each request named, its frame is the set of parts that `footOf` gives it. -/
theorem mailboxRequestsChangeOnlyTheirState : Obligations.MailboxRequestsChangeOnlyTheirState := by
  intro c s t ht
  have h : Changes (footOf c) s t := (exec_leads c s).of_next ht
  cases c with
  | mb1MctpMessage | identityQuery | stateQuery | cfgGet | cfgStatus | vaultStatus | platStatus | platDenials | idCertRead | spdmGetVersion
  | spdmUnsupportedRequest | domainStatus | domainFaults | domainResultRead | pairStatus | pairResultRead | tamperStatus | sentinelLogRead
  | lcStatus | otpRead | fwStatus | fwStageEnd | recStatus | recRead | recHistRead | recResultRead | sessionOpen | cfgSet | cfgBegin
  | mbGrantRequest | mbGrantRelease | noticeFetch | cellStatus | fwSlotErase | fwStage | domainNoticeFetch | cacheFlush | platManifestRead
  | spdmGetCapabilities | spdmNegotiateAlgorithms | spdmGetDigests | spdmGetCertificate | actStatus | domainPackageFetch | debugChallenge
  | keyTransportOpen | platReleaseRetry | mbResponseReady | mbRspAck | keyAttest | attestReport | domainCard | keyGenerateRsa | spdmChallenge
  | spdmGetMeasurements | adminOpen | officerEnrol | officerRemove | officerList | rootStage | rootSwap | rootUnstage | rootInvalidate | rootErase
  | peerKeyLoad | platRecover | platGoldenCapture | platSvnAdvance | idCertWrite | domainCreate | domainJoinRequest | domainAdmit | domainRoll
  | domainLeave | pairBind | pairAccept | pairUnbind | pairTakeover | pairUnfence | pairRekey | zeroiseCommand | rtcSet | lcCommission | debugOpen
  | debugDisablePermanent | fwActivate | fwSvnCommit | fwKeyRevoke | recExport | recHistReset | recorderRoomReturns | mbDoorbell | domainNoticeIn
  | domainReport => dsimp only [footOf] at h; exact h
  | _ => exact True.intro

/-- Settles O25: every item changes the parts of `itemFoot` at most, the key-blob events and an undefined opcode less. -/
theorem itemsChangeOnlyChannelsAndKeys : Obligations.ItemsChangeOnlyChannelsAndKeys := by
  intro c s t ht
  have h : Changes (footOf c) s t := (exec_leads c s).of_next ht
  cases c with
  | keyBlobHeaderRead | keyBlobLoaded | descriptorUndefinedOpcode | pinTranslate | pinTranslateTdukpt | pinTranslateAdukpt | pinVerify3624
  | pinVerify3624Tdukpt | pinVerify3624Adukpt | pinVerifyPvv | pinVerifyPvvTdukpt | pinVerifyPvvAdukpt | macGenerateAlg1 | macVerifyAlg1
  | macGenerateAlg3 | macVerifyAlg3 | macGenerateCmac | macVerifyCmac | macGenerateAlg3Tdukpt | macVerifyAlg3Tdukpt | macGenerateCmacAdukpt
  | macVerifyCmacAdukpt | arqcVerify | arqcGenerate | cvvGenerate | cvvVerify | dukptIkDerive | emvIccDerive | dukptDataTdes | dukptDataAes
  | aesEcb | aesCbcEncrypt | aesCbcDecrypt | aesCtr | aesCfbEncrypt | aesCfbDecrypt | aesOfb | aesXts | aesGcmEncrypt | aesGcmDecrypt
  | aesGcmDecryptRbv | tdesEcb | tdesCbcEncrypt | tdesCbcDecrypt | sha256 | sha384 | sha512 | hmacSha256Generate | hmacSha256Verify | ecdsaP256Sign
  | ecdsaP256Verify | ecdsaP384Sign | ecdsaP384Verify | ecdhDerive | mlkemEncaps | mlkemDecaps | rsaSign | rsaPublic | slh128sSign | slh128fSign
  | slh256sSign | slh128sVerify | slh128fVerify | slh256sVerify | slhTopTree | keyGenerate | keyGeneratePair | keyRewrap | keyExportKb
  | keyImportKb | keyImportTr34 | keyExportTr34 | keyCheck | legacyImport => dsimp only [footOf] at h; exact h
  | _ => exact True.intro

/-- Settles O26: the named frames change the parts of `denialFoot` at most. -/
theorem hostReadsChangeOnlyTheBuses : Obligations.HostReadsChangeOnlyTheBuses := by
  intro c s t ht
  have h : Changes (footOf c) s t := (exec_leads c s).of_next ht
  cases c with
  | hostCsFall | mb2Read | spiRead | spiRead4byte | spiFastRead | spiDualOutputRead | spiDualIoRead | spiQuadOutputRead | spiQuadIoRead | spiReadId
  | spiReadSfdp | spiReadStatus1 | spiReadStatus2 | spiReadFlagStatus | deniedOpcodeFrame => dsimp only [footOf] at h; exact h
  | _ => exact True.intro

/-- Settles O27: for each event named, its frame is the set of parts that `footOf` gives it. -/
theorem eventsChangeOnlyTheirUnit : Obligations.EventsChangeOnlyTheirUnit := by
  intro c s t ht
  have h : Changes (footOf c) s t := (exec_leads c s).of_next ht
  cases c with
  | deviceResetRelease | outputWriteFailed | i3cPrivateRead | i3cPrivateWrite | factoryBlankToTest | factoryEnrolment | factoryTestToProduction
  | laneRetrain | chordReady | chordCommit | chordCommitAck | chordAbort | chordResolve | chordFenceTest | fnTimeLoRead | busMasterEnableClear
  | perstRise | pfLockWrite | awaitedInputChange | chgSupplyChange | detectorQuiet | livenessToggleResumes | chordAdmit | chordRel
  | unitSelftestDone | chargeEstimate | gaugeLevelCross | busMasterEnableSet | apexImageVerified | actOutputExpire | joinTicketExpire
  | commitWaitTimeout | pfStallTimeout | releaseUnwindStep | histCheckpoint | periodicTrigger | journalFlush | journalFlushRetry | avsLowerTimer
  | avsWriteRetry | avsFaultRetry | sqTailDoorbell | cqHeadDoorbell | descriptorFetchFailed | pfWindowWrite | pfEraseGo | otpSenseComplete
  | pllLockComplete | sentinelPowerOn | keyCheckInstant | grantDoorbellTimeout | fragmentAckTimeout | cqModTimerExpire | releaseTimeout
  | cfgRollback | actCancel | avsFrameComplete | chordAck => dsimp only [footOf] at h; exact h
  | _ => exact True.intro

/-- Settles O28: the parts of each piece lie outside `footOf` of every command that is not named for it. -/
theorem componentsChangeOnlyInTheirCommands : Obligations.ComponentsChangeOnlyInTheirCommands := by
  intro c s t ht
  have h : Changes (footOf c) s t := (exec_leads c s).of_next ht
  cases c with
  | sysPwrgdRise | deviceReset | railEntersWindow => exact ⟨True.intro, True.intro, True.intro, True.intro, True.intro⟩
  | otpWordProgram | debugClose | debugLifetimeExpire | fwActivateRestart =>
    dsimp only [footOf] at h
    exact ⟨h.supply_eq rfl, True.intro, True.intro, True.intro, True.intro⟩
  | officerSign =>
    dsimp only [footOf] at h
    exact ⟨h.supply_eq rfl, True.intro, True.intro, h.i3c_eq rfl, True.intro⟩
  | facetImageVerified =>
    dsimp only [footOf] at h
    exact ⟨h.supply_eq rfl, h.jtag_eq rfl, True.intro, h.i3c_eq rfl, True.intro⟩
  | sysPwrgdFall | mainPowerLost | pllLockComplete | sentinelPowerOn | flashSideUp =>
    dsimp only [footOf] at h
    exact ⟨True.intro, h.jtag_eq rfl, h.fw_eq rfl, h.i3c_eq rfl, h.wheel_eq rfl⟩
  | apexImageVerified | registerWrite | flashStatusPoll | pfWindowWrite | pfGatherTimeout | pfEraseGo | pfEraseDone | fwSlotErase
  | fwSlotEraseDone | fwStage =>
    dsimp only [footOf] at h
    exact ⟨h.supply_eq rfl, h.jtag_eq rfl, True.intro, h.i3c_eq rfl, h.wheel_eq rfl⟩
  | i3cPrivateWrite | i3cPrivateRead | histSample =>
    dsimp only [footOf] at h
    exact ⟨h.supply_eq rfl, h.jtag_eq rfl, h.fw_eq rfl, True.intro, h.wheel_eq rfl⟩
  | revolutionBoundary | sectorStart | cfgCommit | anchor | apexSignatureComplete | domainAccept | domainRosterUpdate | domainPackageLoad
  | domainActivate | chordHello | heartbeatWindow | pairDeadline | timeStep | resyncComplete =>
    dsimp only [footOf] at h
    exact ⟨h.supply_eq rfl, h.jtag_eq rfl, h.fw_eq rfl, h.i3c_eq rfl, True.intro⟩
  | _ =>
    dsimp only [footOf] at h
    exact ⟨h.supply_eq rfl, h.jtag_eq rfl, h.fw_eq rfl, h.i3c_eq rfl, h.wheel_eq rfl⟩

/-- Settles O3: every command leads to a next state, and none has the queue among its parts. -/
theorem everyCommandEndsInANextState : Obligations.EveryCommandEndsInANextState := by
  intro c s
  obtain ⟨t, ht, h⟩ := exec_leads c s
  exact ⟨t, ht, (h.apply State.pending).trans (Changes.pick_eq (footOf_pending c))⟩

/-- Settles O6: the array lies outside `footOf` of every command but the two named. -/
theorem otpArrayFrame : Obligations.OtpArrayFrame := by
  intro c s t ht hprogram hlost
  have h : Changes (footOf c) s t := (exec_leads c s).of_next ht
  cases c with
  | otpWordProgram w b lo hi => exact absurd rfl (hprogram w b lo hi)
  | mainPowerLost loss lo hi => exact absurd rfl (hlost loss lo hi)
  | _ =>
    dsimp only [footOf] at h
    exact h.otpArray_eq rfl
end Sys2Proof.Slice0
end

section
/-!
PROOFS. The OTP array: what a command may do to it is one pulse at most; a pulse only sets bits.
-/

namespace Sys2Proof.Machine
open Sys2Proof Sys2Proof.Slice0

/-- On a live device a command makes its effect, from an empty output side, with the queue as it was. -/
theorem runOn_acts {s : State} (h : s.alive = true) (f : State → State) : runOn s f = .next (after s (f (quiet s))) := runOn_alive s f h

/-! ### Words of a table under a rising write -/

/-- A number that a table lists is still read after another is taken out, whatever the order of the table. -/
theorem KeyMap.find_del_of_find {α : Type} {m : KeyMap α} {n k : Nat} {v : α} (hk : k ≠ n) (h : KeyMap.find m k = some v) :
    KeyMap.find (KeyMap.del m n) k = some v := by
  induction m with
  | nil => cases h
  | cons p rest ih =>
    obtain ⟨j, x⟩ := p
    have hrest (hj : j ≠ k) : KeyMap.find rest k = some v := by
      rw [KeyMap.find, if_neg hj] at h
      split at h
      · cases h
      · exact h
    by_cases hj : j = n
    · have hdel : KeyMap.del ((j, x) :: rest) n = KeyMap.del rest n := by simp [KeyMap.del, hj]
      rw [hdel]
      exact ih (hrest fun hjk => hk (hjk ▸ hj))
    · have hdel : KeyMap.del ((j, x) :: rest) n = (j, x) :: KeyMap.del rest n := by simp [KeyMap.del, hj]
      rw [hdel, KeyMap.find]
      by_cases hjk : j = k
      · rw [if_pos hjk]
        rwa [KeyMap.find, if_pos hjk] at h
      · rw [if_neg hjk, ih (hrest hjk)]
        rw [KeyMap.find, if_neg hjk] at h
        split at h
        · cases h
        · next hlt => rw [if_neg hlt]

/-- A bit that reads 1 in a table reads 1 after a word is written with bits added. -/
theorem KeyMap.bit_set_or {m : KeyMap Nat} {w b : Nat} (n v : Nat) (h : bit (KeyMap.get m 0 w) b = true) :
    bit (KeyMap.get (KeyMap.set m n (KeyMap.get m 0 n ||| v)) 0 w) b = true := by
  by_cases hw : w = n
  · subst hw
    rw [KeyMap.get_set_self]
    simp only [bit, Nat.testBit_or] at h ⊢
    rw [h, Bool.true_or]
  · rw [KeyMap.set]
    split
    · cases hf : KeyMap.find m w with
      | none => simp [KeyMap.get, hf, bit] at h
      | some x => rwa [KeyMap.get, KeyMap.find_del_of_find hw hf, ← hf, ← KeyMap.get]
    · rwa [KeyMap.get_put_ne _ _ _ _ _ hw]

/-! ### Pulses -/

/-- The array of one state is that of another, as it was or after one pulse. -/
def Pulsed (s t : State) : Prop :=
  (t.otp.low = s.otp.low ∧ t.otp.high = s.otp.high)
    ∨ ∃ w bits low high, t.otp.low = (s.pulse w bits low high).otp.low ∧ t.otp.high = (s.pulse w bits low high).otp.high

namespace Pulsed

variable {F : Foot} {s t u : State}

theorem of_changes (h : Changes F s t) (hF : F.has .otpArray = false := by decide) : Pulsed s t :=
  .inl ⟨(h.apply (·.otp.low)).trans (Changes.pick_eq hF), (h.apply (·.otp.high)).trans (Changes.pick_eq hF)⟩

theorem pulse (w bits low high : Nat) : Pulsed s (s.pulse w bits low high) := .inr ⟨w, bits, low, high, rfl, rfl⟩

/-- What leaves the array alone may come after a pulse. -/
theorem after (hc : Changes F t u) (h : Pulsed s t) (hF : F.has .otpArray = false := by decide) : Pulsed s u := by
  have hlow : u.otp.low = t.otp.low := (hc.apply (·.otp.low)).trans (Changes.pick_eq hF)
  have hhigh : u.otp.high = t.otp.high := (hc.apply (·.otp.high)).trans (Changes.pick_eq hF)
  unfold Pulsed
  rw [hlow, hhigh]
  exact h

/-- What leaves the array alone may come before a pulse. -/
theorem before (h : Pulsed t u) (hc : Changes F s t) (hF : F.has .otpArray = false := by decide) : Pulsed s u := by
  have hlow : t.otp.low = s.otp.low := (hc.apply (·.otp.low)).trans (Changes.pick_eq hF)
  have hhigh : t.otp.high = s.otp.high := (hc.apply (·.otp.high)).trans (Changes.pick_eq hF)
  simpa only [Pulsed, State.pulse_low, State.pulse_high, State.otpLow, hlow, hhigh] using h

theorem ite {c : Prop} [Decidable c] (ht : Pulsed s t) (hu : Pulsed s u) : Pulsed s (if c then t else u) := by
  split
  · exact ht
  · exact hu

theorem run {f : State → State} (hf : ∀ v, Pulsed v (f v)) (ht : run s f = .next t) : Pulsed s t := by
  obtain rfl : { f (quiet s) with pending := s.pending } = t := by injection ht
  exact (hf (quiet s)).before (quiet_changes s)

theorem kept (h : Pulsed s t) : Safety.otpKept s t := by
  intro w b hb
  rcases h with ⟨hlow, -⟩ | ⟨n, bits, low, high, hlow, -⟩
  · rwa [State.otpLow, hlow]
  · rw [State.otpLow, hlow, State.pulse_low]
    exact KeyMap.bit_set_or n (low &&& bits) hb

end Pulsed

/-! ### The two commands that pulse -/

theorem execOtpWordProgram_pulsed {word bits low high : Nat} {s t : State} (ht : execOtpWordProgram word bits low high s = .next t) : Pulsed s t := by
  unfold execOtpWordProgram runOn at ht
  refine .run (fun u => .ite ?_ (.of_changes (F := foot []) .refl)) ht
  split
  · extract_lets now _ s₁ s₂
    have h₁ : Changes (foot [.otpJobs]) u s₁ := .upd .refl
    have h₂ : Pulsed u s₂ := by
      refine .ite (.before (.of_changes (State.programFailed_changes ..)) h₁) ?_
      clear_value now
      split
      · exact .before (.of_changes (State.afterProgram_changes ..)) h₁
      · extract_lets s₃
        have h₃ : Pulsed u s₃ := .after (State.closeForGood_changes ..) (.before (.pulse ..) h₁)
        exact .ite (.after (State.afterProgram_changes ..) (.after (State.trigger_changes ..) h₃))
          (.after (State.programFailed_changes ..) (.after (State.trigger_changes ..) h₃))
    exact .after (State.afterStep3_changes ..) h₂
  · exact .ite (.pulse ..) (.of_changes (F := foot []) .refl)

theorem execMainPowerLost_pulsed {loss : PowerLoss} {partLow partHigh : Nat} {s t : State} (ht : execMainPowerLost loss partLow partHigh s = .next t) :
    Pulsed s t := by
  refine .run (fun u => ?_) ht
  extract_lets _ s₁ before s₂ s₃ _ _ _ _ _ _ _ _ _ _ s₄ _ _ _ s₅
  have h₁ : Changes supplyFoot u s₁ := .upd .refl
  have h₂ : Changes supplyFoot u s₂ := .after (State.clearRings_changes ..) (.after (State.quietOutputs_changes ..) h₁)
  have h₃ : Pulsed u s₃ := by
    unfold s₃
    split
    · split
      · exact .before (.pulse ..) h₂
      · exact .of_changes h₂
    · exact .of_changes h₂
  have h₄ : Pulsed u s₄ := .after (F := supplyFoot) (.upd .refl) h₃
  have h₅ : Changes supplyFoot s₄ s₅ := .ite (.after (State.drawTests_changes ..) (.ite (.upd .refl) .refl)) (.upd .refl)
  exact .ite (.of_changes h₁) (.after (State.showBalls_changes ..) (.after h₅ h₄))

/-- Every command leaves the array as it was, or pulses one word. -/
theorem exec_pulsed {c : Instr} {s t : State} (ht : exec c s = .next t) : Pulsed s t := by
  cases c with
  | otpWordProgram => exact execOtpWordProgram_pulsed ht
  | mainPowerLost => exact execMainPowerLost_pulsed ht
  | _ => exact .inl (otpArrayFrame _ s t ht (fun _ _ _ _ h => nomatch h) (fun _ _ _ h => nomatch h))

/-! ### The weak bits of a sense -/

/-- The state sensed with the weak bits that the operand lists. -/
def State.senseWith (s : State) (weak : List (Nat × Nat)) : State :=
  ({ s with otp := { s.otp with weak := weak.foldl (fun (m : KeyMap Nat) (p : Nat × Nat) => KeyMap.put m p.1 p.2) ([] : KeyMap Nat) } }).sense

/-- Step 2 of a cold GATE after the sense: the state of step 3, with the seeds drawn. -/
def State.senseSeeds (s : State) : State :=
  let bad := s.shadowFails
  let s := { s with boot := { s.boot with
    step := 3, shadowFailed := bad, restricted := bad || s.quarantineMarked, toQuarantine := s.boot.toQuarantine || bad
    stopped := s.isBlank || s.isEndOfLife } }
  let seeds := s.draw 224
  { seeds.2 with tamper := { seeds.2.tamper with seeds := seeds.1 } }

/-- Step 2 of a cold GATE after that: the programs that were cut short join the queue. -/
def State.senseRepairs (s : State) : State :=
  let s := if s.isProduction then s.pendingLog.foldl (fun s e => s.programEntry e) s else s
  let s := [0, 1, 2, 3, 4, 5].foldl (fun s w => if s.tornWord w then s.programWord w none .nothing else s) s
  let s := if s.isUnowned && !s.quarantineMarked && (s.tornLock 7 || s.tornLock 8) then s.programWord 2 none .nothing else s
  if s.isEndOfLife then scrapWords.foldl (fun s w =>
    if s.otpLow w = 0xFFFFFFFF ∧ s.otpHigh w = 0xFFFFFFFF then s else s.programWord w none .nothing) s else s

theorem execOtpSenseComplete_eq {weak : List (Nat × Nat)} {s : State} (halive : s.alive = true) (hstep : s.boot.step = 2) :
    execOtpSenseComplete weak s = .next (after s ((quiet s).senseWith weak).senseSeeds.senseRepairs.afterStep3) := by
  have hstep' : ¬ (quiet s).boot.step ≠ 2 := Classical.not_not.2 hstep
  unfold execOtpSenseComplete
  rw [runOn_acts halive, if_neg hstep']
  rfl

theorem State.senseSeeds_changes (s : State) : Changes (foot [.bootStep, .stopped, .shadowCheck, .sentinelLog, .rng]) s s.senseSeeds := by
  unfold State.senseSeeds
  extract_lets _ _ s₁ s₂ _
  have h₁ : Changes (foot [.bootStep, .stopped, .shadowCheck, .sentinelLog, .rng]) s s₁ := .upd .refl
  have h₂ : Changes (foot [.bootStep, .stopped, .shadowCheck, .sentinelLog, .rng]) s s₂.2 := .after (State.draw_changes ..) h₁
  exact .upd h₂

theorem State.senseRepairs_changes (s : State) : Changes (foot [.sentinelLog, .otpJobs]) s s.senseRepairs := by
  unfold State.senseRepairs
  extract_lets s₁ s₂ s₃
  have h₁ : Changes (foot [.sentinelLog, .otpJobs]) s s₁ := .ite (.foldl .refl fun u _ h => .after (State.programEntry_changes ..) h) .refl
  have h₂ : Changes (foot [.sentinelLog, .otpJobs]) s s₂ := .foldl h₁ fun u _ h => .ite (.after (State.programWord_changes ..) h) h
  have h₃ : Changes (foot [.sentinelLog, .otpJobs]) s s₃ := .ite (.after (State.programWord_changes ..) h₂) h₂
  exact .ite (.foldl h₃ fun u _ h => .ite h (.after (State.programWord_changes ..) h)) h₃

/-- Step 2 of a cold GATE takes the weak bits from its operand; what follows the sense leaves them alone. -/
theorem execOtpSenseComplete_weak {weak : List (Nat × Nat)} {s t : State} (halive : s.alive = true) (hstep : s.boot.step = 2)
    (ht : execOtpSenseComplete weak s = .next t) : t.otp.weak = weak.foldl (fun (m : KeyMap Nat) (p : Nat × Nat) => KeyMap.put m p.1 p.2) [] := by
  rw [execOtpSenseComplete_eq halive hstep] at ht
  obtain rfl := Host.Outcome.next.inj ht
  have h : Changes (foot [.bootStep, .stopped, .shadowCheck, .sentinelLog, .otpJobs, .rng]) ((quiet s).senseWith weak)
      ((quiet s).senseWith weak).senseSeeds.senseRepairs.afterStep3 :=
    .after (State.afterStep3_changes ..) (.after (State.senseRepairs_changes ..) (.sub (State.senseSeeds_changes ..)))
  dsimp only [after]
  exact h.apply (·.otp.weak)

end Sys2Proof.Machine

namespace Sys2Proof.Slice0
open Sys2Proof Sys2Proof.Machine

/-- Settles O8: a command pulses one word at most, and a pulse only sets bits. -/
theorem otpBitsNeverReturnToZero : Obligations.OtpBitsNeverReturnToZero := by
  intro s t ht
  cases hp : s.pending with
  | nil =>
    obtain rfl : s = t := by simpa [step, hp] using ht
    exact fun _ _ hb => hb
  | cons c rest =>
    rw [step_cons s c rest hp] at ht
    exact (exec_pulsed ht).kept

/-- A cold GATE before its sense, with a bit that is 1 at high margin alone and was weak at the latest sense. -/
def weakBitState : State := { State.reset with
  boot := { BootState.reset with step := 2 }, otp := { OtpState.reset with high := [(0, 1)], weak := [(0, 1)] }, pending := [.otpSenseComplete []] }

theorem weakBitState_canonical : Safety.otpCanonical weakBitState := by
  refine ⟨⟨rfl, fun p hp => nomatch hp⟩, ⟨rfl, fun p hp => ?_⟩, fun w b hb => ?_⟩
  · obtain rfl := List.mem_singleton.1 hp
    decide
  · have hread : weakBitState.otpHigh w = 0 := by
      by_cases hw : w = 0
      · subst hw
        rfl
      · have hnone : KeyMap.find weakBitState.otp.high w = none :=
          KeyMap.find_none _ w fun p hp => by
            obtain rfl := List.mem_singleton.1 hp
            exact Ne.symm hw
        simp only [State.otpHigh, KeyMap.get, hnone, Option.getD_none, Nat.zero_sub]
    rw [hread, bit, Nat.zero_testBit] at hb
    cases hb

/-- Refutes O7: the high-margin read leaves out the bits that the latest sense found weak, so a state may hold a bit that is 1 at high margin alone and
still read it as 0. Here bit 0 of word 0 is one; the next sense finds no bit weak, and the bit reads 1 at high margin and 0 at low margin. -/
theorem not_otpArrayStaysCanonical : ¬ Obligations.OtpArrayStaysCanonical := by
  intro h
  obtain ⟨t, ht, -⟩ := everyCommandEndsInANextState (.otpSenseComplete []) { weakBitState with pending := [] }
  obtain ⟨hlow, hhigh⟩ := otpArrayFrame _ _ _ ht (fun _ _ _ _ h => nomatch h) (fun _ _ _ h => nomatch h)
  have hweak : t.otp.weak = [] := execOtpSenseComplete_weak rfl rfl ht
  have hone : bit (t.otpHigh 0) 0 = true := by
    simp only [State.otpHigh, hhigh, hweak]
    decide
  have hzero : bit (t.otpLow 0) 0 = false := by
    simp only [State.otpLow, hlow]
    decide
  have hread := (h weakBitState t weakBitState_canonical ((step_cons _ _ _ rfl).trans ht)).2.2 0 0 hone
  rw [hzero] at hread
  cases hread

end Sys2Proof.Slice0
end

section
/-!
PROOFS. Rules on single commands and functions: locks of the OTP array, I3C reads, the dealing of sectors, notice queues, PIN fields, staged records.
-/

namespace Sys2Proof.Machine
open Sys2Proof Sys2Proof.Slice0

/-! ### Locks of the OTP array (R459) -/

/-- The state in which the program at the front of the queue acts. -/
def State.jobTaken (s : State) (rest : List OtpJob) : State := { s with otp := { s.otp with jobs := rest, jobSince := s.now } }

/-- A program that touches the lock field of an incomplete region fails. -/
theorem execOtpWordProgram_of_incomplete {s : State} {w b lo hi n : Nat} {j : OtpJob} {rest : List OtpJob} (halive : s.alive = true)
    (hjobs : s.otp.jobs = j :: rest) (hn : n ∈ lockedBy j) (hcomplete : s.complete n = false) :
    exec (.otpWordProgram w b lo hi) s = .next (after s ((((quiet s).jobTaken rest).programFailed j ST_OTP_INCOMPLETE).afterStep3)) := by
  have hjobs' : (quiet s).otp.jobs = j :: rest := hjobs
  have hany : ((lockedBy j).any fun n => !((quiet s).jobTaken rest).complete n) = true :=
    List.any_eq_true.2 ⟨n, hn, congrArg not hcomplete⟩
  show execOtpWordProgram w b lo hi s = _
  unfold execOtpWordProgram
  rw [runOn_acts halive]
  simp only [hjobs']
  exact congrArg (fun u : State => Host.Outcome.next (after s u.afterStep3)) (if_pos hany)

/-- The act of a program that fails has no further program. -/
theorem State.programFailed_jobs {s : State} {j : OtpJob} {a : Nat × Nat} {status : Nat} (ha : j.act = some a) :
    (s.programFailed j status).otp.jobs = s.otp.jobs.filter fun x => x.act != j.act := by
  unfold State.programFailed
  rw [ha]
  exact (State.endAct_changes ..).apply (·.otp.jobs)

/-! ### I3C reads (R109, R110) -/

theorem fit_length (n : Nat) (bs : Bytes) : (fit n bs).length = n := by
  simp only [fit, zeros, List.length_append, List.length_take, List.length_replicate]
  omega

theorem leBytes_length (n v : Nat) : (leBytes n v).length = n := by
  induction n generalizing v with
  | zero => rfl
  | succ n ih => rw [leBytes, List.length_cons, ih]

theorem u8_length (v : Nat) : (u8 v).length = 1 := rfl

theorem State.serial_length (s : State) : s.serial.length = 16 := by
  unfold State.serial
  split
  · rfl
  · exact fit_length ..

theorem State.idDigest_length (s : State) : s.idDigest.length = 16 := by
  unfold State.idDigest
  split
  · simp [sha256, fit_length]
  · simp [zeros]

theorem State.registerFile_length (s : State) : s.registerFile.length = 0x80 := by
  unfold State.registerFile u16 u32 u64 zeros
  simp only [List.length_append, leBytes_length, List.length_replicate, State.serial_length, State.idDigest_length, u8_length]

theorem exec_i3cPrivateRead {s : State} (len : Nat) (halive : s.alive = true) :
    exec (.i3cPrivateRead len) s = .next { s with
      outbox := [.data (slice s.i3c.pointer len s.registerFile ++ List.replicate (len - (slice s.i3c.pointer len s.registerFile).length) 0xEE#8)]
      i3c := { s.i3c with pointer := min 0x80 (s.i3c.pointer + len), rdOverrun := s.i3c.rdOverrun || decide (0x80 < s.i3c.pointer + len) } } := by
  show execI3cPrivateRead len s = _
  unfold execI3cPrivateRead
  rw [runOn_acts halive]
  rfl

/-- A slice filled up with a byte: the string's byte where there is one, else the filler. -/
theorem slice_fill_getElem? (bs : Bytes) (filler : Byte) {off len k : Nat} (hk : k < len) :
    (slice off len bs ++ List.replicate (len - (slice off len bs).length) filler)[k]? =
      some (if off + k < bs.length then bs.getD (off + k) 0 else filler) := by
  have hlen : (slice off len bs).length = min len (bs.length - off) := by simp [slice]
  by_cases hin : off + k < bs.length
  · rw [if_pos hin, List.getElem?_append_left (by omega)]
    simp [slice, hk, hin]
  · rw [if_neg hin, List.getElem?_append_right (by omega), List.getElem?_replicate, if_pos (by omega)]

/-! ### The dealing of sectors (R155, R159) -/

/-- Entries below a number have no part in a read of it. -/
theorem KeyMap.find_dropWhile {α : Type} (m : KeyMap α) {i j : Nat} (h : i ≤ j) :
    KeyMap.find (m.dropWhile fun p => decide (p.1 < i)) j = KeyMap.find m j := by
  induction m with
  | nil => rfl
  | cons p rest ih =>
    obtain ⟨k, v⟩ := p
    by_cases hk : k < i
    · rw [List.dropWhile_cons_of_pos (by simpa using hk), ih, KeyMap.find, if_neg (by omega), if_neg (by omega)]
    · rw [List.dropWhile_cons_of_neg (by simpa using hk)]

/-- The first sector serves its owner, or the member whose turn it is; the others are dealt from what the map holds beyond it. -/
theorem dealFrom_succ (members : List Nat) (n i k : Nat) (map : KeyMap Nat) :
    ∃ pool beyond, dealFrom members (n + 1) i k map =
        (pool, if KeyMap.get map 0 i ≠ 0 then KeyMap.get map 0 i else members.getD (k % members.length) 0)
          :: dealFrom members n (i + 1) (if KeyMap.get map 0 i ≠ 0 then k else k + 1) beyond
      ∧ ∀ j, i < j → KeyMap.get beyond 0 j = KeyMap.get map 0 j := by
  have hget (j : Nat) (h : i ≤ j) : KeyMap.get (map.dropWhile fun p => decide (p.1 < i)) 0 j = KeyMap.get map 0 j := by
    rw [KeyMap.get, KeyMap.find_dropWhile map h, ← KeyMap.get]
  rw [dealFrom]
  cases hm : map.dropWhile fun p => decide (p.1 < i) with
  | nil =>
    rw [hm] at hget
    have hi : KeyMap.get map 0 i = 0 := (hget i (Nat.le_refl i)).symm
    simp only [hi, ne_eq, not_true_eq_false, if_false]
    exact ⟨_, _, rfl, fun j h => hget j (Nat.le_of_lt h)⟩
  | cons p rest =>
    obtain ⟨j, c⟩ := p
    rw [hm] at hget
    have hj : ¬ j < i := by
      have := List.head_dropWhile_not (fun p : Nat × Nat => decide (p.1 < i)) (l := map) (by rw [hm]; exact List.cons_ne_nil _ _)
      simpa [hm] using this
    have hi := hget i (Nat.le_refl i)
    rw [KeyMap.get, KeyMap.find] at hi
    by_cases hown : j = i ∧ c ≠ 0
    · obtain ⟨rfl, hc⟩ := hown
      rw [if_pos rfl] at hi
      have hi' : KeyMap.get map 0 j = c := hi.symm
      simp only [hi', hc, ne_eq, not_false_eq_true, and_self, if_true]
      refine ⟨_, _, rfl, fun k hk => ?_⟩
      rw [← hget k (Nat.le_of_lt hk), KeyMap.get, KeyMap.get, KeyMap.find, if_neg (by omega), if_neg (by omega)]
    · have hfree : KeyMap.get map 0 i = 0 := by
        by_cases hji : j = i
        · have hc : c = 0 := Classical.not_not.1 fun hc => hown ⟨hji, hc⟩
          rw [← hi, if_pos hji, hc]; rfl
        · rw [← hi, if_neg hji, if_pos (by omega)]; rfl
      simp only [hfree, ne_eq, not_true_eq_false, if_false, if_neg hown]
      exact ⟨_, _, rfl, fun k hk => hget k (Nat.le_of_lt hk)⟩

/-- The sector that is number `t` from sector `i` on serves its owner, or the member to which the pool sectors before it lead. -/
theorem dealFrom_getD (members : List Nat) (n i k : Nat) (map : KeyMap Nat) {t : Nat} (ht : t < n) :
    ((dealFrom members n i k map).getD t (true, 0)).2 =
      if KeyMap.get map 0 (i + t) ≠ 0 then KeyMap.get map 0 (i + t)
      else members.getD ((k + (List.range t).countP fun j => KeyMap.get map 0 (i + j) == 0) % members.length) 0 := by
  induction n generalizing i k map t with
  | zero => exact absurd ht (Nat.not_lt_zero t)
  | succ n ih =>
    obtain ⟨pool, beyond, hdeal, hbeyond⟩ := dealFrom_succ members n i k map
    rw [hdeal]
    cases t with
    | zero => simp
    | succ t =>
      have hcount : ((List.range t).countP fun j => KeyMap.get beyond 0 (i + 1 + j) == 0)
          = (List.range t).countP fun j => KeyMap.get map 0 (i + (j + 1)) == 0 :=
        List.countP_congr fun j _ => by rw [hbeyond _ (by omega), Nat.add_assoc, Nat.add_comm 1 j]
      rw [List.getD_cons_succ, ih _ _ _ (Nat.lt_of_succ_lt_succ ht), hbeyond _ (by omega), hcount, List.range_succ_eq_map, List.countP_cons, List.countP_map]
      by_cases hown : KeyMap.get map 0 i = 0
      · rw [if_neg (Classical.not_not.2 hown), show i + (t + 1) = i + 1 + t by omega]
        simp only [Nat.add_zero, hown, beq_self_eq_true, if_true, Function.comp_def, Nat.succ_eq_add_one]
        rw [show ∀ m, k + 1 + m = k + (m + 1) by omega]
      · rw [if_pos hown, show i + (t + 1) = i + 1 + t by omega]
        simp only [Nat.add_zero, beq_iff_eq, hown, if_false, Function.comp_def, Nat.succ_eq_add_one]

end Sys2Proof.Machine

namespace Sys2Proof.Slice0
open Sys2Proof Sys2Proof.Machine

/-- Settles O22: the program fails, so nothing is pulsed, and the failure drops what else its act has in the queue. -/
theorem locksNeedACompleteRegion : Obligations.LocksNeedACompleteRegion := by
  intro s w b lo hi n j rest halive hjobs hn hcomplete
  have htaken : Changes (foot [.otpJobs]) (quiet s) ((quiet s).jobTaken rest) := .upd .refl
  have hfailed : Changes wheelFoot (quiet s) ((((quiet s).jobTaken rest).programFailed j ST_OTP_INCOMPLETE).afterStep3) :=
    .after (State.afterStep3_changes ..) (.after (State.programFailed_changes ..) (.sub htaken))
  refine ⟨_, execOtpWordProgram_of_incomplete halive hjobs hn hcomplete, hfailed.apply (·.otp.low), hfailed.apply (·.otp.high), ?_⟩
  intro a ha x hx
  have hsteps : ((((quiet s).jobTaken rest).programFailed j ST_OTP_INCOMPLETE).afterStep3).otp.jobs = rest.filter fun x => x.act != j.act :=
    ((State.afterStep3_changes _).apply (·.otp.jobs)).trans (State.programFailed_jobs ha)
  dsimp only [after] at hx
  rw [hsteps] at hx
  have hne := (List.mem_filter.1 hx).2
  rw [ha] at hne
  exact fun h => by simp [h] at hne

/-- Settles O11: the bytes read are a slice of the register file, filled up with 0xEE. -/
theorem privateReadsPastTheEnd : Obligations.PrivateReadsPastTheEnd := by
  intro s len halive
  refine ⟨_, _, exec_i3cPrivateRead len halive, rfl, ?_, fun k hk => ?_⟩
  · unfold slice
    simp only [List.length_append, List.length_take, List.length_drop, List.length_replicate]
    omega
  · rw [slice_fill_getElem? _ _ hk, State.registerFile_length]

/-- Settles O14: the dealing counts the pool sectors before each sector. -/
theorem poolSectorsAreDealtInTurn : Obligations.PoolSectorsAreDealtInTurn := by
  intro s i hi
  have h := dealFrom_getD s.poolMembers revSectors 0 0 s.wheel.map hi
  simp only [Nat.zero_add] at h
  exact h

end Sys2Proof.Slice0
end

section
/-!
PROOFS. Notice queues, PIN fields, staged records, steps and reset.
-/

namespace Sys2Proof.Machine
open Sys2Proof Sys2Proof.Slice0

/-! ### Notice queues (R85) -/

/-- Of a written register window, DROPPED at least is kept on every port. -/
theorem State.updWindow_dropped (s : State) (p : Port) (f : Window → Window) : ((s.updWindow p f).window p).dropped = (f (s.window p)).dropped := by
  cases p with
  | mb0 => exact congrArg (·.window.dropped) (State.updFn_fn s 0 _)
  | mb1 => rfl
  | mb2 => rfl
  | mb3 k => exact congrArg (·.window.dropped) (State.updFn_fn s k _)

theorem State.raiseVector_fn_window (s : State) (fn vec k : Nat) : ((s.raiseVector fn vec).fn k).window = (s.fn k).window := by
  unfold State.raiseVector
  split
  · rfl
  split
  · by_cases h : k = fn
    · rw [h, State.updFn_fn]
    · rw [State.updFn_fn_ne _ _ _ _ h]
  · rfl

theorem State.raiseVector_window (s : State) (fn vec : Nat) (p : Port) : (s.raiseVector fn vec).window p = s.window p := by
  have horfer : (s.raiseVector fn vec).orfer = s.orfer := (State.raiseVector_changes s fn vec).apply (·.orfer)
  unfold State.window
  cases portFn p with
  | none => rw [horfer]
  | some k => exact State.raiseVector_fn_window s fn vec k

/-- An interrupt source leaves the count of dropped notices as it was. -/
theorem State.raiseSource_dropped (s : State) (p : Port) (src : Nat) : ((s.raiseSource p src).window p).dropped = (s.window p).dropped := by
  have hbit := State.updWindow_dropped s p fun w => { w with intStat := w.intStat ||| BitVec.ofNat 4 (2 ^ src) }
  unfold State.raiseSource
  split
  · split <;> rfl
  · dsimp only
    split
    · split
      · rw [State.raiseVector_window]; exact hbit
      · exact hbit
    · exact hbit

/-- A session's queue with one notice more: at 64 the oldest leaves it. -/
def Session.queued (x : Session) (n : Notice) : Session :=
  { x with notices := (if 64 ≤ x.notices.length then x.notices.drop 1 else x.notices) ++ [n] }

/-- The count of dropped notices goes up by one, to 255 at most. -/
def Window.oneDropped (w : Window) : Window := { w with dropped := min 255 (w.dropped + 1) }

theorem State.push_of_session {s : State} {id : Nat} {x : Session} (n : Notice) (hx : s.session id = some x) :
    s.push id n = (if 64 ≤ x.notices.length then (s.updSession id fun _ => x.queued n).updWindow x.port Window.oneDropped
      else s.updSession id fun _ => x.queued n).raiseSource x.port 2 := by
  unfold State.push State.updSession
  simp only [hx]
  rfl

theorem State.push_session {s : State} {id : Nat} {x : Session} (n : Notice) (hx : s.session id = some x) (k : Nat) :
    (s.push id n).session k = (s.updSession id fun _ => x.queued n).session k := by
  rw [State.push_of_session n hx]
  refine ((State.raiseSource_changes ..).apply (·.session k)).trans ?_
  split
  · exact (State.updWindow_changes ..).apply (·.session k)
  · rfl

theorem State.push_dropped {s : State} {id : Nat} {x : Session} (n : Notice) (hx : s.session id = some x) :
    ((s.push id n).window x.port).dropped = if 64 ≤ x.notices.length then min 255 ((s.window x.port).dropped + 1) else (s.window x.port).dropped := by
  have hkept : (s.updSession id fun _ => x.queued n).window x.port = s.window x.port := (State.updSession_changes ..).apply (·.window x.port)
  rw [State.push_of_session n hx, State.raiseSource_dropped]
  split
  · rw [State.updWindow_dropped, hkept]; rfl
  · rw [hkept]

/-! ### PIN fields (R233, R234) -/

/-- The fill that a format's check accepts. -/
theorem pinFill_ok (fmt n : Nat) (rnd : Bytes) :
    (if fmt = 0 then (pinFill fmt n rnd).all (· == 0xF) else if fmt = 3 then (pinFill fmt n rnd).all (0xA ≤ ·)
      else if fmt = 4 then (pinFill fmt n rnd).all (· == 0xA) else true) = true := by
  unfold pinFill
  split
  · simp_all
  split
  · simp_all
  split
  · simp_all
  · rfl

theorem pinOf_eq_none {fmt : Nat} {ns : List Nat}
    (h : ns.getD 0 0 ≠ fmt ∨ ns.getD 1 0 < 4 ∨ 12 < ns.getD 1 0 ∨ ∃ d ∈ (ns.drop 2).take (ns.getD 1 0), 9 < d) : pinOf fmt ns = none := by
  refine if_neg ?_
  rintro ⟨hfmt, hlow, hhigh, hdigits, -⟩
  obtain h | h | h | ⟨d, hd, h⟩ := h
  · exact h hfmt
  · omega
  · omega
  · have := of_decide_eq_true (List.all_eq_true.1 hdigits d hd)
    omega

/-! ### Staged records (R484) -/

theorem State.stage_of_room {s : State} (trig status arg time rtc : Nat) (sen : Bool) (hrun : s.recorder.running = true)
    (hroom : s.recorder.staging.length < 64) :
    ∃ (r : Rec) (due : Option Nat), r.rseq = s.recorder.nextRseq ∧ s.stage trig status arg time rtc sen = { s with
      recorder := { s.recorder with staging := s.recorder.staging ++ [r], nextRseq := s.recorder.nextRseq + 1, flushBy := due } } := by
  unfold State.stage
  simp only [hrun, Bool.not_true, Bool.false_eq_true, if_false, Nat.not_le.2 hroom]
  exact ⟨_, _, rfl, rfl⟩

theorem State.stage_of_full {s : State} (trig status arg time rtc : Nat) (sen : Bool) (hrun : s.recorder.running = true)
    (hfull : 64 ≤ s.recorder.staging.length) :
    s.stage trig status arg time rtc sen = { s with
      recorder := { s.recorder with dropped := s.recorder.dropped + 1, losses := s.recorder.losses + 1 } } := by
  unfold State.stage
  simp only [hrun, Bool.not_true, Bool.false_eq_true, if_false, if_pos hfull]

/-! ### Reset -/

theorem State.reset_otpHigh (w : Nat) : State.reset.otpHigh w = 0 := Nat.zero_sub _

theorem byteAt_zeros (n off : Nat) : byteAt (zeros n) off = 0 := by
  rw [byteAt, zeros, List.getD_eq_getElem?_getD, List.getElem?_replicate]
  split <;> rfl

end Sys2Proof.Machine
namespace Sys2Proof.Slice0
open Sys2Proof Sys2Proof.Machine

/-- Settles O18: the rules on what the notice does to its session, the other sessions and DROPPED. -/
theorem noticeQueueHoldsSixtyFour : Obligations.NoticeQueueHoldsSixtyFour := by
  intro s id n x hx hlen
  have hself : (s.push id n).session id = some (x.queued n) := by
    rw [State.push_session n hx, State.updSession_session, hx]; rfl
  refine ⟨_, hself, ?_, ?_, fun k hk => by rw [State.push_session n hx, State.updSession_session_ne _ _ _ _ hk]⟩
  · unfold Session.queued
    split <;> simp <;> omega
  · rw [State.push_dropped n hx]
    unfold Session.queued
    by_cases hfull : x.notices.length = 64
    · simp [hfull]
    · rw [if_neg hfull, if_neg (by omega), if_neg (by omega)]
      exact ⟨rfl, rfl⟩

/-- Settles O19: each check of `pinOf` on a field that `pinEncipher` builds. -/
theorem builtPinFieldsCarryTheirPin : Obligations.BuiltPinFieldsCarryTheirPin := by
  refine ⟨fun fmt pin rnd _ hlow hhigh hdigits => ?_, fun fmt ns h => pinOf_eq_none h⟩
  have hpin : pin.all (· ≤ 9) = true := List.all_eq_true.2 fun d hd => decide_eq_true (hdigits d hd)
  simp only [pinOf, List.cons_append, List.getD_cons_zero, List.getD_cons_succ, List.drop_succ_cons, List.drop_zero, List.take_left', List.drop_left',
    hlow, hhigh, hpin, pinFill_ok, and_self, if_true]

/-- Settles O23: a buffer with room and a full one. -/
theorem recordsAreNumberedInTurn : Obligations.RecordsAreNumberedInTurn := by
  intro s trig status arg time rtc sen hrun u
  obtain hroom | hfull := Nat.lt_or_ge s.recorder.staging.length 64
  · obtain ⟨r, due, hseq, hstage⟩ := State.stage_of_room trig status arg time rtc sen hrun hroom
    have hu : u = _ := hstage
    rw [hu]
    exact ⟨rfl, fun _ => ⟨r, rfl, hseq, rfl, rfl⟩, fun h => absurd hroom (Nat.not_lt.2 h)⟩
  · have hu : u = _ := State.stage_of_full trig status arg time rtc sen hrun hfull
    rw [hu]
    exact ⟨rfl, fun h => absurd h (Nat.not_lt.2 hfull), fun _ => rfl⟩

/-- Settles O1. -/
theorem stepRunsFrontCommand : Obligations.StepRunsFrontCommand :=
  step_cons

/-- Settles O2. -/
theorem emptyQueueIdles : Obligations.EmptyQueueIdles := by
  intro s h
  unfold step
  rw [h]

/-- Settles O5: no word of the array is programmed. -/
theorem otpArrayCanonicalAtReset : Obligations.OtpArrayCanonicalAtReset := by
  have hempty : Safety.wordsCanonical [] := ⟨rfl, fun p hp => absurd hp List.not_mem_nil⟩
  exact ⟨hempty, hempty, fun w b h => absurd h (by rw [State.reset_otpHigh]; simp [bit])⟩

/-- Settles O4: the reset values of each unit. -/
theorem resetLeavesStatedValues : Obligations.ResetLeavesStatedValues := by
  refine ⟨rfl, rfl, fun p => ?_, rfl, rfl, fun c op => ?_, fun c => rfl, fun i => rfl, ⟨rfl, rfl, rfl, rfl, rfl, rfl⟩, fun w => ⟨rfl, State.reset_otpHigh w⟩, rfl, rfl, rfl⟩
  · cases p <;> exact ⟨rfl, rfl, rfl, rfl⟩
  · show bitOf (zeros 32) op = false
    rw [bitOf, byteAt_zeros, bit, Nat.zero_testBit]

end Sys2Proof.Slice0
end

section
/-!
PROOFS. Payment items that fail, and the stores of key material after a zeroise.
-/
set_option Elab.async false

namespace Sys2Proof.Machine
open Sys2Proof Sys2Proof.Slice0

/-! ### Items that fail (Tables 7.6, 8.9) -/

/-- An outcome outside status class 0x00 has no output. -/
def ExecOut.Silent (o : ExecOut) : Prop := o.status / 256 ≠ 0 → o.out = []

theorem ExecOut.silent_fail (status : Nat) : (ExecOut.fail status).Silent := fun _ => rfl

theorem ExecOut.silent_ok (out : Bytes) : (ExecOut.ok out).Silent := fun h => (h (Nat.zero_div _)).elim

theorem ExecOut.silent_ite {c : Prop} [Decidable c] {o r : ExecOut} (ho : o.Silent) (hr : r.Silent) : (if c then o else r).Silent := by
  split
  · exact ho
  · exact hr

/-- A failing check, or input that could not be read, gives no output; the rest is the operation's. -/
theorem checked_silent {x : ExecIn} {checks : List (Bool × Nat)} {f : Bytes → ExecOut} (hf : ∀ m, (f m).Silent) : (checked x checks f).Silent := by
  unfold checked
  split
  · exact ExecOut.silent_fail _
  · refine ExecOut.silent_ite (hf []) ?_
    split
    · exact ExecOut.silent_fail _
    · exact hf _

theorem State.create_silent (s : State) (c kind alg bits own usage mode : Nat) (o : Origin) (p material : Bytes) (tail : Bytes → Bytes) :
    (s.create c kind alg bits own usage mode o p material tail).Silent := by
  unfold State.create
  refine ExecOut.silent_ite (ExecOut.silent_fail _) (ExecOut.silent_ite (ExecOut.silent_fail _) ?_)
  split
  · exact ExecOut.silent_fail _
  · exact ExecOut.silent_ok _

theorem runTranslate_silent (x : ExecIn) : (runTranslate x).Silent := checked_silent fun _ => by
  split
  · exact ExecOut.silent_fail _
  · exact ExecOut.silent_ok _

theorem runVerify3624_silent (x : ExecIn) : (runVerify3624 x).Silent := checked_silent fun _ => by
  split
  · exact ExecOut.silent_fail _
  · exact ExecOut.silent_ite (ExecOut.silent_ok _) (ExecOut.silent_fail _)

theorem runVerifyPvv_silent (x : ExecIn) : (runVerifyPvv x).Silent := checked_silent fun _ => by
  split
  · exact ExecOut.silent_fail _
  · exact ExecOut.silent_ite (ExecOut.silent_ok _) (ExecOut.silent_fail _)

theorem runDukptData_silent (x : ExecIn) : (runDukptData x).Silent :=
  checked_silent fun _ => ExecOut.silent_ite (ExecOut.silent_ok _) (ExecOut.silent_ok _)

theorem runGcmDecrypt_silent (x : ExecIn) : (runGcmDecrypt x).Silent := checked_silent fun m => by
  show (if gcmMatches x m then ExecOut.ok _ else ExecOut.fail ST_TAG_FAIL).Silent
  exact ExecOut.silent_ite (ExecOut.silent_ok _) (ExecOut.silent_fail _)

theorem State.runIkDerive_silent (s : State) (x : ExecIn) : (s.runIkDerive x).Silent := checked_silent fun _ => by apply State.create_silent

theorem State.runIccDerive_silent (s : State) (x : ExecIn) : (s.runIccDerive x).Silent :=
  checked_silent fun _ => ExecOut.silent_ite (ExecOut.silent_fail _) (by apply State.create_silent)

/-! ### The stores of key material after a zeroise (R221, R430) -/

/-- Every store that the zeroise line clears is empty, no hold page is reserved, and TAMPER_STATE is high. -/
def Cleared (s : State) : Prop := Safety.zeroised s ∧ s.cipher.pagesUsed = [] ∧ s.tamper.tamperState = true

/-- Everything but the parts that the stores and TAMPER_STATE lie in. -/
def storeFreeFoot : Foot := allBut [.other, .cache, .pageData, .sentinel]

theorem Cleared.changes {F : Foot} {s t : State} (h : Cleared s) (hc : Changes F s t) (hF : F ||| storeFreeFoot = storeFreeFoot := by decide) : Cleared t := by
  have hk : Changes storeFreeFoot s t := hc.sub hF
  have ht : Cleared t = Cleared s := hk.apply Cleared
  exact ht.symm ▸ h

theorem Cleared.ite {c : Prop} [Decidable c] {t u : State} (ht : Cleared t) (hu : Cleared u) : Cleared (if c then t else u) := by
  split
  · exact ht
  · exact hu

theorem Cleared.foldl {α : Type} {f : State → α → State} {l : List α} {s : State} (h : Cleared s) (hf : ∀ u a, Cleared u → Cleared (f u a)) :
    Cleared (l.foldl f s) := foldl_keeps Cleared f hf l s h

/-- The ZEROISE response begins with the line and TAMPER_STATE. -/
theorem State.driveZeroise_cleared (s : State) : Cleared s.driveZeroise := ⟨⟨rfl, rfl, rfl, rfl, rfl, rfl⟩, rfl, rfl⟩

theorem State.announceMode_cleared {s : State} (h : Cleared s) : Cleared s.announceMode := by
  unfold State.announceMode
  extract_lets _ _ s₃ s₄ s₅
  have h₃ : Cleared s₃ := h
  have h₄ : Cleared s₄ := h₃.changes (State.notifyAt_changes ..)
  have h₅ : Cleared s₅ := .foldl h₄ fun u p hu => hu.changes (State.raiseSource_changes ..)
  exact h₅.changes (State.trigger_changes ..)

theorem State.closeAdmin_cleared {s : State} (realm : Nat) (h : Cleared s) : Cleared (s.closeAdmin realm) := by
  unfold State.closeAdmin
  extract_lets s₁ s₂ s₃
  have h₁ : Cleared s₁ := h.changes (State.updRealm_changes ..)
  have h₂ : Cleared s₂ := h₁.changes (State.cancelAct_changes ..)
  have h₃ : Cleared s₃ := .ite h₂ (h₂.changes (State.giveUp_changes ..))
  split
  · exact h
  · extract_lets s₄
    have h₄ : Cleared s₄ := h₃.changes (State.notify_changes ..)
    refine .ite ?_ h₄
    unfold State.setMode
    exact State.announceMode_cleared h₄

theorem State.dropChanges_cleared {s : State} (h : Cleared s) : Cleared s.dropChanges := by
  unfold State.dropChanges
  extract_lets s₁ _ _ _
  have h₁ : Cleared s₁ := .foldl h fun u c hu => by
    split
    · exact hu.changes (State.answer_changes ..)
    · exact hu
  obtain ⟨⟨hvault, -, hcache, hpages, hstore, hmem⟩, hused, hline⟩ := h₁
  exact ⟨⟨hvault, rfl, hcache, hpages, hstore, hmem⟩, hused, hline⟩

theorem State.quarantine_cleared {s : State} (cause : Nat) (h : Cleared s) : Cleared (s.quarantine cause) := by
  unfold State.quarantine
  extract_lets s₁ s₂ s₃ s₄ s₅ s₆ s₇ _ _ s₁₀
  have h₁ : Cleared s₁ := h.changes (State.mapAdmitted_changes ..)
  have h₂ : Cleared s₂ := h₁.changes (State.dropTxns_changes ..)
  have h₃ : Cleared s₃ := h₂.changes (State.stopActs_changes ..)
  have h₅ : Cleared s₅ := h₃
  have h₆ : Cleared s₆ := .foldl h₅ fun u p hu => State.closeAdmin_cleared p.1 hu
  have h₇ : Cleared s₇ := State.dropChanges_cleared h₆
  have h₁₀ : Cleared s₁₀ := h₇
  exact State.announceMode_cleared ((h₁₀.changes (State.holdHost_changes ..)).changes (State.releaseOut_changes ..))

theorem State.zeroiseResponse_cleared {s : State} (h : Cleared s) : Cleared s.zeroiseResponse := by
  unfold State.zeroiseResponse
  extract_lets _ s₂ _ s₄ _
  have h₂ : Cleared s₂ := h
  have h₄ : Cleared s₄ := .ite h₂ h₂
  exact .ite h₄ (.ite (State.dropChanges_cleared (h₄.changes (State.stopActs_changes ..))) (.ite h₄ (State.quarantine_cleared 1 h₄)))

theorem State.writeLog_cleared {s : State} (bits sev flags : Nat) (join : Option Nat) (h : Cleared s) : Cleared (s.writeLog bits sev flags join).1 := by
  unfold State.writeLog
  extract_lets _ _ _ _ _ _ _
  split
  · exact h.changes (State.joinLog_changes ..)
  · split
    · extract_lets s₈
      have h₈ : Cleared s₈ := h
      exact .ite (h₈.changes (State.programEntry_changes ..)) h₈
    · split
      · exact h.changes (State.joinLog_changes ..)
      · exact h

theorem State.isolate_cleared {s : State} (tile : Option Nat) (h : Cleared s) : Cleared (s.isolate tile) := by
  unfold State.isolate
  extract_lets _ _ s₃ s₄ s₅ _
  have h₃ : Cleared s₃ := h.changes (State.mapAdmitted_changes ..)
  have h₄ : Cleared s₄ := h₃.changes (State.voidCrossings_changes ..)
  have h₅ : Cleared s₄.restartZero := h₄
  split
  · exact (Cleared.ite h₅ h₄).changes (State.tileOut_changes ..)
  · exact h₅

/-- An alarm event of severity ZEROISE in the main-power modes leaves the stores empty. -/
theorem State.alarmMain_cleared (s : State) {a : Alarm} (join : Option Nat) (hsev : a.sev = 4) : Cleared (s.alarmMain a join).1 := by
  unfold State.alarmMain
  extract_lets s₁ _ s₃ s₄ s₅ s₆ s₈ s₉ _
  have h₁ : Cleared s₁ := by
    have hs : s₁ = s.driveZeroise := if_pos hsev
    exact hs ▸ s.driveZeroise_cleared
  have h₃ : Cleared s₃ := h₁
  have h₄ : Cleared s₄ := h₃.changes (State.trigger_changes ..)
  have h₅ : Cleared s₅ := by
    unfold s₅
    split
    · exact h₄.changes (State.trigger_changes ..)
    · exact h₄
  have h₆ : Cleared s₆ := .foldl h₅ fun u d hu => hu.changes (State.tellAlarm_changes ..)
  have h₈ : Cleared s₈ := .ite (h₆.changes (State.degrade_changes ..)) h₆
  have h₉ : Cleared s₉ := .ite (h₈.changes (State.issueNotice_changes ..)) h₈
  split
  next u _ hu =>
    have hlog : Cleared u := by
      have hpair : u = _ := (congrArg Prod.fst hu).symm
      rw [hpair]
      split
      · exact State.writeLog_cleared _ _ _ _ h₉
      · exact h₉
    extract_lets s₁₂
    have h₁₂ : Cleared s₁₂ := .ite (State.isolate_cleared a.tile hlog) hlog
    exact .ite (State.zeroiseResponse_cleared h₁₂) h₁₂

/-- One alarm of severity ZEROISE in the main-power modes leaves the stores empty. -/
theorem State.alarmEvent_cleared {s : State} {d : Nat} (tile : Nat) (hmode : s.ms.mode ≠ .sentinel) (hsev : s.severityOf d = 4) :
    Cleared (s.alarmEvent [d] 1 tile) := by
  unfold State.alarmEvent
  extract_lets sev _ _ _ _ r
  have hr : Cleared r.1 := by
    have ha : r = s.alarmMain _ _ := if_neg hmode
    rw [ha]
    exact State.alarmMain_cleared s _ (by show max 1 (s.severityOf d) = 4; rw [hsev]; rfl)
  exact .foldl hr fun u _ hu => hu.changes (State.updDet_changes ..)

theorem State.quiet_sampled (s : State) (k : TileClock) (m : Sample) : (quiet s).sampled k m = quiet (s.sampled k m) := by
  unfold State.sampled
  simp only [apply_ite quiet]
  rfl

theorem run_eq (s : State) (f : State → State) : run s f = .next (after s (f (quiet s))) := rfl

/-- A sample that finds one armed, quiet detector tripped is its alarm event. -/
theorem execDetectorTrip_of_new {s : State} {d : Nat} {k : TileClock} {m : Sample} (hoff : s.ms.mode ≠ .off) (hd : d < 22)
    (harmed : s.armed d = true) (hquiet : (s.det d).tripped = false) (hcompares : (s.sampled k m).compares m d = true) :
    exec (.detectorTrip [d] k m) s = .next (after s
      ((((quiet s).sampled k m).updDet d fun x => { x with tripped := true }).alarmEvent [d] 1 k.tile)) := by
  have hs := State.sampled_changes (quiet s) k m
  have hmode : ((quiet s).sampled k m).ms.mode = s.ms.mode := hs.apply (·.ms.mode)
  have harmed' : ((quiet s).sampled k m).armed d = true := (hs.apply (·.armed d)).trans harmed
  have hquiet' : (((quiet s).sampled k m).det d).tripped = false := (hs.apply fun u => (u.det d).tripped).trans hquiet
  have hcompares' : ((quiet s).sampled k m).compares m d = true := (congrArg (·.compares m d) (State.quiet_sampled s k m)).trans hcompares
  have hnew : ([d].eraseDups.filter fun d => decide (d < 22) && ((quiet s).sampled k m).armed d && !(((quiet s).sampled k m).det d).tripped
      && ((quiet s).sampled k m).compares m d) = [d] := by
    simp [List.eraseDups_cons, hd, harmed', hquiet', hcompares']
  have hrunning : ((quiet s).ms.mode == .off) = false := beq_eq_false_iff_ne.2 hoff
  show execDetectorTrip [d] k m s = _
  unfold execDetectorTrip
  rw [run_eq, if_neg (by rw [hrunning]; exact Bool.false_ne_true)]
  dsimp only
  rw [hnew]
  rfl

end Sys2Proof.Machine
namespace Sys2Proof.Slice0
open Sys2Proof Sys2Proof.Machine

/-- Settles O20: each operation is `checked` around outcomes that fail or succeed. -/
theorem failedPaymentItemsWriteNothing : Obligations.FailedPaymentItemsWriteNothing := by
  refine ⟨fun f hf x => ?_, fun s x => s.runIkDerive_silent x, fun s x => s.runIccDerive_silent x⟩
  simp only [List.mem_cons, List.not_mem_nil, or_false] at hf
  obtain rfl | rfl | rfl | rfl | rfl | rfl | rfl | rfl | rfl | rfl | rfl := hf
  · exact runTranslate_silent x
  · exact runVerify3624_silent x
  · exact runVerifyPvv_silent x
  · exact checked_silent fun _ => ExecOut.silent_ok _
  · exact checked_silent fun _ => ExecOut.silent_ite (ExecOut.silent_ok _) (ExecOut.silent_fail _)
  · exact checked_silent fun _ => ExecOut.silent_ite (ExecOut.silent_ok _) (ExecOut.silent_fail _)
  · exact checked_silent fun _ => ExecOut.silent_ok _
  · exact checked_silent fun _ => ExecOut.silent_ok _
  · exact checked_silent fun _ => ExecOut.silent_ite (ExecOut.silent_ok _) (ExecOut.silent_fail _)
  · exact runDukptData_silent x
  · exact runGcmDecrypt_silent x

/-- Settles O21: the sample is one alarm event of severity ZEROISE, whose response clears the stores. -/
theorem zeroiseAlarmsClearEveryStore : Obligations.ZeroiseAlarmsClearEveryStore := by
  intro s d k m hoff hsentinel hd harmed hquiet hsev hcompares
  have hs : Changes (foot [.time, .rtc, .tiles, .detectors]) (quiet s) (((quiet s).sampled k m).updDet d fun x => { x with tripped := true }) :=
    .after (State.updDet_changes ..) (.sub (State.sampled_changes ..))
  have hmode : (((quiet s).sampled k m).updDet d fun x => { x with tripped := true }).ms.mode ≠ .sentinel := by
    rw [hs.apply (·.ms.mode)]; exact hsentinel
  have hsev' := (hs.apply (·.severityOf d)).trans hsev
  obtain ⟨hzero, hused, hline⟩ := State.alarmEvent_cleared k.tile hmode hsev'
  exact ⟨_, execDetectorTrip_of_new hoff hd harmed hquiet hcompares, hzero, hused, hline⟩

end Sys2Proof.Slice0
end

section
/-!
PROOFS. Items of the opcodes: stages 1 and 2 of a fetched descriptor, and the work of an admitted item.
-/
namespace Sys2Proof.Machine
open Sys2Proof Sys2Proof.Slice0

/-- The work of an admitted item whose crossings pass. -/
theorem State.work_of_admitted {s : State} {op c n : Nat} {x : Item} (hx : Admitted s c n op x) (hpass : s.cutOff x = false)
    (input inList outList : Option Bytes) (f : State → Item → ExecIn → ExecOut) :
    s.work op c n input inList outList f = s.workOn c x inList outList (f s x (s.execIn c x (inputRead x input inList))) := by
  obtain ⟨hfind, hop, hjudged, hstatus, hresult, hcls⟩ := hx
  unfold State.work
  rw [hfind]
  simp only [hop, hjudged, hstatus, hresult, hcls, Option.isNone_none, ne_eq, not_false_eq_true, and_self, if_true, hpass, Bool.false_eq_true, if_false]
  refine congrArg (fun i => s.workOn c x inList outList (f s x (s.execIn c x i))) ?_
  unfold inputRead
  cases dInSgl x.desc && dInLen x.desc != 0 with
  | false => rfl
  | true => cases sglOf (dInIova x.desc) (dInLen x.desc) inList <;> rfl

theorem State.work_of_cut_off {s : State} {op c n : Nat} {x : Item} (hx : Admitted s c n op x) (hcut : s.cutOff x = true)
    (input inList outList : Option Bytes) (f : State → Item → ExecIn → ExecOut) :
    s.work op c n input inList outList f = s.updItem c n fun y => { y with result := some (Result.none_ ST_CDC_TIMEOUT), doneAt := s.now } := by
  obtain ⟨hfind, hop, hjudged, hstatus, hresult, hcls⟩ := hx
  unfold State.work
  rw [hfind]
  simp only [hop, hjudged, hstatus, hresult, hcls, Option.isNone_none, ne_eq, not_false_eq_true, and_self, if_true, hcut]

/-- A command that hands its phase to `descriptor` fetches the descriptors of its opcode. -/
theorem fetches_of_descriptor {row : ItemPhase → Instr} {op : Nat} {f : State → Item → ExecIn → ExecOut}
    (hrow : ∀ ph s, exec (row ph) s = descriptor op ph f s) : Fetches row op := by
  intro s c ring d halive hop
  rw [hrow, descriptor, runOn_acts halive]
  exact congrArg (fun u => Host.Outcome.next (after s u)) (if_pos hop)

/-- A command that hands its phase to `descriptor` works its opcode's operation. -/
theorem works_of_descriptor {row : ItemPhase → Instr} {op : Nat} {f : State → Item → ExecIn → ExecOut}
    (hrow : ∀ ph s, exec (row ph) s = descriptor op ph f s) : Works row op f := by
  intro s c n input inList outList x halive hx
  have hx' : Admitted (quiet s) c n op x := hx
  constructor
  · intro hpass
    rw [hrow, descriptor, runOn_acts halive]
    exact congrArg (fun u => Host.Outcome.next (after s u)) (State.work_of_admitted hx' hpass input inList outList f)
  · intro hcut
    rw [hrow, descriptor, runOn_acts halive]
    exact congrArg (fun u => Host.Outcome.next (after s u)) (State.work_of_cut_off hx' hcut input inList outList f)

/-- The two clauses of one opcode, in front of those of further opcodes. -/
theorem fetches_works_and {row : ItemPhase → Instr} {op : Nat} {f : State → Item → ExecIn → ExecOut} {more : Prop}
    (hrow : ∀ ph s, exec (row ph) s = descriptor op ph f s) (hmore : more) : Fetches row op ∧ Works row op f ∧ more :=
  ⟨fetches_of_descriptor hrow, works_of_descriptor hrow, hmore⟩

end Sys2Proof.Machine

namespace Sys2Proof.Slice0
open Sys2Proof Sys2Proof.Machine

/-- Settles O57: each of the 23 commands hands its phase to `descriptor`. -/
theorem paymentItemsComplete : Obligations.PaymentItemsComplete := by
  iterate 22 refine fetches_works_and (fun _ _ => rfl) ?_
  exact ⟨fetches_of_descriptor fun _ _ => rfl, works_of_descriptor fun _ _ => rfl⟩

/-- Settles O58: as O57, for 18 commands. -/
theorem cipherItemsComplete : Obligations.CipherItemsComplete := by
  iterate 17 refine fetches_works_and (fun _ _ => rfl) ?_
  exact ⟨fetches_of_descriptor fun _ _ => rfl, works_of_descriptor fun _ _ => rfl⟩

/-- Settles O59: as O57, for 21 commands. -/
theorem digestAndPublicKeyItemsComplete : Obligations.DigestAndPublicKeyItemsComplete := by
  iterate 20 refine fetches_works_and (fun _ _ => rfl) ?_
  exact ⟨fetches_of_descriptor fun _ _ => rfl, works_of_descriptor fun _ _ => rfl⟩

/-- Settles O60: as O57, for nine commands. -/
theorem keyItemsComplete : Obligations.KeyItemsComplete := by
  iterate 8 refine fetches_works_and (fun _ _ => rfl) ?_
  exact ⟨fetches_of_descriptor fun _ _ => rfl, works_of_descriptor fun _ _ => rfl⟩

end Sys2Proof.Slice0
end

section
/-!
PROOFS. Commands by the body that they run.
-/
namespace Sys2Proof.Machine
open Sys2Proof Sys2Proof.Slice0

theorem exec_of_run {c : Instr} {s u : State} {f : State → State} (hexec : exec c s = run s f) (hf : f (quiet s) = u) :
    exec c s = .next (after s u) :=
  hexec.trans (congrArg (fun u => Host.Outcome.next (after s u)) hf)

theorem exec_of_acts {c : Instr} {s u : State} {f : State → State} (halive : s.alive = true) (hexec : exec c s = runOn s f) (hf : f (quiet s) = u) :
    exec c s = .next (after s u) :=
  (hexec.trans (runOn_acts halive f)).trans (congrArg (fun u => Host.Outcome.next (after s u)) hf)

theorem exec_of_asked {c : Instr} {s u : State} {p : Port} {op : Nat} {q : Request} {f : State → Request → State} (hasked : Asked s p op q)
    (hexec : exec c s = runOn s fun s => serve s p op f) (hf : f (begun s p q) q = u) : exec c s = .next (after s u) :=
  (hexec.trans (runOn_serve_of_asked hasked f)).trans (congrArg (fun u => Host.Outcome.next (after s u)) hf)

/-! ### What a command finds -/

@[simp] theorem quiet_now (s : State) : (quiet s).now = s.now := rfl
@[simp] theorem quiet_ms (s : State) : (quiet s).ms = s.ms := rfl
@[simp] theorem quiet_boot (s : State) : (quiet s).boot = s.boot := rfl
@[simp] theorem quiet_rel (s : State) : (quiet s).rel = s.rel := rfl
@[simp] theorem quiet_recov (s : State) : (quiet s).recov = s.recov := rfl
@[simp] theorem quiet_orfer (s : State) : (quiet s).orfer = s.orfer := rfl
@[simp] theorem quiet_i3c (s : State) : (quiet s).i3c = s.i3c := rfl
@[simp] theorem quiet_pcie (s : State) : (quiet s).pcie = s.pcie := rfl
@[simp] theorem quiet_chans (s : State) : (quiet s).chans = s.chans := rfl
@[simp] theorem quiet_wheel (s : State) : (quiet s).wheel = s.wheel := rfl
@[simp] theorem quiet_keys (s : State) : (quiet s).keys = s.keys := rfl
@[simp] theorem quiet_cipher (s : State) : (quiet s).cipher = s.cipher := rfl
@[simp] theorem quiet_operand (s : State) : (quiet s).operand = s.operand := rfl
@[simp] theorem quiet_busA (s : State) : (quiet s).busA = s.busA := rfl
@[simp] theorem quiet_busB (s : State) : (quiet s).busB = s.busB := rfl
@[simp] theorem quiet_priv (s : State) : (quiet s).priv = s.priv := rfl
@[simp] theorem quiet_ident (s : State) : (quiet s).ident = s.ident := rfl
@[simp] theorem quiet_pair (s : State) : (quiet s).pair = s.pair := rfl
@[simp] theorem quiet_supply (s : State) : (quiet s).supply = s.supply := rfl
@[simp] theorem quiet_tamper (s : State) : (quiet s).tamper = s.tamper := rfl
@[simp] theorem quiet_otp (s : State) : (quiet s).otp = s.otp := rfl
@[simp] theorem quiet_fw (s : State) : (quiet s).fw = s.fw := rfl
@[simp] theorem quiet_jtag (s : State) : (quiet s).jtag = s.jtag := rfl
@[simp] theorem quiet_recorder (s : State) : (quiet s).recorder = s.recorder := rfl
@[simp] theorem quiet_tiles (s : State) : (quiet s).tiles = s.tiles := rfl
@[simp] theorem quiet_rng (s : State) : (quiet s).rng = s.rng := rfl
@[simp] theorem quiet_free (s : State) : (quiet s).free = s.free := rfl
@[simp] theorem quiet_pending (s : State) : (quiet s).pending = s.pending := rfl

theorem begun_changes (s : State) (p : Port) (q : Request) : Changes (foot [.mailboxes, .outbox]) s (begun s p q) :=
  .after (State.take_changes ..) (.sub (quiet_changes s))

@[simp] theorem begun_now (s : State) (p : Port) (q : Request) : (begun s p q).now = s.now := (begun_changes s p q).apply (·.now)
@[simp] theorem begun_ms (s : State) (p : Port) (q : Request) : (begun s p q).ms = s.ms := (begun_changes s p q).apply (·.ms)
@[simp] theorem begun_boot (s : State) (p : Port) (q : Request) : (begun s p q).boot = s.boot := (begun_changes s p q).apply (·.boot)
@[simp] theorem begun_rel (s : State) (p : Port) (q : Request) : (begun s p q).rel = s.rel := (begun_changes s p q).apply (·.rel)
@[simp] theorem begun_recov (s : State) (p : Port) (q : Request) : (begun s p q).recov = s.recov := (begun_changes s p q).apply (·.recov)
@[simp] theorem begun_i3c (s : State) (p : Port) (q : Request) : (begun s p q).i3c = s.i3c := (begun_changes s p q).apply (·.i3c)
@[simp] theorem begun_pcie (s : State) (p : Port) (q : Request) : (begun s p q).pcie = s.pcie := (begun_changes s p q).apply (·.pcie)
@[simp] theorem begun_chans (s : State) (p : Port) (q : Request) : (begun s p q).chans = s.chans := (begun_changes s p q).apply (·.chans)
@[simp] theorem begun_wheel (s : State) (p : Port) (q : Request) : (begun s p q).wheel = s.wheel := (begun_changes s p q).apply (·.wheel)
@[simp] theorem begun_keys (s : State) (p : Port) (q : Request) : (begun s p q).keys = s.keys := (begun_changes s p q).apply (·.keys)
@[simp] theorem begun_cipher (s : State) (p : Port) (q : Request) : (begun s p q).cipher = s.cipher := (begun_changes s p q).apply (·.cipher)
@[simp] theorem begun_operand (s : State) (p : Port) (q : Request) : (begun s p q).operand = s.operand := (begun_changes s p q).apply (·.operand)
@[simp] theorem begun_busA (s : State) (p : Port) (q : Request) : (begun s p q).busA = s.busA := (begun_changes s p q).apply (·.busA)
@[simp] theorem begun_busB (s : State) (p : Port) (q : Request) : (begun s p q).busB = s.busB := (begun_changes s p q).apply (·.busB)
@[simp] theorem begun_priv (s : State) (p : Port) (q : Request) : (begun s p q).priv = s.priv := (begun_changes s p q).apply (·.priv)
@[simp] theorem begun_ident (s : State) (p : Port) (q : Request) : (begun s p q).ident = s.ident := (begun_changes s p q).apply (·.ident)
@[simp] theorem begun_pair (s : State) (p : Port) (q : Request) : (begun s p q).pair = s.pair := (begun_changes s p q).apply (·.pair)
@[simp] theorem begun_supply (s : State) (p : Port) (q : Request) : (begun s p q).supply = s.supply := (begun_changes s p q).apply (·.supply)
@[simp] theorem begun_tamper (s : State) (p : Port) (q : Request) : (begun s p q).tamper = s.tamper := (begun_changes s p q).apply (·.tamper)
@[simp] theorem begun_otp (s : State) (p : Port) (q : Request) : (begun s p q).otp = s.otp := (begun_changes s p q).apply (·.otp)
@[simp] theorem begun_fw (s : State) (p : Port) (q : Request) : (begun s p q).fw = s.fw := (begun_changes s p q).apply (·.fw)
@[simp] theorem begun_jtag (s : State) (p : Port) (q : Request) : (begun s p q).jtag = s.jtag := (begun_changes s p q).apply (·.jtag)
@[simp] theorem begun_recorder (s : State) (p : Port) (q : Request) : (begun s p q).recorder = s.recorder := (begun_changes s p q).apply (·.recorder)
@[simp] theorem begun_tiles (s : State) (p : Port) (q : Request) : (begun s p q).tiles = s.tiles := (begun_changes s p q).apply (·.tiles)
@[simp] theorem begun_rng (s : State) (p : Port) (q : Request) : (begun s p q).rng = s.rng := (begun_changes s p q).apply (·.rng)
@[simp] theorem begun_free (s : State) (p : Port) (q : Request) : (begun s p q).free = s.free := (begun_changes s p q).apply (·.free)
@[simp] theorem begun_pending (s : State) (p : Port) (q : Request) : (begun s p q).pending = s.pending := (begun_changes s p q).apply (·.pending)
@[simp] theorem begun_nextSession (s : State) (p : Port) (q : Request) : (begun s p q).orfer.nextSession = s.orfer.nextSession := (begun_changes s p q).apply (·.orfer.nextSession)
@[simp] theorem begun_nextAct (s : State) (p : Port) (q : Request) : (begun s p q).orfer.nextAct = s.orfer.nextAct := (begun_changes s p q).apply (·.orfer.nextAct)
@[simp] theorem begun_nextTxn (s : State) (p : Port) (q : Request) : (begun s p q).orfer.nextTxn = s.orfer.nextTxn := (begun_changes s p q).apply (·.orfer.nextTxn)
@[simp] theorem begun_cfg (s : State) (p : Port) (q : Request) : (begun s p q).orfer.cfg = s.orfer.cfg := (begun_changes s p q).apply (·.orfer.cfg)
@[simp] theorem begun_realms (s : State) (p : Port) (q : Request) : (begun s p q).orfer.realms = s.orfer.realms := (begun_changes s p q).apply (·.orfer.realms)
@[simp] theorem begun_loose (s : State) (p : Port) (q : Request) : (begun s p q).orfer.loose = s.orfer.loose := (begun_changes s p q).apply (·.orfer.loose)

/-! ### Readings -/

/-- What a reading gives in both branches. -/
theorem reading_ite {α : Type} (f : State → α) {c : Prop} [Decidable c] {t u : State} {a : α} (ht : f t = a) (hu : f u = a) :
    f (if c then t else u) = a := by
  split
  · exact ht
  · exact hu

/-- What is drawn depends on the generator alone. -/
theorem State.draw_fst_congr {s t : State} (h : s.rng = t.rng) (n : Nat) : (s.draw n).1 = (t.draw n).1 := by
  unfold State.draw
  rw [h]

end Sys2Proof.Machine
end

section
/-!
PROOFS. A platform reset request with a record held back.
-/
namespace Sys2Proof.Machine
open Sys2Proof Sys2Proof.Slice0

/-- The messages that an outcome sends. -/
def sentBy : Host.Outcome State Fault Refusal → List OutMsg
  | .next t => t.outbox
  | _ => []

/-- An item of channel 3 whose completion record is held back. -/
def heldItem : Item where
  seq := 1
  ring := 0
  slot := 0
  format := 0
  desc := zeros 128
  decodedAt := 0
  cls := .hit
  status := 0
  cost := 1
  w := 0
  demand := Demand.empty
  pages := []
  opmem := []
  contexts := 0
  sigma := 0
  release := 0
  judged := true
  checkAt := 0
  dectab := zeros 16
  refs := []
  staged := none
  stagedAt := []
  parentRevoked := false
  doneAt := 0
  result := some (Result.none_ ST_OK)
  sent := 0
  outW := 0
  order := []
  silent := false

/-- A device in SERVE whose channel 3, shown by function 0, holds a completion record back. -/
def heldRecordState : State := { State.reset with
  ms := { State.reset.ms with mode := .serve, base := .serve }
  boot := { BootState.reset with step := 0, apex := true, facet := true }
  pcie := { PcieState.reset with up := true, fns := [(0, { FnState.reset with busMaster := true })] }
  chans := [(3, { Channel.reset with binding := ⟨0, false, 1⟩, cq := { Cq.reset with base := 0x20000, sizeLog2 := 4 }, heldRecords := [heldItem] })] }

/-- The request writes the record that is held back; the warm GATE alone sends nothing. -/
theorem sentBy_platformResetRequest_ne :
    (sentBy (exec .platformResetRequest heldRecordState)).length
      ≠ (sentBy (.next (after heldRecordState ((quiet heldRecordState).warmGate 0 4)))).length := by decide +kernel

end Sys2Proof.Machine

namespace Sys2Proof.Slice0
open Sys2Proof Sys2Proof.Machine

/-- Refutes O29: a platform reset request first writes the completion records that are held back, and the statement's next state has no such write. -/
theorem not_powerCommandsComplete : ¬ Obligations.PowerCommandsComplete := by
  rintro ⟨-, -, -, -, -, -, -, -, -, hreset, -⟩
  have h := hreset heldRecordState (by decide) (Or.inr (Or.inl rfl))
  exact sentBy_platformResetRequest_ne (congrArg (fun o => (sentBy o).length) h)

end Sys2Proof.Slice0
end

section
/-!
PROOFS. Steps 1 to 7 of a cold GATE.
-/
namespace Sys2Proof.Machine
open Sys2Proof Sys2Proof.Slice0

/-- The state with every tile's clock locked. -/
def State.pllsLocked (s : State) : State :=
  (List.range 24).foldl (fun s t => s.updTile t fun x => { x with pllLock := true, freq := tileKhz t }) s

theorem State.pllsLocked_changes (s : State) : Changes (foot [.tiles]) s s.pllsLocked :=
  .foldl .refl fun _ _ hu => .after (State.updTile_changes ..) hu

theorem exec_pllLockComplete {s : State} (sel : Bool) (halive : s.alive = true) (hstep : s.boot.step = 1) :
    exec (.pllLockComplete sel) s = .next (after s { (quiet s).pllsLocked with
      boot := { (quiet s).pllsLocked.boot with step := 2 }
      supply := { (quiet s).pllsLocked.supply with i3cSel := sel }
      pcie := { (quiet s).pllsLocked.pcie with
        readyAt := if (quiet s).pllsLocked.pcie.perst then some ((quiet s).pllsLocked.now + 10000000) else none } }) := by
  have hstep' : ¬ (quiet s).boot.step ≠ 1 := Classical.not_not.2 hstep
  show execPllLockComplete sel s = _
  unfold execPllLockComplete
  rw [runOn_acts halive, if_neg hstep']
  rfl

/-- Step 3 ends where no program waits and the boot ROM has not stopped. -/
theorem State.afterStep3_step {s : State} (h : s.boot.step = 3) :
    s.afterStep3.boot.step = 3 ∨ s.afterStep3.boot.step = 4 ∧ s.afterStep3.otp.jobs = [] ∧ s.afterStep3.boot.stopped = false := by
  unfold State.afterStep3
  split
  next hdone =>
    obtain ⟨-, hjobs, hrun⟩ := hdone
    exact Or.inr ⟨rfl, hjobs, by simpa using hrun⟩
  next => exact Or.inl h

theorem State.senseWith_changes (s : State) (weak : List (Nat × Nat)) : Changes (foot [.otpShadows]) s (s.senseWith weak) :=
  .after (State.sense_changes ..) (.upd .refl)

/-- What the sense of step 2 draws is the seeds. -/
theorem State.senseSeeds_seeds (s : State) : s.senseSeeds.tamper.seeds = (s.draw 224).1 := by
  unfold State.senseSeeds
  exact State.draw_fst_congr rfl 224

theorem State.updLog_seeds (s : State) (slot : Nat) (f : LogEntry → LogEntry) : (s.updLog slot f).tamper.seeds = s.tamper.seeds := by
  unfold State.updLog
  split <;> rfl

theorem State.markDone_seeds (s : State) (seq : Nat) : (s.markDone seq).tamper.seeds = s.tamper.seeds := by
  unfold State.markDone
  split
  · exact State.updLog_seeds ..
  · rfl

theorem State.programEntry_seeds (s : State) (e : LogEntry) : (s.programEntry e).tamper.seeds = s.tamper.seeds := by
  unfold State.programEntry
  extract_lets _ t _
  have ht : t.tamper.seeds = s.tamper.seeds := reading_ite (fun u : State => u.tamper.seeds) rfl rfl
  exact reading_ite (fun u : State => u.tamper.seeds) ht (reading_ite (fun u : State => u.tamper.seeds) rfl (State.markDone_seeds ..))

theorem State.senseRepairs_seeds (s : State) : s.senseRepairs.tamper.seeds = s.tamper.seeds := by
  unfold State.senseRepairs
  extract_lets s₁ s₂ s₃
  have h₁ : s₁.tamper.seeds = s.tamper.seeds := reading_ite (fun u : State => u.tamper.seeds)
    (foldl_keeps (fun u : State => u.tamper.seeds = s.tamper.seeds) _ (fun u e hu => (u.programEntry_seeds e).trans hu) _ _ rfl) rfl
  have h₂ : Changes (foot [.otpJobs]) s₁ s₂ := .foldl .refl fun u _ h => .ite (.after (State.programWord_changes ..) h) h
  have h₃ : Changes (foot [.otpJobs]) s₁ s₃ := .ite (.after (State.programWord_changes ..) h₂) h₂
  refine Eq.trans (Changes.apply (s := s₁) (F := foot [.otpJobs]) ?_ (·.tamper.seeds)) h₁
  exact .ite (.foldl h₃ fun u _ h => .ite h (.after (State.programWord_changes ..) h)) h₃

theorem State.senseRepairs_step (s : State) : s.senseRepairs.boot.step = s.boot.step := (State.senseRepairs_changes s).apply (·.boot.step)

theorem State.afterStep3_seeds (s : State) : s.afterStep3.tamper.seeds = s.tamper.seeds := (State.afterStep3_changes s).apply (·.tamper.seeds)

theorem State.senseSeeds_step (s : State) : s.senseSeeds.boot.step = 3 := rfl

/-- The state in which step 2 of a cold GATE ends. -/
def State.sensed (s : State) (weak : List (Nat × Nat)) : State := (s.senseWith weak).senseSeeds.senseRepairs.afterStep3

theorem State.sensed_seeds (s : State) (weak : List (Nat × Nat)) : (s.sensed weak).tamper.seeds = (s.draw 224).1 := by
  have hrng : (s.senseWith weak).rng = s.rng := (State.senseWith_changes s weak).apply (·.rng)
  unfold State.sensed
  calc (s.senseWith weak).senseSeeds.senseRepairs.afterStep3.tamper.seeds
      = (s.senseWith weak).senseSeeds.senseRepairs.tamper.seeds := State.afterStep3_seeds _
    _ = (s.senseWith weak).senseSeeds.tamper.seeds := State.senseRepairs_seeds _
    _ = ((s.senseWith weak).draw 224).1 := State.senseSeeds_seeds _
    _ = (s.draw 224).1 := State.draw_fst_congr hrng 224

theorem State.sensed_step (s : State) (weak : List (Nat × Nat)) :
    (s.sensed weak).boot.step = 3
      ∨ (s.sensed weak).boot.step = 4 ∧ (s.sensed weak).otp.jobs = [] ∧ (s.sensed weak).boot.stopped = false := by
  have hstep : (s.senseWith weak).senseSeeds.senseRepairs.boot.step = 3 := (State.senseRepairs_step _).trans (State.senseSeeds_step _)
  unfold State.sensed
  generalize (s.senseWith weak).senseSeeds.senseRepairs = u at hstep ⊢
  exact State.afterStep3_step hstep

theorem exec_otpSenseComplete {s : State} (weak : List (Nat × Nat)) (halive : s.alive = true) (hstep : s.boot.step = 2) :
    exec (.otpSenseComplete weak) s = .next (after s ((quiet s).sensed weak)) := execOtpSenseComplete_eq halive hstep

theorem exec_unitSelftestDone {s : State} {u : Nat} (pass : Bool) (halive : s.alive = true) (htesting : s.boot.testing = true) (hu : u < 45)
    (hfresh : KeyMap.find s.boot.units u = none) :
    ∃ v : State, v.boot.units = KeyMap.put s.boot.units u (if pass then .inService else .outOfService) ∧ v.ms = s.ms
      ∧ exec (.unitSelftestDone u pass) s = .next (after s (v.setGates fun g => { g with selftest := v.selftestGate })) := by
  refine ⟨_, ?_, ?_, exec_of_acts halive rfl (if_pos ⟨htesting, hu, hfresh⟩)⟩
  · exact reading_ite (fun v : State => v.boot.units) rfl rfl
  · exact reading_ite (fun v : State => v.ms) rfl rfl

end Sys2Proof.Machine

namespace Sys2Proof.Slice0
open Sys2Proof Sys2Proof.Machine

/-- Settles O30. -/
theorem coldGateCommandsComplete : Obligations.ColdGateCommandsComplete := by
  refine ⟨?_, ?_, ?_, ?_, ?_, ?_⟩
  · intro s sel halive hstep
    have hlocked := State.pllsLocked_changes (quiet s)
    have hready := hlocked.apply fun u => if u.pcie.perst then some (u.now + 10000000) else none
    have hms := hlocked.apply (·.ms)
    have hexec := exec_pllLockComplete sel halive hstep
    generalize (quiet s).pllsLocked = u at hready hms hexec
    exact ⟨_, hexec, rfl, rfl, hready, hms⟩
  · intro s weak halive hstep
    have hexec := exec_otpSenseComplete weak halive hstep
    have hseeds := (quiet s).sensed_seeds weak
    have hended := (quiet s).sensed_step weak
    generalize (quiet s).sensed weak = u at hexec hseeds hended
    refine ⟨_, hexec, hended.imp_right And.left, hseeds, fun h4 => ?_⟩
    obtain h3 | ⟨-, hdone⟩ := hended
    · exact absurd (h3.symm.trans h4) (by decide)
    · exact hdone
  · intro s value n halive hstep
    have hstep' : ¬ (quiet s).boot.step ≠ 4 := Classical.not_not.2 hstep
    show execRootVertexReconstructed value n s = _
    unfold execRootVertexReconstructed
    rw [runOn_acts halive, if_neg hstep']
    have hcopy : (quiet s).helperCopy = s.helperCopy := rfl
    rw [hcopy]
    cases s.helperCopy <;> rfl
  · intro s a b halive hstep hrun
    have hboot : ((quiet s).loadImages 1 a b).boot = s.boot := (State.loadImages_changes ..).apply (·.boot)
    have hgo : ¬ ((quiet s).boot.step ≠ 5 ∨ (quiet s).boot.stopped = true) := not_or.2 ⟨Classical.not_not.2 hstep, Bool.eq_false_iff.1 hrun⟩
    show execApexImageVerified a b s = _
    unfold execApexImageVerified
    rw [runOn_acts halive, if_neg hgo, ← hboot]
  · intro s a b halive hstep hrun
    have hgo : ¬ ((quiet s).boot.step ≠ 6 ∨ (quiet s).boot.stopped = true) := not_or.2 ⟨Classical.not_not.2 hstep, Bool.eq_false_iff.1 hrun⟩
    show execFacetImageVerified a b s = _
    unfold execFacetImageVerified
    rw [runOn_acts halive, if_neg hgo]
  · intro s u pass halive htesting hu hfresh
    obtain ⟨v, hunits, hms, hexec⟩ := exec_unitSelftestDone pass halive htesting hu hfresh
    refine ⟨_, hexec, ?_, rfl, congrArg (·.mode) hms⟩
    show KeyMap.find v.boot.units u = _
    rw [hunits, KeyMap.find_put_self]
end Sys2Proof.Slice0
end

section
/-!
PROOFS. The release sequence.
-/
namespace Sys2Proof.Machine
open Sys2Proof Sys2Proof.Slice0

/-- One attempt more is counted, and the record of the timeout is written. -/
def State.attemptFailed (s : State) (limit : Nat) : State :=
  let u := s.advance limit
  { u with rel := { u.rel with attempts := u.rel.attempts + 1 } }.trigger 4 ST_RELEASE_TIMEOUT u.rel.step

theorem State.attemptFailed_rel (s : State) (limit : Nat) : (s.attemptFailed limit).rel = { s.rel with attempts := s.rel.attempts + 1 } :=
  (State.trigger_changes ..).apply (·.rel)

theorem State.attemptFailed_now (s : State) (limit : Nat) : (s.attemptFailed limit).now = max s.now limit :=
  (State.trigger_changes ..).apply (·.now)

theorem exec_releaseTimeout {s : State} {since : Option Nat} {limit : Nat} (halive : s.alive = true) (hphase : s.rel.phase = .input since limit)
    (hsince : since.any (fun d => decide (d ≤ limit)) = false) :
    exec .releaseTimeout s = .next (after s (((quiet s).attemptFailed limit).setPhase
      (if ((quiet s).attemptFailed limit).rel.released.isEmpty then .restart (((quiet s).attemptFailed limit).now + 1000000000)
        else .unwind ((quiet s).attemptFailed limit).now))) := by
  show execReleaseTimeout s = _
  unfold execReleaseTimeout
  rw [runOn_acts halive]
  simp only [quiet_rel, hphase, hsince, Bool.false_eq_true, if_false]
  rfl

/-- An output goes back to its held level. -/
def State.unwound (s : State) (n : Nat) (rest : List Nat) : State := { s with rel := { s.rel with released := rest } }.drive n (s.heldLevel n)

theorem exec_releaseUnwindStep {s : State} {d n : Nat} {rest : List Nat} (halive : s.alive = true) (hphase : s.rel.phase = .unwind d)
    (hreleased : s.rel.released = n :: rest) :
    exec .releaseUnwindStep s = .next (after s ((((quiet s).advance d).unwound n rest).setPhase
      (if rest.isEmpty then .restart (max s.now d + 1000000000) else .unwind (max s.now d + 1000000)))) := by
  show execReleaseUnwindStep s = _
  unfold execReleaseUnwindStep
  rw [runOn_acts halive]
  simp only [quiet_rel, hphase, State.advance_rel, hreleased]
  rfl

end Sys2Proof.Machine

namespace Sys2Proof.Slice0
open Sys2Proof Sys2Proof.Machine

/-- Settles O31: each command by the phase that it acts in. -/
theorem releaseCommandsComplete : Obligations.ReleaseCommandsComplete := by
  refine ⟨?_, ?_, ?_, ?_, ?_, ?_, ?_, ?_⟩
  · intro s d halive hphase hneeds
    have hneeds' : (quiet s).needsMet (stepNeeds ((quiet s).relStep s.rel.step)) = true := hneeds
    show execReleaseDelayExpire s = _
    unfold execReleaseDelayExpire
    rw [runOn_acts halive]
    simp only [quiet_rel, hphase, hneeds', if_true]
    rfl
  · intro s d halive hphase hneeds
    have hneeds' : (quiet s).needsMet (stepNeeds ((quiet s).relStep s.rel.step)) = false := hneeds
    show execReleaseDelayExpire s = _
    unfold execReleaseDelayExpire
    rw [runOn_acts halive]
    simp only [quiet_rel, hphase, hneeds', Bool.false_eq_true, if_false]
  · intro s level since limit halive hphase
    show execAwaitedInputChange level s = _
    unfold execAwaitedInputChange
    rw [runOn_acts halive]
    simp only [quiet_rel, hphase]
    rfl
  · intro s level d halive hphase
    show execAwaitedInputChange level s = _
    unfold execAwaitedInputChange
    rw [runOn_acts halive]
    simp only [quiet_rel, hphase]
    rfl
  · intro s d limit halive hphase
    show execReleaseInputStable s = _
    unfold execReleaseInputStable
    rw [runOn_acts halive]
    simp only [quiet_rel, hphase]
  · intro s since limit halive hphase hsince
    have hrel := (quiet s).attemptFailed_rel limit
    have hnow := (quiet s).attemptFailed_now limit
    have hexec := exec_releaseTimeout halive hphase hsince
    generalize (quiet s).attemptFailed limit = u at hrel hnow hexec
    refine ⟨_, hexec, congrArg (·.attempts) hrel, ?_, hnow⟩
    show (if u.rel.released.isEmpty then _ else _) = _
    rw [hrel, hnow]
    rfl
  · intro s d n rest halive hphase hreleased
    exact ⟨_, exec_releaseUnwindStep halive hphase hreleased, rfl, rfl, rfl, KeyMap.find_put_self ..⟩
  · intro s d halive hphase
    show execReleaseRestart s = _
    unfold execReleaseRestart
    rw [runOn_acts halive]
    simp only [quiet_rel, hphase]
    rfl
end Sys2Proof.Slice0
end

section
/-!
PROOFS. The link going down in STEWARD.
-/
namespace Sys2Proof.Machine
open Sys2Proof Sys2Proof.Slice0

/-- The mode that an outcome leads to. -/
def modeReached : Host.Outcome State Fault Refusal → Option Mode
  | .next t => some t.ms.mode
  | _ => none

/-- A device in STEWARD with an administrative session of the device realm, held by a session on MB0. -/
def stewardState : State := { State.reset with
  ms := { State.reset.ms with mode := .steward, base := .serve }
  boot := { BootState.reset with step := 0, apex := true, facet := true }
  orfer := { Orfer.reset with
    sessions := [(1, ⟨.mb0, 0, (1, 4), 0, BitVec.allOnes 1024, false, none, 0, [], 120000000000, none, SpdmConn.reset, none⟩)]
    nextSession := 2
    realms := [(0, { Realm.reset with admin := some ⟨1, 1, 0, 900000000000⟩ })] } }

theorem modeReached_pcieLinkDown : modeReached (exec (.pcieLinkDown false) stewardState) = some .serve := by decide +kernel

end Sys2Proof.Machine

namespace Sys2Proof.Slice0
open Sys2Proof Sys2Proof.Machine

/-- Refutes O32: when the link goes down the sessions of MB0 close, and with them the administrative session, so the device leaves STEWARD; the
statement has its mode state unchanged. -/
theorem not_doorbellAndLinkCommandsComplete : ¬ Obligations.DoorbellAndLinkCommandsComplete := by
  rintro ⟨-, -, -, -, -, -, -, -, -, -, -, -, hdown, -⟩
  obtain ⟨t, ht, -, -, -, -, hms⟩ := hdown stewardState false (by decide)
  have hmode : some t.ms.mode = some .serve := by rw [← modeReached_pcieLinkDown, ht]; rfl
  rw [hms] at hmode
  exact absurd hmode (by decide)

end Sys2Proof.Slice0
end

section
/-!
PROOFS. Descriptor fetches, key loads, checks, anchors and releases.
-/
namespace Sys2Proof.Machine
open Sys2Proof Sys2Proof.Slice0

theorem quiet_region (s : State) (c : Nat) : (quiet s).region c = s.region c := rfl

theorem quiet_openBlob (s : State) (blob : Bytes) (tag : Option Nat) : (quiet s).openBlob blob tag = s.openBlob blob tag := by
  unfold State.openBlob
  rfl

theorem State.makeRoom_quiet (r n fuel : Nat) (s : State) : State.makeRoom r n fuel (quiet s) = quiet (State.makeRoom r n fuel s) := by
  induction fuel generalizing s with
  | zero => rfl
  | succ fuel ih =>
    have hroom : (quiet s).regionUsed r + n ≤ (quiet s).regionSize r ↔ s.regionUsed r + n ≤ s.regionSize r := Iff.rfl
    have holdest : (quiet s).oldest r = s.oldest r := rfl
    unfold State.makeRoom
    by_cases h : s.regionUsed r + n ≤ s.regionSize r
    · rw [if_pos h, if_pos (hroom.2 h)]
    · rw [if_neg h, if_neg (mt hroom.1 h), holdest]
      cases s.oldest r with
      | none => rfl
      | some k => exact ih (s.evict k)

/-- Whether a key has room does not depend on what the device has sent. -/
theorem quiet_fits (s : State) (c tag : Nat) (k : KeyView) : (quiet s).fits c tag k = s.fits c tag k := by
  have hroom := State.makeRoom_quiet (s.region c) (entriesOf k) (s.keys.cache.length + 1)
    { s with keys := { s.keys with loads := KeyMap.del s.keys.loads (cacheKey c tag) } }
  have hused := congrArg (·.regionUsed (s.region c)) hroom
  show decide ((State.makeRoom (s.region c) (entriesOf k) (s.keys.cache.length + 1)
    (quiet { s with keys := { s.keys with loads := KeyMap.del s.keys.loads (cacheKey c tag) } })).regionUsed (s.region c) + entriesOf k
      ≤ s.regionSize (s.region c)) = _
  dsimp only at hused
  rw [hused]
  rfl

theorem State.room_region (s : State) (r n c : Nat) : (s.room r n).region c = s.region c := (State.room_changes s r n).apply (·.region c)

theorem quiet_regionSize (s : State) (r : Nat) : (quiet s).regionSize r = s.regionSize r := rfl

theorem State.room_regionSize (s : State) (r n q : Nat) : (s.room r n).regionSize q = s.regionSize q :=
  (State.room_changes s r n).apply (·.regionSize q)

theorem State.room_chan (s : State) (r n c : Nat) : (s.room r n).chan c = s.chan c := (State.room_changes s r n).apply (·.chan c)

/-- A blob's header has come: room is made in the channel's region, entries of region `r` of `size` are counted, and the read goes out as function `fn`. -/
def State.headerTaken (s : State) (c tag n k : Nat) (h : Bytes) (r size fn : Nat) : State :=
  let m := entriesOf (headerView h)
  let u := s.room (s.region c) (m - k)
  let y := if u.regionUsed r + (m - k) ≤ size then m else min m n
  State.readHost { u with keys := { u.keys with loads := KeyMap.put u.keys.loads (cacheKey c tag) ⟨some h, y, y, none⟩ } }
    fn (u.iovaOf c tag + 48) ((headerView h).totalLen - 48)

theorem exec_keyBlobHeaderRead {s : State} {c tag n k : Nat} {z : Option Bytes} (b : Bytes) (halive : s.alive = true)
    (hload : KeyMap.find s.keys.loads (cacheKey c tag) = some ⟨none, n, k, z⟩) (hreaches : s.reaches c = true) :
    exec (.keyBlobHeaderRead c tag (some b)) s = .next (after s (
      if stageB (fit 48 b) then (quiet s).headerTaken c tag n k (fit 48 b) (s.region c) (s.regionSize (s.region c)) (s.chan c).binding.function
      else (quiet s).failLoad c tag ST_KEY_UNWRAP)) := by
  have hreaches' : ¬ (quiet s).reaches c = false := by
    rw [Bool.eq_false_iff, Classical.not_not]; exact hreaches
  have hmodel : ∀ u, u = (quiet s).room ((quiet s).region c) (entriesOf (headerView (fit 48 b)) - k) →
      exec (.keyBlobHeaderRead c tag (some b)) s = .next (after s (
        if stageB (fit 48 b) then
          (quiet s).headerTaken c tag n k (fit 48 b) (u.region c) (u.regionSize (u.region c)) (u.chan c).binding.function
        else (quiet s).failLoad c tag ST_KEY_UNWRAP)) := by
    rintro _ rfl
    show execKeyBlobHeaderRead c tag (some b) s = _
    unfold execKeyBlobHeaderRead
    rw [runOn_acts halive]
    simp only [quiet_keys, hload, if_neg hreaches']
    rfl
  rw [hmodel _ rfl, State.room_region, State.room_regionSize, State.room_chan]
  rfl

/-- Following a change of the state's item by number does not lose the number. -/
theorem getD_find_seq (l : List Item) (x : Item) : ((l.find? fun y => y.seq == x.seq).getD x).seq = x.seq := by
  cases h : l.find? fun y => y.seq == x.seq with
  | none => rfl
  | some y => exact beq_iff_eq.1 (List.find?_some (p := fun y : Item => y.seq == x.seq) h)

theorem exec_keyCheckInstant {s : State} {c : Nat} {x : Item} (halive : s.alive = true) (hnext : nextCheck (s.chan c) = some x) :
    exec (.keyCheckInstant c) s = .next (after s (
      let u := (x.refs.filter fun r => !r.hit && r.status == 0).foldl (fun u r => u.settleLoad c r.tag) ((quiet s).advance x.checkAt)
      let y := ((u.chan c).admitted.find? fun y => y.seq == x.seq).getD x
      u.updItem c x.seq fun _ => u.judged c y (u.judgeRefs c y fun r => !r.hit))) := by
  have hnext' : nextCheck ((quiet s).chan c) = some x := hnext
  show execKeyCheckInstant c s = _
  unfold execKeyCheckInstant
  rw [runOn_acts halive]
  dsimp only
  split
  · next hnone => exact absurd (hnext'.symm.trans hnone) (Option.some_ne_none x)
  · next y hsome =>
    obtain rfl : x = y := Option.some.inj (hnext'.symm.trans hsome)
    simp only [getD_find_seq]

end Sys2Proof.Machine

namespace Sys2Proof.Slice0
open Sys2Proof Sys2Proof.Machine

/-- Settles O33. -/
theorem ringCommandsComplete : Obligations.RingCommandsComplete := by
  refine ⟨?_, ?_, ?_, ?_, ?_, ?_, ?_, ?_, ?_, ?_, ?_, ?_, ?_, ?_⟩
  · intro s ch ring d halive hundefined
    have hundefined' : ¬ opDefined (dOpcode d) = true := Bool.eq_false_iff.1 hundefined
    show execDescriptorUndefinedOpcode ch ring d s = _
    unfold execDescriptorUndefinedOpcode
    rw [runOn_acts halive, if_neg hundefined']
  · intro s ch ring halive hfetching hstale
    have hstale' : ((quiet s).chan ch).fetching = some ring ∧ ((quiet s).chan ch).stale = true := ⟨hfetching, hstale⟩
    show execDescriptorFetchFailed ch ring s = _
    unfold execDescriptorFetchFailed
    rw [runOn_acts halive, if_pos hstale']
  · intro s ch ring halive hfetching hstale
    have hfresh : ¬ (((quiet s).chan ch).fetching = some ring ∧ ((quiet s).chan ch).stale = true) := fun h => Bool.eq_false_iff.1 hstale h.2
    have hfetching' : ((quiet s).chan ch).fetching = some ring := hfetching
    show execDescriptorFetchFailed ch ring s = _
    unfold execDescriptorFetchFailed
    rw [runOn_acts halive, if_neg hfresh, if_pos hfetching']
  · intro s ch tag n k z halive hload
    show execKeyBlobHeaderRead ch tag none s = _
    unfold execKeyBlobHeaderRead
    rw [runOn_acts halive]
    simp only [quiet_keys, hload]
  · intro s ch tag n k z b halive hload hreaches
    rw [exec_keyBlobHeaderRead b halive hload hreaches, State.headerTaken, quiet_region]
  · intro s ch tag n k h halive hload
    show execKeyBlobLoaded ch tag none s = _
    unfold execKeyBlobLoaded
    rw [runOn_acts halive]
    simp only [quiet_keys, hload]
  · intro s ch tag n k h b halive hload
    show execKeyBlobLoaded ch tag (some b) s = _
    unfold execKeyBlobLoaded
    rw [runOn_acts halive]
    simp only [quiet_keys, hload]
    rw [State.takeBlob, quiet_openBlob]
    cases s.openBlob (h ++ fit ((headerView h).totalLen - 48) b) (some tag) with
    | inl st => rfl
    | inr v =>
      dsimp only
      rw [quiet_fits]
      rfl
  · intro s ch tag n k h x d halive hload
    show execKeyBlobLoaded ch tag d s = _
    unfold execKeyBlobLoaded
    rw [runOn_acts halive]
    simp only [quiet_keys, hload]
  · intro s ch x halive hnext
    exact exec_keyCheckInstant halive hnext
  · intro s ch miss halive hset hch
    have hserved : ¬ (((quiet s).serviceSet ch).isEmpty || ch == 0) = true := by
      rw [Bool.or_eq_true, List.isEmpty_iff, beq_iff_eq]
      exact not_or.2 ⟨hset, hch⟩
    show execAnchor ch miss s = _
    unfold execAnchor
    rw [runOn_acts halive]
    dsimp only
    rw [if_neg hserved]
    rfl
  · intro s ch x halive hnext
    show execItemRelease ch s = _
    unfold execItemRelease
    rw [runOn_acts halive]
    simp only [quiet_chan, hnext]
  · intro s ch x halive hnext
    show execCompletionWriteFailed ch s = _
    unfold execCompletionWriteFailed
    rw [runOn_acts halive]
    simp only [quiet_chan, hnext]
  · intro s ch n x r halive hnext hresult hsent hlen
    have hpart : ¬ (r.out.isEmpty = true ∨ r.out.length ≤ n) := by
      rw [List.isEmpty_iff_length_eq_zero]; omega
    show execOutputWriteFailed ch n s = _
    unfold execOutputWriteFailed
    rw [runOn_acts halive]
    simp only [quiet_chan, hnext, hresult, Nat.max_eq_right hsent, if_neg hpart]
  · intro s ch d halive htimer
    show execCqModTimerExpire ch s = _
    unfold execCqModTimerExpire
    rw [runOn_acts halive]
    simp only [quiet_chan, htimer]

end Sys2Proof.Slice0
end

section
/-!
PROOFS. Sector starts, revolution boundaries and drains.
-/
namespace Sys2Proof.Machine
open Sys2Proof Sys2Proof.Slice0

theorem ite_is_either {α : Sort _} {c : Prop} [Decidable c] (a b : α) : (if c then a else b) = a ∨ (if c then a else b) = b := by
  split
  · exact .inl rfl
  · exact .inr rfl

/-! ### What the service of items leaves alone -/

/-- The mode state and every channel's budget are as they were. -/
def Metered (s t : State) : Prop := t.ms = s.ms ∧ ∀ c, (t.chan c).budget = (s.chan c).budget

namespace Metered

variable {s t u : State}

theorem refl : Metered s s := ⟨rfl, fun _ => rfl⟩

theorem trans (h : Metered s t) (h' : Metered t u) : Metered s u := ⟨h'.1.trans h.1, fun c => (h'.2 c).trans (h.2 c)⟩

theorem ite {c : Prop} [Decidable c] (ht : Metered s t) (hu : Metered s u) : Metered s (if c then t else u) := by
  split
  · exact ht
  · exact hu

theorem foldl {α : Type} {f : State → α → State} {l : List α} (h : Metered s t) (hf : ∀ v a, Metered v (f v a)) : Metered s (l.foldl f t) :=
  foldl_keeps (Metered s) f (fun v a hv => hv.trans (hf v a)) l t h

end Metered

theorem State.updItem_metered (s : State) (c seq : Nat) (f : Item → Item) : Metered s (s.updItem c seq f) := by
  refine ⟨rfl, fun k => ?_⟩
  unfold State.updItem
  by_cases h : k = c
  · rw [h, State.updChan_chan]
  · rw [State.updChan_chan_ne _ _ _ _ h]

theorem State.writeOut_metered (s : State) (c : Nat) (r : Result) (k n : Nat) : Metered s (s.writeOut c r k n) := by
  have h := State.writeOut_changes s c r k n
  exact ⟨h.apply (·.ms), fun k => h.apply fun u => (u.chan k).budget⟩

theorem State.flushItem_metered (s : State) (c seq : Nat) : Metered s (s.flushItem c seq) := by
  unfold State.flushItem
  split
  · split
    · extract_lets _
      exact .ite .refl (.ite ((State.writeOut_metered ..).trans (State.updItem_metered ..)) (State.updItem_metered ..))
    · exact .refl
  · exact .refl

theorem State.writeOperands_metered (s : State) (x : Item) : Metered s (s.writeOperands x) := .foldl .refl fun _ _ => .refl

theorem State.saveContext_metered (s : State) (c : Nat) (x : Item) (ctx : Bytes) : Metered s (s.saveContext c x ctx) := by
  unfold State.saveContext
  exact .ite (.foldl .refl fun _ _ => .refl) .refl

theorem State.useContext_metered (s : State) (core : Option Nat) (c : Nat) (x : Item) : Metered s (s.useContext core c x) := by
  unfold State.useContext
  extract_lets _ s₂ _ s₄
  have h₄ : Metered s s₄ := by
    unfold s₄
    split <;> exact .refl
  exact .ite .refl (h₄.trans (State.saveContext_metered ..))

theorem State.sectorEnd_metered (s : State) (core : Option Nat) (c : Nat) (x : Item) : Metered s (s.sectorEnd core c x) := by
  unfold State.sectorEnd
  extract_lets _ _ s₃ s₄
  have h₃ : Metered s s₃ := State.updItem_metered ..
  have h₄ : Metered s s₄ := .ite (h₃.trans ((State.writeOperands_metered ..).trans (State.useContext_metered ..))) h₃
  exact h₄.trans ((State.updItem_metered ..).trans (State.flushItem_metered ..))

theorem State.playSector_metered (s : State) (own : Bool) (cs : List Nat) (n : Nat) : Metered s (s.playSector own cs n).1 :=
  .foldl (.foldl .refl fun _ _ => State.sectorEnd_metered ..) fun _ _ => .refl

theorem State.serveZero_metered (s : State) (r : Room) : Metered s (s.serveZero r) := .refl

/-- A sector starts: device time, the sector's number, whether it is released, and the pool budget. -/
def State.sectorBegun (s : State) (n : Nat) (free : Bool) : State :=
  let u := s.advance (n * sectorNs)
  { u with wheel := { u.wheel with
    sector := n + 1, released := free, pool := if free then min 4096000 (u.wheel.pool + 256000) else u.wheel.pool } }

/-- What a released sector, one of a member's own and one of channel 0 serve. -/
def State.sectorServed (s : State) (n : Nat) (free : Bool) (m : Nat) : State × Room :=
  if free then s.playSector false (s.bound.filter fun c => !(s.chan c).binding.isolated) n
  else if m = 0 then (s, Room.full)
  else (s.updChan m fun x => { x with budget := min (s.capPs m : Int) (x.budget + 256000) }).playSector true [m] n

theorem State.sectorServed_frame (s : State) (n : Nat) (free : Bool) (m : Nat) :
    (s.sectorServed n free m).1.now = s.now ∧ (s.sectorServed n free m).1.wheel = s.wheel ∧ (s.sectorServed n free m).1.ms = s.ms := by
  have hplay (u : State) (own : Bool) (cs : List Nat) : (u.playSector own cs n).1.now = u.now ∧ (u.playSector own cs n).1.wheel = u.wheel
      ∧ (u.playSector own cs n).1.ms = u.ms := by
    have h := u.playSector_changes own cs n
    exact ⟨h.apply (·.now), h.apply (·.wheel), (u.playSector_metered own cs n).1⟩
  unfold State.sectorServed
  split
  · exact hplay ..
  split
  · exact ⟨rfl, rfl, rfl⟩
  · exact hplay (s.updChan m _) ..

/-- A sector of a member's own adds to that member's budget. -/
theorem State.sectorServed_budget (s : State) (n : Nat) {m : Nat} (hm : m ≠ 0) :
    ((s.sectorServed n false m).1.chan m).budget = min (s.capPs m : Int) ((s.chan m).budget + 256000) := by
  have hbudget : ((s.updChan m fun x => { x with budget := min (s.capPs m : Int) (x.budget + 256000) }).chan m).budget
      = min (s.capPs m : Int) ((s.chan m).budget + 256000) := by rw [State.updChan_chan]
  unfold State.sectorServed
  rw [if_neg Bool.false_ne_true, if_neg hm]
  exact ((State.playSector_metered ..).2 m).trans hbudget

/-- A sector start is the sector's start and its service, and then the service of channel 0 where it is served. -/
theorem exec_sectorStart_cases {s : State} {n : Nat} {free : Bool} {a : State × Room} (halive : s.alive = true)
    (hn : n = max s.wheel.sector (ceilDiv s.now sectorNs)) (hfree : ((quiet s).advance (n * sectorNs)).sectorFree n = free)
    (ha : a = ((quiet s).sectorBegun n free).sectorServed n free (s.sectorMember (n % revSectors))) :
    exec .sectorStart s = .next (after s (a.1.serveZero a.2)) ∨ exec .sectorStart s = .next (after s a.1) := by
  have hmember : s.sectorMember (n % revSectors) = ((quiet s).advance (n * sectorNs)).sectorMember (n % revSectors) := by
    unfold State.sectorMember
    rfl
  rw [hmember] at ha
  replace hn : n = max (quiet s).wheel.sector (ceilDiv (quiet s).now sectorNs) := hn
  subst hn hfree ha
  have hbody : exec .sectorStart s = execSectorStart s := rfl
  rw [hbody]
  unfold execSectorStart
  rw [runOn_acts halive]
  exact (ite_is_either ..).imp (congrArg fun u => Host.Outcome.next (after s u)) (congrArg fun u => Host.Outcome.next (after s u))

/-- A sector start: its time, the wheel and the mode, with the channels as its service leaves them. -/
theorem exec_sectorStart {s : State} {n : Nat} {free : Bool} (halive : s.alive = true) (hn : n = max s.wheel.sector (ceilDiv s.now sectorNs))
    (hfree : ((quiet s).advance (n * sectorNs)).sectorFree n = free) :
    ∃ t, exec .sectorStart s = .next (after s t) ∧ t.now = max s.now (n * sectorNs) ∧ t.wheel.sector = n + 1 ∧ t.wheel.released = free
      ∧ t.wheel.pool = (if free then min 4096000 (s.wheel.pool + 256000) else s.wheel.pool) ∧ t.ms = s.ms
      ∧ t.chans = (((quiet s).sectorBegun n free).sectorServed n free (s.sectorMember (n % revSectors))).1.chans := by
  obtain ⟨a, ha⟩ : ∃ a, a = ((quiet s).sectorBegun n free).sectorServed n free (s.sectorMember (n % revSectors)) := ⟨_, rfl⟩
  have hcases := exec_sectorStart_cases halive hn hfree ha
  obtain ⟨hnow, hwheel, hms⟩ := ((quiet s).sectorBegun n free).sectorServed_frame n free (s.sectorMember (n % revSectors))
  rw [← ha] at hnow hwheel hms ⊢
  have hsector := congrArg Wheel.sector hwheel
  have hreleased := congrArg Wheel.released hwheel
  have hpool := congrArg Wheel.pool hwheel
  obtain h | h := hcases
  · exact ⟨_, h, hnow, hsector, hreleased, hpool, hms, rfl⟩
  · exact ⟨_, h, hnow, hsector, hreleased, hpool, hms, rfl⟩

/-- A member's own sector that is not released adds to that member's budget. -/
theorem exec_sectorStart_owned {s t : State} {n m : Nat} (hm : m ≠ 0)
    (hchans : t.chans = (((quiet s).sectorBegun n false).sectorServed n false m).1.chans) :
    (t.chan m).budget = min (s.capPs m : Int) ((s.chan m).budget + 256000) := by
  rw [State.chan_of_chans hchans, State.sectorServed_budget _ _ hm]
  rfl

/-- The stop of all tiles ends where its time has come. -/
def State.isolationEnded (s : State) : State :=
  match s.tamper.isolateUntil with
  | some d => if d ≤ s.now then { s with tamper := { s.tamper with isolateUntil := none } } else s
  | none => s

/-- The gates decide the mode, the channels under administration are paused and bus timings settle. -/
def State.gatesTurned (s : State) : State :=
  let u := s.evaluateGates
  ({ u with wheel := { u.wheel with paused := u.underAdmin } }).settleTimings.kickAll

theorem exec_revolutionBoundary {s : State} {r : Nat} (halive : s.alive = true) (hr : r = max s.wheel.revolution (ceilDiv s.now revNs)) :
    exec .revolutionBoundary s = .next (after s (State.settleHomes (State.settleAll (State.applyWaiting (State.settleExchanges (State.settleAll
      { (quiet s).advance (r * revNs) with wheel := { s.wheel with revolution := r + 1 } })))) |>.isolationEnded.gatesTurned)) := by
  replace hr : r = max (quiet s).wheel.revolution (ceilDiv (quiet s).now revNs) := hr
  have hwheel (t : Nat) : s.wheel = ((quiet s).advance t).wheel := rfl
  rw [hwheel (r * revNs)]
  subst hr
  have hbody : exec .revolutionBoundary s = execRevolutionBoundary s := rfl
  rw [hbody]
  unfold execRevolutionBoundary
  rw [runOn_acts halive]
  extract_lets r u v w x
  change _ = Host.Outcome.next (after s (State.gatesTurned x.isolationEnded))
  clear_value x
  rfl

end Sys2Proof.Machine

namespace Sys2Proof.Slice0
open Sys2Proof Sys2Proof.Machine

/-- Settles O34: a sector start moves time and the wheel, and the service of items leaves the mode and every budget as they were. -/
theorem wheelCommandsComplete : Obligations.WheelCommandsComplete := by
  refine ⟨?_, ?_, ?_, ?_, ?_, ?_, ?_⟩
  · intro s n halive hn hfree
    obtain ⟨t, hexec, hnow, hsector, hreleased, hpool, hms, -⟩ := exec_sectorStart halive hn hfree
    exact ⟨_, hexec, hnow, hsector, hreleased, hpool.trans (if_pos rfl), hms⟩
  · intro s n m halive hn hfree hm hne
    obtain ⟨t, hexec, hnow, hsector, hreleased, hpool, hms, hchans⟩ := exec_sectorStart halive hn hfree
    refine ⟨_, hexec, hnow, hsector, hreleased, hpool.trans (if_neg Bool.false_ne_true), ?_, hms⟩
    rw [hm] at hchans
    exact exec_sectorStart_owned hne hchans
  · intro s n halive hn hfree hm
    obtain ⟨t, hexec, hnow, hsector, hreleased, hpool, hms, hchans⟩ := exec_sectorStart halive hn hfree
    rw [hm] at hchans
    exact ⟨_, hexec, hnow, hsector, hreleased, hpool.trans (if_neg Bool.false_ne_true), hchans, hms⟩
  · intro s d halive hdrain hempty
    have hempty' : ((quiet s).bound.all fun c => ((quiet s).chan c).admitted.isEmpty) = true := hempty
    show execRecoverDrainEnd s = _
    unfold execRecoverDrainEnd
    rw [runOn_acts halive]
    simp only [quiet_recov, hdrain, hempty', if_true]
    rfl
  · intro s d halive hdrain hbusy
    have hbusy' : ((quiet s).bound.all fun c => ((quiet s).chan c).admitted.isEmpty) = false := hbusy
    show execRecoverDrainEnd s = _
    unfold execRecoverDrainEnd
    rw [runOn_acts halive]
    simp only [quiet_recov, hdrain, hbusy', Bool.false_eq_true, if_false]
    rfl
  · intro s halive hdrain
    show execRecoverDrainEnd s = _
    unfold execRecoverDrainEnd
    rw [runOn_acts halive]
    simp only [quiet_recov, hdrain]
  · intro s r halive hr
    rw [exec_revolutionBoundary halive hr]
    generalize State.settleHomes _ = u
    rfl

end Sys2Proof.Slice0
end

section
/-!
PROOFS. Mailbox, MCTP, MB2 and I3C commands.
-/
namespace Sys2Proof.Machine
open Sys2Proof Sys2Proof.Slice0

/-! ### Responses and grants -/

theorem State.updMbox_mbox (s : State) (p : Port) (f : Mailbox → Mailbox) : (s.updMbox p f).mbox p = f (s.mbox p) := by
  cases p <;> rfl

theorem State.ackResponse_of_last {s : State} {p : Port} (hvalid : (s.mbox p).rspValid = true) (hgranted : s.granted p = true)
    (hsending : (s.mbox p).sending = none) :
    s.ackResponse p = s.updMbox p fun m => { m with rspValid := false, rspLen := 0, sending := none, fragLimit := none } := by
  unfold State.ackResponse
  simp only [hvalid, hgranted, hsending, Bool.not_true, Bool.or_self, Bool.false_eq_true, if_false]

theorem State.ackResponse_of_more {s : State} {p : Port} {r : Reply} (hvalid : (s.mbox p).rspValid = true) (hgranted : s.granted p = true)
    (hsending : (s.mbox p).sending = some r) (hmore : r.payload ≠ []) :
    s.ackResponse p = (s.updMbox p fun m => { m with rspValid := false, rspLen := 0, sending := none, fragLimit := none }).sendReply p r := by
  have hpayload : r.payload.isEmpty = false := List.isEmpty_eq_false_iff.2 hmore
  unfold State.ackResponse
  simp only [hvalid, hgranted, hsending, hpayload, Bool.not_true, Bool.or_self, Bool.false_eq_true, if_false]

theorem State.raiseSource_mb3 (s : State) (p : Port) (src : Nat) : (s.raiseSource p src).orfer.mb3 = s.orfer.mb3 :=
  (State.raiseSource_changes s p src).apply (·.orfer.mb3)

/-- A request joins the queue where another function holds MB3. -/
theorem State.requestGrant_of_held {s : State} {fn h : Nat} (h1 : 1 ≤ fn) (h127 : fn ≤ 127) (hholder : s.orfer.mb3.holder = some h) (hne : h ≠ fn)
    (hqueue : fn ∉ s.orfer.mb3.queue) :
    s.requestGrant fn = s.updMbox (.mb3 fn) fun m => { m with queue := m.queue ++ [fn] } := by
  have hrefused : ¬ (fn = 0 ∨ 127 < fn ∨ s.orfer.mb3.holder = some fn ∨ s.orfer.mb3.queue.contains fn = true) := by
    simp only [hholder, List.contains_iff_mem, Option.some.injEq, hqueue, hne, or_false]
    omega
  unfold State.requestGrant
  dsimp only
  rw [if_neg hrefused]
  simp only [hholder, Option.isNone_some, Bool.false_eq_true, if_false]

/-- A request is granted at once where no function holds MB3 and none waits. -/
theorem State.requestGrant_of_free {s : State} {fn : Nat} (h1 : 1 ≤ fn) (h127 : fn ≤ 127) (hholder : s.orfer.mb3.holder = none)
    (hqueue : s.orfer.mb3.queue = []) :
    (s.requestGrant fn).orfer.mb3 = { s.orfer.mb3 with queue := [], holder := some fn, grantLimit := some (s.now + 10000000), fragLimit := none } := by
  have hrefused : ¬ (fn = 0 ∨ 127 < fn ∨ s.orfer.mb3.holder = some fn ∨ s.orfer.mb3.queue.contains fn = true) := by
    simp only [hholder, hqueue, List.contains_nil, reduceCtorEq, Bool.false_eq_true, or_false]
    omega
  have hnext (u : State) (h : u.orfer.mb3.queue = [fn]) :
      u.grantNext.orfer.mb3 = { u.orfer.mb3 with queue := [], holder := some fn, grantLimit := some (u.now + 10000000), fragLimit := none } := by
    unfold State.grantNext
    simp only [h]
    exact State.raiseSource_mb3 ..
  unfold State.requestGrant
  dsimp only
  rw [if_neg hrefused]
  simp only [hholder, Option.isNone_none, if_true]
  refine (hnext _ ?_).trans rfl
  show s.orfer.mb3.queue ++ [fn] = [fn]
  rw [hqueue, List.nil_append]

/-- Four bytes are one block of four. -/
theorem blocks_four {bs : Bytes} (h : bs.length = 4) : blocks 4 bs = [bs] := by
  obtain _ | ⟨b, bs⟩ := bs
  · cases h
  unfold blocks
  rw [h]
  simp only [blocksFuel, List.take_of_length_le (Nat.le_of_eq h), List.drop_of_length_le (Nat.le_of_eq h)]

end Sys2Proof.Machine

namespace Sys2Proof.Slice0
open Sys2Proof Sys2Proof.Machine

/-- Settles O35: the rules of the doorbell, the acknowledgement and the grant, at the state that the command finds. -/
theorem transportCommandsComplete : Obligations.TransportCommandsComplete := by
  refine ⟨?_, ?_, ?_, ?_, ?_, ?_, ?_, ?_, ?_, ?_, ?_, ?_, ?_, ?_, ?_, ?_, ?_, ?_, ?_⟩
  · intro s p r rest halive hvalid hformed
    have hvalid' : ((quiet s).mbox p).rspValid = false := hvalid
    have hformed' : ((quiet s).mbox p).formed = r :: rest := hformed
    show execMbResponseReady p s = _
    unfold execMbResponseReady
    rw [runOn_acts halive]
    simp only [hvalid', hformed', Bool.false_eq_true, if_false]
  · intro s p halive hvalid hgranted hsending
    refine ⟨_, (runOn_acts halive fun s => s.ackResponse p).trans (congrArg (fun u => Host.Outcome.next (after s u))
      (State.ackResponse_of_last (s := quiet s) hvalid hgranted hsending)), ?_, ?_, ?_, ?_⟩ <;> cases p <;> rfl
  · intro s p r halive hvalid hgranted hsending hmore
    exact (runOn_acts halive fun s => s.ackResponse p).trans (congrArg (fun u => Host.Outcome.next (after s u))
      (State.ackResponse_of_more (s := quiet s) hvalid hgranted hsending hmore))
  · intro s fn halive h1 h127 hholder hqueue
    have h := State.requestGrant_of_free (s := quiet s) h1 h127 hholder hqueue
    have hexec : exec (.mbGrantRequest fn) s = .next (after s ((quiet s).requestGrant fn)) := runOn_acts halive fun s => s.requestGrant fn
    generalize (quiet s).requestGrant fn = u at h hexec
    exact ⟨_, hexec, congrArg (·.holder) h, congrArg (·.queue) h, congrArg (·.grantLimit) h⟩
  · intro s fn k halive h1 h127 hholder hne hqueue
    exact ⟨_, (runOn_acts halive fun s => s.requestGrant fn).trans (congrArg (fun u => Host.Outcome.next (after s u))
      (State.requestGrant_of_held (s := quiet s) h1 h127 hholder hne hqueue)), hholder, rfl⟩
  · intro s fn halive hholder
    have hholder' : (quiet s).orfer.mb3.holder = some fn := hholder
    show execMbGrantRelease fn s = _
    unfold execMbGrantRelease
    rw [runOn_acts halive, if_pos hholder']
  · intro s d halive hlimit
    show execGrantDoorbellTimeout s = _
    unfold execGrantDoorbellTimeout
    rw [runOn_acts halive]
    simp only [quiet_orfer, hlimit]
  · intro s d halive hlimit
    show execFragmentAckTimeout s = _
    unfold execFragmentAckTimeout
    rw [runOn_acts halive]
    simp only [quiet_orfer, hlimit]
  · intro s p len halive hp hgranted hserved hbusy hvalid hmin hmax
    rw [exec_mbDoorbell s p len halive, State.doorbell_of_ready (s := quiet s) len hp hserved hgranted hbusy hvalid, if_neg (by omega)]
    rfl
  · intro s len halive hshut
    rw [exec_mbDoorbell s .mb0 len halive, State.doorbell_of_shut (s := quiet s) (p := .mb0) len (by decide) (.inr (.inr hshut))]
  · intro s len halive hfacet hbusy hvalid hlen
    have hserved : (quiet s).portServed .mb0 = true := Bool.or_eq_true_iff.2 (.inl hfacet)
    rw [exec_mbDoorbell s .mb0 len halive, State.doorbell_of_ready (s := quiet s) len (by decide) hserved rfl hbusy hvalid, if_pos hlen]
  · intro s p len halive hp hshut
    rw [exec_mbDoorbell s p len halive, State.doorbell_of_shut (s := quiet s) len hp (or_left_comm.1 hshut)]
  · intro s p len halive hp hgranted hserved hbusy hvalid hlen
    rw [exec_mbDoorbell s p len halive, State.doorbell_of_ready (s := quiet s) len hp hserved hgranted hbusy hvalid, if_pos hlen]
  · intro s msg halive htype hmin hmax hserved
    have hserved' : (quiet s).portServed .mb1 = true := hserved
    have hbody : 32 ≤ (msg.drop 5).length ∧ (msg.drop 5).length ≤ 4096 := by
      rw [List.length_drop]
      omega
    show execMb1MctpMessage msg s = _
    unfold execMb1MctpMessage
    rw [runOn_acts halive]
    by_cases hent : beNat (slice 1 4 msg) = Config.enterprise
    · rw [if_pos hent, if_pos ⟨htype, hent, hbody.1, hbody.2, hserved'⟩]
    · rw [if_neg hent, if_neg fun h => hent h.2.1]
  · intro s off len halive hframe hserved
    have hserved' : (quiet s).portServed .mb2 = true := hserved
    have hexec : exec (.mb2Read off len) s = .next (after s ((quiet s).emit (.data (fit len (slice off len ((quiet s).windowBytes .mb2)))))) := by
      show execMb2Read off len s = _
      unfold execMb2Read State.mb2Frame
      rw [runOn_acts halive]
      simp only [quiet_busA, hframe, hserved', if_true]
    exact ⟨_, hexec, rfl, rfl, rfl⟩
  · intro s off data halive hframe hserved hoff hdata
    have hserved' : (quiet s).portServed .mb2 = true := hserved
    show execMb2Write off data s = _
    unfold execMb2Write State.mb2Frame
    rw [runOn_acts halive]
    simp only [quiet_busA, hframe, blocks_four hdata]
    rw [if_pos (by simp [hserved', hoff, hdata])]
    rfl
  · intro s a halive
    exact ⟨_, exec_i3cPrivateWrite_cons s a [] halive, rfl, rfl⟩
  · intro s a b halive hne
    refine ⟨_, exec_i3cPrivateWrite_cons s a [b] halive, rfl, ?_⟩
    have hpointer : min 0x80 a.toNat ≠ 0x1E := by omega
    exact congrArg I3cState.wrIgnored (I3cState.writeByte_of_ne (c := { s.i3c with pointer := min 0x80 a.toNat }) b hpointer)
  · intro s len halive
    exact ⟨_, exec_i3cPrivateRead len halive, rfl, rfl, rfl⟩

end Sys2Proof.Slice0
end

section
/-!
PROOFS. Sessions, queries and notices.
-/
namespace Sys2Proof.Machine
open Sys2Proof Sys2Proof.Slice0

/-! ### What an answer leaves -/

theorem begun_session (s : State) (p : Port) (q : Request) (i : Nat) : (begun s p q).session i = s.session i :=
  congrArg (KeyMap.find · i) (begun_sessions s p q)

theorem begun_window (s : State) (p : Port) (q : Request) (r : Port) : (begun s p q).window r = s.window r := (begun_changes s p q).apply (State.window · r)

theorem begun_inFlight (s : State) (p : Port) (q : Request) : ((begun s p q).mbox p).inFlight = (s.mbox p).inFlight.erase q := by
  cases p <;> rfl

theorem State.updSession_mbox (s : State) (i : Nat) (f : Session → Session) (p : Port) : (s.updSession i f).mbox p = s.mbox p := by
  unfold State.updSession
  split <;> cases p <;> rfl

theorem State.updMbox_inFlight (s : State) (r : Port) {f : Mailbox → Mailbox} (hf : ∀ m, (f m).inFlight = m.inFlight) (p : Port) :
    ((s.updMbox r f).mbox p).inFlight = (s.mbox p).inFlight := by
  cases p with
  | mb0 =>
    cases r with
    | mb0 => exact hf _
    | _ => rfl
  | mb1 =>
    cases r with
    | mb1 => exact hf _
    | _ => rfl
  | mb2 =>
    cases r with
    | mb2 => exact hf _
    | _ => rfl
  | mb3 _ =>
    cases r with
    | mb3 => exact hf _
    | _ => rfl

theorem State.answer_inFlight (s : State) (q : Request) (status : Nat) (payload : Bytes) (p : Port) :
    ((s.answer q status payload).mbox p).inFlight = (s.mbox p).inFlight := by
  unfold State.answer
  extract_lets many r isLast waiting s'
  refine (State.updMbox_inFlight s' q.port (f := fun m => { m with formed := m.formed ++ _ }) (fun _ => rfl) p).trans (congrArg Mailbox.inFlight ?_)
  exact reading_ite (f := fun v : State => v.mbox p) (State.updSession_mbox ..) rfl

/-- An answer changes nothing of a session that has accepted no request yet. -/
theorem State.answer_session {s : State} {i : Nat} {x : Session} (q : Request) (status : Nat) (payload : Bytes) (hx : s.session i = some x)
    (hnew : x.accepted = false) : (s.answer q status payload).session i = some x := by
  have hupd (u : State) (r : Port) (f : Mailbox → Mailbox) : (u.updMbox r f).session i = u.session i :=
    congrArg (KeyMap.find · i) (State.updMbox_sessions u r f)
  unfold State.answer
  refine (hupd _ _ _).trans ?_
  by_cases hsession : q.session = i
  · simp only [hsession, hx, hnew, Bool.false_and, Bool.false_eq_true, if_false]
  · refine reading_ite (f := fun v : State => v.session i) ?_ hx
    unfold State.updSession
    split
    · exact hx
    · exact (KeyMap.find_put_ne _ _ _ _ (Ne.symm hsession)).trans hx

theorem State.updSession_nextSession (s : State) (i : Nat) (f : Session → Session) :
    (s.updSession i f).orfer.nextSession = s.orfer.nextSession := by
  unfold State.updSession
  split <;> rfl

theorem State.answer_nextSession (s : State) (q : Request) (status : Nat) (payload : Bytes) :
    (s.answer q status payload).orfer.nextSession = s.orfer.nextSession := (State.answer_changes s q status payload).apply (·.orfer.nextSession)

/-- The session that SESSION_OPEN opens. -/
def openedSession (s : State) (p : Port) (q : Request) (v : Nat × Nat) (init : Nat) : Session :=
  ⟨p, q.realm, v, (init + 65535) % 65536, BitVec.allOnes 1024, false, none, 0, [], s.now + 120000000000, none, SpdmConn.reset, none⟩

/-- A session joins the table, under the next session number. -/
def State.joinSession (s : State) (x : Session) : State :=
  { s with orfer := { s.orfer with sessions := KeyMap.put s.orfer.sessions s.orfer.nextSession x, nextSession := s.orfer.nextSession + 1 } }

theorem State.joinSession_session (s : State) (x : Session) : (s.joinSession x).session s.orfer.nextSession = some x := KeyMap.find_put_self ..

theorem State.joinSession_mbox (s : State) (x : Session) (p : Port) : (s.joinSession x).mbox p = s.mbox p := by
  cases p <;> rfl

theorem exec_sessionOpen_room {s : State} {p : Port} {q : Request} {n : Nat} {v : Nat × Nat} (hasked : Asked s p 0x0101 q)
    (hn : byteAt q.payload 0 = n) (hpos : 1 ≤ n) (hle : n ≤ 8) (hlen : q.payload.length = 3 + 2 * n)
    (hv : bestVersion (blocks 2 (slice 1 (2 * n) q.payload)) = some v) (hroom : s.sessionRoom p = true) :
    exec (.sessionOpen p) s = .next (after s (((begun s p q).joinSession (openedSession (begun s p q) p q v (field q.payload (1 + 2 * n) 2))).answer q
      ST_OK (u32 (begun s p q).orfer.nextSession ++ u8 v.1 ++ u8 v.2 ++ u16 (field q.payload (1 + 2 * n) 2)))) := by
  subst hn
  have hlength : ¬ (q.payload.isEmpty = true ∨ q.payload.length ≠ 3 + 2 * byteAt q.payload 0) := by
    rw [List.isEmpty_iff, ← List.length_eq_zero_iff]
    omega
  have hcount : ¬ (byteAt q.payload 0 = 0 ∨ 8 < byteAt q.payload 0) := by omega
  rw [exec_sessionOpen, execSessionOpen, runOn_serve_of_asked hasked]
  simp only [if_neg hlength, if_neg hcount, hv, sessionRoom_begun, hroom, Bool.true_eq_false, if_false]
  rfl

end Sys2Proof.Machine

namespace Sys2Proof.Slice0
open Sys2Proof Sys2Proof.Machine

/-- Settles O36: an answer changes nothing of the session that SESSION_OPEN has just opened. -/
theorem sessionCommandsComplete : Obligations.SessionCommandsComplete := by
  refine ⟨?_, ?_, ?_, ?_, ?_, ?_⟩
  · intro s p q n v hasked hn hpos hle hlen hv hroom
    have hexec := exec_sessionOpen_room hasked hn hpos hle hlen hv hroom
    have hjoined := (begun s p q).joinSession_session (openedSession (begun s p q) p q v (field q.payload (1 + 2 * n) 2))
    rw [begun_nextSession] at hjoined
    refine ⟨_, hexec, ⟨_, State.answer_session q ST_OK _ hjoined rfl, rfl, rfl, rfl, ?_, rfl⟩, ?_, ?_⟩
    · exact congrArg (· + 120000000000) (begun_now s p q)
    · exact (State.answer_nextSession ..).trans (congrArg (· + 1) (begun_nextSession s p q))
    · exact (State.answer_inFlight ..).trans ((congrArg Mailbox.inFlight (State.joinSession_mbox ..)).trans (begun_inFlight s p q))
  · intro s p q hasked
    show execSessionClose p s = _
    unfold execSessionClose
    rw [runOn_serve_of_asked hasked]
    rfl
  · intro s p q hasked
    show execIdentityQuery p s = _
    unfold execIdentityQuery
    rw [runOn_serve_of_asked hasked]
    rfl
  · intro s p q hasked
    show execStateQuery p s = _
    unfold execStateQuery noPayload State.modeWord
    rw [runOn_serve_of_asked hasked]
    dsimp only
    rw [begun_ms]
  · intro s p q x hasked hlen hx
    show execNoticeFetch p s = _
    unfold execNoticeFetch
    rw [runOn_serve_of_asked hasked, if_neg (Classical.not_not.2 hlen)]
    simp only [begun_session, begun_window, hx]
  · intro s i x halive hx
    have hx' : (quiet s).session i = some x := hx
    show execSessionTimeout i s = _
    unfold execSessionTimeout
    rw [runOn_acts halive]
    simp only [hx']

end Sys2Proof.Slice0
end

section
/-!
PROOFS. Configuration transactions.
-/
namespace Sys2Proof.Machine
open Sys2Proof Sys2Proof.Slice0

theorem begun_configured (s : State) (p : Port) (q : Request) (f i : Nat) : (begun s p q).cfg f i = s.cfg f i :=
  (begun_changes s p q).apply fun v => v.cfg f i

theorem begun_pairLimitOk (s : State) (p : Port) (q : Request) (m : KeyMap Bytes) : (begun s p q).pairLimitOk m = s.pairLimitOk m :=
  (begun_changes s p q).apply fun v => v.pairLimitOk m

theorem begun_placeOk (s : State) (p : Port) (q : Request) (m : KeyMap Bytes) : (begun s p q).placeOk m = s.placeOk m :=
  (begun_changes s p q).apply fun v => v.placeOk m

theorem begun_valueOk (s : State) (p : Port) (q : Request) (m : KeyMap Bytes) (f i : Nat) : (begun s p q).valueOk m f i = s.valueOk m f i := by
  unfold State.valueOk
  simp only [begun_configured, begun_pairLimitOk, begun_placeOk, begun_realm, begun_pcie]

theorem begun_firstBad (s : State) (p : Port) (q : Request) (m : KeyMap Bytes) : (begun s p q).firstBad m = s.firstBad m := by
  unfold State.firstBad
  rw [begun_cfg, begun_wheel]
  simp only [begun_valueOk]

theorem begun_readField (s : State) (p : Port) (q : Request) (f i : Nat) : (begun s p q).readField f i = s.readField f i :=
  (begun_changes s p q).apply fun v => v.readField f i

theorem begun_waitsBoundary (s : State) (p : Port) (q : Request) (r : Nat) : (begun s p q).waitsBoundary r = s.waitsBoundary r :=
  (begun_changes s p q).apply (State.waitsBoundary · r)

/-- One entry of the requesting realm, well formed, that CFG_SET can set has no fault. -/
theorem entriesStatus_one {realm : Nat} {e : Nat × Nat × Bytes × Bool} (hpad : e.2.2.2 = true) (hset : fieldSettable e.1 e.2.1 = true)
    (hrealm : fieldRealm e.1 e.2.1 = realm) : entriesStatus realm [e] = none := by
  simp only [entriesStatus, List.foldl_cons, List.foldl_nil, hpad, hset, hrealm, Bool.not_true, Bool.false_eq_true, if_false, bne_self_eq_false]

theorem KeyMap.put_nil {α : Type} (n : Nat) (v : α) : KeyMap.put [] n v = [(n, v)] := rfl

end Sys2Proof.Machine

namespace Sys2Proof.Slice0
open Sys2Proof Sys2Proof.Machine

/-- Settles O37: each request is judged on the state that it finds, which differs from the state before in the mailbox alone. -/
theorem configurationCommandsComplete : Obligations.ConfigurationCommandsComplete := by
  refine ⟨?_, ?_, ?_, ?_, ?_, ?_, ?_, ?_, ?_, ?_, ?_, ?_, ?_, ?_⟩
  · intro s p q hasked htxn
    show execCfgBegin p s = _
    unfold execCfgBegin noPayload
    rw [runOn_serve_of_asked hasked]
    simp only [begun_realm, begun_nextTxn, begun_now, htxn, Option.isSome_none, Bool.false_eq_true, if_false]
  · intro s p q hasked hsome hempty
    obtain ⟨y, htxn⟩ := Option.isSome_iff_exists.1 hsome
    exact exec_cfgBegin_busy hasked hempty htxn
  · intro s p q e hasked hlen hid hes hpad hset hrealm hgrouped hclass hgood
    show execCfgSet p s = _
    unfold execCfgSet
    rw [runOn_serve_of_asked hasked]
    have hplain : ([e].any fun e => fieldGrouped e.1 || fieldClass e.1 != 0) = false := by
      simp only [List.any_cons, List.any_nil, hgrouped, hclass, bne_self_eq_false, Bool.or_self]
    have hfits : ([e].findSome? fun e => (begun s p q).firstBad [(cfgKey e.1 e.2.1, e.2.2.1)]) = none := by
      refine List.findSome?_eq_none_iff.2 fun x hx => ?_
      obtain rfl := List.mem_singleton.1 hx
      exact (begun_firstBad ..).trans hgood
    rw [if_neg (Nat.not_lt.2 hlen), hes]
    dsimp only
    rw [if_pos hid, entriesStatus_one hpad hset hrealm]
    dsimp only
    rw [hplain, hfits]
    simp only [Bool.false_eq_true, if_false, List.foldl_cons, List.foldl_nil, KeyMap.put_nil]
  · intro s p q x e hasked hlen hid htxn hopened hes hpad hset hrealm hcount hmax hbytes
    have hfull : ¬ (512 < (KeyMap.put x.entries (cfgKey e.1 e.2.1) e.2.2.1).length
        ∨ 65536 < (KeyMap.put x.entries (cfgKey e.1 e.2.1) e.2.2.1).foldl (fun acc y => acc + y.2.length) 0) :=
      not_or.2 ⟨Nat.not_lt.2 hmax, Nat.not_lt.2 hbytes⟩
    show execCfgSet p s = _
    unfold execCfgSet
    rw [runOn_serve_of_asked hasked]
    rw [if_neg (Nat.not_lt.2 hlen), hes]
    dsimp only
    rw [if_neg hid, begun_txnFor, htxn]
    dsimp only
    rw [if_neg (Classical.not_not.2 hopened), entriesStatus_one hpad hset hrealm]
    exact congrArg (fun u => Host.Outcome.next (after s u)) (if_neg hfull)
  · intro s p q hasked hlen hstaged hexists hrealm
    have hread : q.realm = 0 ∨ fieldRealm (field q.payload 0 4) (field q.payload 4 2) = q.realm
        ∨ (tenantReadable (field q.payload 0 4) = true ∧ field q.payload 4 2 = q.realm) := hrealm.imp_right .inl
    show execCfgGet p s = _
    unfold execCfgGet
    rw [runOn_serve_of_asked hasked]
    simp only [hlen, hexists, hstaged, begun_readField, ne_eq, not_true_eq_false, if_false, Bool.true_eq_false, Nat.not_lt_zero, Nat.zero_ne_one,
      false_and, Option.getD_none, if_neg (Classical.not_not.2 hread)]
  · intro s p q hasked hlen hstaged hexists hrealm hsettable
    show execCfgGet p s = _
    unfold execCfgGet
    rw [runOn_serve_of_asked hasked]
    simp only [hlen, hexists, hstaged, hrealm, hsettable, begun_readField, begun_realm, ne_eq, not_true_eq_false, if_false, Bool.true_eq_false,
      Nat.lt_irrefl, true_or, or_true, true_and, if_true]
  · intro s p q hasked hlen hstaged hexists hrealm hread
    show execCfgGet p s = _
    unfold execCfgGet
    rw [runOn_serve_of_asked hasked]
    have hread' : q.realm = 0 ∨ False ∨ (tenantReadable (field q.payload 0 4) = true ∧ field q.payload 4 2 = q.realm) :=
      hread.imp_right .inr
    simp only [hlen, hexists, hrealm, begun_readField, ne_eq, not_true_eq_false, if_false, Bool.true_eq_false, if_neg (Nat.not_lt.2 hstaged),
      if_neg (Classical.not_not.2 hread'), false_and, and_false, Option.getD_none]
  · intro s p q hasked hlen hstaged hexists hrealm hne hread
    show execCfgGet p s = _
    unfold execCfgGet
    rw [runOn_serve_of_asked hasked]
    have hread' : ¬ (q.realm = 0 ∨ fieldRealm (field q.payload 0 4) (field q.payload 4 2) = q.realm
        ∨ (tenantReadable (field q.payload 0 4) = true ∧ field q.payload 4 2 = q.realm)) := by
      rintro (h | h | ⟨h, h'⟩)
      · exact hne h
      · exact hrealm h
      · exact hread.elim (fun hf => Bool.false_ne_true (hf.symm.trans h)) fun hf => hf h'
    dsimp only
    rw [if_neg (Classical.not_not.2 hlen), if_neg (Nat.not_lt.2 hstaged), if_neg (ne_of_eq_value hexists (by decide)), if_pos hread']
  · intro s p q x hasked hlen htxn hstate htimer hgood hclass
    have hidle : ¬ (x.state = .act ∨ x.state = .boundary) := by
      rcases hstate with h | h <;> simp [h]
    show execCfgCommit p s = _
    unfold execCfgCommit
    rw [runOn_serve_of_asked hasked]
    simp only [hlen, ne_eq, not_true_eq_false, if_false, begun_txnFor, htxn, if_neg hidle, begun_now, htimer, Bool.false_eq_true, begun_firstBad,
      hgood, if_pos hclass]
  · intro s p q x hasked hlen htxn hstate htimer hgood hclass
    have hidle : ¬ (x.state = .act ∨ x.state = .boundary) := by
      rcases hstate with h | h <;> simp [h]
    show execCfgCommit p s = _
    unfold execCfgCommit
    rw [runOn_serve_of_asked hasked]
    simp only [hlen, ne_eq, not_true_eq_false, if_false, begun_txnFor, htxn, if_neg hidle, begun_now, htimer, Bool.false_eq_true, begun_firstBad,
      hgood, if_neg hclass]
  · intro s p q x hasked hlen htxn hwaits
    show execCfgRollback p s = _
    unfold execCfgRollback
    rw [runOn_serve_of_asked hasked]
    simp only [hlen, ne_eq, not_true_eq_false, if_false, begun_txnFor, htxn, begun_waitsBoundary, hwaits, Bool.false_eq_true]
  · intro s p q hasked htxn
    show execCfgStatus p s = _
    unfold execCfgStatus noPayload
    rw [runOn_serve_of_asked hasked]
    simp only [begun_realm, htxn]
  · intro s p q x hasked htxn hempty
    show execCfgStatus p s = _
    unfold execCfgStatus
    rw [runOn_serve_of_asked hasked]
    simp only [noPayload_nil _ q _ hempty, begun_realm, htxn, begun_now] <;> rfl
  · intro s r d x halive htxn htimer
    have htxn' : ((quiet s).realm r).txn = some x := htxn
    show execTxnTimeout r s = _
    unfold execTxnTimeout
    rw [runOn_acts halive]
    simp only [htxn', Option.bind_some, htimer]

end Sys2Proof.Slice0
end

section
/-!
PROOFS. Acts, officers and administrative sessions.
-/
namespace Sys2Proof.Machine
open Sys2Proof Sys2Proof.Slice0

theorem begun_act (s : State) (p : Port) (q : Request) (r i : Nat) : (begun s p q).act r i = s.act r i := by
  unfold State.act
  rw [begun_realm]

theorem begun_pendingAct (s : State) (p : Port) (q : Request) (r : Nat) : (begun s p q).pendingAct r = s.pendingAct r := by
  unfold State.pendingAct
  rw [begun_realm]

theorem begun_signers (s : State) (p : Port) (q : Request) (a : Act) : (begun s p q).signers a = s.signers a :=
  (begun_changes s p q).apply (State.signers · a)

theorem begun_quorum (s : State) (p : Port) (q : Request) (r k : Nat) : (begun s p q).quorum r k = s.quorum r k :=
  (begun_changes s p q).apply fun v => v.quorum r k

/-! ### A request that becomes an act -/

/-- The act that a request becomes. -/
def State.newAct (s : State) (q : Request) (realm cls target : Nat) (encoding : Bytes) (txn : Option Nat) : Act :=
  ⟨s.orfer.nextAct, q.opcode, realm, cls, target, q.session, q.port, q.payload, txn, (s.draw 16).1, sha384 encoding, [], 0, s.now + 300000000000,
    .awaiting, 0⟩

/-- A new act joins its realm's acts under the next ACT_ID. -/
def State.actJoined (s : State) (a : Act) (realm : Nat) : State :=
  let u := { (s.draw 16).2 with orfer := { (s.draw 16).2.orfer with nextAct := s.orfer.nextAct + 1 } }
  let v := u.updRealm realm fun r => { r with
    acts := (a :: r.acts).take 16, admin := r.admin.map fun d => { d with deadline := u.now + 900000000000 } }
  { v with ident := { v.ident with outputs := KeyMap.del v.ident.outputs realm } }

theorem State.makeAct_accepted {s : State} (q : Request) {realm cls : Nat} (target : Nat) {exempt : Bool} (encoding : Bytes) (txn : Option Nat)
    (hopen : ¬ (cls ≠ 0x0C ∧ exempt = false ∧ (s.realm realm).admin.isNone = true)) (hpending : s.pendingAct realm = none) :
    s.makeAct q realm cls target exempt encoding txn id id
      = (s.actJoined (s.newAct q realm cls target encoding txn) realm).answer q ST_ACCEPTED_PENDING
          (u32 s.orfer.nextAct ++ u8 cls ++ zeros 3 ++ (s.draw 16).1 ++ sha384 encoding) := by
  unfold State.makeAct
  rw [if_neg hopen, hpending, if_neg (by decide)]
  rfl

theorem State.actJoined_act (s : State) (a : Act) (realm : Nat) : (s.actJoined a realm).act realm a.id = some a := by
  show ((KeyMap.get (KeyMap.put _ realm _) Realm.reset realm).acts.find? fun x => x.id == a.id) = some a
  rw [KeyMap.get_put_self]
  show ((a :: _).find? fun x => x.id == a.id) = some a
  exact List.find?_cons_of_pos (beq_self_eq_true a.id)

theorem State.actJoined_nextAct (s : State) (a : Act) (realm : Nat) : (s.actJoined a realm).orfer.nextAct = s.orfer.nextAct + 1 := rfl

theorem State.answer_act (s : State) (q : Request) (status : Nat) (payload : Bytes) (r i : Nat) :
    (s.answer q status payload).act r i = s.act r i := by
  unfold State.act
  rw [State.answer_realm]

theorem State.answer_nextAct (s : State) (q : Request) (status : Nat) (payload : Bytes) :
    (s.answer q status payload).orfer.nextAct = s.orfer.nextAct := (State.answer_changes s q status payload).apply (·.orfer.nextAct)

/-- A request that becomes an act: the act is found under the next ACT_ID, which rises by 1. -/
theorem begun_makeAct {s : State} {p : Port} {q : Request} {realm cls target : Nat} {exempt : Bool} {encoding : Bytes} {txn : Option Nat}
    (hopen : cls = 0x0C ∨ exempt = true ∨ (s.realm realm).admin.isSome = true) (hpending : s.pendingAct realm = none) :
    ((begun s p q).makeAct q realm cls target exempt encoding txn id id).act realm s.orfer.nextAct
        = some ((begun s p q).newAct q realm cls target encoding txn)
      ∧ ((begun s p q).makeAct q realm cls target exempt encoding txn id id).orfer.nextAct = s.orfer.nextAct + 1 := by
  have hopen' : ¬ (cls ≠ 0x0C ∧ exempt = false ∧ ((begun s p q).realm realm).admin.isNone = true) := by
    rintro ⟨hcls, hexempt, hnone⟩
    rw [begun_realm] at hnone
    rcases hopen with h | h | h
    · exact hcls h
    · exact Bool.false_ne_true (hexempt.symm.trans h)
    · exact Option.not_isSome_iff_eq_none.2 (Option.isNone_iff_eq_none.1 hnone) h
  have hpending' : (begun s p q).pendingAct realm = none := (begun_pendingAct ..).trans hpending
  have hid : s.orfer.nextAct = ((begun s p q).newAct q realm cls target encoding txn).id := (begun_nextAct s p q).symm
  rw [State.makeAct_accepted q target encoding txn hopen' hpending']
  constructor
  · rw [hid]
    exact (State.answer_act ..).trans (State.actJoined_act ..)
  · exact (State.answer_nextAct ..).trans (congrArg (· + 1) (begun_nextAct s p q))

/-- A request that becomes an act of its own realm, within an administrative session. -/
theorem begun_request {s : State} {p : Port} {q : Request} (cls : Nat) (hadmin : (s.realm q.realm).admin.isSome = true)
    (hpending : s.pendingAct q.realm = none) :
    ((begun s p q).request q cls).act q.realm s.orfer.nextAct = some ((begun s p q).newAct q q.realm cls q.realm q.payload none)
      ∧ ((begun s p q).request q cls).orfer.nextAct = s.orfer.nextAct + 1 :=
  begun_makeAct (.inr (.inr hadmin)) hpending

theorem exec_adminOpen_free {s : State} {p : Port} {q : Request} (hasked : Asked s p 0x0301 q) (hlen : q.payload.length = 32)
    (hadmin : (s.realm q.realm).admin = none) : exec (.adminOpen p) s = .next (after s ((begun s p q).requestFree q 0x0B)) := by
  show execAdminOpen p s = _
  unfold execAdminOpen
  rw [runOn_serve_of_asked hasked]
  simp only [hlen, ne_eq, not_true_eq_false, if_false, begun_realm, hadmin, Option.isSome_none, Bool.false_eq_true]

end Sys2Proof.Machine

namespace Sys2Proof.Slice0
open Sys2Proof Sys2Proof.Machine

/-- Settles O38: the act that a request becomes is the first of its realm. -/
theorem actCommandsComplete : Obligations.ActCommandsComplete := by
  refine ⟨?_, ?_, ?_, ?_, ?_, ?_, ?_, ?_, ?_, ?_, ?_, ?_, ?_, ?_, ?_, ?_, ?_⟩
  · intro s p q hasked hlen hadmin
    exact exec_adminOpen_free hasked hlen hadmin
  · intro s p q hasked hlen hadmin hpending
    obtain ⟨hact, hnext⟩ := begun_makeAct (p := p) (q := q) (cls := 0x0B) (target := q.realm) (encoding := q.payload) (txn := none) (.inr (.inl rfl))
      hpending
    exact ⟨_, exec_adminOpen_free hasked hlen hadmin, ⟨_, hact, rfl, rfl, rfl, congrArg (· + 300000000000) (begun_now s p q), rfl⟩, hnext⟩
  · intro s p q hasked hlen hadmin
    show execAdminOpen p s = _
    unfold execAdminOpen
    rw [runOn_serve_of_asked hasked]
    simp only [hlen, ne_eq, not_true_eq_false, if_false, begun_realm, hadmin, if_true]
  · intro s p q a hasked hadmin hempty
    show execAdminClose p s = _
    unfold execAdminClose
    rw [runOn_serve_of_asked hasked]
    simp only [noPayload_nil _ q _ hempty, begun_realm, hadmin]
  · intro s p q a hasked hlen hact hstate
    show execOfficerSign p s = _
    unfold execOfficerSign
    rw [runOn_serve_of_asked hasked]
    simp only [if_neg (Nat.not_lt.2 hlen), begun_act, hact, hstate, reduceCtorEq, or_self, if_false]
  · intro s p q a hasked hlen hact hstate
    show execActStatus p s = _
    unfold execActStatus
    rw [runOn_serve_of_asked hasked]
    simp only [hlen, ne_eq, not_true_eq_false, if_false, begun_act, hact, hstate, begun_signers]
    rfl
  · intro s p q a hasked hlen hact hstate
    show execActStatus p s = _
    unfold execActStatus
    rw [runOn_serve_of_asked hasked]
    simp only [hlen, ne_eq, not_true_eq_false, if_false, begun_act, hact, hstate, begun_signers]
    rfl
  · intro s p q a hasked hlen hact hstate
    show execActStatus p s = _
    unfold execActStatus
    rw [runOn_serve_of_asked hasked]
    rcases hstate with hstate | hstate <;>
    · simp only [hlen, ne_eq, not_true_eq_false, if_false, begun_act, hact, hstate, begun_signers]
      rfl
  · intro s p q hasked hlen hact
    show execActStatus p s = _
    unfold execActStatus
    rw [runOn_serve_of_asked hasked]
    simp only [hlen, ne_eq, not_true_eq_false, if_false, begun_act, hact]
  · intro s p q a hasked hlen hact hstate
    show execActCancel p s = _
    unfold execActCancel
    rw [runOn_serve_of_asked hasked]
    simp only [hlen, ne_eq, not_true_eq_false, if_false, begun_act, hact, hstate, begun_now]
  · intro s p q m hasked hm hne hfirst hok
    have hlength : ¬ (m.isEmpty = true ∨ (¬ True ∧ q.payload.length ≠ 3 + officerKeyLen (byteAt q.payload 2))) := by
      simpa using hne
    have hnew : (m.any fun o => (KeyMap.find ([] : KeyMap Officer) o.1).isSome) = false := by
      simp
    show execOfficerEnrol p s = _
    unfold execOfficerEnrol
    rw [runOn_serve_of_asked hasked]
    simp only [hm, begun_realm, hfirst, List.isEmpty_nil, if_true, if_neg hlength, hok, hnew, Bool.true_eq_false, Bool.false_eq_true, or_self, if_false]
  · intro s p q hasked hlen hfound hquorum
    show execOfficerRemove p s = _
    unfold execOfficerRemove
    rw [runOn_serve_of_asked hasked]
    have hleft : ¬ ((KeyMap.find (s.realm q.realm).roster (byteAt q.payload 0)).isNone = true ∨ ([0x0A, 0x0B, 0x0C].any fun k =>
        decide (({ s.realm q.realm with roster := KeyMap.del (s.realm q.realm).roster (byteAt q.payload 0) } : Realm).count k < s.quorum q.realm k))
          = true) := by
      refine not_or.2 ⟨by rw [Option.isNone_iff_eq_none, ← Option.not_isSome_iff_eq_none, Classical.not_not]; exact hfound, ?_⟩
      simp only [List.any_eq_true, decide_eq_true_eq, not_exists, not_and, Nat.not_lt]
      exact hquorum
    simp only [hlen, ne_eq, not_true_eq_false, if_false, begun_realm, begun_quorum]
    rw [if_neg hleft]
  · intro s p q hasked
    show execOfficerList p s = _
    unfold execOfficerList
    rw [runOn_serve_of_asked hasked]
    rfl
  · intro s r a halive hpending hstate
    have hpending' : (quiet s).pendingAct r = some a := hpending
    show execQuorumTimeout r s = _
    unfold execQuorumTimeout
    rw [runOn_acts halive]
    simp only [hpending', if_pos hstate]
  · intro s r a halive hadmin
    have hadmin' : ((quiet s).realm r).admin = some a := hadmin
    show execAdminSessionTimeout r s = _
    unfold execAdminSessionTimeout
    rw [runOn_acts halive]
    simp only [hadmin']
  · intro s r o halive houtput
    have hexec : exec (.actOutputExpire r) s = .next (after s
        { (quiet s).advance o.2.2 with ident := { s.ident with outputs := KeyMap.del s.ident.outputs r } }) := by
      show execActOutputExpire r s = _
      unfold execActOutputExpire
      rw [runOn_acts halive]
      simp only [quiet_ident, houtput]
      rfl
    exact ⟨_, hexec, KeyMap.find_del_self .., rfl⟩
  · intro s j q rest halive hsigning hrequest
    show execApexSignatureComplete s = _
    unfold execApexSignatureComplete
    rw [runOn_acts halive]
    simp only [quiet_ident, quiet_cipher, hsigning, hrequest]
    rfl

end Sys2Proof.Slice0
end

section
/-!
PROOFS. Vault and key commands.
-/
namespace Sys2Proof.Machine
open Sys2Proof Sys2Proof.Slice0

theorem begun_vaultStatus (s : State) (p : Port) (q : Request) (c : Nat) : (begun s p q).vaultStatus c = s.vaultStatus c :=
  (begun_changes s p q).apply (State.vaultStatus · c)

theorem begun_stageCheck (s : State) (p : Port) (q : Request) (b : Bytes) : (begun s p q).stageCheck b = s.stageCheck b :=
  (begun_changes s p q).apply (State.stageCheck · b)

theorem begun_rootCheck (s : State) (p : Port) (q : Request) (op c i : Nat) : (begun s p q).rootCheck op c i = s.rootCheck op c i :=
  (begun_changes s p q).apply fun v => v.rootCheck op c i

/-- A root command that passes its checks becomes a class A act. -/
theorem begun_rootAct {s : State} (p : Port) {q : Request} (hlen : q.payload.length = 2) (hrealm : rootRealmOk q.realm (byteAt q.payload 0) q.opcode = true)
    (hslot : byteAt q.payload 1 ≤ 3) (hcheck : s.rootCheck q.opcode (byteAt q.payload 0) (byteAt q.payload 1) = ST_OK) :
    (begun s p q).rootAct q = (begun s p q).request q 0x0A := by
  unfold State.rootAct
  simp only [hlen, hrealm, if_neg (Nat.not_lt.2 hslot), begun_rootCheck, hcheck, ne_eq, not_true_eq_false, if_false]

theorem slice_take (bs : Bytes) {off n k : Nat} (h : off + n ≤ k) : slice off n (bs.take k) = slice off n bs := by
  unfold slice
  rw [List.drop_take, List.take_take, Nat.min_eq_left (by omega)]

/-- A write of one word reaches one register. -/
theorem State.writeAt_word (who : Master) {a : Nat} {d : Bytes} (s : State) (ha : a % 4 = 0) (hd : d.length = 4) :
    State.writeAt who d.length a d s = s.regWrite who a (leNat d) := by
  obtain _ | ⟨b, rest⟩ := d
  · cases hd
  have hrest : rest.length = 3 := Nat.succ.inj hd
  rw [hd]
  unfold State.writeAt
  rw [if_pos ⟨ha, Nat.le_of_eq hd.symm⟩, List.drop_of_length_le (Nat.le_of_eq hrest), List.take_of_length_le (Nat.le_of_eq hrest)]
  rfl

/-- A write of one byte reaches that byte. -/
theorem State.writeAt_byte (who : Master) (a : Nat) {d : Bytes} (s : State) (hd : d.length = 1) :
    State.writeAt who d.length a d s = s.byteWrite who a (d.headD 0) := by
  obtain ⟨b, rfl⟩ := List.length_eq_one_iff.1 hd
  show State.writeAt who 1 a [b] s = _
  unfold State.writeAt
  rw [if_neg fun h => absurd h.2 (by simp)]
  rfl

end Sys2Proof.Machine

namespace Sys2Proof.Slice0
open Sys2Proof Sys2Proof.Machine

/-- Settles O39: the checks of each command read the vault, which a request in flight has no part in. -/
theorem vaultCommandsComplete : Obligations.VaultCommandsComplete := by
  refine ⟨?_, ?_, ?_, ?_, ?_, ?_, ?_, ?_, ?_, ?_, ?_, ?_, ?_, ?_⟩
  · intro s p q hasked hlen hrealm
    have hforeign : ¬ (q.realm ≠ 0 ∧ q.realm ≠ byteAt q.payload 0) := fun ⟨hother, hown⟩ => hrealm.elim hother hown
    show execVaultStatus p s = _
    unfold execVaultStatus
    rw [runOn_serve_of_asked hasked, if_neg (Classical.not_not.2 hlen), if_neg hforeign, begun_vaultStatus]
  · intro s p q hasked hadmin
    have hopen : (s.realm q.realm).admin.isNone = false := Option.isNone_eq_false_iff.2 hadmin
    show execKeyTransportOpen p s = _
    unfold execKeyTransportOpen noPayload
    rw [runOn_serve_of_asked hasked]
    simp only [begun_realm, hopen, Bool.false_eq_true, if_false]
  · intro s p q hasked hadmin hempty
    show execKeyTransportOpen p s = _
    unfold execKeyTransportOpen
    rw [runOn_serve_of_asked hasked]
    simp only [noPayload_nil _ q _ hempty, begun_realm, hadmin, Option.isNone_none, if_true]
  · intro s p q hasked hlen hrealm hslot halg hcomps hcheck
    have hshort : ¬ q.payload.length < 18 := by omega
    show execRootStage p s = _
    unfold execRootStage
    rw [runOn_serve_of_asked hasked]
    simp only [if_neg hshort, hrealm, if_neg (Nat.not_lt.2 hslot), halg, if_neg (Classical.not_not.2 hcomps), if_neg (Classical.not_not.2 hlen), begun_stageCheck, hcheck,
      ne_eq, not_true_eq_false, if_false]
  · intro s p q hasked hlen hrealm hslot hcheck
    exact (runOn_serve_of_asked hasked State.rootAct).trans (congrArg (fun u => Host.Outcome.next (after s u)) (begun_rootAct p hlen hrealm hslot hcheck))
  · intro s p q hasked hlen hrealm hslot hcheck
    exact (runOn_serve_of_asked hasked State.rootAct).trans (congrArg (fun u => Host.Outcome.next (after s u)) (begun_rootAct p hlen hrealm hslot hcheck))
  · intro s p q hasked hlen hrealm hslot hcheck
    exact (runOn_serve_of_asked hasked State.rootAct).trans (congrArg (fun u => Host.Outcome.next (after s u)) (begun_rootAct p hlen hrealm hslot hcheck))
  · intro s p q hasked hlen hrealm hslot hcheck
    exact (runOn_serve_of_asked hasked State.rootAct).trans (congrArg (fun u => Host.Outcome.next (after s u)) (begun_rootAct p hlen hrealm hslot hcheck))
  · intro s p q hasked hlen hstage htotal
    have hblob : (q.payload.take (q.payload.length - 16)).length = q.payload.length - 16 := by
      rw [List.length_take]
      omega
    show execKeyAttest p s = _
    unfold execKeyAttest
    rw [runOn_serve_of_asked hasked]
    simp only [if_neg (Nat.not_lt.2 hlen), hstage, htotal, Bool.true_eq_false, if_false, ne_eq, not_true_eq_false]
    rw [hblob, slice_take _ (by omega)] <;> rfl
  · intro s p q hasked hlen hrealm
    have hforeign : ¬ (q.realm ≠ 0 ∧ q.realm ≠ byteAt q.payload 0) := fun ⟨hother, hown⟩ => hrealm.elim hother hown
    show execCacheFlush p s = _
    unfold execCacheFlush
    rw [runOn_serve_of_asked hasked, if_neg (Classical.not_not.2 hlen), if_neg hforeign]
  · intro s p q hasked hlen hparams halg hbits hmaterial
    have hshape : ¬ (cAlg (q.payload.drop 2) ≠ 0x111 ∨ cBits (q.payload.drop 2) ≠ field q.payload 0 2
        ∨ (materialLen 2 0x111 (field q.payload 0 2)).isNone = true) := by
      rw [Option.isNone_eq_false_iff.2 hmaterial]
      rintro (hother | hother | hnone)
      · exact hother halg
      · exact hother hbits
      · exact Bool.false_ne_true hnone
    show execKeyGenerateRsa p s = _
    unfold execKeyGenerateRsa
    rw [runOn_serve_of_asked hasked]
    simp only [hlen, hparams, ne_eq, not_true_eq_false, if_false]
    rw [if_neg hshape] <;> rfl
  · intro s p q hasked hlen hparams hslot
    show execPeerKeyLoad p s = _
    unfold execPeerKeyLoad
    rw [runOn_serve_of_asked hasked]
    simp only [if_neg (Nat.not_le.2 hlen), hparams, hslot, ne_eq, not_true_eq_false, if_false, false_or]
  · intro s who a d halive ha hd
    exact (runOn_acts halive fun s => State.writeAt who d.length a d s).trans
      (congrArg (fun u => Host.Outcome.next (after s u)) (State.writeAt_word who (quiet s) ha hd))
  · intro s who a d halive _ hd
    exact (runOn_acts halive fun s => State.writeAt who d.length a d s).trans
      (congrArg (fun u => Host.Outcome.next (after s u)) (State.writeAt_byte who a (quiet s) hd))

end Sys2Proof.Slice0
end

section
/-!
PROOFS. Host frames on a protected bus.
-/
namespace Sys2Proof.Machine
open Sys2Proof Sys2Proof.Slice0

/-! ### Bus records -/

theorem State.updBus_bus (s : State) (b : Nat) (f : Bus → Bus) : (s.updBus b f).bus b = f (s.bus b) := by
  unfold State.updBus State.bus
  split <;> rfl

theorem State.settleTiming_bus (s : State) (b : Nat) : ∃ timing, (s.settleTiming b).bus b = { s.bus b with timing := timing } := by
  unfold State.settleTiming
  split
  · exact ⟨_, State.updBus_bus ..⟩
  · exact ⟨_, rfl⟩

theorem Bus.updShadow_denied (x : Bus) (cs : Nat) (f : Shadow → Shadow) : (x.updShadow cs f).denied = x.denied := by
  unfold Bus.updShadow
  split <;> rfl

/-- A frame that ends leaves no frame, and the count of denials as it was. -/
theorem State.endFrame_bus (s : State) (b cs : Nat) (armed : Bool) :
    ((s.endFrame b cs armed).bus b).frame = none ∧ ((s.endFrame b cs armed).bus b).denied = (s.bus b).denied := by
  unfold State.endFrame State.updShadow
  obtain ⟨timing, h⟩ := State.settleTiming_bus ((s.updBus b fun x => x.updShadow cs fun h => { h with resetEnabled := armed }).updBus b
    fun x => { x with frame := none }) b
  rw [h, State.updBus_bus, State.updBus_bus]
  exact ⟨rfl, Bus.updShadow_denied ..⟩

theorem State.endFrame_outbox (s : State) (b cs : Nat) (armed : Bool) : (s.endFrame b cs armed).outbox = s.outbox :=
  (State.endFrame_changes s b cs armed).apply (·.outbox)

theorem State.endFrame_orfer (s : State) (b cs : Nat) (armed : Bool) : (s.endFrame b cs armed).orfer = s.orfer :=
  (State.endFrame_changes s b cs armed).apply (·.orfer)

/-! ### Frames -/

/-- A frame of one of a command's classes on an open bus is judged and ends. -/
theorem hostFrame_of_framed {s : State} {b op : Nat} {x : Frame} {classes : List Nat} (act : State → Frame → Nat → State × Bool) (hframed : Framed s b x)
    (hclass : classes.contains (x.opClass b op) = true) :
    hostFrame b op classes act s = .next (after s ((act (quiet s) x (x.opClass b op)).1.endFrame b x.cs (act (quiet s) x (x.opClass b op)).2)) := by
  obtain ⟨halive, hb, hframe, hopened⟩ := hframed
  have hframe' : ((quiet s).bus b).frame = some x := hframe
  have hclass' : ¬ (2 ≤ b ∨ ¬ classes.contains (x.opClass b op) = true) := by
    rintro (h | h)
    · omega
    · exact h hclass
  unfold hostFrame
  rw [runOn_acts halive]
  simp only [hframe', if_neg hclass', hopened, if_true]

theorem State.readOr_of_permitted {s : State} {x : Frame} {b op : Nat} (f : HostFrame) (ok : State → State) (h : x.opPermits b op s.modeSet = true) :
    s.readOr x b op f ok = (ok s, false) := if_pos h

/-- A frame that only sends messages: they are the output, the frame ends and the mailboxes stay as they were. -/
theorem hostFrame_sends {s u : State} {b op : Nat} {x : Frame} {classes : List Nat} {act : State → Frame → Nat → State × Bool} {armed : Bool}
    {ms : List OutMsg} (hframed : Framed s b x) (hclass : classes.contains (x.opClass b op) = true)
    (hact : act (quiet s) x (x.opClass b op) = (u, armed)) (hu : u = { s with outbox := ms }) :
    ∃ t, hostFrame b op classes act s = .next t ∧ t.outbox = ms ∧ (t.bus b).frame = none ∧ (t.bus b).denied = (s.bus b).denied ∧ t.orfer = s.orfer := by
  subst hu
  have hexec := hostFrame_of_framed act hframed hclass
  rw [hact] at hexec
  obtain ⟨hframe, hdenied⟩ := State.endFrame_bus { s with outbox := ms } b x.cs armed
  exact ⟨_, hexec, State.endFrame_outbox .., hframe, hdenied, State.endFrame_orfer ..⟩

/-- A read that the tables let through is passed to the flash, and bytes without R read 0xFF. -/
theorem hostFrame_readFlash {s : State} {b op : Nat} {f : HostFrame} {x : Frame} {k : Nat} {classes : List Nat} (hframed : Framed s b x)
    (hclass : classes.contains (x.opClass b op) = true) (hpermits : x.opPermits b op s.modeSet = true) (hwip : x.wip = false)
    (hlen : s.addrLen x b (x.opClass b op) ≤ f.sent.length) (hcommand : (s.bus b).readCommand x.cs (x.opClass b op % 8) = some k) :
    ∃ t, hostFrame b op classes (State.readFlash b op f) s = .next t
      ∧ t.outbox = [.flash b x.cs k (readAddr s b op f x % 2 ^ 32) [],
          .data (f.data.zipIdx.map fun d => if s.mayTouch x b 0 (readAddr s b op f x + d.2) then d.1 else 0xFF#8)]
      ∧ (t.bus b).frame = none ∧ (t.bus b).denied = (s.bus b).denied ∧ t.orfer = s.orfer := by
  have hcommand' : ((quiet s).bus b).readCommand x.cs (x.opClass b op % 8) = some k := hcommand
  have hlen' : ¬ f.sent.length < (quiet s).addrLen x b (x.opClass b op) := Nat.not_lt.2 hlen
  refine hostFrame_sends hframed hclass ((State.readOr_of_permitted (s := quiet s) f _ hpermits).trans (Prod.ext rfl rfl)) ?_
  simp only [if_neg hlen', hwip, Bool.false_eq_true, if_false, hcommand']
  rfl

/-- A status read gives the shadow register of its class. -/
theorem hostFrame_readStatus {s : State} {b op : Nat} {f : HostFrame} {x : Frame} {cls : Nat} (hframed : Framed s b x) (hclass : x.opClass b op = cls)
    (hpermits : x.opPermits b op s.modeSet = true) :
    ∃ t, hostFrame b op [cls] (State.readStatus b op f) s = .next t
      ∧ t.outbox = [.data (List.replicate f.data.length (BitVec.ofNat 8 (if cls % 16 = 0 then ((s.bus b).shadow x.cs).sr1Byte
          else if cls % 16 = 1 then ((s.bus b).shadow x.cs).sr2 else ((s.bus b).shadow x.cs).flags)))]
      ∧ (t.bus b).frame = none ∧ (t.bus b).denied = (s.bus b).denied ∧ t.orfer = s.orfer := by
  subst hclass
  exact hostFrame_sends hframed (List.contains_iff_mem.2 (List.mem_singleton_self _))
    ((State.readOr_of_permitted (s := quiet s) f _ hpermits).trans (Prod.ext rfl rfl)) rfl

end Sys2Proof.Machine

namespace Sys2Proof.Slice0
open Sys2Proof Sys2Proof.Machine

/-- Settles O40: a frame of its class on an open bus sends what the tables let through, and ends. -/
theorem flashReadFramesComplete : Obligations.FlashReadFramesComplete := by
  refine ⟨?_, ?_, ?_, ?_, ?_, ?_, ?_, ?_, ?_, ?_, ?_, ?_, ?_, ?_, ?_, ?_⟩
  · intro s b cs halive hb hcs hframe
    have hframe' : b < 2 ∧ cs < 2 ∧ ((quiet s).bus b).frame.isNone = true := ⟨hb, hcs, Option.isNone_iff_eq_none.2 hframe⟩
    show execHostCsFall b cs s = _
    unfold execHostCsFall
    rw [runOn_acts halive, if_pos hframe']
    rfl
  · intro s b cs halive h
    have hframe' : ¬ (b < 2 ∧ cs < 2 ∧ ((quiet s).bus b).frame.isNone = true) := by
      rintro ⟨hb, hcs, hframe⟩
      rcases h with h | h | h
      · omega
      · omega
      · exact Option.not_isSome_iff_eq_none.2 (Option.isNone_iff_eq_none.1 hframe) h
    show execHostCsFall b cs s = _
    unfold execHostCsFall
    rw [runOn_acts halive, if_neg hframe']
  · intro s b op f x k hframed hclass
    exact hostFrame_readFlash hframed (List.contains_iff_mem.2 (by simp [hclass]))
  · intro s b op f x k hframed hclass
    exact hostFrame_readFlash hframed (List.contains_iff_mem.2 (by simp [hclass]))
  · intro s b op f x k hframed hclass
    exact hostFrame_readFlash hframed (List.contains_iff_mem.2 (by simpa using hclass))
  · intro s b op f x k hframed hclass
    exact hostFrame_readFlash hframed (List.contains_iff_mem.2 (by simpa using hclass))
  · intro s b op f x k hframed hclass
    exact hostFrame_readFlash hframed (List.contains_iff_mem.2 (by simpa using hclass))
  · intro s b op f x k hframed hclass
    exact hostFrame_readFlash hframed (List.contains_iff_mem.2 (by simpa using hclass))
  · intro s b op f x k hframed hclass
    exact hostFrame_readFlash hframed (List.contains_iff_mem.2 (by simpa using hclass))
  · intro s b op f x hframed hclass hpermits hwip hquad
    have hpass : ¬ (x.wip || !((quiet s).bus b).quad) = true := by
      rw [hwip, show ((quiet s).bus b).quad = true from hquad]
      decide
    obtain ⟨t, hexec, hout, hframe, -, horfer⟩ := hostFrame_sends (op := op) (classes := [0x20]) (act := State.readId b op f)
      (ms := [.flash b x.cs 0x9F 0 [], .data f.data]) hframed (List.contains_iff_mem.2 (by simp [hclass]))
      ((State.readOr_of_permitted (s := quiet s) f _ hpermits).trans (Prod.ext (if_neg hpass) rfl)) rfl
    exact ⟨t, hexec, hout, hframe, horfer⟩
  · intro s b op f x hframed hclass hpermits h
    have hshut : (x.wip || !((quiet s).bus b).quad) = true := by
      rcases h with h | h
      · rw [h, Bool.true_or]
      · rw [show ((quiet s).bus b).quad = false from h, Bool.not_false, Bool.or_true]
    obtain ⟨t, hexec, hout, hframe, -, horfer⟩ := hostFrame_sends (op := op) (classes := [0x20]) (act := State.readId b op f)
      (ms := [.data (ones f.data.length)]) hframed (List.contains_iff_mem.2 (by simp [hclass]))
      ((State.readOr_of_permitted (s := quiet s) f _ hpermits).trans (Prod.ext (if_pos hshut) rfl)) rfl
    exact ⟨t, hexec, hout, hframe, horfer⟩
  · intro s b op f x hframed hclass hpermits hlen
    obtain ⟨t, hexec, hout, hframe, -, horfer⟩ := hostFrame_sends (op := op) (classes := [0x30]) (act := State.readSfdp b op f)
      hframed (List.contains_iff_mem.2 (by simp [hclass]))
      ((State.readOr_of_permitted (s := quiet s) f _ hpermits).trans (Prod.ext (if_neg (Nat.not_lt.2 hlen)) rfl)) rfl
    exact ⟨t, hexec, hout, hframe, horfer⟩
  · intro s b op f x hframed hclass hpermits
    obtain ⟨t, hexec, hout, hframe, -, horfer⟩ := hostFrame_readStatus (f := f) hframed hclass hpermits
    exact ⟨t, hexec, hout, hframe, horfer⟩
  · intro s b op f x hframed hclass hpermits
    obtain ⟨t, hexec, hout, hframe, -, horfer⟩ := hostFrame_readStatus (f := f) hframed hclass hpermits
    exact ⟨t, hexec, hout, hframe, horfer⟩
  · intro s b op f x hframed hclass hpermits
    obtain ⟨t, hexec, hout, hframe, -, horfer⟩ := hostFrame_readStatus (f := f) hframed hclass hpermits
    exact ⟨t, hexec, hout, hframe, horfer⟩
  · intro s b op f x hframed hclass
    show execDeniedOpcodeFrame b op f s = _
    unfold execDeniedOpcodeFrame
    rw [hostFrame_of_framed (op := op) _ hframed (List.contains_iff_mem.2 (by simp [hclass])), hclass]

end Sys2Proof.Slice0
end

section
/-!
PROOFS. A frame that a ZEROISE has reached.
-/
namespace Sys2Proof.Machine
open Sys2Proof Sys2Proof.Slice0

/-- A frame on chip select 0 of an open bus, begun under the reset tables, during which a ZEROISE has come. -/
def zeroisedFrame : Frame := ⟨0, false, true, [], true⟩

/-- A device in SERVE with that frame on bus A. -/
def zeroisedFrameState : State := { State.reset with
  ms := { State.reset.ms with mode := .serve, base := .serve }
  boot := { BootState.reset with step := 0, apex := true, facet := true }
  busA := { State.reset.busA with opened := true, flashUp := true, frame := some zeroisedFrame } }

/-- WRITE ENABLE, whole. -/
def writeEnable : HostFrame := ⟨[], true, []⟩

/-- WEL of chip select 0 on bus A, after an outcome. -/
def welReached : Host.Outcome State Fault Refusal → Option Bool
  | .next t => some ((t.bus 0).shadow 0).wel
  | _ => none

theorem welReached_spiWriteEnable : welReached (exec (.spiWriteEnable 0 0x06 writeEnable) zeroisedFrameState) = some false := by decide +kernel

end Sys2Proof.Machine

namespace Sys2Proof.Slice0
open Sys2Proof Sys2Proof.Machine

/-- Refutes O41: a frame that a ZEROISE has reached is discarded, in any mode, so WRITE ENABLE leaves WEL 0; the statement leaves out only frames in
QUARANTINE. -/
theorem not_flashWriteFramesComplete : ¬ Obligations.FlashWriteFramesComplete := by
  rintro ⟨henable, -⟩
  obtain ⟨t, ht, hwel, -⟩ := henable zeroisedFrameState 0 0x06 writeEnable zeroisedFrame (by decide +kernel) rfl (by decide +kernel) rfl
    (by decide +kernel) (by decide) (by decide +kernel)
  have h := welReached_spiWriteEnable
  rw [ht] at h
  exact absurd (h.symm.trans (congrArg some hwel)) (by decide)

end Sys2Proof.Slice0
end

section
/-!
PROOFS. Events of the flash sides and of the device's own flash.
-/
namespace Sys2Proof.Machine
open Sys2Proof Sys2Proof.Slice0

/-! ### Flash sides that come up -/

/-- A flash side that has been started, with what its flashes reported. -/
def State.flashStarted (s : State) (b : Nat) (octal up : Bool) (flashes : List (Nat × Option Bytes)) : State :=
  (s.startFlash b octal flashes).updBus b fun x => { x with
    flashUp := up
    sfdp := (flashes.filterMap fun p => p.2.map fun b => (p.1, b)).map fun p => (p.1, fit 512 p.2)
    density := (flashes.filterMap fun p => p.2.map fun b => (p.1, b)).map fun p => (p.1, sfdpDensity p.2) }

/-- Whether a flash side comes up: in octal DDR only where every flash that answers describes it. -/
def flashAnswers (timing : Bytes) (sfdp0 sfdp1 : Option Bytes) (octal : Bool) : Bool :=
  byteAt timing 0 != 2 || (octal && !([sfdp0, sfdp1].filterMap id).isEmpty && ([sfdp0, sfdp1].filterMap id).all Config.sfdpOctal)

theorem State.flashStarted_verifying (s : State) (b : Nat) (octal up : Bool) (flashes : List (Nat × Option Bytes)) :
    ((s.flashStarted b octal up flashes).bus b).verifying = (s.bus b).verifying := by
  unfold State.flashStarted
  rw [State.updBus_bus]
  exact (State.startFlash_changes s b octal flashes).apply fun v => (v.bus b).verifying

/-- The device's own flash in GATE: it is reset and answers or not. -/
theorem exec_flashSideUp_private {s : State} (sfdp0 sfdp1 : Option Bytes) (octal : Bool) (halive : s.alive = true) (hmode : s.ms.mode = .gate)
    (hready : s.priv.ready = false) :
    exec (.flashSideUp 2 sfdp0 sfdp1 octal) s = .next (after s
      (let u := (quiet s).startFlash 2 (byteAt s.priv.timing 0 == 2) [(0, sfdp0)]
      { u with priv := { u.priv with ready := flashAnswers s.priv.timing sfdp0 sfdp1 octal, density := (sfdp0.map sfdpDensity).getD 0 } })) := by
  have hgate : ¬ ((quiet s).ms.mode ≠ .gate ∨ 2 < 2) := by
    rw [quiet_ms, hmode]
    decide
  show execFlashSideUp 2 sfdp0 sfdp1 octal s = _
  unfold execFlashSideUp
  rw [runOn_acts halive]
  simp only [if_neg hgate, quiet_priv, hready, Bool.false_eq_true, if_true, if_false]
  rfl

/-- A protected bus at step 8 of GATE whose side comes up outside a verification of GATE, or does not come up. -/
theorem exec_flashSideUp_bus {s : State} {b : Nat} (sfdp0 sfdp1 : Option Bytes) (octal : Bool) {up : Bool} (halive : s.alive = true)
    (hmode : s.ms.mode = .gate) (hb : b < 2) (hdown : (s.bus b).flashUp = false) (hstep : s.boot.step = 8)
    (hup : flashAnswers (s.bus b).timing sfdp0 sfdp1 octal = up) (hverifying : (s.bus b).verifying ≠ 1 ∨ up = false) :
    exec (.flashSideUp b sfdp0 sfdp1 octal) s = .next (after s
      (let u := (quiet s).flashStarted b (byteAt (s.bus b).timing 0 == 2) up [(0, sfdp0), (1, sfdp1)]
      if (s.bus b).verifying = 1 then u.failBus b ST_FLASH_TIMEOUT else u)) := by
  have hgate : ¬ ((quiet s).ms.mode ≠ .gate ∨ 2 < b) := by
    rw [quiet_ms, hmode]
    rintro (h | h)
    · exact h rfl
    · omega
  have hne : b ≠ 2 := by omega
  have hstart : ¬ (((quiet s).bus b).flashUp = true ∨ (quiet s).boot.step ≠ 8) := by
    rintro (h | h)
    · exact Bool.false_ne_true (hdown.symm.trans h)
    · exact h hstep
  have hfinal : ∀ u : State, (u.bus b).verifying = (s.bus b).verifying →
      (if ¬ up = true then (if (u.bus b).verifying = 1 then u.failBus b ST_FLASH_TIMEOUT else u)
        else if (u.bus b).verifying = 1 ∧ ¬ bit (u.platPolicy b) 0 = true then (u.passUnverified b).platformNext else u)
      = if (s.bus b).verifying = 1 then u.failBus b ST_FLASH_TIMEOUT else u := by
    intro u hu
    rw [hu]
    cases up
    · rfl
    · have hidle := hverifying.resolve_right (by decide)
      rw [if_neg (Classical.not_not.2 rfl), if_neg fun h => hidle h.1, if_neg hidle]
  subst hup
  show execFlashSideUp b sfdp0 sfdp1 octal s = _
  unfold execFlashSideUp
  rw [runOn_acts halive]
  simp only [if_neg hgate, if_neg hne, if_neg hstart]
  exact congrArg (fun u => Host.Outcome.next (after s u))
    (hfinal ((quiet s).flashStarted b (byteAt (s.bus b).timing 0 == 2) (flashAnswers (s.bus b).timing sfdp0 sfdp1 octal) [(0, sfdp0), (1, sfdp1)])
      (State.flashStarted_verifying ..))

theorem flashAnswers_of_single {timing : Bytes} (sfdp0 sfdp1 : Option Bytes) (octal : Bool) (h : byteAt timing 0 ≠ 2) :
    flashAnswers timing sfdp0 sfdp1 octal = true ∧ (byteAt timing 0 == 2) = false := by
  unfold flashAnswers
  rw [bne_iff_ne.2 h, Bool.true_or, beq_eq_false_iff_ne.2 h]
  exact ⟨rfl, rfl⟩

/-! ### Operations that end -/

theorem State.settleResets_bus (s : State) (b : Nat) : ∃ waiting, (s.settleResets b).bus b = { s.bus b with resetWait := waiting } := by
  unfold State.settleResets
  split
  · have hsends := foldl_keeps (Changes (foot [.outbox]) (s.updBus b fun x => { x with resetWait := [] })) (fun u cs => u.sendReset b cs)
      (fun u cs h => .after (State.sendReset_changes u b cs) h) (s.bus b).resetWait _ .refl
    exact ⟨[], (hsends.apply (State.bus · b)).trans (State.updBus_bus ..)⟩
  · exact ⟨_, rfl⟩

theorem Bus.updShadow_shadow (x : Bus) {cs : Nat} (f : Shadow → Shadow) : (x.updShadow cs f).shadow cs = f (x.shadow cs) := by
  unfold Bus.updShadow Bus.shadow
  by_cases h : cs = 0
  · simp only [if_pos h]
  · simp only [if_neg h]

theorem Bus.updShadow_shadow_twice (x : Bus) {cs : Nat} (f g : Shadow → Shadow) :
    ((x.updShadow cs f).updShadow cs g).shadow cs = g (f (x.shadow cs)) := by
  rw [Bus.updShadow_shadow, Bus.updShadow_shadow]

theorem State.updShadow_bus (s : State) (b cs : Nat) (f : Shadow → Shadow) : (s.updShadow b cs f).bus b = (s.bus b).updShadow cs f :=
  State.updBus_bus ..

/-- A bus record once an operation on it has ended: resets that waited are forwarded, and a new timing takes effect. -/
theorem State.opEnded_bus (s : State) (b : Nat) :
    ∃ waiting timing, ((s.settleResets b).settleTiming b).bus b = { s.bus b with resetWait := waiting, timing := timing } := by
  obtain ⟨waiting, hresets⟩ := State.settleResets_bus s b
  obtain ⟨timing, htiming⟩ := State.settleTiming_bus (s.settleResets b) b
  exact ⟨waiting, timing, by rw [htiming, hresets]⟩

theorem Bus.updShadow_ops (x : Bus) (cs : Nat) (f : Shadow → Shadow) : (x.updShadow cs f).ops = x.ops := by
  unfold Bus.updShadow
  split <;> rfl

theorem Bus.updShadow_timeouts (x : Bus) (cs : Nat) (f : Shadow → Shadow) : (x.updShadow cs f).timeouts = x.timeouts := by
  unfold Bus.updShadow
  split <;> rfl

/-- A status read without WIP ends the operation. -/
def State.pollEnded (s : State) (b cs v w : Nat) (o : FlashOp) : State :=
  ((((s.updShadow b cs fun h => { h with sr1 := v % 256 }).updShadow b cs fun h => { h with
    wip := false, wel := false, sr2 := if o.cls = 9 then w % 256 else h.sr2 }).updBus b fun x => { x with
      ops := KeyMap.del x.ops cs, dirty := x.dirty || x.verifying != 1 }).settleResets b).settleTiming b

theorem State.pollEnded_bus (s : State) (b cs v w : Nat) (o : FlashOp) :
    KeyMap.find ((s.pollEnded b cs v w o).bus b).ops cs = none ∧ (((s.pollEnded b cs v w o).bus b).shadow cs).wip = false
      ∧ (((s.pollEnded b cs v w o).bus b).shadow cs).wel = false ∧ (((s.pollEnded b cs v w o).bus b).shadow cs).sr1 = v % 256 := by
  unfold State.pollEnded
  obtain ⟨waiting, timing, h⟩ := State.opEnded_bus (((s.updShadow b cs fun h => { h with sr1 := v % 256 }).updShadow b cs fun h => { h with
    wip := false, wel := false, sr2 := if o.cls = 9 then w % 256 else h.sr2 }).updBus b fun x => { x with
      ops := KeyMap.del x.ops cs, dirty := x.dirty || x.verifying != 1 }) b
  rw [h, State.updBus_bus, State.updShadow_bus, State.updShadow_bus]
  have hshadow := Bus.updShadow_shadow_twice (s.bus b) (cs := cs) (fun h => { h with sr1 := v % 256 }) fun h => { h with
    wip := false, wel := false, sr2 := if o.cls = 9 then w % 256 else h.sr2 }
  exact ⟨KeyMap.find_del_self .., congrArg Shadow.wip hshadow, congrArg Shadow.wel hshadow, congrArg Shadow.sr1 hshadow⟩

/-- An operation that reaches its time limit ends with the error bits of its class. -/
def State.opTimedOut (s : State) (b cs : Nat) (o : FlashOp) : State :=
  ((((s.advance o.deadline).updShadow b cs fun h => { h with
    wip := false, wel := false, protect := false
    eraseErr := h.eraseErr || o.cls == 7 || o.cls == 8
    programErr := h.programErr || o.cls == 6 || o.cls == 9 }).updBus b fun x => { x with
      ops := KeyMap.del x.ops cs, dirty := x.dirty || x.verifying != 1, timeouts := x.timeouts + 1, last := ST_FLASH_TIMEOUT }).settleResets b).settleTiming b

theorem State.opTimedOut_bus (s : State) (b cs : Nat) (o : FlashOp) :
    KeyMap.find ((s.opTimedOut b cs o).bus b).ops cs = none ∧ (((s.opTimedOut b cs o).bus b).shadow cs).wip = false
      ∧ (((s.opTimedOut b cs o).bus b).shadow cs).programErr = (((s.bus b).shadow cs).programErr || o.cls == 6 || o.cls == 9)
      ∧ ((s.opTimedOut b cs o).bus b).timeouts = (s.bus b).timeouts + 1 ∧ ((s.opTimedOut b cs o).bus b).last = ST_FLASH_TIMEOUT := by
  unfold State.opTimedOut
  obtain ⟨waiting, timing, h⟩ := State.opEnded_bus (((s.advance o.deadline).updShadow b cs fun h => { h with
    wip := false, wel := false, protect := false
    eraseErr := h.eraseErr || o.cls == 7 || o.cls == 8
    programErr := h.programErr || o.cls == 6 || o.cls == 9 }).updBus b fun x => { x with
      ops := KeyMap.del x.ops cs, dirty := x.dirty || x.verifying != 1, timeouts := x.timeouts + 1, last := ST_FLASH_TIMEOUT }) b
  rw [h, State.updBus_bus, State.updShadow_bus]
  have hshadow := Bus.updShadow_shadow ((s.advance o.deadline).bus b) (cs := cs) fun h => { h with
    wip := false, wel := false, protect := false
    eraseErr := h.eraseErr || o.cls == 7 || o.cls == 8
    programErr := h.programErr || o.cls == 6 || o.cls == 9 }
  exact ⟨KeyMap.find_del_self .., congrArg Shadow.wip hshadow, congrArg Shadow.programErr hshadow,
    congrArg (· + 1) (Bus.updShadow_timeouts ..), rfl⟩

theorem State.opTimedOut_now (s : State) (b cs : Nat) (o : FlashOp) : (s.opTimedOut b cs o).now = max s.now o.deadline := by
  unfold State.opTimedOut
  exact (State.settleTiming_changes ..).apply (·.now) |>.trans ((State.settleResets_changes ..).apply (·.now) |>.trans
    ((State.updBus_changes ..).apply (·.now) |>.trans ((State.updShadow_changes ..).apply (·.now))))

/-! ### The device's own flash -/

/-- An erase by command of one 4 KiB unit that may be erased. -/
theorem State.eraseGo_unit {s : State} {who : Master} (hreaches : reachesPriv who = true) (hidle : s.priv.busy = false) (hsize : s.priv.eraseSize = 0)
    (hopen : who = .facet → s.protects (s.priv.eraseAddr / 4096 * 4096 / 4096) = false) :
    (s.eraseGo who).priv.busy = true
      ∧ (s.eraseGo who).outbox = s.outbox ++ [.flash 2 0 0x06 0 [], .flash 2 0 0x21 (s.priv.eraseAddr / 4096 * 4096) []]
      ∧ (s.eraseGo who).orfer = s.orfer := by
  have hstart : ¬ (¬ reachesPriv who = true ∨ s.priv.busy = true ∨ 3 ≤ 0) := by
    rw [hreaches, hidle]
    decide
  have hwp : ¬ (who = .facet ∧ ((List.range (4096 / 4096)).any fun i => s.protects (s.priv.eraseAddr / 4096 * 4096 / 4096 + i)) = true) := by
    rintro ⟨hwho, hany⟩
    simp only [Nat.div_self (show 0 < 4096 by decide), List.range_one, List.any_cons, List.any_nil, Bool.or_false, Nat.add_zero, hopen hwho] at hany
    exact Bool.false_ne_true hany
  have herase := State.eraseFlashRange_changes ((s.emit (.flash 2 0 0x06 0 [])).emit (.flash 2 0 0x21 (s.priv.eraseAddr / 4096 * 4096) []))
    (s.priv.eraseAddr / 4096 * 4096) 4096
  unfold State.eraseGo
  simp only [hsize, if_true]
  rw [if_neg hstart, if_neg hwp]
  exact ⟨rfl, (herase.apply (·.outbox)).trans (List.append_assoc ..), herase.apply (·.orfer)⟩

/-- What a command names as its last byte in its own window. -/
theorem windowOffset (off : Nat) : 0x40000000 + off - 0x40000000 = off := Nat.add_sub_cancel_left ..

end Sys2Proof.Machine

namespace Sys2Proof.Slice0
open Sys2Proof Sys2Proof.Machine

/-- Settles O42: what an event leaves in a bus record is read off the record once resets and timing have settled. -/
theorem flashEventsComplete : Obligations.FlashEventsComplete := by
  refine ⟨?_, ?_, ?_, ?_, ?_, ?_, ?_, ?_, ?_, ?_, ?_, ?_, ?_, ?_, ?_, ?_, ?_, ?_, ?_, ?_, ?_, ?_, ?_, ?_, ?_, ?_, ?_, ?_, ?_⟩
  · intro s image halive hmode hready htiming
    obtain ⟨hup, hsingle⟩ := flashAnswers_of_single image none false htiming
    rw [exec_flashSideUp_private image none false halive hmode hready, hup, hsingle]
  · intro s image halive hmode hready htiming
    have hup : flashAnswers s.priv.timing (some image) none true = Config.sfdpOctal image := by
      simp [flashAnswers, htiming]
    rw [exec_flashSideUp_private (some image) none true halive hmode hready, hup, htiming]
    rfl
  · intro s image octal halive hmode hready htiming h
    have hup : flashAnswers s.priv.timing image none octal = false := by
      rcases h with rfl | rfl <;> simp [flashAnswers, htiming]
    rw [exec_flashSideUp_private image none octal halive hmode hready, hup, htiming]
    rfl
  · intro s b halive hmode hb hdown hstep htiming hverifying
    obtain ⟨hup, hsingle⟩ := flashAnswers_of_single none none false htiming
    rw [exec_flashSideUp_bus none none false halive hmode hb hdown hstep hup (.inl hverifying), hsingle]
    exact congrArg (fun u => Host.Outcome.next (after s u)) (if_neg hverifying)
  · intro s b i j octal halive hmode hb hdown hstep htiming hverifying
    obtain ⟨hup, hsingle⟩ := flashAnswers_of_single (some i) (some j) octal htiming
    rw [exec_flashSideUp_bus (some i) (some j) octal halive hmode hb hdown hstep hup (.inl hverifying), hsingle]
    exact congrArg (fun u => Host.Outcome.next (after s u)) (if_neg hverifying)
  · intro s b i j halive hmode hb hdown hstep htiming hverifying
    have hup : flashAnswers (s.bus b).timing (some i) (some j) true = (Config.sfdpOctal i && Config.sfdpOctal j) := by
      simp [flashAnswers, htiming]
    rw [exec_flashSideUp_bus (some i) (some j) true halive hmode hb hdown hstep hup (.inl hverifying), htiming]
    exact congrArg (fun u => Host.Outcome.next (after s u)) (if_neg hverifying)
  · intro s b i j halive hmode hb hdown hstep htiming hverifying
    have hup : flashAnswers (s.bus b).timing (some i) (some j) false = false := by
      simp [flashAnswers, htiming]
    rw [exec_flashSideUp_bus (some i) (some j) false halive hmode hb hdown hstep hup (.inr rfl), htiming]
    exact congrArg (fun u => Host.Outcome.next (after s u)) (if_pos hverifying)
  · intro s b m halive hb hverifying hpolicy hup hops hchecked hhash
    have hstart : ¬ (2 ≤ b ∨ ((quiet s).bus b).verifying = 0 ∨ ¬ bit ((quiet s).platPolicy b) 0 = true ∨ ¬ ((quiet s).bus b).flashUp = true
        ∨ ¬ ((quiet s).bus b).ops.isEmpty = true ∨ ¬ ((quiet s).bus b).toCheck.isEmpty = true ∨ ¬ (quiet s).hashReady = true) := by
      have hops' : (s.bus b).ops.isEmpty = true := List.isEmpty_iff.2 hops
      have hchecked' : (s.bus b).toCheck.isEmpty = true := List.isEmpty_iff.2 hchecked
      rintro (h | h | h | h | h | h | h)
      · omega
      · exact hverifying h
      · exact h hpolicy
      · exact h hup
      · exact h hops'
      · exact h hchecked'
      · exact h hhash
    show execManifestCheckComplete b m s = _
    unfold execManifestCheckComplete
    rw [runOn_acts halive]
    simp only [if_neg hstart]
    rfl
  · intro s b r d m rest halive hb hchecking hmanifest hhash hidle
    have hverify : ¬ ((quiet s).ms.mode = .recover ∧ b < 2 ∧ ((quiet s).bus b).restoring.isSome = true) := by
      rintro ⟨hmode, -, hsome⟩
      rcases hidle with h | h
      · exact h hmode
      · exact Bool.false_ne_true ((congrArg Option.isSome h).symm.trans hsome)
    have hchecking' : ((quiet s).bus b).toCheck = r :: rest := hchecking
    have hmanifest' : ((quiet s).bus b).manifest = some m := hmanifest
    have hready : ¬ (2 ≤ b ∨ r ≠ r ∨ ¬ (quiet s).hashReady = true) := by
      rintro (h | h | h)
      · omega
      · exact h rfl
      · exact h hhash
    show execRegionDigestComplete b r d s = _
    unfold execRegionDigestComplete
    rw [runOn_acts halive, if_neg hverify]
    simp only [hchecking', hmanifest', if_neg hready]
    rfl
  · intro s i n x halive hfeed hi
    have hexec : exec (.digestFeedSilence 0 i n) s = .next (after s
        (let u := (quiet s).advance (x.lastBeat + 1000000)
        { u with cipher := { u.cipher with feeds := KeyMap.put u.cipher.feeds i { x with received := min n x.declared, status := ST_LEN_SHORT } } })) := by
      have hfeed' : KeyMap.find ((quiet s).advance (x.lastBeat + 1000000)).cipher.feeds i = some x := hfeed
      show execDigestFeedSilence 0 i n s = _
      unfold execDigestFeedSilence State.endFeed
      rw [runOn_acts halive]
      simp only [quiet_cipher, hfeed, hfeed', if_true, if_neg (Nat.not_lt.2 hi)]
    exact ⟨_, hexec, KeyMap.find_put_self .., rfl⟩
  · intro s i n x halive hfeed hi
    have hfeed' : KeyMap.find ((quiet s).advance (x.lastBeat + 1000000)).cipher.feeds i = some x := hfeed
    show execDigestFeedSilence 0 i n s = _
    unfold execDigestFeedSilence State.endFeed
    rw [runOn_acts halive]
    simp only [quiet_cipher, hfeed, hfeed', if_true, if_pos hi]
  · intro s b a k rest o halive hb hmode hrestoring
    have hrestoring' : ((quiet s).bus b).restoring = some ⟨a :: k :: rest, o⟩ := hrestoring
    show execRestoreAreaDone b ST_OK s = _
    unfold execRestoreAreaDone
    rw [runOn_acts halive]
    simp only [hrestoring', quiet_ms, hmode]
    rw [if_neg (by simpa using hb)]
    rfl
  · intro s b a o halive hb hmode hrestoring
    have hrestoring' : ((quiet s).bus b).restoring = some ⟨[a], o⟩ := hrestoring
    show execRestoreAreaDone b ST_OK s = _
    unfold execRestoreAreaDone
    rw [runOn_acts halive]
    simp only [hrestoring', quiet_ms, hmode]
    rw [if_neg (by simpa using hb)]
    rfl
  · intro s b st a rest halive hb hmode hrestoring hst
    have hrestoring' : ((quiet s).bus b).restoring = some ⟨a :: rest, false⟩ := hrestoring
    show execRestoreAreaDone b st s = _
    unfold execRestoreAreaDone State.areaFailed
    rw [runOn_acts halive]
    simp only [hrestoring', quiet_ms, hmode]
    rcases hst with rfl | rfl | rfl <;>
    · rw [if_neg (by simpa using hb)]
      rfl
  · intro s b st a rest halive hb hmode hrestoring hst
    have hrestoring' : ((quiet s).bus b).restoring = some ⟨a :: rest, true⟩ := hrestoring
    show execRestoreAreaDone b st s = _
    unfold execRestoreAreaDone State.areaFailed
    rw [runOn_acts halive]
    simp only [hrestoring', quiet_ms, hmode]
    rcases hst with rfl | rfl | rfl <;>
    · rw [if_neg (by simpa using hb)]
      rfl
  · intro s b cs v w o halive hb hcs hop hdone
    have hop' : KeyMap.find ((quiet s).bus b).ops cs = some o := hop
    have hexec : exec (.flashStatusPoll b cs v w) s = .next (after s ((quiet s).pollEnded b cs v w o)) := by
      show execFlashStatusPoll b cs v w s = _
      unfold execFlashStatusPoll
      rw [runOn_acts halive]
      simp only [if_neg (show b ≠ 2 by omega), hop', if_neg (show ¬ (2 ≤ b ∨ 2 ≤ cs) by omega), hdone, Bool.false_eq_true, if_false]
      rfl
    exact ⟨_, hexec, (quiet s).pollEnded_bus b cs v w o⟩
  · intro s cs v w halive hready hbusy
    show execFlashStatusPoll 2 cs v w s = _
    unfold execFlashStatusPoll
    rw [runOn_acts halive]
    simp only [if_true, hbusy, not_true_eq_false, and_false, if_false]
  · intro s cs v w halive hready hdone
    show execFlashStatusPoll 2 cs v w s = _
    unfold execFlashStatusPoll
    rw [runOn_acts halive]
    simp only [if_true, quiet_priv, hready, hdone, Bool.false_eq_true, not_false_eq_true, and_true]
  · intro s b cs o halive hb hcs hop
    have hop' : KeyMap.find ((quiet s).bus b).ops cs = some o := hop
    have hexec : exec (.flashOperationTimeout b cs) s = .next (after s ((quiet s).opTimedOut b cs o)) := by
      show execFlashOperationTimeout b cs s = _
      unfold execFlashOperationTimeout
      rw [runOn_acts halive]
      simp only [if_neg (show b ≠ 2 by omega), hop', if_neg (show ¬ (2 ≤ b ∨ 2 ≤ cs) by omega)]
      rfl
    obtain ⟨hops, hwip, herr, htimeouts, hlast⟩ := (quiet s).opTimedOut_bus b cs o
    exact ⟨_, hexec, hops, hwip, herr, htimeouts, hlast, (quiet s).opTimedOut_now b cs o⟩
  · intro s who off d halive hreaches hne hdensity hmax hopen
    have hwindow : ¬ (¬ reachesPriv who = true ∨ 0x40000000 + off < 0x40000000 ∨ 0x10000000 ≤ off + d.length - 1 ∨ d.isEmpty = true) := by
      rintro (h | h | h | h)
      · exact h hreaches
      · omega
      · omega
      · exact hne (List.isEmpty_iff.1 h)
    have hwp : ¬ (who = .facet ∧ ((quiet s).protects (off / 4096) = true ∨ (quiet s).protects ((off + d.length - 1) / 4096) = true)) := by
      rintro ⟨hwho, h | h⟩
      · exact Bool.false_ne_true ((hopen hwho).1.symm.trans h)
      · exact Bool.false_ne_true ((hopen hwho).2.symm.trans h)
    show execPfWindowWrite who (0x40000000 + off) d s = _
    unfold execPfWindowWrite
    rw [runOn_acts halive]
    simp only [windowOffset, if_neg hwindow, quiet_priv, if_neg (Nat.not_le.2 hdensity), if_neg hwp]
  · intro s halive hgathered hidle
    show execPfGatherTimeout s = _
    unfold execPfGatherTimeout
    rw [runOn_acts halive]
    simp only [quiet_priv, hgathered, hidle, Bool.false_eq_true, not_false_eq_true, and_true, if_true]
  · intro s cs halive hready
    show execFlashOperationTimeout 2 cs s = _
    unfold execFlashOperationTimeout
    rw [runOn_acts halive]
    simp only [quiet_priv, hready, if_true]
  · intro s b cs halive hb hop
    have hop' : KeyMap.find ((quiet s).bus b).ops cs = none := hop
    show execFlashOperationTimeout b cs s = _
    unfold execFlashOperationTimeout
    rw [runOn_acts halive]
    simp only [if_neg (show b ≠ 2 by omega), hop', if_pos hb]
  · intro s d halive hwait
    have hexec : exec .pfStallTimeout s = .next (after s (State.emit { (quiet s).advance (d + 10000000) with
        priv := { s.priv with timeout := true, gathered := none, waiting := [], waitSince := none } } .busError)) := by
      show execPfStallTimeout s = _
      unfold execPfStallTimeout
      rw [runOn_acts halive]
      simp only [quiet_priv, hwait]
      rfl
    exact ⟨_, hexec, rfl, rfl, rfl, rfl, rfl, rfl⟩
  · intro s who halive hreaches hidle hsize hopen
    obtain ⟨hbusy, hout, horfer⟩ := State.eraseGo_unit (s := quiet s) hreaches hidle hsize hopen
    have hexec : exec (.pfEraseGo who) s = .next (after s ((quiet s).eraseGo who)) := runOn_acts halive fun s => s.eraseGo who
    generalize (quiet s).eraseGo who = u at hbusy hout horfer hexec
    exact ⟨_, hexec, hbusy, hout, horfer⟩
  · intro s pass e halive herase
    show execPfEraseDone pass s = _
    unfold execPfEraseDone
    rw [runOn_acts halive]
    simp only [quiet_priv, herase]
  · intro s pass halive herase hbusy hstalled
    show execPfEraseDone pass s = _
    unfold execPfEraseDone
    rw [runOn_acts halive]
    simp only [quiet_priv, herase, hbusy, hstalled, Option.isNone_none, and_self, if_true]
  · intro s halive
    exact runOn_acts halive fun s => s.lockPriv .apex
  · intro s who halive hne
    exact (runOn_acts halive fun s => s.lockPriv who).trans (congrArg (fun u => Host.Outcome.next (after s u)) (if_neg hne))

end Sys2Proof.Slice0
end

section
/-!
PROOFS. The platform mailbox group.
-/
namespace Sys2Proof.Machine
open Sys2Proof Sys2Proof.Slice0

theorem begun_bus (s : State) (p : Port) (q : Request) (b : Nat) : (begun s p q).bus b = s.bus b := (begun_changes s p q).apply (State.bus · b)

theorem begun_platStatus (s : State) (p : Port) (q : Request) (b : Nat) : (begun s p q).platStatus b = s.platStatus b :=
  (begun_changes s p q).apply (State.platStatus · b)

theorem begun_recoverCheck (s : State) (p : Port) (q : Request) (m : Nat) : (begun s p q).recoverCheck m = s.recoverCheck m :=
  (begun_changes s p q).apply (State.recoverCheck · m)

theorem begun_svnOk (s : State) (p : Port) (q : Request) (b v : Nat) : (begun s p q).svnOk b v = s.svnOk b v :=
  (begun_changes s p q).apply fun u => u.svnOk b v

theorem onePayload_of_ok {s : State} {q : Request} {ok : Nat → Bool} (f : Nat → State) (hlen : q.payload.length = 1)
    (hok : ok (byteAt q.payload 0) = true) : onePayload s q ok f = f (byteAt q.payload 0) := by
  unfold onePayload
  rw [if_neg (Classical.not_not.2 hlen), if_pos hok]

theorem maskOk_of_le {v : Nat} (h1 : 1 ≤ v) (h3 : v ≤ 3) : maskOk v = true := decide_eq_true ⟨h1, h3⟩

/-- A request of the device realm that becomes an act of its class. -/
theorem begun_requestDevice {s : State} {p : Port} {q : Request} (cls : Nat) (hrealm : q.realm = 0) (hadmin : (s.realm 0).admin.isSome = true)
    (hpending : s.pendingAct 0 = none) :
    (∃ a, ((begun s p q).requestDevice q cls).act 0 s.orfer.nextAct = some a ∧ a.opcode = q.opcode ∧ a.cls = cls ∧ a.state = .awaiting)
      ∧ ((begun s p q).requestDevice q cls).orfer.nextAct = s.orfer.nextAct + 1 := by
  rw [← hrealm] at hadmin hpending
  obtain ⟨hact, hnext⟩ := begun_request (p := p) cls hadmin hpending
  rw [hrealm] at hact
  have hrequest : (begun s p q).requestDevice q cls = (begun s p q).request q cls := if_neg (Classical.not_not.2 hrealm)
  rw [hrequest]
  exact ⟨⟨_, hact, rfl, rfl, rfl⟩, hnext⟩

theorem exec_platRecover_checked {s : State} {p : Port} {q : Request} (hasked : Asked s p 0x0404 q) (hlen : q.payload.length = 1)
    (h1 : 1 ≤ byteAt q.payload 0) (h3 : byteAt q.payload 0 ≤ 3) :
    exec (.platRecover p) s = .next (after s (if s.recoverCheck (byteAt q.payload 0) ≠ ST_OK
      then (begun s p q).answer q (s.recoverCheck (byteAt q.payload 0)) [] else (begun s p q).requestDevice q 0x0B)) := by
  show execPlatRecover p s = _
  unfold execPlatRecover
  rw [runOn_serve_of_asked hasked, onePayload_of_ok _ hlen (maskOk_of_le h1 h3), begun_recoverCheck]

theorem exec_platSvnAdvance_checked {s : State} {p : Port} {q : Request} (hasked : Asked s p 0x0407 q) (hlen : q.payload.length = 5)
    (hb : byteAt q.payload 0 < 2) :
    exec (.platSvnAdvance p) s = .next (after s (if s.svnOk (byteAt q.payload 0) (field q.payload 1 4)
      then (begun s p q).requestDevice q 0x0B else (begun s p q).answer q ST_BAD_VALUE [])) := by
  show execPlatSvnAdvance p s = _
  unfold execPlatSvnAdvance
  rw [runOn_serve_of_asked hasked, if_neg (Classical.not_not.2 hlen), begun_svnOk]
  by_cases h : s.svnOk (byteAt q.payload 0) (field q.payload 1 4) = true
  · rw [if_pos h, if_neg (by simpa [h] using hb)]
  · rw [if_neg h, if_pos (.inr h)]

end Sys2Proof.Machine

namespace Sys2Proof.Slice0
open Sys2Proof Sys2Proof.Machine

/-- Settles O43: the checks of the group read the buses and the release, which a request in flight has no part in. -/
theorem platformCommandsComplete : Obligations.PlatformCommandsComplete := by
  refine ⟨?_, ?_, ?_, ?_, ?_, ?_, ?_, ?_, ?_, ?_, ?_, ?_, ?_, ?_⟩
  · intro s p q hasked
    show execPlatStatus p s = _
    unfold execPlatStatus noPayload
    rw [runOn_serve_of_asked hasked]
    simp only [begun_platStatus]
  · intro s p q hasked hlen h1 h3
    show execPlatVerify p s = _
    unfold execPlatVerify
    rw [runOn_serve_of_asked hasked, onePayload_of_ok _ hlen (maskOk_of_le h1 h3)]
  · intro s p q hasked
    show execPlatReset p s = _
    unfold execPlatReset
    rw [runOn_serve_of_asked hasked]
    rfl
  · intro s p q hasked hlen h1 h3
    exact exec_platRecover_checked hasked hlen h1 h3
  · intro s p q hasked hlen h1 h3 hcheck hrealm hadmin hpending
    obtain ⟨hact, hnext⟩ := begun_requestDevice (p := p) 0x0B hrealm hadmin hpending
    have hexec := exec_platRecover_checked hasked hlen h1 h3
    rw [if_neg (Classical.not_not.2 hcheck)] at hexec
    exact ⟨_, hexec, hact, hnext⟩
  · intro s p q hasked hphase hattempts hempty
    have hheld : (begun s p q).rel.phase = .held ∧ 3 ≤ (begun s p q).rel.attempts := by
      rw [begun_rel]
      exact ⟨hphase, hattempts⟩
    have hrel : ((begun s p q).answer q ST_OK []).rel = s.rel := ((State.answer_changes ..).apply (·.rel)).trans (begun_rel s p q)
    show execPlatReleaseRetry p s = _
    unfold execPlatReleaseRetry
    rw [runOn_serve_of_asked hasked, noPayload_nil _ q _ hempty, if_pos hheld]
    simp only [hrel]
  · intro s p q hasked hlen hb
    show execPlatGoldenCapture p s = _
    unfold execPlatGoldenCapture
    rw [runOn_serve_of_asked hasked, onePayload_of_ok _ hlen (decide_eq_true hb)]
  · intro s p q hasked hlen hb
    exact exec_platSvnAdvance_checked hasked hlen hb
  · intro s p q hasked hlen hb hsvn hrealm hadmin hpending
    obtain ⟨hact, hnext⟩ := begun_requestDevice (p := p) 0x0B hrealm hadmin hpending
    have hexec := exec_platSvnAdvance_checked hasked hlen hb
    rw [if_pos hsvn] at hexec
    exact ⟨_, hexec, hact, hnext⟩
  · intro s p q hasked hlen hb
    show execPlatDenials p s = _
    unfold execPlatDenials
    rw [runOn_serve_of_asked hasked, onePayload_of_ok _ hlen (decide_eq_true hb), begun_bus]
  · intro s p q m hasked hlen hb hsource hm
    show execPlatManifestRead p s = _
    unfold execPlatManifestRead
    rw [runOn_serve_of_asked hasked]
    simp only [hlen, ne_eq, not_true_eq_false, if_false, hsource, if_neg (show ¬ (2 ≤ byteAt q.payload 0 ∨ 2 ≤ 0) by omega), if_true, begun_bus, hm]
  · intro s p q hasked hlen hb hsource hm
    show execPlatManifestRead p s = _
    unfold execPlatManifestRead
    rw [runOn_serve_of_asked hasked]
    simp only [hlen, ne_eq, not_true_eq_false, if_false, hsource, if_neg (show ¬ (2 ≤ byteAt q.payload 0 ∨ 2 ≤ 0) by omega), if_true, begun_bus, hm]
  · intro s p q hasked hlen hb hsource hgolden
    show execPlatManifestRead p s = _
    unfold execPlatManifestRead
    rw [runOn_serve_of_asked hasked]
    simp only [hlen, ne_eq, not_true_eq_false, if_false, hsource, if_neg (show ¬ (2 ≤ byteAt q.payload 0 ∨ 2 ≤ 1) by omega), Nat.one_ne_zero, begun_priv,
      hgolden]
  · intro s p q g hasked hlen hb hsource hgolden
    show execPlatManifestRead p s = _
    unfold execPlatManifestRead
    rw [runOn_serve_of_asked hasked]
    simp only [hlen, ne_eq, not_true_eq_false, if_false, hsource, if_neg (show ¬ (2 ≤ byteAt q.payload 0 ∨ 2 ≤ 1) by omega), Nat.one_ne_zero, begun_priv,
      hgolden]

end Sys2Proof.Slice0
end

section
/-!
PROOFS. Certificates, reports and SPDM requests.
-/
namespace Sys2Proof.Machine
open Sys2Proof Sys2Proof.Slice0

theorem begun_chain (s : State) (p : Port) (q : Request) (i : Nat) : (begun s p q).chain i = s.chain i := (begun_changes s p q).apply (State.chain · i)

theorem begun_chainOk (s : State) (p : Port) (q : Request) (c : Bytes) : (begun s p q).chainOk c = s.chainOk c :=
  (begun_changes s p q).apply (State.chainOk · c)

theorem begun_slotsPresent (s : State) (p : Port) (q : Request) : (begun s p q).slotsPresent = s.slotsPresent :=
  (begun_changes s p q).apply (·.slotsPresent)

theorem begun_slotMask (s : State) (p : Port) (q : Request) : (begun s p q).slotMask = s.slotMask := (begun_changes s p q).apply (·.slotMask)

theorem begun_spdmChain (s : State) (p : Port) (q : Request) (i : Nat) : (begun s p q).spdmChain i = s.spdmChain i :=
  (begun_changes s p q).apply (State.spdmChain · i)

/-! ### SPDM requests -/

/-- An SPDM request in flight in an open session is taken and answered on the session's connection. -/
theorem runOn_serveSpdm_of_asked {s : State} {p : Port} {codes : Nat → Bool} {q : Request} {x : Session} (hasked : SpdmAsked s p codes q x)
    (f : State → Request → SpdmConn → State) :
    runOn s (fun s => serveSpdm s p codes f) = .next (after s (f (begun s p q) q x.spdm)) := by
  obtain ⟨halive, htaken, hx⟩ := hasked
  have htaken' : (((quiet s).mbox p).inFlight.find? fun r => r.opcode == 0x0504 && r.port == p && codes (byteAt r.payload 1)) = some q := htaken
  have hx' : ((quiet s).take p q).session q.session = some x := (congrArg (KeyMap.find · q.session) (begun_sessions s p q)).trans hx
  rw [runOn_acts halive]
  unfold serveSpdm
  simp only [htaken', hx']
  rfl

/-- A request of a version that SPDM gives here, at a stage that has been reached, of the right length. -/
theorem State.spdmGuard_of_ok {s : State} {q : Request} {c : SpdmConn} {stage : Nat} {lenOk : Bool} (f : State) (hkeys : s.ident.keys = true)
    (hversion : byteAt q.payload 0 = 0x12 ∨ byteAt q.payload 0 = 0x13) (hconn : c.stage < 2 ∨ byteAt q.payload 0 = c.version)
    (hstage : stage ≤ c.stage) (hlen : lenOk = true) : s.spdmGuard q c stage lenOk f = f := by
  have hversion' : ¬ (byteAt q.payload 0 ≠ 0x12 ∧ byteAt q.payload 0 ≠ 0x13 ∨ (2 ≤ c.stage ∧ byteAt q.payload 0 ≠ c.version)) := by
    rintro (⟨h, h'⟩ | ⟨h, h'⟩)
    · exact hversion.elim h h'
    · exact hconn.elim (fun hlt => by omega) h'
  unfold State.spdmGuard
  simp only [hkeys, Bool.true_eq_false, if_false, if_neg hversion', if_neg (Nat.not_lt.2 hstage), hlen]

/-- The same once the connection's algorithms are negotiated. -/
theorem begun_spdmGuard {s : State} {p : Port} {q : Request} {c : SpdmConn} {stage : Nat} {lenOk : Bool} (f : State) (hkeys : s.ident.keys = true)
    (hstage : c.stage = stage) (hversion : byteAt q.payload 0 = c.version) (hknown : c.version = 0x12 ∨ c.version = 0x13) (hlen : lenOk = true) :
    (begun s p q).spdmGuard q c stage lenOk f = f := by
  rw [← hversion] at hknown
  exact State.spdmGuard_of_ok f (by rw [begun_ident]; exact hkeys) hknown (.inr hversion) (Nat.le_of_eq hstage.symm) hlen

end Sys2Proof.Machine

namespace Sys2Proof.Slice0
open Sys2Proof Sys2Proof.Machine

/-- Settles O44: a request that the guard of its stage lets through is answered on the connection of its session. -/
theorem attestationCommandsComplete : Obligations.AttestationCommandsComplete := by
  refine ⟨?_, ?_, ?_, ?_, ?_, ?_, ?_, ?_, ?_, ?_, ?_, ?_, ?_⟩
  · intro s p q hasked hlen hslot hmax hoff
    show execIdCertRead p s = _
    unfold execIdCertRead
    rw [runOn_serve_of_asked hasked]
    simp only [hlen, ne_eq, not_true_eq_false, if_false, begun_chain]
    rw [if_neg (by omega)]
  · intro s p q hasked hne hmin hmax
    have hne' : q.payload.isEmpty = false := List.isEmpty_eq_false_iff.2 hne
    show execIdCertWrite p s = _
    unfold execIdCertWrite
    rw [runOn_serve_of_asked hasked]
    simp only [hne', Bool.false_eq_true, if_false, begun_chainOk, hmin, hmax, true_and, ite_not]
  · intro s p q hasked hlen
    show execAttestReport p s = _
    unfold execAttestReport
    rw [runOn_serve_of_asked hasked]
    simp only [hlen, ne_eq, not_true_eq_false, if_false, begun_ident]
  · intro s p q x hasked hlen hversion
    show execSpdmGetVersion p s = _
    unfold execSpdmGetVersion
    rw [runOn_serveSpdm_of_asked hasked, if_neg (Classical.not_not.2 hlen), if_neg (Classical.not_not.2 hversion)]
  · intro s p q x hasked hlen
    show execSpdmGetVersion p s = _
    unfold execSpdmGetVersion
    rw [runOn_serveSpdm_of_asked hasked, if_pos hlen]
  · intro s p q x hasked hlen hversion
    show execSpdmGetVersion p s = _
    unfold execSpdmGetVersion
    rw [runOn_serveSpdm_of_asked hasked, if_neg (Classical.not_not.2 hlen), if_pos hversion]
  · intro s p q x hasked hkeys hversion hlen hstage
    show execSpdmGetCapabilities p s = _
    unfold execSpdmGetCapabilities
    rw [runOn_serveSpdm_of_asked hasked, State.spdmGuard_of_ok _ (by rw [begun_ident]; exact hkeys) hversion (.inl (by omega)) (Nat.le_of_eq hstage.symm)
      (beq_iff_eq.2 hlen), if_pos hstage]
  · intro s p q x hasked hkeys hstage hversion hknown hlen htotal
    show execSpdmNegotiateAlgorithms p s = _
    unfold execSpdmNegotiateAlgorithms
    rw [runOn_serveSpdm_of_asked hasked]
    dsimp only
    rw [begun_spdmGuard _ hkeys hstage hversion hknown (by simp [hlen, htotal]), if_pos hstage]
  · intro s p q x hasked hkeys hstage hversion hknown hlen
    show execSpdmGetDigests p s = _
    unfold execSpdmGetDigests
    rw [runOn_serveSpdm_of_asked hasked, begun_spdmGuard _ hkeys hstage hversion hknown (beq_iff_eq.2 hlen)]
    simp only [begun_slotMask, begun_slotsPresent, begun_spdmChain]
  · intro s p q x hasked hkeys hstage hversion hknown hlen hslot hoff
    show execSpdmGetCertificate p s = _
    unfold execSpdmGetCertificate
    rw [runOn_serveSpdm_of_asked hasked]
    simp only [begun_slotsPresent, begun_spdmChain]
    rw [begun_spdmGuard _ hkeys hstage hversion hknown (by simp only [hlen, hslot, hoff, decide_true, beq_self_eq_true, Bool.and_self])]
  · intro s p q x hasked hkeys hstage hversion hknown hlen hslot hkind
    have hok : (q.payload.length == (if byteAt q.payload 0 = 0x13 then 44 else 36) && s.slotsPresent.contains (byteAt q.payload 2)
        && (byteAt q.payload 3 == 0 || byteAt q.payload 3 == 1 || byteAt q.payload 3 == 0xFF)) = true := by
      rw [hlen, hslot, beq_self_eq_true, Bool.and_self, Bool.true_and]
      simpa [or_assoc] using hkind
    show execSpdmChallenge p s = _
    unfold execSpdmChallenge
    rw [runOn_serveSpdm_of_asked hasked]
    simp only [begun_slotsPresent]
    rw [begun_spdmGuard _ hkeys hstage hversion hknown hok]
  · intro s p q x hasked hkeys hstage hversion hknown hsign hop hlen
    have hok : (q.payload.length == 4 + 0 + (if byteAt q.payload 0 = 0x13 then 8 else 0) && (decide (0 ≤ 11) || 0 == 0xFF)
        && (!false || s.slotsPresent.contains (byteAt q.payload 36 % 16))) = true := by
      rw [hlen]
      simp
    show execSpdmGetMeasurements p s = _
    unfold execSpdmGetMeasurements
    rw [runOn_serveSpdm_of_asked hasked]
    simp only [begun_slotsPresent, hsign, hop, Bool.false_eq_true, if_false, if_true]
    rw [begun_spdmGuard _ hkeys hstage hversion hknown hok]
    rfl
  · intro s p q x hasked
    show execSpdmUnsupportedRequest p s = _
    unfold execSpdmUnsupportedRequest
    rw [runOn_serveSpdm_of_asked hasked]
    simp only [begun_ident]

end Sys2Proof.Slice0
end

section
/-!
PROOFS. The key-domain group.
-/
namespace Sys2Proof.Machine
open Sys2Proof Sys2Proof.Slice0

theorem begun_member (s : State) (p : Port) (q : Request) : (begun s p q).member = s.member := (begun_changes s p q).apply (·.member)

theorem begun_domainId (s : State) (p : Port) (q : Request) : (begun s p q).domainId = s.domainId := (begun_changes s p q).apply (·.domainId)

theorem begun_domainEpoch (s : State) (p : Port) (q : Request) : (begun s p q).domainEpoch = s.domainEpoch := (begun_changes s p q).apply (·.domainEpoch)

theorem begun_rosterSeqNow (s : State) (p : Port) (q : Request) : (begun s p q).rosterSeqNow = s.rosterSeqNow :=
  (begun_changes s p q).apply (·.rosterSeqNow)

theorem begun_noticeCounters (s : State) (p : Port) (q : Request) : (begun s p q).noticeCounters = s.noticeCounters :=
  (begun_changes s p q).apply (·.noticeCounters)

theorem begun_createCheck (s : State) (p : Port) (q : Request) (b : Bytes) : (begun s p q).createCheck b = s.createCheck b :=
  (begun_changes s p q).apply (State.createCheck · b)

theorem begun_openBlob (s : State) (p : Port) (q : Request) (blob : Bytes) (tag : Option Nat) : (begun s p q).openBlob blob tag = s.openBlob blob tag := by
  have hslot (c i : Nat) : (begun s p q).slot c i = s.slot c i := (begun_changes s p q).apply fun v => v.slot c i
  have hactive (c i : Nat) : (begun s p q).active c i = s.active c i := congrArg (·.state == 1) (hslot c i)
  have hseed : (begun s p q).seedMaterial = s.seedMaterial := congrArg (·.material) (hslot 0 0)
  unfold State.openBlob
  simp only [hslot, hactive, hseed]

theorem begun_openFor (s : State) (p : Port) (q : Request) (ch : Nat) (b : Bytes) : (begun s p q).openFor_ ch b = s.openFor_ ch b := by
  have hworld (a : Bytes) (c o : Nat) : (begun s p q).worldOk a c o = s.worldOk a c o := (begun_changes s p q).apply fun v => v.worldOk a c o
  have hlife : (begun s p q).lifecycleBit = s.lifecycleBit := (begun_changes s p q).apply State.lifecycleBit
  unfold State.openFor_
  simp only [begun_openBlob, hworld, hlife]

theorem begun_openAuthority (s : State) (p : Port) (q : Request) (b : Bytes) : (begun s p q).openAuthority b = s.openAuthority b := by
  unfold State.openAuthority
  rw [begun_member, begun_openFor]

theorem begun_admitCheck (s : State) (p : Port) (q : Request) (b : Bytes) : (begun s p q).admitCheck b = s.admitCheck b := by
  unfold State.admitCheck
  rw [begun_member, begun_openAuthority]

theorem begun_rosterCheck (s : State) (p : Port) (q : Request) (b : Bytes) : (begun s p q).rosterCheck b = s.rosterCheck b :=
  (begun_changes s p q).apply (State.rosterCheck · b)

theorem begun_rollCheck (s : State) (p : Port) (q : Request) (b : Bytes) : (begun s p q).rollCheck b = s.rollCheck b := by
  unfold State.rollCheck
  rw [begun_member, begun_keys, begun_openAuthority]

theorem begun_activationCheck (s : State) (p : Port) (q : Request) (b : Bytes) : (begun s p q).activationCheck b = s.activationCheck b :=
  (begun_changes s p q).apply (State.activationCheck · b)

/-- The kept output of an act is read in parts. -/
theorem begun_readOutput {s : State} {p : Port} {q : Request} {o : Nat × Bytes × Nat} (hlen : q.payload.length = 8)
    (houtput : KeyMap.find s.ident.outputs q.realm = some o) (hid : o.1 = field q.payload 0 4) (hoff : field q.payload 4 4 ≤ o.2.1.length) :
    (begun s p q).readOutput q = (begun s p q).answer q ST_OK (slice (field q.payload 4 4) 4000 o.2.1) := by
  unfold State.readOutput
  simp only [hlen, ne_eq, not_true_eq_false, if_false, begun_ident, houtput]
  rw [if_pos ⟨hid, hoff⟩]

end Sys2Proof.Machine

namespace Sys2Proof.Slice0
open Sys2Proof Sys2Proof.Machine

/-- Settles O45: the checks of the group read the domain and the keys, which a request in flight has no part in. -/
theorem domainCommandsComplete : Obligations.DomainCommandsComplete := by
  refine ⟨?_, ?_, ?_, ?_, ?_, ?_, ?_, ?_, ?_, ?_, ?_, ?_, ?_, ?_, ?_, ?_, ?_, ?_, ?_⟩
  · intro s p q hasked
    show execDomainStatus p s = _
    unfold execDomainStatus noPayload
    rw [runOn_serve_of_asked hasked]
    simp only [begun_domainId, begun_domainEpoch, begun_rosterSeqNow, begun_member, begun_ident, begun_noticeCounters]
  · intro s p q hasked
    show execDomainCard p s = _
    unfold execDomainCard
    rw [runOn_serve_of_asked hasked]
    rfl
  · intro s p q hasked hlen
    show execDomainCreate p s = _
    unfold execDomainCreate
    rw [runOn_serve_of_asked hasked, if_neg (Classical.not_not.2 hlen), begun_createCheck]
  · intro s p q hasked hlen
    show execDomainJoinRequest p s = _
    unfold execDomainJoinRequest
    rw [runOn_serve_of_asked hasked, if_neg (Classical.not_not.2 hlen)]
  · intro s p q hasked hmin hlen
    show execDomainAdmit p s = _
    unfold execDomainAdmit
    rw [runOn_serve_of_asked hasked]
    dsimp only
    rw [if_neg (not_or.2 ⟨Nat.not_lt.2 hmin, Classical.not_not.2 hlen⟩), begun_admitCheck]
  · intro s p q hasked
    exact runOn_serve_of_asked hasked fun s q => s.domainChange q (s.acceptDomain q.payload)
  · intro s p q hasked hmin hlen
    show execDomainRosterUpdate p s = _
    unfold execDomainRosterUpdate
    rw [runOn_serve_of_asked hasked, if_neg (not_or.2 ⟨Nat.not_lt.2 hmin, Classical.not_not.2 hlen⟩), begun_rosterCheck]
  · intro s p q hasked hmin hblob heven hmax
    show execDomainRoll p s = _
    unfold execDomainRoll
    rw [runOn_serve_of_asked hasked]
    dsimp only
    rw [if_neg (by omega), begun_rollCheck]
  · intro s p q d r hasked hlen hmember hroll
    show execDomainPackageFetch p s = _
    unfold execDomainPackageFetch
    rw [runOn_serve_of_asked hasked, if_neg (Classical.not_not.2 hlen)]
    simp only [begun_member, hmember, begun_ident, hroll]
  · intro s p q hasked
    exact runOn_serve_of_asked hasked fun s q => s.domainChange q (s.loadRoll q.payload)
  · intro s p q hasked hlen
    show execDomainActivate p s = _
    unfold execDomainActivate
    rw [runOn_serve_of_asked hasked, if_neg (Classical.not_not.2 hlen), begun_activationCheck]
  · intro s p q hasked hempty
    show execDomainLeave p s = _
    unfold execDomainLeave
    rw [runOn_serve_of_asked hasked, noPayload_nil _ q _ hempty, begun_ident]
  · intro s p q d hasked hlen hmember hclass hsubject
    show execDomainReport p s = _
    unfold execDomainReport
    rw [runOn_serve_of_asked hasked]
    simp only [hlen, ne_eq, not_true_eq_false, if_false, begun_member, hmember]
    rw [if_neg (not_or.2 ⟨Classical.not_not.2 hclass, ne_of_eq_value hsubject (by decide)⟩)]
  · intro s p q hasked hlen hmin hmax
    show execDomainNoticeFetch p s = _
    unfold execDomainNoticeFetch
    rw [runOn_serve_of_asked hasked]
    simp only [hlen, ne_eq, not_true_eq_false, if_false, begun_ident]
    rw [if_neg (by omega)]
  · intro s p q hasked heven hmin hmax hclean
    show execDomainNoticeIn p s = _
    unfold execDomainNoticeIn
    rw [runOn_serve_of_asked hasked]
    simp only [heven, ne_eq, not_true_eq_false, if_false, hclean, begun_ident]
    rw [if_neg (by omega)]
  · intro s p q hasked hlen hmin hmax
    show execDomainFaults p s = _
    unfold execDomainFaults
    rw [runOn_serve_of_asked hasked]
    simp only [hlen, ne_eq, not_true_eq_false, if_false, begun_ident]
    rw [if_neg (by omega)]
  · intro s p q o hasked hlen houtput hid hoff
    exact (runOn_serve_of_asked hasked State.readOutput).trans
      (congrArg (fun u => Host.Outcome.next (after s u)) (begun_readOutput hlen houtput hid hoff))
  · intro s e rest halive htable
    show execCoalesceEntryClose s = _
    unfold execCoalesceEntryClose
    rw [runOn_acts halive]
    simp only [quiet_ident, htable]
  · intro s k halive hticket
    have hexec : exec .joinTicketExpire s = .next (after s { (quiet s).advance k.2.2 with ident := { s.ident with ticket := none } }) := by
      show execJoinTicketExpire s = _
      unfold execJoinTicketExpire
      rw [runOn_acts halive]
      simp only [quiet_ident, hticket]
      rfl
    exact ⟨_, hexec, rfl, rfl⟩

end Sys2Proof.Slice0
end

section
/-!
PROOFS. The pair group and the frames of a running Chord link.
-/
namespace Sys2Proof.Machine
open Sys2Proof Sys2Proof.Slice0

theorem begun_pairStatusBytes (s : State) (p : Port) (q : Request) : (begun s p q).pairStatusBytes = s.pairStatusBytes :=
  (begun_changes s p q).apply (·.pairStatusBytes)

theorem begun_pairBindCheck (s : State) (p : Port) (q : Request) (b : Bytes) : (begun s p q).pairBindCheck b = s.pairBindCheck b :=
  (begun_changes s p q).apply (State.pairBindCheck · b)

theorem begun_acceptBinding (s : State) (p : Port) (q : Request) (b : Bytes) : (begun s p q).acceptBinding b = s.acceptBinding b :=
  (begun_changes s p q).apply (State.acceptBinding · b)

theorem begun_rekeyCheck (s : State) (p : Port) (q : Request) : (begun s p q).rekeyCheck = s.rekeyCheck := (begun_changes s p q).apply (·.rekeyCheck)

theorem begun_pairRefusal (s : State) (p : Port) (q : Request) : (begun s p q).pairRefusal = s.pairRefusal :=
  (begun_changes s p q).apply (·.pairRefusal)

/-- A pair request without a payload is refused where the link lets no act, and else becomes one. -/
theorem begun_pairAct (s : State) (p : Port) {q : Request} (cls : Nat) (hempty : q.payload = []) :
    (begun s p q).pairAct q cls
      = if s.pairRefusal ≠ ST_OK then (begun s p q).answer q s.pairRefusal [] else (begun s p q).requestDevice q cls := by
  unfold State.pairAct
  rw [noPayload_nil _ q _ hempty, begun_pairRefusal]

/-! ### Frames -/

/-- A frame of a running link is received. -/
theorem chordFrame_of_linked {s : State} (type : Nat) (frame : Bytes) (f : Bytes → State → State) (halive : s.alive = true)
    (hhello : s.pair.hello = true) (hlanes : s.pair.lanes ≠ 0) :
    chordFrame type frame f s = .next (after s (received (quiet s) type frame f)) := by
  have hlinked : ¬ ((quiet s).pair.hello = false ∨ (quiet s).pair.lanes = 0) := by
    rintro (h | h)
    · exact Bool.false_ne_true (h.symm.trans hhello)
    · exact hlanes h
  unfold chordFrame
  rw [runOn_acts halive, if_neg hlinked]
  rfl

/-- A HELLO that comes before this member has sent its own is kept. -/
theorem State.takeHello_of_early {s : State} (frame : Bytes) (h : s.isPaired = false ∨ s.pair.lanes = 0 ∨ s.pair.nonce = []) :
    s.takeHello frame = s.updPair fun p => { p with early := frame } := by
  have hearly : (s.isPaired && s.pair.lanes != 0 && !s.pair.nonce.isEmpty) = false := by
    rcases h with h | h | h <;> simp [h]
  have hearly' : ((s.updPair fun p => { p with early := [] }).isPaired && (s.updPair fun p => { p with early := [] }).pair.lanes != 0
      && !(s.updPair fun p => { p with early := [] }).pair.nonce.isEmpty) = false := hearly
  unfold State.takeHello
  simp only [hearly', Bool.false_eq_true, if_false]
  rfl

/-- Any other is judged with the link key. -/
theorem State.takeHello_of_linked {s : State} (frame : Bytes) {k : Bytes} (hpaired : s.isPaired = true) (hlanes : s.pair.lanes ≠ 0)
    (hnonce : s.pair.nonce ≠ []) (hkey : s.linkKey = some k) :
    s.takeHello frame = (let u := s.updPair fun p => { p with early := [] }
      if byteAt frame 0 ≠ 2 then u.helloFails .version
      else if frame.length ≠ 99 ∨ hmac k (frame.take 67) ≠ frame.drop 67 ∨ byteAt frame 2 = s.cfgNat F_PAIR_ROLE 0
          ∨ slice 3 16 frame ≠ cardSerial s.pair.card then u.helloFails .linkDown
      else u.helloAgrees k frame) := by
  have hready : (s.isPaired && s.pair.lanes != 0 && !s.pair.nonce.isEmpty) = true := by
    simp [hpaired, hlanes, hnonce]
  have hready' : ((s.updPair fun p => { p with early := [] }).isPaired && (s.updPair fun p => { p with early := [] }).pair.lanes != 0
      && !(s.updPair fun p => { p with early := [] }).pair.nonce.isEmpty) = true := hready
  have hkey' : (s.updPair fun p => { p with early := [] }).linkKey = some k := hkey
  unfold State.takeHello
  simp only [hready', if_true, hkey']
  rfl

end Sys2Proof.Machine

namespace Sys2Proof.Slice0
open Sys2Proof Sys2Proof.Machine

/-- Settles O46: the checks of the group read the pair, which a request in flight has no part in. -/
theorem pairMailboxCommandsComplete : Obligations.PairMailboxCommandsComplete := by
  refine ⟨?_, ?_, ?_, ?_, ?_, ?_, ?_, ?_, ?_, ?_, ?_⟩
  · intro s p q hasked
    show execPairStatus p s = _
    unfold execPairStatus noPayload
    rw [runOn_serve_of_asked hasked]
    simp only [begun_pairStatusBytes]
  · intro s p q hasked hlen
    show execPairBind p s = _
    unfold execPairBind
    rw [runOn_serve_of_asked hasked, if_neg (Classical.not_not.2 hlen), begun_pairBindCheck]
  · intro s p q hasked hlen
    show execPairAccept p s = _
    unfold execPairAccept
    rw [runOn_serve_of_asked hasked, if_neg (Classical.not_not.2 hlen), begun_acceptBinding]
  · intro s p q hasked hrefusal hempty
    refine (runOn_serve_of_asked hasked fun s q => s.pairAct q 0x0A).trans ?_
    rw [begun_pairAct s p 0x0A hempty, if_neg (Classical.not_not.2 hrefusal)]
  · intro s p q hasked hrefusal hempty
    refine (runOn_serve_of_asked hasked fun s q => s.pairAct q 0x0A).trans ?_
    rw [begun_pairAct s p 0x0A hempty, if_pos hrefusal]
  · intro s p q hasked hrefusal hempty
    refine (runOn_serve_of_asked hasked fun s q => s.pairAct q 0x0A).trans ?_
    rw [begun_pairAct s p 0x0A hempty, if_neg (Classical.not_not.2 hrefusal)]
  · intro s p q hasked hrefusal hempty
    refine (runOn_serve_of_asked hasked fun s q => s.pairAct q 0x0A).trans ?_
    rw [begun_pairAct s p 0x0A hempty, if_pos hrefusal]
  · intro s p q hasked hrefusal hempty
    refine (runOn_serve_of_asked hasked fun s q => s.pairAct q 0x0B).trans ?_
    rw [begun_pairAct s p 0x0B hempty, if_neg (Classical.not_not.2 hrefusal)]
  · intro s p q hasked hrefusal hempty
    refine (runOn_serve_of_asked hasked fun s q => s.pairAct q 0x0B).trans ?_
    rw [begun_pairAct s p 0x0B hempty, if_pos hrefusal]
  · intro s p q hasked hempty
    show execPairRekey p s = _
    unfold execPairRekey
    rw [runOn_serve_of_asked hasked, noPayload_nil _ q _ hempty, begun_rekeyCheck]
  · intro s p q o hasked hlen houtput hid hoff
    exact (runOn_serve_of_asked hasked State.readOutput).trans
      (congrArg (fun u => Host.Outcome.next (after s u)) (begun_readOutput hlen houtput hid hoff))

/-- Settles O47: each frame of a running link is received alike, and acts where it is new. -/
theorem chordCommandsComplete : Obligations.ChordCommandsComplete := by
  refine ⟨?_, ?_, ?_, ?_, ?_, ?_, ?_, ?_⟩
  · intro s frame halive hhello hlanes
    show execChordAdmit frame s = _
    exact chordFrame_of_linked 3 frame _ halive hhello hlanes
  · intro s frame halive hhello hlanes
    show execChordRel frame s = _
    exact chordFrame_of_linked 4 frame _ halive hhello hlanes
  · intro s frame halive hhello hlanes
    show execChordAck frame s = _
    exact chordFrame_of_linked 5 frame _ halive hhello hlanes
  · intro s frame halive hhello hlanes
    show execChordFenceTest frame s = _
    exact chordFrame_of_linked 8 frame _ halive hhello hlanes
  · intro s frame halive hhello hlanes
    show execChordSync frame s = _
    exact chordFrame_of_linked 7 frame _ halive hhello hlanes
  · intro s frame halive hhello hlanes
    show execChordBeat frame s = _
    exact chordFrame_of_linked 2 frame _ halive hhello hlanes
  · intro s frame halive h
    exact (runOn_acts halive fun s => s.takeHello frame).trans (congrArg (fun u => Host.Outcome.next (after s u))
      (State.takeHello_of_early (s := quiet s) frame h))
  · intro s frame k halive hpaired hlanes hnonce hkey
    exact (runOn_acts halive fun s => s.takeHello frame).trans (congrArg (fun u => Host.Outcome.next (after s u))
      (State.takeHello_of_linked (s := quiet s) frame hpaired hlanes hnonce hkey))

end Sys2Proof.Slice0
end

section
/-!
PROOFS. The two-phase exchange.
-/
namespace Sys2Proof.Machine
open Sys2Proof Sys2Proof.Slice0

/-- A frame of the exchange on a running link: it acts where it carries the message's kind. -/
theorem exchangeFrame_of_linked {s : State} (kind : Nat) (frame : Bytes) (f : Nat → Bytes → State → State) (halive : s.alive = true)
    (hhello : s.pair.hello = true) (hlanes : s.pair.lanes ≠ 0) :
    exchangeFrame kind frame f s = .next (after s (received (quiet s) 6 frame fun body u =>
      if byteAt body 0 = kind then f (field body 1 8) (body.drop 9) u else u)) :=
  chordFrame_of_linked 6 frame _ halive hhello hlanes

end Sys2Proof.Machine

namespace Sys2Proof.Slice0
open Sys2Proof Sys2Proof.Machine

/-- Settles O48: each message of the exchange is a frame of the running link that carries its kind. -/
theorem exchangeCommandsComplete : Obligations.ExchangeCommandsComplete := by
  refine ⟨?_, ?_, ?_, ?_, ?_, ?_, ?_, ?_, ?_⟩
  · intro s frame halive hhello hlanes
    show execChordPrepare frame s = _
    exact exchangeFrame_of_linked 1 frame _ halive hhello hlanes
  · intro s frame halive hhello hlanes
    show execChordReady frame s = _
    exact exchangeFrame_of_linked 2 frame _ halive hhello hlanes
  · intro s frame halive hhello hlanes
    show execChordCommit frame s = _
    exact exchangeFrame_of_linked 3 frame _ halive hhello hlanes
  · intro s frame halive hhello hlanes
    show execChordCommitAck frame s = _
    exact exchangeFrame_of_linked 4 frame _ halive hhello hlanes
  · intro s frame halive hhello hlanes
    show execChordNack frame s = _
    exact exchangeFrame_of_linked 5 frame _ halive hhello hlanes
  · intro s frame halive hhello hlanes
    show execChordAbort frame s = _
    exact exchangeFrame_of_linked 6 frame _ halive hhello hlanes
  · intro s frame halive hhello hlanes
    show execChordResolve frame s = _
    exact exchangeFrame_of_linked 7 frame _ halive hhello hlanes
  · intro s n e halive hearliest
    show execReadyTimeout s = _
    unfold execReadyTimeout
    rw [runOn_acts halive]
    simp only [quiet_pair, hearliest]
  · intro s n e halive hearliest
    have hexec : exec .commitWaitTimeout s
        = .next (after s (((quiet s).advance e.limit).updPair fun p => { p with theirs := KeyMap.del p.theirs n })) := by
      show execCommitWaitTimeout s = _
      unfold execCommitWaitTimeout
      rw [runOn_acts halive]
      simp only [quiet_pair, hearliest]
    exact ⟨_, hexec, KeyMap.find_del_self .., rfl, rfl⟩

end Sys2Proof.Slice0
end

section
/-!
PROOFS. Link, heartbeat and fence events.
-/
namespace Sys2Proof.Machine
open Sys2Proof Sys2Proof.Slice0

/-! ### Training -/

/-- Whether a lane's margins let it be used. -/
def goodMargins (m : Nat × Nat) : Bool := decide (250 ≤ m.1 ∧ 20 ≤ m.2)

theorem goodMargins_of_le {m : Nat × Nat} (h : 250 ≤ m.1) (h' : 20 ≤ m.2) : goodMargins m = true := decide_eq_true ⟨h, h'⟩

theorem goodMargins_of_lt {m : Nat × Nat} (h : m.1 < 250 ∨ m.2 < 20) : goodMargins m = false := decide_eq_false (by omega)

/-- Both lanes are tried: those with good margins come up. -/
theorem exec_linkTrained {s : State} (k : Nat) (a m : Nat × Nat) (halive : s.alive = true) :
    exec (.linkTrained k [a, m]) s = .next (after s
      (let mask := flag (bit k 0 && goodMargins a) + 2 * flag (bit k 1 && goodMargins m)
      if mask = 0 then quiet s
      else
        let u := (quiet s).updPair fun p => { p with lanes := mask, hello := p.hello && !decide (s.pair.lanes = 0), margins := [(0, a), (1, m)] }
        let v := if laneCount mask = 1 then u.noteAlarm else u
        if decide (s.pair.lanes = 0) then v.sendHello else v)) := by
  show execLinkTrained k [a, m] s = _
  unfold execLinkTrained
  rw [runOn_acts halive]
  rfl

/-! ### Heartbeat windows -/

theorem State.setPairMode_pair (s : State) (m : PairMode) : (s.setPairMode m).pair = { s.pair with mode := m } := by
  have hnotified (u : State) : ((u.notify 0 0x0600 0 m.code).trigger 7 0 m.code).pair = u.pair :=
    ((State.trigger_changes ..).apply (·.pair)).trans ((State.notify_changes ..).apply (·.pair))
  unfold State.setPairMode
  split
  · next h => rw [← h]
  · exact hnotified _

theorem State.setPairMode_mode (s : State) (m : PairMode) : (s.setPairMode m).ms.mode = s.ms.mode :=
  (State.setPairMode_changes s m).apply (·.ms.mode)

theorem State.sendFrame_pair (s : State) (type : Nat) (body : Bytes) : ∃ seq, (s.sendFrame type body).pair = { s.pair with txSeq := seq } := by
  unfold State.sendFrame
  split
  · exact ⟨_, rfl⟩
  · exact ⟨_, rfl⟩

theorem State.sendFrame_mode (s : State) (type : Nat) (body : Bytes) : (s.sendFrame type body).ms.mode = s.ms.mode :=
  (State.sendFrame_changes s type body).apply (·.ms.mode)

/-- A heartbeat window as it begins: its time, its number, and the beats missed. -/
def State.windowBegun (s : State) : State :=
  (s.advance (64000 * s.pair.window)).updPair fun p => { p with window := p.window + 1, beat := false, missed := if s.pair.beat then 0 else p.missed + 1 }

/-- What a paired member does in a heartbeat window that has begun. -/
def State.beatJudged (s : State) (heard : Bool) : State :=
  let s := if s.pair.early.isEmpty then s else s.takeHello s.pair.early
  let limit := if s.cfgNat F_PAIR_ROLE 0 = 0 then 16 else 24
  let s := if heard then s
    else if s.pair.mode = .paired then s.setPairMode .linkLost
    else if s.pair.mode = .syncing then
      ((s.updPair fun p => { p with source := none, sync := [] }).setPairMode (if s.pair.fenceOut then .solo else .linkDown)).settleAlone
    else s
  let waits := s.pair.everPaired && s.pair.mode != .paired && s.pair.mode != .solo && s.pair.mode != .fenced
  let s := if waits ∧ s.pair.missed = limit ∧ s.pair.deadline = none then s.updPair fun p => { p with deadline := some s.now } else s
  s.sendFrame 0x02 s.beatBody

theorem exec_heartbeatWindow {s : State} (halive : s.alive = true) :
    exec .heartbeatWindow s = .next (after s
      (if s.isPaired = false then (quiet s).windowBegun else (quiet s).windowBegun.beatJudged s.pair.beat)) := by
  show execHeartbeatWindow s = _
  unfold execHeartbeatWindow
  rw [runOn_acts halive]
  rfl

/-- A paired member that has heard its partner only sends its beat. -/
theorem State.beatJudged_of_heard {s : State} (hmode : s.pair.mode = .paired) (hearly : s.pair.early = []) :
    s.beatJudged true = s.sendFrame 0x02 s.beatBody := by
  unfold State.beatJudged
  simp only [hearly, List.isEmpty_nil, if_true, hmode, bne_self_eq_false, Bool.and_false, Bool.false_and, Bool.false_eq_true, false_and, if_false]

/-- One that has not, short of the limit, has lost the link. -/
theorem State.beatJudged_of_missed {s : State} (hmode : s.pair.mode = .paired) (hearly : s.pair.early = [])
    (hlimit : s.pair.missed ≠ (if s.cfgNat F_PAIR_ROLE 0 = 0 then 16 else 24)) :
    s.beatJudged false = (s.setPairMode .linkLost).sendFrame 0x02 (s.setPairMode .linkLost).beatBody := by
  have hmissed : (s.setPairMode .linkLost).pair.missed ≠ (if s.cfgNat F_PAIR_ROLE 0 = 0 then 16 else 24) := by
    rw [State.setPairMode_pair]
    exact hlimit
  unfold State.beatJudged
  simp only [hearly, List.isEmpty_nil, if_true, hmode, Bool.false_eq_true, if_false, hmissed, false_and, and_false]

/-- The window of a paired member that misses a beat, short of the limit. -/
theorem exec_heartbeatWindow_missed {s : State} (halive : s.alive = true) (hpaired : s.isPaired = true) (hbeat : s.pair.beat = false)
    (hmode : s.pair.mode = .paired) (hearly : s.pair.early = []) (hlimit : s.pair.missed + 1 ≠ (if s.cfgNat F_PAIR_ROLE 0 = 0 then 16 else 24)) :
    ∃ t, exec .heartbeatWindow s = .next t ∧ t.pair.mode = .linkLost ∧ t.pair.missed = s.pair.missed + 1 ∧ t.pair.window = s.pair.window + 1
      ∧ t.pair.beat = false ∧ t.ms.mode = s.ms.mode := by
  obtain ⟨u, hu⟩ : ∃ u, u = (quiet s).windowBegun := ⟨_, rfl⟩
  have hpair : u.pair = { s.pair with window := s.pair.window + 1, beat := false, missed := s.pair.missed + 1 } := by
    rw [hu]
    unfold State.windowBegun
    simp only [quiet_pair, hbeat, Bool.false_eq_true, if_false]
    rfl
  have hrole : u.cfgNat F_PAIR_ROLE 0 = s.cfgNat F_PAIR_ROLE 0 := by rw [hu]; rfl
  have hms : u.ms.mode = s.ms.mode := by rw [hu]; rfl
  have hexec := exec_heartbeatWindow halive
  rw [if_neg (ne_of_eq_value hpaired (by decide)), hbeat, ← hu, State.beatJudged_of_missed (by rw [hpair]; exact hmode) (by rw [hpair]; exact hearly)
    (by rw [hrole, hpair]; exact hlimit)] at hexec
  obtain ⟨seq, hsent⟩ := (u.setPairMode .linkLost).sendFrame_pair 0x02 (u.setPairMode .linkLost).beatBody
  rw [State.setPairMode_pair, hpair] at hsent
  have hmode' := ((u.setPairMode .linkLost).sendFrame_mode 0x02 (u.setPairMode .linkLost).beatBody).trans ((u.setPairMode_mode .linkLost).trans hms)
  generalize (u.setPairMode .linkLost).sendFrame 0x02 (u.setPairMode .linkLost).beatBody = v at hexec hsent hmode'
  exact ⟨_, hexec, congrArg (·.mode) hsent, congrArg (·.missed) hsent, congrArg (·.window) hsent, congrArg (·.beat) hsent, hmode'⟩

/-! ### The test pulse -/

/-- The state after a test pulse at `d` that leaves `n` pulses missed in a row: the next one falls a second later. -/
def State.pulsed (s : State) (d n : Nat) : State :=
  let u := (s.advance d).updPair fun p => { p with
    pulseMissed := n, lastTest := if p.pulseSeen then p.lastTest else some (d, false), fenceFault := p.fenceFault || decide (n = 2) }
  let v := u.updPair fun p => { p with pulseSeen := false, pulseAt := some (d + 1000000000) }
  (v.emitAll [.drive .fenceOut true, .drive .fenceOut false]).advance (d + 1000)

/-- A test pulse short of the second miss in a row only drives the line and counts. -/
theorem exec_fenceTestPulse_of_few {s : State} {d n : Nat} (halive : s.alive = true) (hat : s.pair.pulseAt = some d)
    (hmode : s.pair.mode = .paired) (hmissed : (if s.pair.pulseSeen then 0 else s.pair.pulseMissed + 1) = n) (hfew : n ≠ 2) :
    exec .fenceTestPulse s = .next (after s ((quiet s).pulsed d n)) := by
  have hmissed' : (if ((quiet s).advance d).pair.pulseSeen then 0 else ((quiet s).advance d).pair.pulseMissed + 1) = n := hmissed
  show execFenceTestPulse s = _
  unfold execFenceTestPulse
  rw [runOn_acts halive]
  simp only [quiet_pair, hat, hmode, ne_eq, not_true_eq_false, if_false, hmissed']
  rw [if_neg hfew]
  rfl

/-! ### The time step -/

/-- A state at the time `n`, with its wheel and its heartbeat window. -/
def State.clocked (s : State) (n : Nat) (wheel : Wheel) (window : Nat) : State :=
  { s with now := n, wheel := wheel, pair := { s.pair with timeStep := none, window := window } }

theorem State.clocked_mode (s : State) (n : Nat) (wheel : Wheel) (window : Nat) : (s.clocked n wheel window).pair.mode = s.pair.mode := rfl

/-- The state whose time has stepped by `d`: the wheel and the heartbeat windows are counted anew. -/
def State.stepped (s : State) (d : Int) : State :=
  let n := ((s.now : Int) + d).toNat
  s.clocked n { s.wheel with revolution := ceilDiv n revNs, sector := ceilDiv n sectorNs } (ceilDiv n 64000)

theorem State.stepped_mode (s : State) (d : Int) : (s.stepped d).pair.mode = s.pair.mode := State.clocked_mode ..

theorem exec_timeStep_some {s : State} {d : Int} (halive : s.alive = true) (hstep : s.pair.timeStep = some d) :
    exec .timeStep s = .next (after s (if ((quiet s).bound.any fun c => !((quiet s).chan c).admitted.isEmpty) = true then quiet s
      else (((quiet s).stepped d).trigger 7 0 (((quiet s).stepped d).pair.mode.code + 256)).kickAll)) := by
  have hstep' : (quiet s).pair.timeStep = some d := hstep
  show execTimeStep s = _
  unfold execTimeStep
  rw [runOn_acts halive, hstep']
  rfl

/-- A time step waits for the admitted items. -/
theorem exec_timeStep {s : State} {d : Int} (halive : s.alive = true) (hstep : s.pair.timeStep = some d) :
    exec .timeStep s = .next (after s (if (s.bound.any fun c => !(s.chan c).admitted.isEmpty) = true then quiet s
      else (((quiet s).stepped d).trigger 7 0 (s.pair.mode.code + 256)).kickAll)) := by
  have hexec := exec_timeStep_some halive hstep
  rw [State.stepped_mode, quiet_pair] at hexec
  exact hexec

theorem exec_timeStep_none {s : State} (halive : s.alive = true) (hstep : s.pair.timeStep = none) :
    exec .timeStep s = .next (after s (quiet s)) := by
  have hstep' : (quiet s).pair.timeStep = none := hstep
  show execTimeStep s = _
  unfold execTimeStep
  rw [runOn_acts halive, hstep']

end Sys2Proof.Machine

namespace Sys2Proof.Slice0
open Sys2Proof Sys2Proof.Machine

/-- Settles O49: training, heartbeat windows, deadline, fence line, test pulse, time step and resynchronisation, each
by the branch of its event that the clause's conditions pick. -/
theorem pairEventCommandsComplete : Obligations.PairEventCommandsComplete := by
  refine ⟨?_, ?_, ?_, ?_, ?_, ?_, ?_, ?_, ?_, ?_, ?_, ?_, ?_, ?_, ?_, ?_, ?_, ?_, ?_, ?_, ?_, ?_, ?_, ?_, ?_⟩
  · intro s a m halive hlanes ha ha' hm hm'
    rw [exec_linkTrained 3 a m halive, goodMargins_of_le ha ha', goodMargins_of_le hm hm', decide_eq_false hlanes]
    simp only [Bool.not_false, Bool.and_true]
    rfl
  · intro s a m halive hlanes ha ha' hm hm'
    rw [exec_linkTrained 3 a m halive, goodMargins_of_le ha ha', goodMargins_of_le hm hm', decide_eq_true hlanes]
    simp only [Bool.not_true, Bool.and_false]
    rfl
  · intro s a m halive hlanes ha ha' hm
    rw [exec_linkTrained 3 a m halive, goodMargins_of_le ha ha', goodMargins_of_lt hm, decide_eq_false hlanes]
    simp only [Bool.not_false, Bool.and_true]
    rfl
  · intro s a m halive hlanes ha ha' hm
    rw [exec_linkTrained 3 a m halive, goodMargins_of_le ha ha', goodMargins_of_lt hm, decide_eq_true hlanes]
    simp only [Bool.not_true, Bool.and_false]
    rfl
  · intro s k a m halive ha hm
    rw [exec_linkTrained k a m halive, goodMargins_of_lt ha, goodMargins_of_lt hm, Bool.and_false, Bool.and_false]
    rfl
  · intro s i halive hi hup
    have hup' : i < 2 ∧ bit (quiet s).pair.lanes i = true := ⟨hi, hup⟩
    show execLaneRetrain i s = _
    unfold execLaneRetrain
    rw [runOn_acts halive, if_pos hup']
  · intro s i halive h
    have hdown : ¬ (i < 2 ∧ bit (quiet s).pair.lanes i = true) := by
      rintro ⟨hi, hup⟩
      rcases h with h | h
      · omega
      · exact Bool.false_ne_true (h.symm.trans hup)
    show execLaneRetrain i s = _
    unfold execLaneRetrain
    rw [runOn_acts halive, if_neg hdown]
  · intro s halive hpaired
    have hexec := exec_heartbeatWindow halive
    rw [if_pos hpaired] at hexec
    exact ⟨_, hexec, rfl, rfl, rfl, rfl, rfl⟩
  · intro s halive hpaired hbeat hmode hearly
    rw [exec_heartbeatWindow halive, if_neg (ne_of_eq_value hpaired (by decide)), hbeat,
      State.beatJudged_of_heard (s := (quiet s).windowBegun) hmode hearly]
    unfold State.windowBegun
    simp only [quiet_pair, hbeat, if_true]
  · intro s halive hpaired hbeat hmode hearly hlimit
    exact exec_heartbeatWindow_missed halive hpaired hbeat hmode hearly hlimit
  · intro s d halive hdeadline h
    have hidle : ((((quiet s).advance d).updPair fun p => { p with deadline := none }).isPaired = false
        ∨ (((quiet s).advance d).updPair fun p => { p with deadline := none }).pair.fenceIn = true) := h
    show execPairDeadline [] s = _
    unfold execPairDeadline
    rw [runOn_acts halive]
    simp only [quiet_pair, hdeadline]
    rw [if_pos hidle]
  · intro s d reads halive hdeadline hpaired hfence hsolo hcalled hworks
    obtain ⟨u, hu⟩ : ∃ u, u = ((quiet s).advance d).updPair fun p => { p with deadline := none } := ⟨_, rfl⟩
    have hpair : u.pair = { s.pair with deadline := none } := by rw [hu]; rfl
    have hpaired' : u.isPaired = true := by rw [hu]; exact hpaired
    show execPairDeadline reads s = _
    unfold execPairDeadline
    rw [runOn_acts halive]
    simp only [quiet_pair, hdeadline, ← hu]
    rw [if_neg, if_neg, if_neg]
    · rw [hpair]
      rintro ⟨hfault, hout⟩
      exact hworks.elim (fun h => Bool.false_ne_true (h.symm.trans hfault)) hout
    · rw [hpair]
      rintro (h | ⟨h, hme, hout⟩)
      · exact hsolo h
      · exact hcalled.elim (fun hne => hne h) fun h => h.elim hme hout
    · rw [hpaired', hpair]
      rintro (h | h)
      · exact Bool.noConfusion h
      · exact Bool.false_ne_true (hfence.symm.trans h)
  · intro s halive hyields hmode
    have hyields' : ¬ (((quiet s).updPair fun p => { p with fenceIn := true }).pair.fenceOut = true
        ∧ ((quiet s).updPair fun p => { p with fenceIn := true }).cfgNat F_PAIR_ROLE 0 = 0) := hyields
    have hmode' : ((quiet s).updPair fun p => { p with fenceIn := true }).pair.mode ≠ .fenced := hmode
    show execFenceInAsserted s = _
    unfold execFenceInAsserted
    rw [runOn_acts halive]
    dsimp only
    rw [if_neg hyields', if_neg hmode']
  · intro s halive hout hrole
    have hstays : ((quiet s).updPair fun p => { p with fenceIn := true }).pair.fenceOut = true
        ∧ ((quiet s).updPair fun p => { p with fenceIn := true }).cfgNat F_PAIR_ROLE 0 = 0 := ⟨hout, hrole⟩
    have hexec : exec .fenceInAsserted s = .next (after s ((quiet s).updPair fun p => { p with fenceIn := true })) := by
      show execFenceInAsserted s = _
      unfold execFenceInAsserted
      rw [runOn_acts halive]
      dsimp only
      rw [if_pos hstays]
    exact ⟨_, hexec, rfl, rfl, hout, rfl⟩
  · intro s halive hmode
    show execFenceInReleased s = _
    unfold execFenceInReleased
    rw [runOn_acts halive, if_pos (.inl hmode)]
  · intro s halive hmode hfence hgate
    have hfence' : (quiet s).pair.fenceIn = true := hfence
    have hopen : ¬ ((quiet s).pair.mode = .fenced ∨ ((quiet s).ms.gates.fenced && (quiet s).pair.fenceIn) = true) := by
      rw [quiet_ms, hgate, quiet_pair]
      exact not_or.2 ⟨hmode, Bool.false_ne_true⟩
    show execFenceInReleased s = _
    unfold execFenceInReleased
    rw [runOn_acts halive, if_neg hopen, if_pos hfence']
  · intro s halive hmode hfence
    have hfence' : ¬ (quiet s).pair.fenceIn = true := ne_of_eq_value hfence (by decide)
    have hopen : ¬ ((quiet s).pair.mode = .fenced ∨ ((quiet s).ms.gates.fenced && (quiet s).pair.fenceIn) = true) := by
      rw [quiet_pair, hfence, Bool.and_false]
      exact not_or.2 ⟨hmode, Bool.false_ne_true⟩
    show execFenceInReleased s = _
    unfold execFenceInReleased
    rw [runOn_acts halive, if_neg hopen, if_neg hfence']
  · intro s d halive hat hmode hseen
    exact ⟨_, exec_fenceTestPulse_of_few (n := 0) halive hat hmode (if_pos hseen) (by decide), rfl, rfl, rfl, rfl⟩
  · intro s d halive hat hmode hseen hmissed
    refine ⟨_, exec_fenceTestPulse_of_few (n := 1) halive hat hmode ?_ (by decide), rfl, rfl, ?_, ?_, rfl⟩
    · rw [hseen, hmissed]
      rfl
    · exact Bool.or_false _
    · exact if_neg (ne_of_eq_value hseen (by decide))
  · intro s halive h
    show execFenceTestPulse s = _
    unfold execFenceTestPulse
    rw [runOn_acts halive]
    rcases h with h | h
    · simp only [quiet_pair, h]
    · cases hat : s.pair.pulseAt with
      | none => simp only [quiet_pair, hat]
      | some d =>
        simp only [quiet_pair, hat]
        exact congrArg (fun u => Host.Outcome.next (after s u)) (if_pos h)
  · intro s d halive hstep hidle
    exact (exec_timeStep halive hstep).trans (congrArg (fun u => Host.Outcome.next (after s u)) (if_neg (ne_of_eq_value hidle Bool.false_ne_true)))
  · intro s halive h
    cases hstep : s.pair.timeStep with
    | none => exact exec_timeStep_none halive hstep
    | some d =>
      have hbusy := h.resolve_left (by rw [hstep]; exact Option.some_ne_none d)
      exact (exec_timeStep halive hstep).trans (congrArg (fun u => Host.Outcome.next (after s u)) (if_pos hbusy))
  · intro s halive hhello hstep hsource
    show execResyncComplete s = _
    unfold execResyncComplete
    rw [runOn_acts halive]
    simp only [quiet_pair, hhello, hstep, hsource, Bool.true_eq_false, Option.isSome_none, Bool.false_eq_true, or_self, if_false, quiet_now]
  · intro s halive hhello hstep hsource hsync
    show execResyncComplete s = _
    unfold execResyncComplete
    rw [runOn_acts halive]
    simp only [quiet_pair, hhello, hstep, hsource, Bool.true_eq_false, Option.isSome_none, Bool.false_eq_true, or_self, if_false, quiet_now,
      List.isEmpty_eq_false_iff.2 hsync]
    by_cases hfence : ((quiet s).advance (ceilDiv s.now revNs * revNs)).applySync.pair.fenceIn = true
    · simp only [hfence, if_true]
    · simp only [hfence]
  · intro s halive h
    show execResyncComplete s = _
    unfold execResyncComplete
    rw [runOn_acts halive]
    by_cases hheld : (quiet s).pair.hello = false ∨ (quiet s).pair.timeStep.isSome = true
    · rw [if_pos hheld]
    · rw [if_neg hheld]
      rcases h with h | h | h | ⟨h, hsync⟩
      · exact absurd (.inl h) hheld
      · exact absurd (.inr h) hheld
      · simp only [quiet_pair, h]
      · simp only [quiet_pair, h, hsync, List.isEmpty_nil, if_true]

end Sys2Proof.Slice0
end

section
/-!
PROOFS. Detectors, faults, the cell and its supply.
-/
namespace Sys2Proof.Machine
open Sys2Proof Sys2Proof.Slice0

/-! ### Samples -/

/-- A sample moves time and tile records only: the same detectors are armed. -/
@[simp] theorem State.sampled_ms (s : State) (k : TileClock) (m : Sample) : (s.sampled k m).ms = s.ms :=
  (State.sampled_changes s k m).apply (·.ms)

@[simp] theorem State.sampled_det (s : State) (k : TileClock) (m : Sample) (d : Nat) : (s.sampled k m).det d = s.det d :=
  congrArg (fun ds => KeyMap.get ds Detector.reset d) ((State.sampled_changes s k m).apply (·.tamper.detectors))

/-- A sample that names one detector: an alarm where it is armed, quiet and its compare trips. -/
theorem exec_detectorTrip_one {s : State} (d : Nat) (k : TileClock) (m : Sample) (hmode : s.ms.mode ≠ .off) :
    exec (.detectorTrip [d] k m) s = .next (after s
      (let u := (quiet s).sampled k m
      if (decide (d < 22) && u.armed d && !(s.det d).tripped && u.compares m d) = true
        then (u.updDet d fun x => { x with tripped := true }).alarmEvent [d] 1 k.tile else u)) := by
  have hon : ((quiet s).ms.mode == Mode.off) = false := by simpa using hmode
  have hone : [d].eraseDups = [d] := rfl
  have hdet : ((quiet s).sampled k m).det d = s.det d := State.sampled_det ..
  show execDetectorTrip [d] k m s = _
  unfold execDetectorTrip
  rw [run_eq, hon]
  simp only [Bool.false_eq_true, if_false, hone, List.filter_cons, List.filter_nil, hdet]
  split
  · rfl
  · rfl

/-! ### Tests -/

/-- The state in which a detector's stimulation test falls due at `n`. -/
theorem exec_stimulationTest_of_due {s : State} {d tile n : Nat} {x : Bool} (hlow : 6 ≤ d) (hhigh : d < 22) (harmed : s.armed d = true)
    (hdue : (s.det d).testDue = some n) :
    exec (.detectorStimulationTest d x tile) s = .next (after s
      ((State.stimulate (if s.ms.mode = .sentinel then { quiet s with tamper := { s.tamper with rtc := max s.tamper.rtc n } } else (quiet s).advance n)
        d x tile).drawTest d)) := by
  have hready : 6 ≤ d ∧ d < 22 ∧ (quiet s).armed d = true := ⟨hlow, hhigh, harmed⟩
  have hdue' : ((quiet s).det d).testDue = some n := hdue
  show execDetectorStimulationTest d x tile s = _
  unfold execDetectorStimulationTest
  rw [run_eq, if_pos hready]
  simp only [hdue', quiet_ms, beq_iff_eq]
  rfl

/-! ### The cell -/

theorem State.cellGate_tamper (s : State) : s.cellGate.tamper = s.tamper := (State.cellGate_changes s).apply (·.tamper)

theorem State.cellGate_mode (s : State) : s.cellGate.ms.mode = s.ms.mode := (State.cellGate_changes s).apply (·.ms.mode)

theorem State.cellGate_soc (s : State) : s.cellGate.soc = s.soc := by
  unfold State.cellGate
  split
  · rfl
  · rfl

theorem State.cellGate_cellLow (s : State) :
    s.cellGate.ms.gates.cellLow = (if s.boot.facet = false then s.ms.gates.cellLow else if s.cellLess then false
      else if s.soc < s.cfgNat F_CELL_FLOOR 0 then true else if s.cfgNat F_CELL_FLOOR 0 + 5 ≤ s.soc then false else s.ms.gates.cellLow) := by
  unfold State.cellGate
  cases hfacet : s.boot.facet with
  | false => rfl
  | true => rfl

end Sys2Proof.Machine

namespace Sys2Proof.Slice0
open Sys2Proof Sys2Proof.Machine

/-- Settles O50: a sample judges each detector that it names; faults, the cell and its supply act by one branch each. -/
theorem sentinelEventsComplete : Obligations.SentinelEventsComplete := by
  refine ⟨?_, ?_, ?_, ?_, ?_, ?_, ?_, ?_, ?_, ?_, ?_, ?_, ?_, ?_, ?_, ?_, ?_⟩
  · intro s d k m hmode hd harmed hquiet htrip
    rw [exec_detectorTrip_one d k m hmode]
    simp only [decide_eq_true hd, harmed, hquiet, htrip, Bool.not_false, Bool.and_self, if_true]
  · intro s k m hmode hlow hhigh
    have hcompare : ((quiet s).sampled k m).compares m 15 = false := decide_eq_false (by omega)
    rw [exec_detectorTrip_one 15 k m hmode]
    simp only [hcompare, Bool.and_false, Bool.false_eq_true, if_false]
  · intro s d k m hmode hd harmed hquiet hcore hio
    have hon : s.ms.mode ≠ .off := ne_of_eq_value hmode (by decide)
    have hsampled : (quiet s).sampled k m = { quiet s with tamper := { s.tamper with rtc := s.tamper.rtc + m.elapsed } } :=
      if_pos (beq_iff_eq.2 hmode)
    have htrip : State.compares { quiet s with tamper := { s.tamper with rtc := s.tamper.rtc + m.elapsed } } m d = true := by
      unfold State.compares
      rw [if_neg hcore, if_neg hio]
    have harmed' : State.armed { quiet s with tamper := { s.tamper with rtc := s.tamper.rtc + m.elapsed } } d = true := harmed
    rw [exec_detectorTrip_one d k m hon, hsampled]
    simp only [decide_eq_true hd, harmed', hquiet, htrip, Bool.not_false, Bool.and_self, if_true]
  · intro s ds k m hmode
    show execDetectorTrip ds k m s = _
    unfold execDetectorTrip
    have hoff : ((quiet s).ms.mode == Mode.off) = true := beq_iff_eq.2 hmode
    rw [run_eq, if_pos hoff]
  · intro s d hd harmed
    have harmed' : ((quiet s).armed d && decide (d < 22)) = true := by
      rw [decide_eq_true hd, Bool.and_true]
      exact harmed
    have hexec : exec (.detectorQuiet d) s = .next (after s ((quiet s).updDet d fun x => { x with tripped := false })) := by
      show execDetectorQuiet d s = _
      unfold execDetectorQuiet
      rw [run_eq, if_pos harmed']
    exact ⟨_, hexec, congrArg (·.tripped) ((quiet s).updDet_det d fun x => { x with tripped := false }), rfl, rfl⟩
  · intro s d tile n x hlow hhigh harmed hdue
    exact exec_stimulationTest_of_due hlow hhigh harmed hdue
  · intro s d tile x h
    show execDetectorStimulationTest d x tile s = _
    unfold execDetectorStimulationTest
    rw [run_eq]
    by_cases hready : 6 ≤ d ∧ d < 22 ∧ (quiet s).armed d = true
    · obtain ⟨hlow, hhigh, harmed⟩ := hready
      have hnone : ((quiet s).det d).testDue = none := by
        rcases h with h | h | h | h
        · omega
        · omega
        · exact absurd (h.symm.trans harmed) (by decide)
        · exact h
      rw [if_pos ⟨hlow, hhigh, harmed⟩]
      simp only [hnone]
    · rw [if_neg hready]
  · intro s halive
    show execLockstepDisagree s = _
    unfold execLockstepDisagree
    rw [runOn_acts halive]
    rfl
  · intro s a b halive
    show execBusIntegrityMismatch a b s = _
    unfold execBusIntegrityMismatch
    rw [runOn_acts halive]
  · intro s h
    have hstarts : ¬ ((quiet s).supply.sentinel && (quiet s).ms.mode != Mode.sentinel) = true := by
      rcases h with h | h
      · rw [quiet_supply, h, Bool.false_and]
        decide
      · rw [quiet_ms, h, bne_self_eq_false, Bool.and_false]
        decide
    obtain ⟨u, hu⟩ : ∃ u, u = { quiet s with
        supply := { s.supply with sentinel := true }
        ms := { s.ms with mode := .sentinel }
        tamper := { TamperState.reset with cell := { CellState.reset with chg := s.tamper.cell.chg } } } := ⟨_, rfl⟩
    have hexec : exec .sentinelPowerOn s = .next (after s u.drawTests) := by
      rw [hu]
      show execSentinelPowerOn s = _
      unfold execSentinelPowerOn
      rw [run_eq, if_neg hstarts]
      rfl
    have hdrawn := State.drawTests_changes u
    generalize u.drawTests = v at hexec hdrawn
    refine ⟨_, hexec, ?_, ?_, ?_, ?_, ?_, ?_⟩
    · exact (hdrawn.apply (·.supply.sentinel)).trans (congrArg (·.supply.sentinel) hu)
    · exact (hdrawn.apply (·.ms.mode)).trans (congrArg (·.ms.mode) hu)
    · exact (hdrawn.apply (·.tamper.log)).trans (congrArg (·.tamper.log) hu)
    · exact (hdrawn.apply (·.tamper.powerOn)).trans (congrArg (·.tamper.powerOn) hu)
    · exact (hdrawn.apply (·.tamper.rtc)).trans (congrArg (·.tamper.rtc) hu)
    · exact (hdrawn.apply (·.tamper.cell.chg)).trans (congrArg (·.tamper.cell.chg) hu)
  · intro s hon hmode
    have hstays : ((quiet s).supply.sentinel && (quiet s).ms.mode != Mode.sentinel) = true := by
      rw [quiet_supply, hon, Bool.true_and]
      exact bne_iff_ne.2 hmode
    show execSentinelPowerOn s = _
    unfold execSentinelPowerOn
    rw [run_eq, if_pos hstays]
  · intro s v i n halive
    show execCellStateChange v i n s = _
    unfold execCellStateChange
    rw [runOn_acts halive]
    rfl
  · intro s d halive hsince hcharging
    have hcharges : ¬ charging (quiet s).tamper.cell.state = false := ne_of_eq_value hcharging (by decide)
    show execChargerTimerExpire s = _
    unfold execChargerTimerExpire
    rw [runOn_acts halive]
    simp only [quiet_tamper, hsince]
    exact congrArg (fun u => Host.Outcome.next (after s u)) (if_neg hcharges)
  · intro s v halive hawaits
    obtain ⟨u, hu⟩ : ∃ u, u = { quiet s with tamper := { s.tamper with cell := { s.tamper.cell with
      vbat := v, remaining := (restingPercent (v + 4200 - s.chgMv) - 10) * s.tamper.cell.learned / 100, estimate := 2 } } } := ⟨_, rfl⟩
    have hexec : exec (.chargeEstimate v) s = .next (after s u.cellGate) := by
      rw [hu]
      show execChargeEstimate v s = _
      unfold execChargeEstimate
      rw [runOn_acts halive]
      exact congrArg (fun u => Host.Outcome.next (after s u)) (if_neg (Classical.not_not.2 hawaits))
    have htamper := (State.cellGate_tamper u).trans (congrArg (·.tamper) hu)
    exact ⟨_, hexec, congrArg (·.cell.vbat) htamper, congrArg (·.cell.estimate) htamper, congrArg (·.cell.remaining) htamper⟩
  · intro s n hon halive
    have hon' : ¬ (!(quiet s).supply.sentinel) = true := by rw [quiet_supply, hon]; decide
    show execGaugeLevelCross n s = _
    unfold execGaugeLevelCross
    rw [run_eq, if_neg hon']
    exact congrArg (fun u => Host.Outcome.next (after s u)) (if_neg (ne_of_eq_value halive (by decide)))
  · intro s n halive hon
    obtain ⟨u, hu⟩ : ∃ u, u = { quiet s with tamper := { s.tamper with cell := { s.tamper.cell with remaining := n } } } := ⟨_, rfl⟩
    have hexec : exec (.gaugeLevelCross n) s = .next (after s u.cellGate) := by
      have hon' : ¬ (!(quiet s).supply.sentinel) = true := by rw [quiet_supply, hon]; decide
      rw [hu]
      show execGaugeLevelCross n s = _
      unfold execGaugeLevelCross
      rw [run_eq, if_neg hon']
      exact congrArg (fun u => Host.Outcome.next (after s u)) (if_pos halive)
    have hsoc : (after s u.cellGate).soc = u.soc := State.cellGate_soc u
    refine ⟨_, hexec, ?_, ?_, ?_⟩
    · exact congrArg (·.cell.remaining) ((State.cellGate_tamper u).trans (congrArg (·.tamper) hu))
    · exact (State.cellGate_mode u).trans (congrArg (·.ms.mode) hu)
    · rw [hsoc]
      refine (State.cellGate_cellLow u).trans ?_
      rw [hu]
      rfl
  · intro s b
    show execChgSupplyChange b s = _
    unfold execChgSupplyChange
    rw [run_eq]
    rfl

end Sys2Proof.Slice0
end

section
/-!
PROOFS. The tamper group.
-/
namespace Sys2Proof.Machine
open Sys2Proof Sys2Proof.Slice0

/-! ### Readings of a request begun -/

theorem begun_cfgNat (s : State) (p : Port) (q : Request) (f d : Nat) : (begun s p q).cfgNat f d = s.cfgNat f d :=
  (begun_changes s p q).apply fun v => v.cfgNat f d

theorem begun_soc (s : State) (p : Port) (q : Request) : (begun s p q).soc = s.soc := (begun_changes s p q).apply State.soc

theorem begun_evidence (s : State) (p : Port) (q : Request) : (begun s p q).evidence = s.evidence :=
  (begun_changes s p q).apply State.evidence

theorem begun_sentinelLog (s : State) (p : Port) (q : Request) : (begun s p q).sentinelLog = s.sentinelLog :=
  (begun_changes s p q).apply State.sentinelLog

theorem begun_detectorRecord (s : State) (p : Port) (q : Request) : (begun s p q).detectorRecord = s.detectorRecord :=
  (begun_changes s p q).apply State.detectorRecord

/-! ### Acts of the device realm -/

/-- A request for an act leaves the keys. -/
theorem State.requestDevice_keys (s : State) (q : Request) (cls : Nat) : (s.requestDevice q cls).keys = s.keys :=
  (State.requestDevice_changes s q cls).apply (·.keys)

end Sys2Proof.Machine

namespace Sys2Proof.Slice0
open Sys2Proof Sys2Proof.Machine

/-- Settles O51: the group reads the Sentinel domain, which a request in flight has no part in. -/
theorem sentinelMailboxCommandsComplete : Obligations.SentinelMailboxCommandsComplete := by
  refine ⟨?_, ?_, ?_, ?_, ?_, ?_, ?_⟩
  · intro s p q hasked
    show execTamperStatus p s = _
    unfold execTamperStatus noPayload
    rw [runOn_serve_of_asked hasked]
    simp only [begun_detectorRecord, begun_evidence, begun_tamper]
  · intro s p q hasked
    show execCellStatus p s = _
    unfold execCellStatus noPayload
    rw [runOn_serve_of_asked hasked]
    simp only [begun_tamper, begun_soc, begun_free, begun_cfgNat, begun_ms] <;> rfl
  · intro s p q hasked
    show execSentinelLogRead p s = _
    unfold execSentinelLogRead noPayload
    rw [runOn_serve_of_asked hasked]
    simp only [begun_sentinelLog]
  · intro s p q x tile hasked hlen hlow hhigh
    have hnamed : ¬ (leNat q.payload < 6 ∨ 21 < leNat q.payload) := by omega
    show execDetectorTest p x tile s = _
    unfold execDetectorTest
    rw [runOn_serve_of_asked hasked]
    simp only [hlen, ne_eq, not_true_eq_false, if_false, hnamed]
  · intro s p q hasked
    show execZeroiseCommand p s = _
    unfold execZeroiseCommand noPayload
    rw [runOn_serve_of_asked hasked]
  · intro s p q hasked hempty hrealm hadmin hpending
    obtain ⟨hact, hnext⟩ := begun_requestDevice (p := p) 0x0B hrealm hadmin hpending
    have hkeys := (State.requestDevice_keys (begun s p q) q 0x0B).trans (begun_keys s p q)
    have hexec : exec (.zeroiseCommand p) s = .next (after s ((begun s p q).requestDevice q 0x0B)) := by
      show execZeroiseCommand p s = _
      unfold execZeroiseCommand
      rw [runOn_serve_of_asked hasked, noPayload_nil _ q _ hempty]
    exact ⟨_, hexec, hact, hnext, hkeys⟩
  · intro s p q hasked hlen
    show execRtcSet p s = _
    unfold execRtcSet
    rw [runOn_serve_of_asked hasked, if_neg (Classical.not_not.2 hlen)]

end Sys2Proof.Slice0
end

section
/-!
PROOFS. OTP programs, factory operations and the lifecycle group.
-/
namespace Sys2Proof.Machine
open Sys2Proof Sys2Proof.Slice0

/-! ### Readings of a request begun -/

theorem begun_otpWord (s : State) (p : Port) (q : Request) (w : Nat) : (begun s p q).otpWord w = s.otpWord w :=
  (begun_changes s p q).apply fun v => v.otpWord w

theorem begun_passes (s : State) (p : Port) (q : Request) (n : Nat) : (begun s p q).passes n = s.passes n :=
  (begun_changes s p q).apply fun v => v.passes n

theorem begun_locked (s : State) (p : Port) (q : Request) (n : Nat) : (begun s p q).locked n = s.locked n :=
  (begun_changes s p q).apply fun v => v.locked n

theorem begun_marginalIn (s : State) (p : Port) (q : Request) (first n : Nat) : (begun s p q).marginalIn first n = s.marginalIn first n :=
  (begun_changes s p q).apply fun v => v.marginalIn first n

theorem begun_lifecycleCode (s : State) (p : Port) (q : Request) : (begun s p q).lifecycleCode = s.lifecycleCode :=
  (begun_changes s p q).apply State.lifecycleCode

theorem begun_qmark (s : State) (p : Port) (q : Request) : (begun s p q).qmark = s.qmark := (begun_changes s p q).apply State.qmark

theorem begun_recom (s : State) (p : Port) (q : Request) : (begun s p q).recom = s.recom := (begun_changes s p q).apply State.recom

theorem begun_apexArb (s : State) (p : Port) (q : Request) : (begun s p q).apexArb = s.apexArb := (begun_changes s p q).apply State.apexArb

theorem begun_facetArb (s : State) (p : Port) (q : Request) : (begun s p q).facetArb = s.facetArb := (begun_changes s p q).apply State.facetArb

theorem begun_commissionCheck (s : State) (p : Port) (q : Request) (b : Bytes) : (begun s p q).commissionCheck b = s.commissionCheck b :=
  (begun_changes s p q).apply fun v => v.commissionCheck b

theorem begun_recommissionCheck (s : State) (p : Port) (q : Request) (b : Bytes) : (begun s p q).recommissionCheck b = s.recommissionCheck b :=
  (begun_changes s p q).apply fun v => v.recommissionCheck b

theorem begun_scrapCheck (s : State) (p : Port) (q : Request) (b : Bytes) : (begun s p q).scrapCheck b = s.scrapCheck b :=
  (begun_changes s p q).apply fun v => v.scrapCheck b

/-! ### Programs -/

/-- What the program at the front does where its lock, if any, may be set: the pulse of its bits, if it has some. -/
def State.jobRun (s : State) (j : OtpJob) (bits : Option (Nat × Nat)) (low high : Nat) : State :=
  match bits with
  | none => s.afterProgram j
  | some (w, b) =>
    let s := (s.pulse w b low high).closeForGood
    if s.programmed w b then (s.trigger 11 ST_OK w).afterProgram j
    else (s.trigger 11 ST_OTP_PROGRAM w).programFailed j ST_OTP_PROGRAM

theorem exec_otpWordProgram_job {s : State} {w b lo hi : Nat} {j : OtpJob} {rest : List OtpJob} (halive : s.alive = true) (hjobs : s.otp.jobs = j :: rest)
    (hlock : ((lockedBy j).any fun n => !((quiet s).jobTaken rest).complete n) = false) :
    exec (.otpWordProgram w b lo hi) s = .next (after s (((quiet s).jobTaken rest).jobRun j ((quiet s).jobBits j) lo hi).afterStep3) := by
  show execOtpWordProgram w b lo hi s = _
  unfold execOtpWordProgram
  rw [runOn_acts halive]
  split
  · next j' rest' hfront =>
    obtain ⟨rfl, rfl⟩ : j = j' ∧ rest = rest' := List.cons_eq_cons.1 (hjobs.symm.trans hfront)
    exact congrArg (fun u : State => Host.Outcome.next (after s u.afterStep3)) (if_neg (ne_of_eq_value hlock Bool.false_ne_true))
  · next hnone => exact absurd (hjobs.symm.trans hnone) (List.cons_ne_nil j rest)

end Sys2Proof.Machine

namespace Sys2Proof.Slice0
open Sys2Proof Sys2Proof.Machine

/-- Settles O52: a program runs the job at the front of the queue; a factory operation or a request acts where its
conditions hold. -/
theorem lifecycleCommandsComplete : Obligations.LifecycleCommandsComplete := by
  refine ⟨?_, ?_, ?_, ?_, ?_, ?_, ?_, ?_, ?_, ?_, ?_, ?_⟩
  · intro s w b lo hi j rest x halive hjobs hlock hbits
    have hbits' : (quiet s).jobBits j = some x := hbits
    rw [exec_otpWordProgram_job halive hjobs hlock, hbits']
    rfl
  · intro s w b lo hi j rest halive hjobs hlock hbits
    have hbits' : (quiet s).jobBits j = none := hbits
    rw [exec_otpWordProgram_job halive hjobs hlock, hbits']
    rfl
  · intro s w b lo hi halive hjobs htest hopen hdisable hlisted
    have hready : (quiet s).isTest ∧ (quiet s).factoryOpen ∧ (quiet s).otp.testDisable = false ∧ otpListed w := ⟨htest, hopen, hdisable, hlisted⟩
    show execOtpWordProgram w b lo hi s = _
    unfold execOtpWordProgram
    rw [runOn_acts halive]
    simp only [quiet_otp, hjobs]
    exact congrArg (fun u => Host.Outcome.next (after s u)) (if_pos hready)
  · intro s halive hblank hopen hjobs hstep
    have hready : (quiet s).isBlank ∧ (quiet s).factoryOpen ∧ (quiet s).otp.jobs.isEmpty ∧ 3 ≤ (quiet s).boot.step :=
      ⟨hblank, hopen, List.isEmpty_iff.2 hjobs, hstep⟩
    show execFactoryBlankToTest s = _
    unfold execFactoryBlankToTest
    rw [runOn_acts halive, if_pos hready]
  · intro s k d halive htest hopen hapex hjobs hk hunused
    have hready : (quiet s).isTest ∧ (quiet s).factoryOpen ∧ (quiet s).boot.apex ∧ (quiet s).otp.jobs.isEmpty ∧ k < 2 ∧ (quiet s).unused (9 + k) :=
      ⟨htest, hopen, hapex, List.isEmpty_iff.2 hjobs, hk, hunused⟩
    show execFactoryEnrolment k d s = _
    unfold execFactoryEnrolment
    rw [runOn_acts halive, if_pos hready]
  · intro s halive htest hopen hapex hjobs hkeys
    show execFactoryTestToProduction s = _
    unfold execFactoryTestToProduction
    rw [runOn_acts halive]
    by_cases hpass : s.passes 0 ∧ s.passes 1 ∧ s.passes 6 ∧ (s.passes 9 ∨ s.passes 10)
    · obtain ⟨h0, h1, h6, h9⟩ := hpass
      have hready : (quiet s).isTest ∧ (quiet s).factoryOpen ∧ (quiet s).boot.apex ∧ (quiet s).otp.jobs.isEmpty ∧ (quiet s).passes 0
          ∧ (quiet s).passes 1 ∧ (quiet s).passes 6 ∧ ((quiet s).passes 9 ∨ (quiet s).passes 10) ∧ (quiet s).otp.bootKeys ≠ 0 :=
        ⟨htest, hopen, hapex, List.isEmpty_iff.2 hjobs, h0, h1, h6, h9, hkeys⟩
      rw [if_pos hready, if_pos ⟨h0, h1, h6, h9⟩]
    · rw [if_neg hpass, if_neg]
      rintro ⟨-, -, -, -, h0, h1, h6, h9, -⟩
      exact hpass ⟨h0, h1, h6, h9⟩
  · intro s halive hopen hjobs hstep
    have hready : (quiet s).factoryOpen ∧ (quiet s).otp.jobs.isEmpty ∧ (3 ≤ (quiet s).boot.step ∨ ((quiet s).isTest ∧ (quiet s).boot.step = 0)) :=
      ⟨hopen, List.isEmpty_iff.2 hjobs, hstep⟩
    show execFactoryScrap s = _
    unfold execFactoryScrap
    rw [runOn_acts halive, if_pos hready]
  · intro s p q hasked
    show execLcStatus p s = _
    unfold execLcStatus noPayload
    rw [runOn_serve_of_asked hasked]
    simp only [begun_lifecycleCode, begun_evidence, begun_qmark, begun_recom, begun_apexArb, begun_facetArb, begun_locked, begun_passes, begun_otp,
      begun_marginalIn, begun_jtag, begun_boot]
  · intro s p q hasked hlen hn hend
    have hlisted : ¬ (1000 < field q.payload 2 2 ∨ 2048 < field q.payload 0 2 + field q.payload 2 2) := by omega
    show execOtpRead p s = _
    unfold execOtpRead
    rw [runOn_serve_of_asked hasked]
    simp only [hlen, ne_eq, not_true_eq_false, if_false, hlisted, begun_otpWord]
  · intro s p q hasked hrealm
    show execLcCommission p s = _
    unfold execLcCommission
    rw [runOn_serve_of_asked hasked, if_neg (Classical.not_not.2 hrealm), begun_commissionCheck]
  · intro s p q hasked hrealm
    show execLcRecommission p s = _
    unfold execLcRecommission
    rw [runOn_serve_of_asked hasked, if_neg (Classical.not_not.2 hrealm), begun_recommissionCheck]
  · intro s p q hasked hrealm
    show execLcScrap p s = _
    unfold execLcScrap
    rw [runOn_serve_of_asked hasked, if_neg (Classical.not_not.2 hrealm), begun_scrapCheck, begun_ms]

end Sys2Proof.Slice0
end

section
/-!
PROOFS. The debug group.
-/
namespace Sys2Proof.Machine
open Sys2Proof Sys2Proof.Slice0

/-! ### Readings of a request begun -/

theorem begun_debugCheck (s : State) (p : Port) (q : Request) : (begun s p q).debugCheck = s.debugCheck :=
  (begun_changes s p q).apply State.debugCheck

theorem begun_isProduction (s : State) (p : Port) (q : Request) : (begun s p q).isProduction = s.isProduction :=
  (begun_changes s p q).apply State.isProduction

theorem State.answer_jtag (s : State) (q : Request) (st : Nat) (b : Bytes) : (s.answer q st b).jtag = s.jtag :=
  (State.answer_changes s q st b).apply (·.jtag)

end Sys2Proof.Machine

namespace Sys2Proof.Slice0
open Sys2Proof Sys2Proof.Machine

/-- Settles O53: the challenge and the token are the session's, the debug access and its limit the device's. -/
theorem debugCommandsComplete : Obligations.DebugCommandsComplete := by
  refine ⟨?_, ?_, ?_, ?_, ?_⟩
  · intro s p q hasked
    have hnow : ((begun s p q).draw 16).2.now = s.now := begun_now s p q
    show execDebugChallenge p s = _
    unfold execDebugChallenge noPayload
    rw [runOn_serve_of_asked hasked]
    simp only [hnow]
  · intro s p q hasked hlen
    show execDebugOpen p s = _
    unfold execDebugOpen
    rw [runOn_serve_of_asked hasked, if_neg (Classical.not_not.2 hlen), begun_debugCheck, begun_session]
  · intro s p q hasked hempty
    have hjtag : ((begun s p q).answer q ST_OK []).jtag = s.jtag := (State.answer_jtag ..).trans (begun_jtag s p q)
    show execDebugClose p s = _
    unfold execDebugClose
    rw [runOn_serve_of_asked hasked, noPayload_nil _ q _ hempty]
    simp only [hjtag]
  · intro s d halive hlimit
    show execDebugLifetimeExpire s = _
    unfold execDebugLifetimeExpire
    rw [runOn_acts halive]
    simp only [quiet_jtag, hlimit]
  · intro s p q hasked hempty
    show execDebugDisablePermanent p s = _
    unfold execDebugDisablePermanent
    rw [runOn_serve_of_asked hasked, noPayload_nil _ q _ hempty, begun_isProduction]

end Sys2Proof.Slice0
end

section
/-!
PROOFS. The firmware group.
-/
namespace Sys2Proof.Machine
open Sys2Proof Sys2Proof.Slice0

/-! ### Readings of a request begun -/

theorem begun_slotStatus (s : State) (p : Port) (q : Request) (k n : Nat) : (begun s p q).slotStatus k n = s.slotStatus k n :=
  (begun_changes s p q).apply fun v => v.slotStatus k n

theorem begun_activeSlot (s : State) (p : Port) (q : Request) (k : Nat) : (begun s p q).activeSlot k = s.activeSlot k :=
  (begun_changes s p q).apply fun v => v.activeSlot k

theorem begun_inactiveSlot (s : State) (p : Port) (q : Request) (k : Nat) : (begun s p q).inactiveSlot k = s.inactiveSlot k :=
  (begun_changes s p q).apply fun v => v.inactiveSlot k

theorem begun_image (s : State) (p : Port) (q : Request) (k n : Nat) : (begun s p q).image k n = s.image k n :=
  (begun_changes s p q).apply fun v => v.image k n

theorem begun_verifySlot (s : State) (p : Port) (q : Request) (k n : Nat) : (begun s p q).verifySlot k n = s.verifySlot k n :=
  (begun_changes s p q).apply fun v => v.verifySlot k n

theorem begun_activateCheck (s : State) (p : Port) (q : Request) (b : Bytes) : (begun s p q).activateCheck b = s.activateCheck b :=
  (begun_changes s p q).apply fun v => v.activateCheck b

theorem begun_svnBeyond (s : State) (p : Port) (q : Request) : (begun s p q).svnBeyond = s.svnBeyond :=
  (begun_changes s p q).apply State.svnBeyond

theorem begun_revokeCheck (s : State) (p : Port) (q : Request) (b : Bytes) : (begun s p q).revokeCheck b = s.revokeCheck b :=
  (begun_changes s p q).apply fun v => v.revokeCheck b

end Sys2Proof.Machine

namespace Sys2Proof.Slice0
open Sys2Proof Sys2Proof.Machine

/-- Settles O54: slots, images and checks are the device's, which a request in flight has no part in. -/
theorem firmwareCommandsComplete : Obligations.FirmwareCommandsComplete := by
  refine ⟨?_, ?_, ?_, ?_, ?_, ?_, ?_, ?_, ?_, ?_⟩
  · intro s p q hasked
    show execFwStatus p s = _
    unfold execFwStatus noPayload
    rw [runOn_serve_of_asked hasked]
    simp only [begun_slotStatus, begun_activeSlot, begun_fw, begun_apexArb, begun_facetArb]
  · intro s p q hasked hlen hkind
    show execFwSlotErase p s = _
    unfold execFwSlotErase
    rw [runOn_serve_of_asked hasked, onePayload_of_ok _ hlen hkind, begun_fw, begun_inactiveSlot]
  · intro s k halive herasing
    show execFwSlotEraseDone true s = _
    unfold execFwSlotEraseDone
    rw [runOn_acts halive]
    simp only [quiet_fw, herasing, if_true]
  · intro s k halive herasing
    show execFwSlotEraseDone false s = _
    unfold execFwSlotEraseDone
    rw [runOn_acts halive]
    simp only [quiet_fw, herasing, Bool.false_eq_true, if_false]
    rfl
  · intro s p q hasked hmin hmax hkind herasing hoff hsize
    have hlen : ¬ (q.payload.length < 6 ∨ 4000 < (q.payload.drop 5).length) := by
      rw [List.length_drop]
      omega
    have hfits : ¬ (field q.payload 1 4 ≠ (s.image (byteAt q.payload 0) (s.inactiveSlot (byteAt q.payload 0))).length
        ∨ slotSize (byteAt q.payload 0) < field q.payload 1 4 + (q.payload.drop 5).length) := by
      rw [List.length_drop]
      omega
    show execFwStage p s = _
    unfold execFwStage
    rw [runOn_serve_of_asked hasked]
    dsimp only
    rw [if_neg hlen, if_neg (ne_of_eq_value hkind (by decide)), begun_fw, herasing, begun_inactiveSlot, begun_image, if_neg hfits]
    rfl
  · intro s p q hasked hlen hkind
    show execFwStageEnd p s = _
    unfold execFwStageEnd
    rw [runOn_serve_of_asked hasked, onePayload_of_ok _ hlen hkind, begun_fw, begun_inactiveSlot, begun_verifySlot]
  · intro s p q hasked
    show execFwActivate p s = _
    unfold execFwActivate
    rw [runOn_serve_of_asked hasked, begun_activateCheck]
  · intro s d halive hrestart
    show execFwActivateRestart s = _
    unfold execFwActivateRestart
    rw [runOn_acts halive]
    simp only [quiet_fw, hrestart]
  · intro s p q hasked hempty
    show execFwSvnCommit p s = _
    unfold execFwSvnCommit
    rw [runOn_serve_of_asked hasked, noPayload_nil _ q _ hempty, begun_svnBeyond]
  · intro s p q hasked
    show execFwKeyRevoke p s = _
    unfold execFwKeyRevoke
    rw [runOn_serve_of_asked hasked, begun_revokeCheck]

end Sys2Proof.Slice0
end

section
/-!
PROOFS. The recorder.
-/
namespace Sys2Proof.Machine
open Sys2Proof Sys2Proof.Slice0

/-! ### Samples -/

/-- The subjects that a histogram samples at its instants. -/
def periodicSubject (n : Nat) : Bool := n == 2 || n == 3 || n == 5 || n == 6 || n == 7 || n == 9 || n == 0xA

/-- A sample of a running histogram of a periodic subject. -/
theorem exec_histSample {s : State} {h subject : Nat} (x : Measured) (halive : s.alive = true) (hh : h < 64) (hrunning : s.recorder.running = true)
    (hsubject : field (s.cfg F_HIST_CONFIG h) 0 2 = subject) (hperiodic : periodicSubject subject = true)
    (hlane : ¬ (subject = 5 ∧ s.laneUp (field (s.cfg F_HIST_CONFIG h) 4 4) = false)) :
    exec (.histSample h x) s = .next (after s
      (let arg := field (s.cfg F_HIST_CONFIG h) 4 4
      let v := s.histValue h subject arg x.value
      let u := if subject = 7 then { quiet s with recorder := { s.recorder with stretchSeen := KeyMap.put s.recorder.stretchSeen h (s.stretches arg) } }
        else quiet s
      (u.observe subject arg v x.mv).sample h v)) := by
  have hruns : ¬ (64 ≤ h ∨ periodicSubject subject = false ∨ (quiet s).recorder.running = false) := by
    rw [hperiodic, quiet_recorder, hrunning]
    simpa using hh
  subst hsubject
  show execHistSample h x s = _
  unfold execHistSample
  rw [runOn_acts halive]
  refine congrArg (fun u => Host.Outcome.next (after s u)) ?_
  exact (if_neg hruns).trans (if_neg hlane)

/-! ### Readings of a request begun -/

theorem begun_oldestRseq (s : State) (p : Port) (q : Request) : (begun s p q).oldestRseq = s.oldestRseq :=
  (begun_changes s p q).apply State.oldestRseq

theorem begun_recordsOf (s : State) (p : Port) (q : Request) (area : Nat) : (begun s p q).recordsOf area = s.recordsOf area :=
  (begun_changes s p q).apply fun v => v.recordsOf area

theorem begun_recordsIn (s : State) (p : Port) (q : Request) (first last : Nat) : (begun s p q).recordsIn first last = s.recordsIn first last :=
  (begun_changes s p q).apply fun v => v.recordsIn first last

theorem begun_histBlocks (s : State) (p : Port) (q : Request) (first n : Nat) : (begun s p q).histBlocks first n = s.histBlocks first n :=
  (begun_changes s p q).apply fun v => v.histBlocks first n

theorem begun_exportCheck (s : State) (p : Port) (q : Request) (b : Bytes) : (begun s p q).exportCheck b = s.exportCheck b :=
  (begun_changes s p q).apply fun v => v.exportCheck b

end Sys2Proof.Machine

namespace Sys2Proof.Slice0
open Sys2Proof Sys2Proof.Machine

/-- Settles O55: flushes, triggers and samples act at their instants while the recorder runs; its group reads the
records and the histograms. -/
theorem recorderCommandsComplete : Obligations.RecorderCommandsComplete := by
  refine ⟨?_, ?_, ?_, ?_, ?_, ?_, ?_, ?_, ?_, ?_, ?_, ?_, ?_, ?_⟩
  · intro s pass d halive hflush hrunning hretry
    have hflushes : (quiet s).recorder.running ∧ (quiet s).recorder.retryAt.isNone := ⟨hrunning, Option.isNone_iff_eq_none.2 hretry⟩
    show execJournalFlush pass s = _
    unfold execJournalFlush
    rw [runOn_acts halive]
    simp only [quiet_recorder, hflush]
    exact congrArg (fun u => Host.Outcome.next (after s u)) (if_pos hflushes)
  · intro s pass d halive hretry hrunning
    show execJournalFlushRetry pass s = _
    unfold execJournalFlushRetry
    rw [runOn_acts halive]
    simp only [quiet_recorder, hretry, hrunning, if_true]
  · intro s halive hrunning hdropped hroom
    have hreports : (quiet s).recorder.running ∧ (quiet s).recorder.dropped ≠ 0 ∧ (quiet s).recorder.staging.length < 64 := ⟨hrunning, hdropped, hroom⟩
    show execRecorderRoomReturns s = _
    unfold execRecorderRoomReturns
    rw [runOn_acts halive]
    exact congrArg (fun u => Host.Outcome.next (after s u)) (if_pos hreports)
  · intro s k halive hrunning hlow hhigh hsource hperiod
    have hfires : (quiet s).recorder.running ∧ 16 ≤ k ∧ k < 64 ∧ field ((quiet s).cfg F_TRIG_SOURCE k) 0 2 = 0x20
        ∧ 1000000 * field ((quiet s).cfg F_TRIG_SOURCE k) 4 4 ≠ 0 := ⟨hrunning, hlow, hhigh, hsource, Nat.mul_ne_zero (by decide) hperiod⟩
    show execPeriodicTrigger k s = _
    unfold execPeriodicTrigger
    rw [runOn_acts halive]
    exact congrArg (fun u => Host.Outcome.next (after s u)) (if_pos hfires)
  · intro s h mv v halive hh hrunning hsubject
    rcases hsubject with hsubject | hsubject | hsubject | hsubject | hsubject
    all_goals
      rw [exec_histSample _ halive hh hrunning hsubject rfl (by omega), hsubject]
      rfl
  · intro s h mv v halive hh hrunning hsubject
    rw [exec_histSample _ halive hh hrunning hsubject rfl (by omega)]
    rfl
  · intro s h mv v halive hh hrunning hsubject hlane
    rw [exec_histSample _ halive hh hrunning hsubject rfl (by rw [hlane]; exact fun hn => Bool.noConfusion hn.2)]
    rfl
  · intro s halive hrunning
    show execHistCheckpoint s = _
    unfold execHistCheckpoint
    rw [runOn_acts halive]
    exact congrArg (fun u => Host.Outcome.next (after s u)) (if_pos hrunning)
  · intro s p q hasked
    show execRecStatus p s = _
    unfold execRecStatus noPayload
    rw [runOn_serve_of_asked hasked]
    simp only [begun_recorder, begun_oldestRseq, begun_recordsOf]
  · intro s p q hasked hlen hlow hhigh
    have hn : ¬ (field q.payload 8 4 = 0 ∨ 31 < field q.payload 8 4) := by omega
    show execRecRead p s = _
    unfold execRecRead
    rw [runOn_serve_of_asked hasked]
    simp only [hlen, ne_eq, not_true_eq_false, if_false, hn, begun_recordsIn]
  · intro s p q hasked hlen hlow hhigh hend
    have hn : ¬ (field q.payload 1 4 = 0 ∨ 20 < field q.payload 1 4 ∨ 64 < byteAt q.payload 0 + field q.payload 1 4) := by omega
    show execRecHistRead p s = _
    unfold execRecHistRead
    rw [runOn_serve_of_asked hasked]
    simp only [hlen, ne_eq, not_true_eq_false, if_false, hn, begun_histBlocks]
  · intro s p q hasked
    show execRecExport p s = _
    unfold execRecExport
    rw [runOn_serve_of_asked hasked, begun_exportCheck]
  · intro s p q o hasked hlen houtput hid hoff
    show execRecResultRead p s = _
    unfold execRecResultRead
    rw [runOn_serve_of_asked hasked, begun_readOutput hlen houtput hid hoff]
  · intro s p q hasked hlen
    show execRecHistReset p s = _
    unfold execRecHistReset
    rw [runOn_serve_of_asked hasked, if_neg (Classical.not_not.2 hlen)]

end Sys2Proof.Slice0
end

section
/-!
PROOFS. Crossings, the core supply and the clock loops.
-/
namespace Sys2Proof.Machine
open Sys2Proof Sys2Proof.Slice0

/-! ### Crossings -/

theorem isTile_of_le {t : Nat} (h : t ≤ 23) : isTile t = true := decide_eq_true h

theorem isTile_of_lt {t : Nat} (h : 23 < t) : isTile t = false := decide_eq_false (by omega)

/-- What a crossing that timed out marks, counts and records. -/
def State.crossed (s : State) (a b : Nat) : State :=
  (State.updTile { s with tiles := { s.tiles with stuck := KeyMap.put s.tiles.stuck (32 * a + b) true } } b
    fun x => { x with cdcTimeouts := min 65535 (x.cdcTimeouts + 1) }).trigger 14 ST_CDC_TIMEOUT (a + 256 * b)

/-- The feeds of channel 0 among the items whose transfers were abandoned end. -/
def State.feedsCut (s : State) (items : List (Nat × Nat)) : State :=
  (items.filter fun p => p.1 == 0).foldl (fun s p => s.endFeed p.2 (((KeyMap.find s.cipher.feeds p.2).map (·.received)).getD 0) ST_CDC_TIMEOUT) s

/-- An item after the timeout at `now`: it fails where its transfer was abandoned, unless its outcome already stands. -/
def itemCut (items : List (Nat × Nat)) (now c : Nat) (x : Item) : Item :=
  if items.contains (c, x.seq) && !(x.cls == .refused || x.result.any fun r => r.status == ST_ABORTED || r.status == ST_MODE)
  then { x with result := some (Result.none_ ST_CDC_TIMEOUT), doneAt := now } else x

theorem exec_crossingTimeout {s : State} {a b : Nat} (items : List (Nat × Nat)) (halive : s.alive = true) (ha : a ≤ 23) (hb : b ≤ 23) (hab : a ≠ b) :
    exec (.crossingTimeout a b items) s = .next (after s
      ((((quiet s).crossed a b).feedsCut items).mapAdmitted (itemCut items (((quiet s).crossed a b).feedsCut items).now))) := by
  have hcrosses : ¬ ((!isTile a) = true ∨ (!isTile b) = true ∨ a = b) := by simp [isTile_of_le ha, isTile_of_le hb, hab]
  show execCrossingTimeout a b items s = _
  unfold execCrossingTimeout
  rw [runOn_acts halive, if_neg hcrosses]
  rfl

theorem State.feedsCut_of_items {items : List (Nat × Nat)} (s : State) (h : ∀ p ∈ items, p.1 ≠ 0) : s.feedsCut items = s := by
  have hnone : (items.filter fun p => p.1 == 0) = [] := List.filter_eq_nil_iff.2 fun p hp => by simpa using h p hp
  unfold State.feedsCut
  rw [hnone]
  rfl

theorem State.feedsCut_of_feed {s : State} {n : Nat} {x : Feed} (hfeed : KeyMap.find s.cipher.feeds n = some x) :
    s.feedsCut [(0, n)] = s.endFeed n x.received ST_CDC_TIMEOUT := by
  show s.endFeed n (((KeyMap.find s.cipher.feeds n).map (·.received)).getD 0) ST_CDC_TIMEOUT = _
  rw [hfeed]
  rfl

/-- The items that a feed's number names. -/
theorem itemCut_feed (n now : Nat) : itemCut [(0, n)] now = fun c x =>
    if (c, x.seq) = (0, n) ∧ ¬ (x.cls == .refused || x.result.any fun r => r.status == ST_ABORTED || r.status == ST_MODE)
    then { x with result := some (Result.none_ ST_CDC_TIMEOUT), doneAt := now } else x := by
  funext c x
  refine ite_congr (propext ?_) (fun _ => rfl) fun _ => rfl
  rw [Bool.and_eq_true, List.contains_iff_mem, List.mem_singleton, Bool.not_eq_true', Bool.not_eq_true]

theorem itemCut_seq (items : List (Nat × Nat)) (now c : Nat) (x : Item) : (itemCut items now c x).seq = x.seq := by
  unfold itemCut
  split
  · rfl
  · rfl

theorem KeyMap.find_mapVals {α β : Type} (m : KeyMap α) (f : Nat → α → β) (n : Nat) :
    KeyMap.find (KeyMap.mapVals m f) n = (KeyMap.find m n).map (f n) := by
  induction m with
  | nil => rfl
  | cons p rest ih =>
    obtain ⟨k, v⟩ := p
    show (if k = n then some (f k v) else if n < k then none else KeyMap.find (KeyMap.mapVals rest f) n) = (if k = n then some v
      else if n < k then none else KeyMap.find rest n).map (f n)
    split
    · next h => rw [h]; rfl
    · split
      · rfl
      · exact ih

theorem State.mapAdmitted_admitted (s : State) (f : Nat → Item → Item) (c : Nat) : ((s.mapAdmitted f).chan c).admitted = (s.chan c).admitted.map (f c) := by
  unfold State.chan State.mapAdmitted KeyMap.get
  rw [KeyMap.find_mapVals]
  cases KeyMap.find s.chans c with
  | none => rfl
  | some x => rfl

/-- Each admitted item of a sequence number is the item before it, cut. -/
theorem find?_map_itemCut (items : List (Nat × Nat)) (now c n : Nat) (l : List Item) :
    (l.map (itemCut items now c)).find? (fun x => x.seq == n) = (l.find? fun x => x.seq == n).map fun x =>
      if items.contains (c, n) && !(x.cls == .refused || x.result.any fun r => r.status == ST_ABORTED || r.status == ST_MODE)
      then { x with result := some (Result.none_ ST_CDC_TIMEOUT), doneAt := now } else x := by
  have hseq : (fun x : Item => x.seq == n) ∘ itemCut items now c = fun x => x.seq == n := by
    funext x
    exact congrArg (· == n) (itemCut_seq items now c x)
  rw [List.find?_map, hseq]
  refine Option.map_congr fun x hx => ?_
  have hn : x.seq = n := eq_of_beq (List.find?_some (p := fun x : Item => x.seq == n) hx)
  subst hn
  rfl

theorem State.crossed_ms (s : State) (a b : Nat) : (s.crossed a b).ms = s.ms :=
  (State.trigger_changes ..).apply (·.ms)

theorem State.crossed_now (s : State) (a b : Nat) : (s.crossed a b).now = s.now :=
  (State.trigger_changes ..).apply (·.now)

theorem State.crossed_chans (s : State) (a b : Nat) : (s.crossed a b).chans = s.chans :=
  (State.trigger_changes ..).apply (·.chans)

theorem State.crossed_feeds (s : State) (a b : Nat) : (s.crossed a b).cipher.feeds = s.cipher.feeds :=
  (State.trigger_changes ..).apply (·.cipher.feeds)

theorem State.crossed_tiles (s : State) (a b : Nat) :
    (s.crossed a b).tiles = (State.updTile { s with tiles := { s.tiles with stuck := KeyMap.put s.tiles.stuck (32 * a + b) true } } b
      fun x => { x with cdcTimeouts := min 65535 (x.cdcTimeouts + 1) }).tiles :=
  (State.trigger_changes ..).apply (·.tiles)

theorem State.crossed_stuck (s : State) (a b : Nat) : (s.crossed a b).stuck a b = true := by
  unfold State.stuck
  rw [State.crossed_tiles]
  exact congrArg Option.isSome (KeyMap.find_put_self s.tiles.stuck (32 * a + b) true)

theorem State.tile_congr {s t : State} (h : s.tiles = t.tiles) (n : Nat) : s.tile n = t.tile n := by
  unfold State.tile
  rw [h]

theorem State.crossed_timeouts (s : State) (a b : Nat) : ((s.crossed a b).tile b).cdcTimeouts = min 65535 ((s.tile b).cdcTimeouts + 1) := by
  rw [State.tile_congr (State.crossed_tiles s a b) b, State.updTile_tile]
  rfl

/-! ### The core supply -/

/-- A frame that comes back while the controller waits for one, of a write that has not been read back yet or of its read. -/
theorem exec_avsFrameComplete {s : State} {w : AvsWrite} (good : Bool) (v : Nat) (halive : s.alive = true) (hwrite : s.tiles.avs.write = some w)
    (hretry : s.tiles.avs.retryAt = none) :
    exec (.avsFrameComplete good v) s = .next (after s
      (if w.readback = false then
        if good then State.emit { quiet s with tiles := { s.tiles with avs := { s.tiles.avs with write := some { w with readback := true } } } } (.avs w.target true)
        else (quiet s).avsFailed w
      else
        let u : State := { quiet s with tiles := { s.tiles with avs := { s.tiles.avs with readback := v % 65536 } } }
        if good ∧ v = w.target then State.avsUpdate { u with tiles := { u.tiles with avs := { u.tiles.avs with write := none, mv := w.target } } }
        else u.avsFailed w)) := by
  show execAvsFrameComplete good v s = _
  unfold execAvsFrameComplete
  rw [runOn_acts halive]
  simp only [quiet_tiles, hwrite, hretry, Option.isSome_none, Bool.false_eq_true, if_false, Bool.not_eq_true']

/-- The controller tries again after a fault, with no write left over: the demand first, then a lowering that is due. -/
theorem exec_avsFaultRetry {s : State} {d : Nat} (halive : s.alive = true) (hwrite : s.tiles.avs.write = none) (hretry : s.tiles.avs.retryAt = some d) :
    exec .avsFaultRetry s = .next (after s
      (let u := (quiet s).advance d
      if u.tiles.avs.mv < u.tiles.avs.demand then u.avsWrite u.tiles.avs.demand
      else if u.tiles.avs.lowerDue.any fun due => decide (due ≤ u.now) then u.avsLower
      else { u with tiles := { u.tiles with avs := { u.tiles.avs with retryAt := none } } })) := by
  show execAvsFaultRetry s = _
  unfold execAvsFaultRetry
  rw [runOn_acts halive]
  simp only [quiet_tiles, hwrite, hretry]

/-- The controller repeats a write that failed. -/
theorem exec_avsWriteRetry {s : State} {w : AvsWrite} {d : Nat} (halive : s.alive = true) (hwrite : s.tiles.avs.write = some w)
    (hretry : s.tiles.avs.retryAt = some d) :
    exec .avsWriteRetry s = .next (after s (State.avsSend { (quiet s).advance d with tiles := { s.tiles with avs := { s.tiles.avs with
      write := some { w with repeats := w.repeats + 1 }, retryAt := none, retries := min 255 (s.tiles.avs.retries + 1) } } } w.target)) := by
  show execAvsWriteRetry s = _
  unfold execAvsWriteRetry
  rw [runOn_acts halive]
  simp only [quiet_tiles, hwrite, hretry]
  rfl

/-! ### Clock loops -/

/-- A loop's tile after one interval at `now`. -/
def loopTurn (x : Tile) (slack : Int) (vdd now : Nat) : Tile :=
  if slack < 5 then
    let stuck := decide (ceilingMv vdd ≤ x.vlocal)
    { x with
      vlocal := clampMv vdd (x.vlocal + 5), high := 0, atCeiling := stuck
      ceilingSince := if stuck then some (x.ceilingSince.getD now) else none }
  else
    let up := if 11 < slack then x.high + 1 else 0
    { x with
      vlocal := clampMv vdd (if up = 100 then x.vlocal - 5 else x.vlocal), high := if up = 100 then 0 else up, atCeiling := false, ceilingSince := none }

/-- An interval after which the tile is not at its ceiling. -/
theorem exec_loopInterval_of_below {s : State} {n v : Nat} {k : Int} {y : Tile} (halive : s.alive = true) (hn : n ≤ 23)
    (hturn : loopTurn (s.tile n) k v (max s.now (ceilDiv s.now 1000 * 1000)) = y) (hbelow : y.ceilingSince = none) :
    exec (.loopInterval n k v) s = .next (after s ((((quiet s).advance (ceilDiv s.now 1000 * 1000)).updTile n fun _ => y).avsUpdate)) := by
  have htile : ¬ (!isTile n) = true := by simp [isTile_of_le hn]
  subst hturn
  show execLoopInterval n k v s = _
  unfold execLoopInterval
  rw [runOn_acts halive, if_neg htile]
  refine congrArg (fun u => Host.Outcome.next (after s u)) (if_neg ?_)
  rintro ⟨-, -, h⟩
  have hany : ((loopTurn (s.tile n) k v (max s.now (ceilDiv s.now 1000 * 1000))).ceilingSince.any
    fun t => decide (t + 10000000 ≤ _)) = true := h
  rw [hbelow] at hany
  exact Bool.false_ne_true hany

/-- Slack within the band leaves the supply. -/
theorem loopTurn_of_band (x : Tile) {k : Int} (v now : Nat) (hlow : 5 ≤ k) (hhigh : k ≤ 11) :
    loopTurn x k v now = { x with vlocal := clampMv v x.vlocal, high := 0, atCeiling := false, ceilingSince := none } := by
  unfold loopTurn
  rw [if_neg (Int.not_lt.2 hlow), if_neg (Int.not_lt.2 hhigh)]
  rfl

/-- Short slack raises the supply, here of a tile below its ceiling. -/
theorem loopTurn_of_short (x : Tile) {k : Int} {v : Nat} (now : Nat) (hlow : k < 5) (hbelow : x.vlocal < ceilingMv v) :
    loopTurn x k v now = { x with vlocal := clampMv v (x.vlocal + 5), high := 0, atCeiling := false, ceilingSince := none } := by
  unfold loopTurn
  rw [if_pos hlow, decide_eq_false (Nat.not_le.2 hbelow)]
  rfl

/-- Long slack counts, short of the hundredth interval. -/
theorem loopTurn_of_long (x : Tile) {k : Int} (v now : Nat) (hhigh : 11 < k) (hcount : x.high + 1 ≠ 100) :
    loopTurn x k v now = { x with vlocal := clampMv v x.vlocal, high := x.high + 1, atCeiling := false, ceilingSince := none } := by
  unfold loopTurn
  rw [if_neg (by omega), if_pos hhigh]
  simp only [hcount, if_false]

/-- The hundredth interval of long slack lowers the supply. -/
theorem loopTurn_of_hundredth (x : Tile) {k : Int} (v now : Nat) (hhigh : 11 < k) (hcount : x.high = 99) :
    loopTurn x k v now = { x with vlocal := clampMv v (x.vlocal - 5), high := 0, atCeiling := false, ceilingSince := none } := by
  unfold loopTurn
  rw [if_neg (by omega), if_pos hhigh, hcount]
  rfl

/-- The counts of stretched cycles have no part in the output side. -/
theorem State.carryCount_quiet (s : State) (n : Nat) : (quiet s).carryCount n = quiet (s.carryCount n) := by
  have hstuck : (quiet s).stuck n countTile = s.stuck n countTile := rfl
  unfold State.carryCount
  cases hcount : KeyMap.find s.tiles.counts n with
  | none => simp only [quiet_tiles, hcount]
  | some x =>
    simp only [quiet_tiles, hcount, hstuck]
    split
    · rfl
    · split
      · rfl
      · rfl

theorem State.countStretch_quiet (s : State) (n : Nat) : ((quiet s).countStretch n).tiles = (s.countStretch n).tiles :=
  congrArg (·.tiles) (State.carryCount_quiet
    { s with tiles := { s.tiles with counts := KeyMap.put s.tiles.counts n (KeyMap.get s.tiles.counts ⟨0, false⟩ n).add } } n)

/-- A stretched cycle of a tile whose sector does not reach its thirteenth. -/
theorem exec_clockStretch_of_few {s : State} {n m : Nat} {x : Tile} (halive : s.alive = true) (hn : n ≤ 23) (hcrypto : cryptoTile n = true)
    (hx : (s.countStretch n).tile n = x) (hm : (if x.sector.1 = s.now / 256 then x.sector.2 + 1 else 1) = m) (hfew : m ≠ 13) :
    exec (.clockStretch n) s = .next (after s (((quiet s).countStretch n).updTile n fun _ => { x with sector := (s.now / 256, m) })) := by
  have htile : ¬ (!isTile n) = true := by simp [isTile_of_le hn]
  have hcrypto' : ¬ (!cryptoTile n) = true := by simp [hcrypto]
  have hx' : ((quiet s).countStretch n).tile n = x := (State.tile_congr (State.countStretch_quiet s n) n).trans hx
  show execClockStretch n s = _
  unfold execClockStretch
  rw [runOn_acts halive, if_neg htile]
  dsimp only
  rw [if_neg hcrypto', hx', quiet_now, hm, if_pos hfew]

end Sys2Proof.Machine

namespace Sys2Proof.Slice0
open Sys2Proof Sys2Proof.Machine

/-- Settles O56: a crossing that times out cuts what it carried; the supply and the loops act by one branch each. -/
theorem tileCommandsComplete : Obligations.TileCommandsComplete := by
  refine ⟨?_, ?_, ?_, ?_, ?_, ?_, ?_, ?_, ?_, ?_, ?_, ?_, ?_, ?_, ?_, ?_, ?_, ?_, ?_, ?_, ?_, ?_, ?_, ?_⟩
  · intro s a b items halive ha hb hab hitems
    have hexec := exec_crossingTimeout items halive ha hb hab
    rw [State.feedsCut_of_items _ hitems, State.crossed_now] at hexec
    have hchans (c : Nat) : ((quiet s).crossed a b).chan c = s.chan c := by
      unfold State.chan
      rw [State.crossed_chans]
      rfl
    refine ⟨_, hexec, State.crossed_stuck (quiet s) a b, State.crossed_timeouts (quiet s) a b, State.crossed_ms (quiet s) a b, fun c n => ?_⟩
    have hadmitted := ((quiet s).crossed a b).mapAdmitted_admitted (itemCut items s.now) c
    rw [hchans] at hadmitted
    exact (congrArg (List.find? fun x => x.seq == n) hadmitted).trans (find?_map_itemCut ..)
  · intro s a b n x halive ha hb hab hfeed
    have hcut := State.feedsCut_of_feed (s := (quiet s).crossed a b) (by rw [State.crossed_feeds]; exact hfeed)
    rw [exec_crossingTimeout [(0, n)] halive ha hb hab, hcut, itemCut_feed]
    rfl
  · intro s a b items halive h
    have hstays : (!isTile a) = true ∨ (!isTile b) = true ∨ a = b := by
      rcases h with h | h | h
      · exact .inl (by rw [isTile_of_lt h]; rfl)
      · exact .inr (.inl (by rw [isTile_of_lt h]; rfl))
      · exact .inr (.inr h)
    show execCrossingTimeout a b items s = _
    unfold execCrossingTimeout
    rw [runOn_acts halive, if_pos hstays]
  · intro s a b halive hb
    show execLivenessToggleResumes a b s = _
    unfold execLivenessToggleResumes
    rw [runOn_acts halive]
    exact congrArg (fun u => Host.Outcome.next (after s u)) (if_neg hb)
  · intro s a halive
    show execLivenessToggleResumes a countTile s = _
    unfold execLivenessToggleResumes
    rw [runOn_acts halive]
    exact congrArg (fun u => Host.Outcome.next (after s u)) (if_pos rfl)
  · intro s due halive hdue hwrite hretry
    show execAvsLowerTimer s = _
    unfold execAvsLowerTimer
    rw [runOn_acts halive]
    simp only [quiet_tiles, hdue, hwrite, hretry, Option.isSome_none, Bool.false_eq_true, or_self, if_false]
    rfl
  · intro s w v halive hwrite hretry hread
    rw [exec_avsFrameComplete true v halive hwrite hretry, if_pos hread]
    rfl
  · intro s w halive hwrite hretry hread htarget
    rw [exec_avsFrameComplete true w.target halive hwrite hretry, if_neg (ne_of_eq_value hread (by decide)), Nat.mod_eq_of_lt htarget]
    exact congrArg (fun u => Host.Outcome.next (after s u)) (if_pos ⟨rfl, rfl⟩)
  · intro s w v halive hwrite hretry hread
    rw [exec_avsFrameComplete false v halive hwrite hretry, if_pos hread]
    rfl
  · intro s w v halive hwrite hretry hread hv
    rw [exec_avsFrameComplete true v halive hwrite hretry, if_neg (ne_of_eq_value hread (by decide))]
    exact congrArg (fun u => Host.Outcome.next (after s u)) (if_neg fun h => hv h.2)
  · intro s w v halive hwrite hretry hread
    rw [exec_avsFrameComplete false v halive hwrite hretry, if_neg (ne_of_eq_value hread (by decide))]
    exact congrArg (fun u => Host.Outcome.next (after s u)) (if_neg fun h => Bool.noConfusion h.1)
  · intro s g v halive h
    show execAvsFrameComplete g v s = _
    unfold execAvsFrameComplete
    rw [runOn_acts halive]
    cases hwrite : s.tiles.avs.write with
    | none => simp only [quiet_tiles, hwrite]
    | some w =>
      have hretry : s.tiles.avs.retryAt.isSome = true := h.resolve_left (by rw [hwrite]; exact Option.some_ne_none w)
      simp only [quiet_tiles, hwrite, hretry, if_true]
  · intro s w d halive hwrite hretry
    exact ⟨_, exec_avsWriteRetry halive hwrite hretry, rfl, rfl, rfl, rfl, rfl, rfl⟩
  · intro s d halive hwrite hretry hlow
    have hlow' : ((quiet s).advance d).tiles.avs.mv < ((quiet s).advance d).tiles.avs.demand := hlow
    exact (exec_avsFaultRetry halive hwrite hretry).trans (congrArg (fun u => Host.Outcome.next (after s u)) (if_pos hlow'))
  · intro s d due halive hwrite hretry hhigh hdue hpast
    have hhigh' : ¬ ((quiet s).advance d).tiles.avs.mv < ((quiet s).advance d).tiles.avs.demand := Nat.not_lt.2 hhigh
    have hlowers : (s.tiles.avs.lowerDue.any fun due => decide (due ≤ max s.now d)) = true := by
      rw [hdue]
      exact decide_eq_true hpast
    exact (exec_avsFaultRetry halive hwrite hretry).trans
      (congrArg (fun u => Host.Outcome.next (after s u)) ((if_neg hhigh').trans (if_pos hlowers)))
  · intro s d halive hwrite hretry hhigh hlater
    have hhigh' : ¬ ((quiet s).advance d).tiles.avs.mv < ((quiet s).advance d).tiles.avs.demand := Nat.not_lt.2 hhigh
    have hstays : ¬ (s.tiles.avs.lowerDue.any fun due => decide (due ≤ max s.now d)) = true := by
      cases hdue : s.tiles.avs.lowerDue with
      | none => exact Bool.false_ne_true
      | some due =>
        rw [hdue] at hlater
        simpa using hlater
    exact (exec_avsFaultRetry halive hwrite hretry).trans
      (congrArg (fun u => Host.Outcome.next (after s u)) ((if_neg hhigh').trans (if_neg hstays)))
  · intro s n v k halive hn hlow hhigh
    exact exec_loopInterval_of_below halive hn (loopTurn_of_band (s.tile n) v _ hlow hhigh) rfl
  · intro s n v k halive hn hlow hbelow
    exact exec_loopInterval_of_below halive hn (loopTurn_of_short (s.tile n) _ hlow hbelow) rfl
  · intro s n v k halive hn hhigh hcount
    exact exec_loopInterval_of_below halive hn (loopTurn_of_long (s.tile n) v _ hhigh hcount) rfl
  · intro s n v k halive hn hhigh hcount
    exact exec_loopInterval_of_below halive hn (loopTurn_of_hundredth (s.tile n) v _ hhigh hcount) rfl
  · intro s n halive hn hcrypto
    have htile : ¬ (!isTile n) = true := by simp [isTile_of_le hn]
    have hcrypto' : (!cryptoTile n) = true := by rw [hcrypto]; rfl
    show execClockStretch n s = _
    unfold execClockStretch
    rw [runOn_acts halive, if_neg htile]
    exact congrArg (fun u => Host.Outcome.next (after s u)) (if_pos hcrypto')
  · intro s n x halive hn hcrypto hx hsector hcount
    exact exec_clockStretch_of_few halive hn hcrypto hx (if_pos hsector) hcount
  · intro s n x halive hn hcrypto hx hsector
    exact exec_clockStretch_of_few halive hn hcrypto hx (if_neg hsector) (by decide)
  · intro s n halive hn
    have htile : (!isTile n) = true := by rw [isTile_of_lt hn]; rfl
    show execClockStretch n s = _
    unfold execClockStretch
    rw [runOn_acts halive, if_pos htile]

end Sys2Proof.Slice0
end
